-- ==== Sys2Proof/Word.lean ====
section
/-!
DEFINITION. The words of the Folhorn N9 and the shapes that every other file builds on: 32-bit words, bytes,
64-bit addresses and the 32 lanes of a wave (spec/02_instruction_words.md, R20, R29 to R32; 04_lane_arithmetic.md).
-/
namespace Sys2Proof

/-- A 32-bit word: a scalar register, a lane element, a predicate seen as a lane mask. -/
abbrev Word := BitVec 32
/-- A byte of memory. -/
abbrev Byte := BitVec 8
/-- A 64-bit value: a program counter, an address held in a register pair, a GTC tick. -/
abbrev DWord := BitVec 64
/-- One vector register: 32 lanes of 32 bits (R32). -/
abbrev Lanes := Vector Word 32

/-- The two halves of a 64-bit value, low half first (R29, R30). -/
def loHalf (x : DWord) : Word := x.extractLsb' 0 32
def hiHalf (x : DWord) : Word := x.extractLsb' 32 32
/-- A pair: high half, then low half. -/
def joinHalves (hi lo : Word) : DWord := hi ++ lo

/-- Is lane `l` in the mask `m`? -/
def laneIn (m : Word) (l : Nat) : Bool := m.getLsbD l

/-- The lanes of a mask in ascending order. -/
def lanesOf (m : Word) : List Nat := (List.range 32).filter (laneIn m)

/-- The mask of the lanes for which `f` holds. -/
def maskOf (f : Nat → Bool) : Word :=
  (List.range 32).foldl (fun m l => if f l then m ||| BitVec.ofNat 32 (2 ^ l) else m) 0#32

/-- Lane `l` of a register; lanes past 31 do not exist and read as 0. -/
def Lanes.lane (v : Lanes) (l : Nat) : Word := v.getD l 0#32

/-- `v` with the lanes of `m` replaced by `f` (R75: a lane outside the mask keeps its element). -/
def Lanes.write (v : Lanes) (m : Word) (f : Nat → Word) : Lanes :=
  Vector.ofFn fun l : Fin 32 => if laneIn m l.val then f l.val else v[l.val]

def Lanes.zero : Lanes := Vector.replicate 32 0#32

/-- A memory byte list, little-endian, as a number (R2). -/
def bytesToNat : List Byte → Nat
  | [] => 0
  | b :: bs => b.toNat + 256 * bytesToNat bs

/-- The `n` little-endian bytes of `x` (R2). -/
def natToBytes : Nat → Nat → List Byte
  | 0, _ => []
  | n + 1, x => BitVec.ofNat 8 x :: natToBytes n (x / 256)

end Sys2Proof
end

