-- ==== Sys2Proof/Config.lean ====
section
/-!
DEFINITION. What one module fixes and what the spec leaves open. Every constant here is opaque: it has no body, so no
proof can know a value of it and a statement holds for every value (DESIGN CHOICE, safe: notes/assumptions/2.md). Nothing here is a number of ours.
-/
namespace Sys2Proof.Config

/-- A free 32-bit value: an undefined value of the spec (R6). The first argument is the step's counter `State.free`,
the second says which value of that step it is. (DESIGN CHOICE, safe: notes/assumptions/2.md) -/
opaque freeWord : Nat → Nat → Word
/-- A free choice between outcomes the spec allows (an order, an old or a new value). (DESIGN CHOICE, safe: notes/assumptions/2.md) -/
opaque freeBit : Nat → Nat → Bool
/-- A free number: a quantity the spec does not give (a cycle estimate, R473). (DESIGN CHOICE, safe: notes/assumptions/2.md) (DESIGN CHOICE, safe: notes/assumptions/12.md) -/
opaque freeNat : Nat → Nat → Nat

/-- What the rounding of a special function gives where the model's enclosure does not decide it
(DESIGN CHOICE, safe: notes/assumptions/10.md); the argument names the function and the operand. -/
opaque undecidedSfu : Nat → Word → Word

/-- The module's serial number (PWR_ID, R456). -/
opaque serial : BitVec 64
/-- The fuse words of the module (PWR_FUSE, R456), by select number. -/
opaque fuseWord : Nat → Word
/-- The security version of the image in flash, and the lowest that the fuses let run (R365, R456). -/
opaque fwVersion : Word
opaque fuseMinVersion : Word

/-- Keyed functions of the root of trust (R350, R358, R364): a tag of data under a key, a signature, a key
derived. The spec names the functions and not their values. (DESIGN CHOICE, safe: notes/assumptions/11.md) -/
opaque keyedTag : BitVec 256 → List Byte → List Byte
opaque signature : Nat → List Byte → Vector Byte 9893
opaque cipher : BitVec 256 → Nat → List Byte → List Byte
/-- AES-256-XTS of a 64-B sector under a data key and a tweak key (R357). (DESIGN CHOICE, safe: notes/assumptions/11.md) -/
opaque xts : BitVec 256 → BitVec 256 → BitVec 128 → List Byte → List Byte
/-- AES-256-GCM (R353, R362, R366): the key stream of a key and a nonce, of so many bytes, and the tag of a key, a nonce, associated data and a
ciphertext. (DESIGN CHOICE, safe: notes/assumptions/11.md) -/
opaque gcmStream : BitVec 256 → List Byte → (n : Nat) → Vector Byte n
opaque gcmTag : BitVec 256 → List Byte → List Byte → List Byte → Vector Byte 16
/-- The key that the two ends of a link agree, of so many agreements, and the key that they agree to use after one (R362).
(DESIGN CHOICE, safe: notes/assumptions/11.md) -/
opaque linkKey : Nat → Nat → BitVec 256
opaque linkKeyAfter : BitVec 256 → BitVec 256
/-- The flits that the receiver at the other end of a link has room for, by virtual channel (R426). (DESIGN CHOICE, safe: notes/assumptions/97.md) -/
opaque linkCredits : Nat → Nat

/-- The digests that an attestation report carries: of the image in flash, and of the fuse map (R366); a KEM ciphertext to a requester's
encapsulation key, and the secret shared by it; the keys that the root of trust draws (R355); the key under which a payload of a tenant no longer keyed
is shown. -/
opaque fwDigest : BitVec 512
opaque fuseDigest : Nat
opaque kemCipher : Nat → List Byte → Nat
opaque kemSecret : Nat → List Byte → BitVec 256
opaque bootKeys : Nat → BitVec 256
opaque erasedKey : Nat → BitVec 256
/-- Does a firmware image carry Bureveand's signature; its digest and its security version (R365). (DESIGN CHOICE, safe: notes/assumptions/11.md) -/
opaque imageVerifies : List Byte → Bool
opaque imageDigest : List Byte → BitVec 512
opaque imageVersion : List Byte → Word
/-- PWR_COOLANT: a sensor's reading (R453). -/
opaque coolant : Nat → Word

/-- A device register of an agent outside the module, which no step of this model gives. -/
opaque outside : Nat → Nat → Nat

end Sys2Proof.Config
end

