-- ==== Sys2Proof/Machine/Float.lean ====
section
/-!
DEFINITION. Number formats, rounding and the order of sums (spec/03_number_formats.md, R51 to R71). Values between
operand and result are exact; each result is rounded once by `roundTo`.
-/
namespace Sys2Proof.Machine

/-! ## Formats (R52) -/

/-- A floating-point format: exponent bits, fraction bits, bias; `noInf` is E4M3, which has no infinity (R52). -/
structure Fmt where
  eBits : Nat
  mBits : Nat
  bias : Int
  noInf : Bool
  deriving DecidableEq, Repr

def Fmt.f32 : Fmt := ⟨8, 23, 127, false⟩
def Fmt.f16 : Fmt := ⟨5, 10, 15, false⟩
def Fmt.bf16 : Fmt := ⟨8, 7, 127, false⟩
def Fmt.e4m3 : Fmt := ⟨4, 3, 7, true⟩
def Fmt.e5m2 : Fmt := ⟨5, 2, 15, false⟩

def Fmt.width (f : Fmt) : Nat := 1 + f.eBits + f.mBits
/-- The reserved exponent code, all ones. -/
def Fmt.eMax (f : Fmt) : Nat := 2 ^ f.eBits - 1
/-- The bits of the largest finite magnitude (R52). -/
def Fmt.maxBits (f : Fmt) : Nat :=
  if f.noInf then f.eMax * 2 ^ f.mBits + (2 ^ f.mBits - 2) else f.eMax * 2 ^ f.mBits - 1
/-- The canonical NaN (R52, R56). -/
def Fmt.nanBits (f : Fmt) : Nat :=
  if f.noInf then 2 ^ (f.eBits + f.mBits) - 1 else f.eMax * 2 ^ f.mBits + 2 ^ (f.mBits - 1)
def Fmt.infBits (f : Fmt) : Nat := f.eMax * 2 ^ f.mBits
def Fmt.signBit (f : Fmt) : Nat := 2 ^ (f.eBits + f.mBits)

/-- An exact value: NaN, an infinity, or (-1)^neg × m × 2^e; m = 0 is a signed zero. -/
inductive FVal where
  | nan
  | inf (neg : Bool)
  | fin (neg : Bool) (m : Nat) (e : Int)
  deriving DecidableEq, Repr

def FVal.zero (neg : Bool) : FVal := .fin neg 0 0
def FVal.isNan : FVal → Bool
  | .nan => true
  | _ => false
def FVal.isInf : FVal → Bool
  | .inf _ => true
  | _ => false
def FVal.isZero : FVal → Bool
  | .fin _ 0 _ => true
  | _ => false
def FVal.neg? : FVal → Bool
  | .nan => false
  | .inf n => n
  | .fin n _ _ => n
def FVal.negate : FVal → FVal
  | .nan => .nan
  | .inf n => .inf (!n)
  | .fin n m e => .fin (!n) m e
def FVal.ofNat (n : Nat) : FVal := .fin false n 0
def FVal.ofInt (z : Int) : FVal := .fin (decide (z < 0)) z.natAbs 0
/-- Multiplication by 2^k is exact (R53). -/
def FVal.scale (x : FVal) (k : Int) : FVal :=
  match x with
  | .fin n m e => if m = 0 then .fin n 0 0 else .fin n m (e + k)
  | y => y

/-- The value that an encoding stands for (R52). -/
def Fmt.decode (f : Fmt) (bits : Nat) : FVal :=
  let x := bits % 2 ^ f.width
  let neg := decide (x / f.signBit = 1)
  let e := x / 2 ^ f.mBits % 2 ^ f.eBits
  let frac := x % 2 ^ f.mBits
  if f.noInf && x % f.signBit = f.nanBits then .nan
  else if !f.noInf && e = f.eMax then (if frac = 0 then .inf neg else .nan)
  else if e = 0 then
    (if frac = 0 then .fin neg 0 0 else .fin neg frac (1 - f.bias - f.mBits))
  else .fin neg (2 ^ f.mBits + frac) ((e : Int) - f.bias - f.mBits)

/-! ## Flags (R64) -/

/-- The sticky flags as SYS_FPFLAGS places them: IV bit 0, DZ bit 1, OF bit 2, UF bit 3, NX bit 4. -/
abbrev Flags := Word
def flagIV : Flags := 1#32
def flagDZ : Flags := 2#32
def flagOF : Flags := 4#32
def flagUF : Flags := 8#32
def flagNX : Flags := 16#32
def flagIf (b : Bool) (f : Flags) : Flags := if b then f else 0#32

/-! ## Rounding (R59, R60) -/

/-- The rounding codes of R59. -/
inductive Rm where
  | rne | rtz | rup | rdn | sr
  deriving DecidableEq, Repr

/-- The rounding code of a field; codes 5 to 7 never reach here (R38, R63). -/
def Rm.ofCode (c : Nat) : Rm :=
  match c with
  | 0 => .rne
  | 1 => .rtz
  | 2 => .rup
  | 3 => .rdn
  | _ => .sr

/-- floor(log2 (n / d)) for positive n and d. -/
def ratLog2 (n d : Nat) : Int :=
  let k : Int := (n.log2 : Int) - d.log2
  -- n/d lies in (2^(k-1), 2^(k+1))
  let ge := if k ≥ 0 then decide (n ≥ d * 2 ^ k.toNat) else decide (n * 2 ^ (-k).toNat ≥ d)
  if ge then k else k - 1

/-- n / d scaled by 2^(-g), as a fraction: n/d = (p/q) × 2^g. -/
def ratScale (n d : Nat) (g : Int) : Nat × Nat :=
  if g ≥ 0 then (n, d * 2 ^ g.toNat) else (n * 2 ^ (-g).toNat, d)

/-- The grid on which |x| = n/d is rounded: its spacing is 2^g (R60 step 2). -/
def gridExp (f : Fmt) (n d : Nat) : Int :=
  max (ratLog2 n d - f.mBits) (1 - f.bias - f.mBits)

/-- What R62 calls D(x), for |x| = n/d on the grid 2^g; 0 for an exact value. -/
def srFraction (n d : Nat) (g : Int) : Nat :=
  let (p, q) := ratScale n d g
  2 ^ 16 * (p % q) / q

/-- The result of a rounding: the encoding and the flags raised (R60, R64). -/
structure Rounded where
  bits : Nat
  flags : Flags
  deriving DecidableEq, Repr

/-- May the magnitude round up? `half` compares the remainder with one half; `odd` is the low fraction bit;
`r` is the hash value of R62 and `dx` is D(x). -/
def roundsUp (m : Rm) (neg : Bool) (rem2 q : Nat) (odd : Bool) (r dx : Nat) : Bool :=
  if rem2 = 0 then false else
  match m with
  | .rne => decide (rem2 > q) || (decide (rem2 = q) && odd)
  | .rtz => false
  | .rup => !neg
  | .rdn => neg
  | .sr => decide (r < dx)

/-- The encoding of k × 2^g in format f; k may have reached 2^(mBits + 1) by a carry. -/
def encodeGrid (f : Fmt) (k : Nat) (g : Int) : Nat :=
  if k < 2 ^ f.mBits then k
  else ((g + f.mBits + f.bias - 1).toNat) * 2 ^ f.mBits + k

/-- The overflow result of R60's table. -/
def overflowBits (f : Fmt) (m : Rm) (neg : Bool) : Nat :=
  if f.noInf then f.maxBits else
  match m with
  | .rne | .sr => f.infBits
  | .rtz => f.maxBits
  | .rup => if neg then f.maxBits else f.infBits
  | .rdn => if neg then f.infBits else f.maxBits

/-- Does n/d exceed the largest finite magnitude of f? (R62 step 1) -/
def exceedsMax (f : Fmt) (n d : Nat) : Bool :=
  match f.decode f.maxBits with
  | .fin _ mm me => if me ≥ 0 then decide (n > mm * 2 ^ me.toNat * d) else decide (n * 2 ^ (-me).toNat > mm * d)
  | _ => false

/-- Round the exact magnitude n/d (n, d > 0) with sign `neg` (R60). `r` is the hash of R62, read under SR only. In a format without infinities any
magnitude beyond the largest finite one saturates with OF and NX (R104), in FCVTSC too. (DEDUCED, unsafe: notes/assumptions/51.md) -/
def roundRat (f : Fmt) (m : Rm) (neg : Bool) (n d r : Nat) : Rounded :=
  let g := gridExp f n d
  let (p, q) := ratScale n d g
  let lo := p / q
  let rem := p % q
  let m' := match m with
    | .sr => if exceedsMax f n d then Rm.rne else Rm.sr
    | x => x
  let up := roundsUp m' neg (2 * rem) q (lo % 2 = 1) r (2 ^ 16 * rem / q)
  let b := encodeGrid f (if up then lo + 1 else lo) g
  let s := if neg then f.signBit else 0
  if b > f.maxBits || (f.noInf && exceedsMax f n d) then ⟨s + overflowBits f m' neg, flagOF ||| flagNX⟩
  else ⟨s + b, flagIf (rem ≠ 0) flagNX ||| flagIf (rem ≠ 0 && decide (b < 2 ^ f.mBits)) flagUF⟩

/-- A value as a fraction of naturals. -/
def dyadicRat (m : Nat) (e : Int) : Nat × Nat :=
  if e ≥ 0 then (m * 2 ^ e.toNat, 1) else (m, 2 ^ (-e).toNat)

/-- Round an exact value (R60): `Round(x, F, m)`. An infinite value in a format without infinities gives the
largest magnitude, with OF and NX (R60, R104). -/
def roundTo (f : Fmt) (m : Rm) (x : FVal) (r : Nat) : Rounded :=
  match x with
  | .nan => ⟨f.nanBits, 0#32⟩
  | .inf neg =>
    let s := if neg then f.signBit else 0
    if f.noInf then ⟨s + f.maxBits, flagOF ||| flagNX⟩ else ⟨s + f.infBits, 0#32⟩
  | .fin neg mm e =>
    if mm = 0 then ⟨if neg then f.signBit else 0, 0#32⟩
    else
      let (n, d) := dyadicRat mm e
      roundRat f m neg n d r

/-- D(x) of R62 for rounding `x` to `f`; 0 in the cases of step 1. -/
def srD (f : Fmt) (x : FVal) : Nat :=
  match x with
  | .fin _ mm e =>
    if mm = 0 then 0 else
      let (n, d) := dyadicRat mm e
      if exceedsMax f n d then 0 else srFraction n d (gridExp f n d)
  | _ => 0

/-- The hash of R62, from the neighbours' D values and the lane number. -/
def srHash (a b lane : Nat) : Nat :=
  let h := (a * 0x6F4D + b * 0x3C2B + (lane + 1) * 0x9E37) % 2 ^ 16
  let h := h ^^^ (h / 2 ^ 7)
  let h := (h * 0xB5A3) % 2 ^ 16
  h ^^^ (h / 2 ^ 8)

/-! ## Rounding to an integer (R61) -/

/-- D(x) for `RoundInt`, whose grid spacing is 1; 0 for a value outside the range (R62). The value is n / d with its sign. -/
def srDInt (x : FVal) (outside : Bool → Nat → Nat → Bool) : Nat :=
  match x with
  | .fin neg mm e =>
    let (n, d) := dyadicRat mm e
    if outside neg n d then 0 else 2 ^ 16 * (n % d) / d
  | _ => 0

/-- |x| rounded to an integer, with its exactness. -/
def roundIntMag (m : Rm) (neg : Bool) (n d r : Nat) : Nat × Bool :=
  let lo := n / d
  let rem := n % d
  let up := roundsUp m neg (2 * rem) d (lo % 2 = 1) r (2 ^ 16 * rem / d)
  (if up then lo + 1 else lo, decide (rem ≠ 0))

/-- Does the exact value n/d, with sign, lie outside [lo, hi]? (R62 step 1) -/
def outsideRange (lo hi : Int) (neg : Bool) (n d : Nat) : Bool :=
  let v : Int := if neg then -(n : Int) else n
  decide (v < lo * d) || decide (v > hi * d)

/-- `RoundInt(x, 32, signed, m)` (R61): the 32-bit result and the flags. -/
def roundInt32 (signed : Bool) (m : Rm) (x : FVal) (r : Nat) : Rounded :=
  let lo : Int := if signed then -(2 ^ 31) else 0
  let hi : Int := if signed then 2 ^ 31 - 1 else 2 ^ 32 - 1
  let enc (z : Int) : Nat := (z % (2 ^ 32)).toNat
  match x with
  | .nan => ⟨0, flagIV⟩
  | .inf neg => ⟨enc (if neg then lo else hi), flagIV⟩
  | .fin neg mm e =>
    let (n, d) := dyadicRat mm e
    let m' := match m with
      | .sr => if outsideRange lo hi neg n d then Rm.rne else Rm.sr
      | y => y
    let (k, inexact) := roundIntMag m' neg n d r
    let z : Int := if neg then -(k : Int) else k
    if z < lo then ⟨enc lo, flagIV⟩
    else if z > hi then ⟨enc hi, flagIV⟩
    else ⟨enc z, flagIf inexact flagNX⟩

/-- FRND (R110): the integral value kept in FP32; an integral result keeps the sign of a. -/
def roundIntegral (m : Rm) (bits : Nat) (r : Nat) : Rounded :=
  match Fmt.f32.decode bits with
  | .nan => ⟨Fmt.f32.nanBits, 0#32⟩
  | .inf _ => ⟨bits, 0#32⟩
  | .fin neg mm e =>
    if mm = 0 then ⟨bits, 0#32⟩ else
      let (n, d) := dyadicRat mm e
      let (k, inexact) := roundIntMag m neg n d r
      let res := roundTo Fmt.f32 .rne (.fin neg k 0) 0
      ⟨res.bits, flagIf inexact flagNX⟩

/-! ## Exact arithmetic (R58, R70) -/

/-- An exact result, with the flags raised before rounding. -/
structure Exact where
  val : FVal
  flags : Flags
  deriving DecidableEq, Repr

/-- Exact product (R58, R64): 0 × ∞ is NaN with IV; a NaN operand gives NaN and raises nothing. -/
def fMul (x y : FVal) : Exact :=
  match x, y with
  | .nan, _ => ⟨.nan, 0#32⟩
  | _, .nan => ⟨.nan, 0#32⟩
  | .inf a, .inf b => ⟨.inf (a != b), 0#32⟩
  | .inf a, .fin b m _ => if m = 0 then ⟨.nan, flagIV⟩ else ⟨.inf (a != b), 0#32⟩
  | .fin a m _, .inf b => if m = 0 then ⟨.nan, flagIV⟩ else ⟨.inf (a != b), 0#32⟩
  | .fin a m e, .fin b m' e' =>
    if m * m' = 0 then ⟨.fin (a != b) 0 0, 0#32⟩ else ⟨.fin (a != b) (m * m') (e + e'), 0#32⟩

/-- The sum of two finite exact values as a signed mantissa and an exponent. -/
def dyAdd (x y : Int × Int) : Int × Int :=
  let e := min x.2 y.2
  (x.1 * 2 ^ (x.2 - e).toNat + y.1 * 2 ^ (y.2 - e).toNat, e)

/-- The finite terms of a sum, added exactly. -/
def dySum : List FVal → Int × Int
  | [] => (0, 0)
  | .fin neg m e :: t => if m = 0 then dySum t else dyAdd ((if neg then -(m : Int) else (m : Int)), e) (dySum t)
  | _ :: t => dySum t

/-- The exact sum of all terms (R58, R70): opposite infinities give NaN with IV, beside a NaN term too (R108); a zero total
takes its sign by R58. (DEDUCED, unsafe: notes/assumptions/52.md) -/
def fSum (m : Rm) (ts : List FVal) : Exact :=
  if ts.any (· == .inf true) && ts.any (· == .inf false) then ⟨.nan, flagIV⟩
  else if ts.any FVal.isNan then ⟨.nan, 0#32⟩
  else if ts.any (· == .inf true) then ⟨.inf true, 0#32⟩
  else if ts.any (· == .inf false) then ⟨.inf false, 0#32⟩
  else
    let s := dySum ts
    if s.1 = 0 then
      let allZero := ts.all FVal.isZero
      if allZero && ts.all FVal.neg? && !ts.isEmpty then ⟨.zero true, 0#32⟩
      else if allZero && ts.all (fun t => !t.neg?) then ⟨.zero false, 0#32⟩
      else ⟨.zero (m == .rdn), 0#32⟩
    else ⟨.fin (decide (s.1 < 0)) s.1.natAbs s.2, 0#32⟩

def fAdd (m : Rm) (x y : FVal) : Exact := fSum m [x, y]

/-- Exact ±a × b ± d before its one rounding (R101). -/
def fFma (m : Rm) (negProd negAdd : Bool) (a b d : FVal) : Exact :=
  let p := fMul (if negProd then a.negate else a) b
  let s := fSum m [p.val, if negAdd then d.negate else d]
  ⟨s.val, p.flags ||| s.flags⟩

/-- The exact sum of products and an addend (R70, R108): NaN operands and opposite infinities as fSum gives. -/
def fDot (m : Rm) (ps : List (FVal × FVal)) (d : FVal) : Exact :=
  let xs := ps.map fun p => fMul p.1 p.2
  let s := fSum m (d :: xs.map (·.val))
  ⟨s.val, xs.foldl (fun f x => f ||| x.flags) s.flags⟩

/-- One FP32 sum rounded RNE: a node of R68, a step of R69 or of R70. -/
def addRne (f : Fmt) (x y : Nat) : Rounded :=
  let s := fAdd .rne (f.decode x) (f.decode y)
  let r := roundTo f .rne s.val 0
  ⟨r.bits, r.flags ||| s.flags⟩

/-- Order of values for comparisons; −0 equals +0; `none` when a NaN takes part (R102). -/
def fCompare (x y : FVal) : Option Ordering :=
  match x, y with
  | .nan, _ => none
  | _, .nan => none
  | .inf a, .inf b => some (if a = b then .eq else if a then .lt else .gt)
  | .inf a, _ => some (if a then .lt else .gt)
  | _, .inf b => some (if b then .gt else .lt)
  | .fin a m e, .fin b m' e' =>
    let d := (dyAdd ((if a then -(m : Int) else (m : Int)), e) ((if b then (m' : Int) else -(m' : Int)), e')).1
    some (if d < 0 then .lt else if d = 0 then .eq else .gt)

/-- minimumNumber and maximumNumber on encodings (R67): −0 is less than +0, a NaN loses to a number. -/
def fMinMax (f : Fmt) (isMax : Bool) (x y : Nat) : Nat :=
  let vx := f.decode x
  let vy := f.decode y
  if vx.isNan && vy.isNan then f.nanBits
  else if vx.isNan then y
  else if vy.isNan then x
  else
    let less := match fCompare vx vy with
      | some .lt => true
      | some .gt => false
      | _ => vx.neg? && !vy.neg?
    if less = isMax then y else x

/-! ## Square root and quotient, exact to the rounding -/

/-- floor(sqrt n), one result bit at a time; `k` bits are tried. -/
def isqrtAux (n : Nat) : Nat → Nat → Nat
  | 0, acc => acc
  | k + 1, acc =>
    let t := acc + 2 ^ k
    isqrtAux n k (if t * t ≤ n then t else acc)

def isqrt (n : Nat) : Nat := isqrtAux n (n.log2 / 2 + 1) 0

/-- The rounded square root of n/d. The root is taken to 2^-(48 + k) of its size; a remainder is kept as one half unit,
below every midpoint of the result grid, so the one rounding is exact. -/
def sqrtRat (n d : Nat) : Rounded :=
  let l := ratLog2 n d
  -- scale by an even power so that the root has at least 60 bits
  let sh : Int := 2 * ((120 - l) / 2)
  let (p, q) := if sh ≥ 0 then (n * 2 ^ sh.toNat, d) else (n, d * 2 ^ (-sh).toNat)
  let s := isqrt (p / q)
  let exact := decide (s * s * q = p)
  let mant := if exact then 2 * s else 2 * s + 1
  let e : Int := -(sh / 2) - 1
  let (a, b) := dyadicRat mant e
  roundRat Fmt.f32 .rne false a b 0

/-! ## Enclosures of the special functions (R66) -/

/-- A rational interval [lo, hi] in units of 2^-prec. -/
structure Encl where
  lo : Int
  hi : Int
  deriving DecidableEq, Repr

/-- Floor and ceiling of x × y in units of 2^-p, for non-negative x and y. -/
def fxMulLo (p x y : Nat) : Nat := x * y / 2 ^ p
def fxMulHi (p x y : Nat) : Nat := (x * y + (2 ^ p - 1)) / 2 ^ p
def ceilDiv (x y : Nat) : Nat := (x + (y - 1)) / y

/-- Lower and upper sums of atanh-like series Σ y^(2k+1)/(2k+1), `alt` for arctangent signs. For the unsigned series the
tail after the last term is below the last term, since y² ≤ 1/4. -/
def atanSeries (p : Nat) (alt : Bool) (y2lo y2hi : Nat) : Nat → Nat → Nat → Nat → Bool → Int × Int → Int × Int
  | 0, _, tlo, thi, _, acc => (acc.1 - thi - tlo, acc.2 + thi + tlo)
  | fuel + 1, k, tlo, thi, pos, acc =>
    if thi ≤ 1 then (acc.1 - 2, acc.2 + 2) else
    let lo : Int := tlo / (2 * k + 1)
    let hi : Int := ceilDiv thi (2 * k + 1)
    let acc' := if pos || !alt then (acc.1 + lo, acc.2 + hi) else (acc.1 - hi, acc.2 - lo)
    atanSeries p alt y2lo y2hi fuel (k + 1) (fxMulLo p tlo y2lo) (fxMulHi p thi y2hi) (!pos) acc'

/-- arctan (1/n) or artanh (1/n) in units of 2^-p, enclosed. -/
def atanInv (p : Nat) (alt : Bool) (n : Nat) : Encl :=
  let ylo := 2 ^ p / n
  let yhi := ceilDiv (2 ^ p) n
  let r := atanSeries p alt (fxMulLo p ylo ylo) (fxMulHi p yhi yhi) (p + 8) 0 ylo yhi true (0, 0)
  ⟨r.1, r.2⟩

/-- π by Machin's formula, 16 arctan(1/5) − 4 arctan(1/239). -/
def piEncl (p : Nat) : Encl :=
  let a := atanInv p true 5
  let b := atanInv p true 239
  ⟨16 * a.lo - 4 * b.hi, 16 * a.hi - 4 * b.lo⟩

/-- ln 2 = 2 artanh(1/3). -/
def ln2Encl (p : Nat) : Encl :=
  let a := atanInv p false 3
  ⟨2 * a.lo, 2 * a.hi⟩

/-- Σ y^k/k! for 0 ≤ y ≤ 1, enclosed; the tail is below the last term kept. -/
def expSeries (p : Nat) (y : Nat) (up : Bool) : Nat → Nat → Nat → Nat → Nat
  | 0, _, t, acc => if up then acc + 2 * t + 2 else acc
  | fuel + 1, k, t, acc =>
    if t ≤ 1 then (if up then acc + 4 else acc) else
    let t' := if up then ceilDiv (fxMulHi p t y) k else fxMulLo p t y / k
    expSeries p y up fuel (k + 1) t' (acc + t')

/-- e^y for 0 ≤ y ≤ 1 in units of 2^-p. -/
def expUnit (p : Nat) (y : Encl) : Encl :=
  ⟨(expSeries p y.lo.toNat false (p + 8) 1 (2 ^ p) (2 ^ p) : Nat), (expSeries p y.hi.toNat true (p + 8) 1 (2 ^ p) (2 ^ p) : Nat)⟩

/-- 2^f for 0 ≤ f < 1, f = n/d, in units of 2^-p. -/
def exp2Frac (p n d : Nat) : Encl :=
  let l := ln2Encl p
  let ylo := (l.lo.toNat * n) / d
  let yhi := ceilDiv (l.hi.toNat * n) d
  expUnit p ⟨(ylo : Int), (yhi : Int)⟩

/-- ln (n/d) for 1 ≤ n/d < 2: 2 artanh ((n − d)/(n + d)). -/
def lnUnit (p n d : Nat) : Encl :=
  let a := n - d
  let b := n + d
  let ylo := 2 ^ p * a / b
  let yhi := ceilDiv (2 ^ p * a) b
  let r := atanSeries p false (fxMulLo p ylo ylo) (fxMulHi p yhi yhi) (p + 8) 0 ylo yhi true (0, 0)
  ⟨2 * r.1, 2 * r.2⟩

/-- Alternating series of sine (from t = y, k = 1) or cosine (from t = 1, k = 0) for 0 ≤ y ≤ 1: terms t, then
t·y²/((k+1)(k+2)), with alternating signs. -/
def sinSeries (p : Nat) (y2lo y2hi : Nat) : Nat → Nat → Nat → Nat → Bool → Int × Int → Int × Int
  | 0, _, _, thi, _, acc => (acc.1 - thi - 2, acc.2 + thi + 2)
  | fuel + 1, k, tlo, thi, pos, acc =>
    let acc' := if pos then (acc.1 + (tlo : Int), acc.2 + (thi : Int)) else (acc.1 - (thi : Int), acc.2 - (tlo : Int))
    if thi ≤ 1 then (acc'.1 - 2, acc'.2 + 2) else
    let dlt := (k + 1) * (k + 2)
    sinSeries p y2lo y2hi fuel (k + 2) (fxMulLo p tlo y2lo / dlt) (ceilDiv (fxMulHi p thi y2hi) dlt) (!pos) acc'

def sinUnit (p : Nat) (y : Encl) : Encl :=
  let lo := y.lo.toNat
  let hi := y.hi.toNat
  let r := sinSeries p (fxMulLo p lo lo) (fxMulHi p hi hi) (p + 8) 1 lo hi true (0, 0)
  ⟨r.1, r.2⟩

def cosUnit (p : Nat) (y : Encl) : Encl :=
  let lo := y.lo.toNat
  let hi := y.hi.toNat
  let r := sinSeries p (fxMulLo p lo lo) (fxMulHi p hi hi) (p + 8) 0 (2 ^ p) (2 ^ p) true (0, 0)
  ⟨r.1, r.2⟩

/-- Round both ends of a positive enclosure; the result where they agree. The exact value is irrational, so NX is raised
whatever the ends are. `e` scales: the value lies in [lo, hi] × 2^(e − p). -/
def roundEncl (neg : Bool) (p : Nat) (e : Int) (x : Encl) : Option Rounded :=
  if x.lo ≤ 0 then none else
  let one (z : Int) : Rounded :=
    let (n, d) := dyadicRat z.toNat (e - p)
    roundRat Fmt.f32 .rne neg n d 0
  let a := one x.lo
  let b := one x.hi
  if a.bits = b.bits then
    let mag := a.bits % 2 ^ 31
    let ovf := decide (mag = Fmt.f32.infBits)
    some ⟨a.bits, flagNX ||| flagIf ovf flagOF ||| flagIf (decide (mag < 2 ^ 23)) flagUF⟩
  else none

/-- The special functions of R66 that need enclosures. -/
inductive Sfu where
  | exp2 | log2 | sin | cos | tanh
  deriving DecidableEq, Repr

def Sfu.code : Sfu → Nat
  | .exp2 => 0
  | .log2 => 1
  | .sin => 2
  | .cos => 3
  | .tanh => 4

/-- Extra precision for an operand of exponent l: 3·|l| below 1, |l| above. -/
def sfuPrec (l : Int) : Nat := 256 + (if l < 0 then 3 * (-l).toNat else l.toNat)

/-- FEXP2 of a finite non-zero value. (DESIGN CHOICE, safe: notes/assumptions/10.md) -/
def exp2Val (neg : Bool) (n d : Nat) : Option Rounded :=
  let q := n / d
  let isInt := decide (n % d = 0)
  if q ≥ 200 then
    -- 2^x overflows, or lies below half the smallest subnormal (R60)
    some (if neg then ⟨0, flagUF ||| flagNX⟩ else ⟨Fmt.f32.infBits, flagOF ||| flagNX⟩)
  else if isInt then
    let (a, b) := dyadicRat 1 (if neg then -(q : Int) else q)
    some (roundRat Fmt.f32 .rne false a b 0)
  else
    let p := sfuPrec (ratLog2 n d)
    -- x = i + f with 0 < f < 1
    let i : Int := if neg then -(q : Int) - 1 else q
    let fn := if neg then d - n % d else n % d
    roundEncl false p i (exp2Frac p fn d)

/-- FLOG2 of a finite positive value. (DESIGN CHOICE, safe: notes/assumptions/10.md) -/
def log2Val (n d : Nat) : Option Rounded :=
  let l := ratLog2 n d
  let (a, b) := ratScale n d l
  if a = b then some (roundTo Fmt.f32 .rne (FVal.ofInt l) 0)
  else
    let p := 320
    let ln := lnUnit p a b
    let l2 := ln2Encl p
    -- log2 m in units of 2^-p
    let flo : Int := ln.lo * 2 ^ p / l2.hi
    let fhi : Int := -((-(ln.hi * 2 ^ p)) / l2.lo)
    let lo := flo + l * 2 ^ p
    let hi := fhi + l * 2 ^ p
    if l ≥ 0 then roundEncl false p 0 ⟨lo, hi⟩ else roundEncl true p 0 ⟨-hi, -lo⟩

/-- FSIN and FCOS: reduce exactly by quarter turns, then the series on [0, π/4]. (DESIGN CHOICE, safe: notes/assumptions/10.md) -/
def sinCosVal (isCos neg : Bool) (n d : Nat) : Option Rounded :=
  let p := sfuPrec (ratLog2 n d)
  let pi := piEncl p
  -- |x| in units of 2^-p, enclosed
  let xlo : Int := (2 ^ p * n / d : Nat)
  let xhi : Int := (ceilDiv (2 ^ p * n) d : Nat)
  -- k = the nearest multiple of π/2
  let k : Int := (4 * xlo + pi.lo) / (2 * pi.lo)
  -- r = x − k·π/2
  let rlo := xlo - (-((-(k * pi.hi)) / 2))
  let rhi := xhi - (k * pi.lo) / 2
  let rneg := decide (rhi ≤ 0)
  if !rneg && decide (rlo < 0) then none else
  let r : Encl := if rneg then ⟨-rhi, -rlo⟩ else ⟨rlo, rhi⟩
  let quad := ((k + (if isCos then 1 else 0)) % 4).toNat
  -- sin(r + kπ/2): k mod 4 = 0 sin r, 1 cos r, 2 −sin r, 3 −cos r
  let useCos := quad = 1 || quad = 3
  let flip := quad = 2 || quad = 3
  let v := if useCos then cosUnit p r else sinUnit p r
  let sgn := (flip != (!useCos && rneg)) != (neg && !isCos)
  roundEncl sgn p 0 v

/-- FTANH of a finite non-zero value: (E − 1)/(E + 1), E = e^(2|x|) = 2^(2|x|/ln 2). -/
def tanhVal (neg : Bool) (n d : Nat) : Option Rounded :=
  if n ≥ 32 * d then
    -- 1 − 2^-90 < tanh x < 1
    roundEncl neg 100 0 ⟨2 ^ 100 - 1, 2 ^ 100⟩
  else
    let p := sfuPrec (ratLog2 n d) + 128
    let l2 := ln2Encl p
    let ylo := 2 ^ p * (2 * n) / d
    let yhi := ceilDiv (2 ^ p * (2 * n)) d
    let j := ylo / l2.hi.toNat
    let r : Encl := ⟨max 0 ((ylo : Int) - j * l2.hi), (yhi : Int) - j * l2.lo⟩
    let ex := expUnit p r
    let elo := ex.lo * 2 ^ j
    let ehi := ex.hi * 2 ^ j
    let one : Int := 2 ^ p
    let lo := (elo - one) * 2 ^ p / (elo + one)
    let hi := -((-((ehi - one) * 2 ^ p)) / (ehi + one))
    roundEncl neg p 0 ⟨lo, hi⟩

/-- A special function of R66: the special results of its table, else the correctly rounded value. -/
def sfuEval (g : Sfu) (bits : Nat) : Rounded :=
  let nan : Rounded := ⟨Fmt.f32.nanBits, 0#32⟩
  let nanIV : Rounded := ⟨Fmt.f32.nanBits, flagIV⟩
  let undecided : Rounded := ⟨(Config.undecidedSfu g.code (BitVec.ofNat 32 bits)).toNat, flagNX⟩
  match Fmt.f32.decode bits with
  | .nan => nan
  | .inf neg =>
    match g with
    | .exp2 => ⟨if neg then 0 else Fmt.f32.infBits, 0#32⟩
    | .log2 => if neg then nanIV else ⟨Fmt.f32.infBits, 0#32⟩
    | .sin => nanIV
    | .cos => nanIV
    | .tanh => ⟨(if neg then 2 ^ 31 else 0) + 0x3F800000, 0#32⟩
  | .fin neg m e =>
    if m = 0 then
      match g with
      | .exp2 => ⟨0x3F800000, 0#32⟩
      | .log2 => ⟨2 ^ 31 + Fmt.f32.infBits, flagDZ⟩
      | .sin => ⟨bits, 0#32⟩
      | .cos => ⟨0x3F800000, 0#32⟩
      | .tanh => ⟨bits, 0#32⟩
    else
      let (n, d) := dyadicRat m e
      match g with
      | .exp2 => (exp2Val neg n d).getD undecided
      | .log2 => if neg then nanIV else (log2Val n d).getD undecided
      | .sin => (sinCosVal false neg n d).getD undecided
      | .cos => (sinCosVal true neg n d).getD undecided
      | .tanh => (tanhVal neg n d).getD undecided

/-- x ÷ y, correctly rounded RNE (R66, R103). -/
def fDivEval (xb yb : Nat) : Rounded :=
  let x := Fmt.f32.decode xb
  let y := Fmt.f32.decode yb
  let s := x.neg? != y.neg?
  let sb := if s then 2 ^ 31 else 0
  match x, y with
  | .nan, _ => ⟨Fmt.f32.nanBits, 0#32⟩
  | _, .nan => ⟨Fmt.f32.nanBits, 0#32⟩
  | .inf _, .inf _ => ⟨Fmt.f32.nanBits, flagIV⟩
  | .inf _, .fin _ _ _ => ⟨sb + Fmt.f32.infBits, 0#32⟩
  | .fin _ _ _, .inf _ => ⟨sb, 0#32⟩
  | .fin _ m e, .fin _ m' e' =>
    if m' = 0 then (if m = 0 then ⟨Fmt.f32.nanBits, flagIV⟩ else ⟨sb + Fmt.f32.infBits, flagDZ⟩)
    else if m = 0 then ⟨sb, 0#32⟩
    else
      let (n, d) := dyadicRat m e
      let (n', d') := dyadicRat m' e'
      roundRat Fmt.f32 .rne s (n * d') (d * n') 0

/-- FRCP (R66): 1 ÷ a, with ±0 giving ±∞ and DZ. -/
def fRcpEval (b : Nat) : Rounded := fDivEval 0x3F800000 b

/-- FSQRT (R66). -/
def fSqrtEval (b : Nat) : Rounded :=
  match Fmt.f32.decode b with
  | .nan => ⟨Fmt.f32.nanBits, 0#32⟩
  | .inf neg => if neg then ⟨Fmt.f32.nanBits, flagIV⟩ else ⟨Fmt.f32.infBits, 0#32⟩
  | .fin neg m e =>
    if m = 0 then ⟨b, 0#32⟩ else if neg then ⟨Fmt.f32.nanBits, flagIV⟩
    else
      let (n, d) := dyadicRat m e
      sqrtRat n d

/-- FRSQ (R66). -/
def fRsqEval (b : Nat) : Rounded :=
  match Fmt.f32.decode b with
  | .nan => ⟨Fmt.f32.nanBits, 0#32⟩
  | .inf neg => if neg then ⟨Fmt.f32.nanBits, flagIV⟩ else ⟨0, 0#32⟩
  | .fin neg m e =>
    if m = 0 then ⟨(if neg then 2 ^ 31 else 0) + Fmt.f32.infBits, flagDZ⟩
    else if neg then ⟨Fmt.f32.nanBits, flagIV⟩
    else
      let (n, d) := dyadicRat m e
      sqrtRat d n

/-! ## FSCALE and FCLASS (R109, R112) -/

def fScaleB (m : Rm) (a : Nat) (b : Int) : FVal × Rm := ((Fmt.f32.decode a).scale b, m)

def fGetExp (a : Nat) : Rounded :=
  match Fmt.f32.decode a with
  | .nan => ⟨Fmt.f32.nanBits, 0#32⟩
  | .inf _ => ⟨Fmt.f32.infBits, 0#32⟩
  | .fin _ m e =>
    if m = 0 then ⟨2 ^ 31 + Fmt.f32.infBits, flagDZ⟩
    else roundTo Fmt.f32 .rne (FVal.ofInt ((m.log2 : Int) + e)) 0

def fGetMant (a : Nat) : Rounded :=
  match Fmt.f32.decode a with
  | .nan => ⟨Fmt.f32.nanBits, 0#32⟩
  | .inf _ => ⟨Fmt.f32.nanBits, flagIV⟩
  | .fin neg m _ =>
    if m = 0 then ⟨a, 0#32⟩ else roundTo Fmt.f32 .rne (.fin neg m (-(m.log2 : Int))) 0

/-- The one-hot class of R109. -/
def fClass (a : Nat) : Nat :=
  match Fmt.f32.decode a with
  | .nan => 2 ^ 8
  | .inf neg => if neg then 1 else 2 ^ 7
  | .fin neg m _ =>
    let sub := decide (a / 2 ^ 23 % 256 = 0)
    if m = 0 then (if neg then 2 ^ 3 else 2 ^ 4)
    else if sub then (if neg then 2 ^ 2 else 2 ^ 5)
    else (if neg then 2 ^ 1 else 2 ^ 6)

end Sys2Proof.Machine
end

