-- ==== Sys2Proof/Machine/Table.lean ====
section
/-!
DEFINITION. Sparse tables as plain data: a list of (key, value) pairs with strictly rising keys. Every structure of
the machine that holds some of many like things (waves, transactions, pages, entries of a store) is such a table.
-/
namespace Sys2Proof.Machine

/-- A table: (key, value) pairs, keys strictly rising. -/
abbrev Tab (α : Type) := List (Nat × α)

/-- The value at `k`, if the table lists one. -/
def tabGet? {α : Type} : Tab α → Nat → Option α
  | [], _ => none
  | (k', v) :: t, k => if k = k' then some v else if k < k' then none else tabGet? t k

/-- The table with `v` at `k`. -/
def tabPut {α : Type} : Tab α → Nat → α → Tab α
  | [], k, v => [(k, v)]
  | (k', v') :: t, k, v =>
    if k = k' then (k, v) :: t
    else if k < k' then (k, v) :: (k', v') :: t
    else (k', v') :: tabPut t k v

/-- The table without an entry at `k`. -/
def tabErase {α : Type} : Tab α → Nat → Tab α
  | [], _ => []
  | (k', v') :: t, k =>
    if k = k' then t else if k < k' then (k', v') :: t else (k', v') :: tabErase t k

/-- The value at `k`, or `d`. -/
def tabGetD {α : Type} (t : Tab α) (k : Nat) (d : α) : α := (tabGet? t k).getD d

/-- The entry at `k` changed by `f`, where there is one. -/
def tabUpd {α : Type} (t : Tab α) (k : Nat) (f : α → α) : Tab α :=
  match tabGet? t k with
  | some v => tabPut t k (f v)
  | none => t

/-- The values, in rising key order. -/
def tabVals {α : Type} (t : Tab α) : List α := t.map Prod.snd

/-- Keys strictly rise: the canonical form of a table. -/
def tabSorted {α : Type} : Tab α → Bool
  | [] => true
  | [_] => true
  | (k, _) :: (k', v') :: t => decide (k < k') && tabSorted ((k', v') :: t)

end Sys2Proof.Machine
end

