-- ==== Sys2Proof/Packets.lean ====
section
/-!
DEFINITION. What reaches a module from outside it: packets and flits of the Volrida fabric (spec/19_fabric_links.md, R427, R428), and the
messages of other modules and hosts. The steps that bring them carry them as arguments.
-/
namespace Sys2Proof

/-- OP of a packet header (R428). -/
inductive PktOp where
  | read | write | atom | red | callo | reply | busy | coll | avctl | probe
  deriving DecidableEq, Repr

/-- A Volrida packet: its header and its data (R428). -/
structure Packet where
  dst : Nat
  srcDev : Nat
  src : Nat
  xtag : Nat
  op : PktOp
  scope : Nat
  release : Bool
  retry : Bool
  unlocked : Bool
  tenant : Nat
  minor : Nat
  len : Nat
  addr : Nat
  causal : DWord
  sent : DWord
  opnd : DWord
  data : List Byte
  deriving DecidableEq, Repr

/-- TYPE of a flit (R427). -/
inductive FlitType where
  | idle | header | data | control | attest
  deriving DecidableEq, Repr

/-- The fields of a flit (R427) but its CRC, which the other bytes give: `payload` as it stands on the link, `tag` the first 4 bytes of its GCM tag. -/
structure Flit where
  seq : Nat
  keySlot : Nat
  kind : FlitType
  ackSeq : Nat
  ackValid : Bool
  nak : Bool
  vc : Nat
  last : Bool
  /-- CREDIT: the virtual channel, the flits credited -/
  creditVc : Nat
  credits : Nat
  payload : List Byte
  tag : Nat
  deriving DecidableEq, Repr

/-- A key that an IDE_KM message sets (R363): the attested session that carries it, the stream's kind and number, the key. -/
structure IdeKey where
  session : Nat
  kind : Nat
  num : Nat
  key : BitVec 256
  deriving DecidableEq, Repr

end Sys2Proof
end

