-- ==== Sys2Proof/Syntax.lean ====
section
/-!
DEFINITION. The steps of the part (spec/opcode_table.json): one constructor for each row. The fields of an encoded
instruction are its bits as R21 to R23 lay them out; a step without a word carries what tells one such step from another.
-/
namespace Sys2Proof

/-- Every step of the N9: the instruction words of R36, the clause header of R24, and the steps that have no word. -/
inductive Instr where
  /-- R40. -/
  | nop
  /-- R285. -/
  | yield
  /-- R321. -/
  | exit
  /-- R420. -/
  | tret
  /-- R283. -/
  | roleL
  /-- R283. -/
  | roleS
  /-- R326. -/
  | flusha
  /-- R258. -/
  | br (c : BitVec 5) (o : BitVec 20)
  /-- R259. -/
  | call (o : BitVec 20)
  /-- R260. -/
  | jmpi (a : BitVec 7)
  /-- R260. -/
  | calli (a : BitVec 7)
  /-- R260. -/
  | ret
  /-- R266. -/
  | jtab (d a b : BitVec 7) (t : BitVec 3)
  /-- R263. -/
  | fork (d : BitVec 7) (t : BitVec 3) (i : BitVec 11)
  /-- R264. -/
  | join (t : BitVec 3)
  /-- R261. -/
  | mpush (a : BitVec 7)
  /-- R261. -/
  | melse
  /-- R261. -/
  | mpop
  /-- R261. -/
  | mset (a : BitVec 7)
  /-- R261. -/
  | mget (d : BitVec 7)
  /-- R419. -/
  | trap (n : BitVec 7)
  /-- R289. -/
  | waita (c : BitVec 4) (t : BitVec 6)
  /-- R287. -/
  | waitf (f : BitVec 12)
  /-- R306. -/
  | sleep (a : BitVec 7)
  /-- R421. -/
  | mfsr (d : BitVec 7) (n : BitVec 11)
  /-- R421. -/
  | mtsr (a : BitVec 7) (n : BitVec 11)
  /-- R384. -/
  | evt (a b : BitVec 7)
  /-- R385. -/
  | causeSet (a : BitVec 7)
  /-- R385. -/
  | causeGet (d : BitVec 7)
  /-- R386. -/
  | trcOn (a : BitVec 7)
  /-- R386. -/
  | trcOff
  /-- R80. -/
  | sadd (d a b : BitVec 7)
  /-- R80. -/
  | ssub (d a b : BitVec 7)
  /-- R80. -/
  | sand (d a b : BitVec 7)
  /-- R80. -/
  | sor (d a b : BitVec 7)
  /-- R80. -/
  | sxor (d a b : BitVec 7)
  /-- R80. -/
  | sshl (d a b : BitVec 7)
  /-- R80. -/
  | sshr (d a b : BitVec 7)
  /-- R80. -/
  | ssar (d a b : BitVec 7)
  /-- R80. -/
  | smin (d a b : BitVec 7)
  /-- R80. -/
  | smax (d a b : BitVec 7)
  /-- R80. -/
  | sminn (d a b : BitVec 7)
  /-- R80. -/
  | smaxn (d a b : BitVec 7)
  /-- R80. -/
  | smul (d a b : BitVec 7)
  /-- R80. -/
  | smulh (d a b : BitVec 7)
  /-- R80. -/
  | smulhn (d a b : BitVec 7)
  /-- R80. -/
  | sandn (d a b : BitVec 7)
  /-- R81. -/
  | saddi (d a : BitVec 7) (i : BitVec 11)
  /-- R81. -/
  | sandi (d a : BitVec 7) (i : BitVec 11)
  /-- R81. -/
  | sori (d a : BitVec 7) (i : BitVec 11)
  /-- R81. -/
  | sxori (d a : BitVec 7) (i : BitVec 11)
  /-- R81. -/
  | sshlImm (d a : BitVec 7) (n : BitVec 5)
  /-- R81. -/
  | sshrImm (d a : BitVec 7) (n : BitVec 5)
  /-- R81. -/
  | ssarImm (d a : BitVec 7) (n : BitVec 5)
  /-- R81. -/
  | srot (d a : BitVec 7) (n : BitVec 5)
  /-- R82. -/
  | smovi (d : BitVec 7) (i : BitVec 18)
  /-- R82. -/
  | smovhi (d : BitVec 7) (i : BitVec 18)
  /-- R83. -/
  | scmp (a b : BitVec 7)
  /-- R83. -/
  | scmpN (a b : BitVec 7)
  /-- R83. -/
  | scmpi (a : BitVec 7) (i : BitVec 11)
  /-- R83. -/
  | scmpiN (a : BitVec 7) (i : BitVec 11)
  /-- R85. -/
  | saddp (d a b : BitVec 7) (p : BitVec 1) (s : BitVec 2)
  /-- R86. -/
  | ssel (d a b : BitVec 7) (c : BitVec 4)
  /-- R87. -/
  | smov (d a : BitVec 7)
  /-- R87. -/
  | snot (d a : BitVec 7)
  /-- R87. -/
  | sneg (d a : BitVec 7)
  /-- R87. -/
  | sclz (d a : BitVec 7)
  /-- R87. -/
  | spopc (d a : BitVec 7)
  /-- R87. -/
  | sbrev (d a : BitVec 7)
  /-- R87. -/
  | ssext8 (d a : BitVec 7)
  /-- R87. -/
  | ssext16 (d a : BitVec 7)
  /-- R88. -/
  | sdivi (d a b : BitVec 7)
  /-- R88. -/
  | sdivn (d a b : BitVec 7)
  /-- R88. -/
  | sremi (d a b : BitVec 7)
  /-- R88. -/
  | sremn (d a b : BitVec 7)
  /-- R290. -/
  | qpush (a : BitVec 7)
  /-- R290. -/
  | qpop (d : BitVec 7)
  /-- R290. -/
  | qpeek (d : BitVec 7)
  /-- R290. -/
  | qlen (d : BitVec 7)
  /-- R294. -/
  | vacqB (a : BitVec 7)
  /-- R294. -/
  | vacqT (d a : BitVec 7)
  /-- R295. -/
  | vrel (a : BitVec 7)
  /-- R296. -/
  | vwin (a : BitVec 7)
  /-- R294: The register pool grants a waiting VACQ.B request when enough blocks are free. -/
  | vregGrant (core : Nat)
  /-- R89. -/
  | vadd (d a b : BitVec 7)
  /-- R89. -/
  | vsub (d a b : BitVec 7)
  /-- R89. -/
  | vand (d a b : BitVec 7)
  /-- R89. -/
  | vor (d a b : BitVec 7)
  /-- R89. -/
  | vxor (d a b : BitVec 7)
  /-- R89. -/
  | vshl (d a b : BitVec 7)
  /-- R89. -/
  | vshr (d a b : BitVec 7)
  /-- R89. -/
  | vsar (d a b : BitVec 7)
  /-- R89. -/
  | vmin (d a b : BitVec 7)
  /-- R89. -/
  | vmax (d a b : BitVec 7)
  /-- R89. -/
  | vminn (d a b : BitVec 7)
  /-- R89. -/
  | vmaxn (d a b : BitVec 7)
  /-- R89. -/
  | vmul (d a b : BitVec 7)
  /-- R89. -/
  | vmulh (d a b : BitVec 7)
  /-- R89. -/
  | vmulhn (d a b : BitVec 7)
  /-- R89. -/
  | vandn (d a b : BitVec 7)
  /-- R89. -/
  | vaddS (d a b : BitVec 7)
  /-- R89. -/
  | vsubS (d a b : BitVec 7)
  /-- R89. -/
  | vandS (d a b : BitVec 7)
  /-- R89. -/
  | vorS (d a b : BitVec 7)
  /-- R89. -/
  | vxorS (d a b : BitVec 7)
  /-- R89. -/
  | vshlS (d a b : BitVec 7)
  /-- R89. -/
  | vshrS (d a b : BitVec 7)
  /-- R89. -/
  | vsarS (d a b : BitVec 7)
  /-- R89. -/
  | vminS (d a b : BitVec 7)
  /-- R89. -/
  | vmaxS (d a b : BitVec 7)
  /-- R89. -/
  | vminnS (d a b : BitVec 7)
  /-- R89. -/
  | vmaxnS (d a b : BitVec 7)
  /-- R89. -/
  | vmulS (d a b : BitVec 7)
  /-- R89. -/
  | vmulhS (d a b : BitVec 7)
  /-- R89. -/
  | vmulhnS (d a b : BitVec 7)
  /-- R89. -/
  | vandnS (d a b : BitVec 7)
  /-- R90. -/
  | vaddi (d a : BitVec 7) (i : BitVec 11)
  /-- R90. -/
  | vandi (d a : BitVec 7) (i : BitVec 11)
  /-- R90. -/
  | vori (d a : BitVec 7) (i : BitVec 11)
  /-- R90. -/
  | vxori (d a : BitVec 7) (i : BitVec 11)
  /-- R90. -/
  | vshlImm (d a : BitVec 7) (n : BitVec 5)
  /-- R90. -/
  | vshrImm (d a : BitVec 7) (n : BitVec 5)
  /-- R90. -/
  | vsarImm (d a : BitVec 7) (n : BitVec 5)
  /-- R90. -/
  | vrot (d a : BitVec 7) (n : BitVec 5)
  /-- R90. -/
  | vmovi (d : BitVec 7) (i : BitVec 18)
  /-- R91. -/
  | madloI32 (d a b : BitVec 7)
  /-- R91. -/
  | madhiI32 (d a b : BitVec 7)
  /-- R91. -/
  | madloN32 (d a b : BitVec 7)
  /-- R91. -/
  | madhiN32 (d a b : BitVec 7)
  /-- R92. -/
  | vcmpEq (d a b : BitVec 7)
  /-- R92. -/
  | vcmpNe (d a b : BitVec 7)
  /-- R92. -/
  | vcmpLt (d a b : BitVec 7)
  /-- R92. -/
  | vcmpLe (d a b : BitVec 7)
  /-- R92. -/
  | vcmpGt (d a b : BitVec 7)
  /-- R92. -/
  | vcmpGe (d a b : BitVec 7)
  /-- R92. -/
  | vcmpLtn (d a b : BitVec 7)
  /-- R92. -/
  | vcmpLen (d a b : BitVec 7)
  /-- R92. -/
  | vcmpGtn (d a b : BitVec 7)
  /-- R92. -/
  | vcmpGen (d a b : BitVec 7)
  /-- R92. -/
  | vcmpsEq (d a b : BitVec 7)
  /-- R92. -/
  | vcmpsNe (d a b : BitVec 7)
  /-- R92. -/
  | vcmpsLt (d a b : BitVec 7)
  /-- R92. -/
  | vcmpsLe (d a b : BitVec 7)
  /-- R92. -/
  | vcmpsGt (d a b : BitVec 7)
  /-- R92. -/
  | vcmpsGe (d a b : BitVec 7)
  /-- R92. -/
  | vcmpsLtn (d a b : BitVec 7)
  /-- R92. -/
  | vcmpsLen (d a b : BitVec 7)
  /-- R92. -/
  | vcmpsGtn (d a b : BitVec 7)
  /-- R92. -/
  | vcmpsGen (d a b : BitVec 7)
  /-- R93. -/
  | vsel (d a b : BitVec 7) (p : BitVec 4)
  /-- R94. -/
  | vmov (d a : BitVec 7)
  /-- R94. -/
  | vnot (d a : BitVec 7)
  /-- R94. -/
  | vneg (d a : BitVec 7)
  /-- R94. -/
  | vabs (d a : BitVec 7)
  /-- R94. -/
  | vclz (d a : BitVec 7)
  /-- R94. -/
  | vpopc (d a : BitVec 7)
  /-- R94. -/
  | vbrev (d a : BitVec 7)
  /-- R94. -/
  | vsext8 (d a : BitVec 7)
  /-- R94. -/
  | vsext16 (d a : BitVec 7)
  /-- R94. -/
  | vzext8 (d a : BitVec 7)
  /-- R94. -/
  | vzext16 (d a : BitVec 7)
  /-- R94. -/
  | vlane (d : BitVec 7)
  /-- R95. -/
  | vbfeN (d a b : BitVec 7)
  /-- R95. -/
  | vbfeI (d a b : BitVec 7)
  /-- R95. -/
  | vbfi (d a b : BitVec 7)
  /-- R96. -/
  | vleaN (d a b : BitVec 7) (s : BitVec 2)
  /-- R96. -/
  | vleaI (d a b : BitVec 7) (s : BitVec 2)
  /-- R97. -/
  | vrand (d a b : BitVec 7) (w : BitVec 2)
  /-- R98. -/
  | pand (d a b : BitVec 7)
  /-- R98. -/
  | por (d a b : BitVec 7)
  /-- R98. -/
  | pxor (d a b : BitVec 7)
  /-- R98. -/
  | pandn (d a b : BitVec 7)
  /-- R98. -/
  | porn (d a b : BitVec 7)
  /-- R98. -/
  | pnot (d a : BitVec 7)
  /-- R98. -/
  | pmov (d a : BitVec 7)
  /-- R98. -/
  | pset (d : BitVec 7)
  /-- R98. -/
  | pclr (d : BitVec 7)
  /-- R99. -/
  | ptov (d a : BitVec 7)
  /-- R99. -/
  | vtop (d a : BitVec 7)
  /-- R100. -/
  | fadd (d a b : BitVec 7)
  /-- R100. -/
  | fsub (d a b : BitVec 7)
  /-- R100. -/
  | fmul (d a b : BitVec 7)
  /-- R100. -/
  | fmin (d a b : BitVec 7)
  /-- R100. -/
  | fmax (d a b : BitVec 7)
  /-- R100. -/
  | fcopysign (d a b : BitVec 7)
  /-- R100. -/
  | faddS (d a b : BitVec 7)
  /-- R100. -/
  | fsubS (d a b : BitVec 7)
  /-- R100. -/
  | fmulS (d a b : BitVec 7)
  /-- R100. -/
  | fminS (d a b : BitVec 7)
  /-- R100. -/
  | fmaxS (d a b : BitVec 7)
  /-- R100. -/
  | fcopysignS (d a b : BitVec 7)
  /-- R101. -/
  | ffma (d a b : BitVec 7) (r : BitVec 2)
  /-- R101. -/
  | ffmaNeg (d a b : BitVec 7) (r : BitVec 2)
  /-- R101. -/
  | ffmaSub (d a b : BitVec 7) (r : BitVec 2)
  /-- R101. -/
  | ffmaNegsub (d a b : BitVec 7) (r : BitVec 2)
  /-- R101. -/
  | ffmas (d a b : BitVec 7) (r : BitVec 2)
  /-- R101. -/
  | ffmasNeg (d a b : BitVec 7) (r : BitVec 2)
  /-- R101. -/
  | ffmasSub (d a b : BitVec 7) (r : BitVec 2)
  /-- R101. -/
  | ffmasNegsub (d a b : BitVec 7) (r : BitVec 2)
  /-- R102. -/
  | fcmpEq (d a b : BitVec 7)
  /-- R102. -/
  | fcmpNe (d a b : BitVec 7)
  /-- R102. -/
  | fcmpLt (d a b : BitVec 7)
  /-- R102. -/
  | fcmpLe (d a b : BitVec 7)
  /-- R102. -/
  | fcmpGt (d a b : BitVec 7)
  /-- R102. -/
  | fcmpGe (d a b : BitVec 7)
  /-- R102. -/
  | fcmpUnord (d a b : BitVec 7)
  /-- R102. -/
  | fcmpOrd (d a b : BitVec 7)
  /-- R103. -/
  | frcp (d a : BitVec 7)
  /-- R103. -/
  | frsq (d a : BitVec 7)
  /-- R103. -/
  | fsqrt (d a : BitVec 7)
  /-- R103. -/
  | fexp2 (d a : BitVec 7)
  /-- R103. -/
  | flog2 (d a : BitVec 7)
  /-- R103. -/
  | fsin (d a : BitVec 7)
  /-- R103. -/
  | fcos (d a : BitVec 7)
  /-- R103. -/
  | ftanh (d a : BitVec 7)
  /-- R103. -/
  | fdiv (d a b : BitVec 7)
  /-- R104. -/
  | fcvtBf16F32 (d a : BitVec 7) (r : BitVec 3)
  /-- R104. -/
  | fcvtF16F32 (d a : BitVec 7) (r : BitVec 3)
  /-- R104. -/
  | fcvtF32Bf16 (d a : BitVec 7) (r : BitVec 3)
  /-- R104. -/
  | fcvtF32F16 (d a : BitVec 7) (r : BitVec 3)
  /-- R104. -/
  | fcvtE4m3F32 (d a : BitVec 7) (r : BitVec 3)
  /-- R104. -/
  | fcvtE5m2F32 (d a : BitVec 7) (r : BitVec 3)
  /-- R104. -/
  | fcvtF32E4m3 (d a : BitVec 7) (r : BitVec 3)
  /-- R104. -/
  | fcvtF32E5m2 (d a : BitVec 7) (r : BitVec 3)
  /-- R104. -/
  | fcvtI32F32 (d a : BitVec 7) (r : BitVec 3)
  /-- R104. -/
  | fcvtN32F32 (d a : BitVec 7) (r : BitVec 3)
  /-- R104. -/
  | fcvtF32I32 (d a : BitVec 7) (r : BitVec 3)
  /-- R104. -/
  | fcvtF32N32 (d a : BitVec 7) (r : BitVec 3)
  /-- R105. -/
  | fcvtscE4m3F32 (d a b : BitVec 7) (k : BitVec 2)
  /-- R105. -/
  | fcvtscE5m2F32 (d a b : BitVec 7) (k : BitVec 2)
  /-- R105. -/
  | fcvtscF32E4m3 (d a b : BitVec 7) (k : BitVec 2)
  /-- R105. -/
  | fcvtscF32E5m2 (d a b : BitVec 7) (k : BitVec 2)
  /-- R106. -/
  | hadd2 (d a b : BitVec 7) (f : BitVec 1)
  /-- R106. -/
  | hsub2 (d a b : BitVec 7) (f : BitVec 1)
  /-- R106. -/
  | hmul2 (d a b : BitVec 7) (f : BitVec 1)
  /-- R106. -/
  | hmin2 (d a b : BitVec 7) (f : BitVec 1)
  /-- R106. -/
  | hmax2 (d a b : BitVec 7) (f : BitVec 1)
  /-- R107. -/
  | hfma2 (d a b : BitVec 7) (f : BitVec 1)
  /-- R107. -/
  | hfma2Neg (d a b : BitVec 7) (f : BitVec 1)
  /-- R107. -/
  | hfma2Sub (d a b : BitVec 7) (f : BitVec 1)
  /-- R107. -/
  | hfma2Negsub (d a b : BitVec 7) (f : BitVec 1)
  /-- R108. -/
  | dot2Bf16 (d a b : BitVec 7)
  /-- R108. -/
  | dot2F16 (d a b : BitVec 7)
  /-- R108. -/
  | dot4E4m3 (d a b : BitVec 7)
  /-- R108. -/
  | dot4E5m2 (d a b : BitVec 7)
  /-- R108. -/
  | dot4I8 (d a b : BitVec 7)
  /-- R108. -/
  | dot4N8 (d a b : BitVec 7)
  /-- R108. -/
  | dot8Cb4 (d a b : BitVec 7)
  /-- R109. -/
  | fclass (d a : BitVec 7)
  /-- R110. -/
  | frnd (d a : BitVec 7) (r : BitVec 3)
  /-- R111. -/
  | fmovi (d : BitVec 7) (i : BitVec 18)
  /-- R112. -/
  | fscaleb (d a b : BitVec 7)
  /-- R112. -/
  | fgetexp (d a : BitVec 7)
  /-- R112. -/
  | fgetmant (d a : BitVec 7)
  /-- R275. -/
  | shflIdx (d a b : BitVec 7)
  /-- R275. -/
  | shflUp (d a b : BitVec 7)
  /-- R275. -/
  | shflDn (d a b : BitVec 7)
  /-- R275. -/
  | shflXor (d a b : BitVec 7)
  /-- R275. -/
  | shfliIdx (d a : BitVec 7) (n : BitVec 5)
  /-- R275. -/
  | shfliUp (d a : BitVec 7) (n : BitVec 5)
  /-- R275. -/
  | shfliDn (d a : BitVec 7) (n : BitVec 5)
  /-- R275. -/
  | shfliXor (d a : BitVec 7) (n : BitVec 5)
  /-- R276. -/
  | voteAny (d a : BitVec 7)
  /-- R276. -/
  | voteAll (d a : BitVec 7)
  /-- R276. -/
  | voteBallot (d a : BitVec 7)
  /-- R276. -/
  | voteUni (d a : BitVec 7)
  /-- R276. -/
  | voteElect (d : BitVec 7)
  /-- R277. -/
  | reduceAddI32 (d a : BitVec 7)
  /-- R277. -/
  | reduceAddF32 (d a : BitVec 7)
  /-- R277. -/
  | reduceMinI (d a : BitVec 7)
  /-- R277. -/
  | reduceMaxI (d a : BitVec 7)
  /-- R277. -/
  | reduceMinN (d a : BitVec 7)
  /-- R277. -/
  | reduceMaxN (d a : BitVec 7)
  /-- R277. -/
  | reduceAnd (d a : BitVec 7)
  /-- R277. -/
  | reduceOr (d a : BitVec 7)
  /-- R277. -/
  | reduceXor (d a : BitVec 7)
  /-- R277. -/
  | reduceMinF32 (d a : BitVec 7)
  /-- R277. -/
  | reduceMaxF32 (d a : BitVec 7)
  /-- R278. -/
  | scanAddI32 (d a : BitVec 7) (e : BitVec 1)
  /-- R278. -/
  | scanAddF32 (d a : BitVec 7) (e : BitVec 1)
  /-- R278. -/
  | scanMinI (d a : BitVec 7) (e : BitVec 1)
  /-- R278. -/
  | scanMaxI (d a : BitVec 7) (e : BitVec 1)
  /-- R278. -/
  | scanOr (d a : BitVec 7) (e : BitVec 1)
  /-- R279. -/
  | matchLanes (d a : BitVec 7)
  /-- R280. -/
  | rdlane (d a b : BitVec 7)
  /-- R280. -/
  | wrlane (d a b : BitVec 7)
  /-- R280. -/
  | bcast (d a b : BitVec 7)
  /-- R193. -/
  | ldvN8 (d a : BitVec 7) (k : BitVec 4) (o : BitVec 7)
  /-- R193. -/
  | ldvI8 (d a : BitVec 7) (k : BitVec 4) (o : BitVec 7)
  /-- R193. -/
  | ldvN16 (d a : BitVec 7) (k : BitVec 4) (o : BitVec 7)
  /-- R193. -/
  | ldvI16 (d a : BitVec 7) (k : BitVec 4) (o : BitVec 7)
  /-- R193. -/
  | ldv32 (d a : BitVec 7) (k : BitVec 4) (o : BitVec 7)
  /-- R193. -/
  | ldv64 (d a : BitVec 7) (k : BitVec 4) (o : BitVec 7)
  /-- R193. -/
  | ldv128 (d a : BitVec 7) (k : BitVec 4) (o : BitVec 7)
  /-- R198. -/
  | stv8 (d a : BitVec 7) (k : BitVec 4) (o : BitVec 7)
  /-- R198. -/
  | stv16 (d a : BitVec 7) (k : BitVec 4) (o : BitVec 7)
  /-- R198. -/
  | stv32 (d a : BitVec 7) (k : BitVec 4) (o : BitVec 7)
  /-- R198. -/
  | stv64 (d a : BitVec 7) (k : BitVec 4) (o : BitVec 7)
  /-- R198. -/
  | stv128 (d a : BitVec 7) (k : BitVec 4) (o : BitVec 7)
  /-- R194. -/
  | lds32 (d a : BitVec 7) (k : BitVec 4) (o : BitVec 7)
  /-- R194. -/
  | lds64 (d a : BitVec 7) (k : BitVec 4) (o : BitVec 7)
  /-- R198. -/
  | sts32 (d a : BitVec 7) (k : BitVec 4) (o : BitVec 7)
  /-- R198. -/
  | sts64 (d a : BitVec 7) (k : BitVec 4) (o : BitVec 7)
  /-- R199. -/
  | atomAddI32 (s : BitVec 2) (d a b : BitVec 7)
  /-- R199. -/
  | atomAddF32 (s : BitVec 2) (d a b : BitVec 7)
  /-- R199. -/
  | atomMinI (s : BitVec 2) (d a b : BitVec 7)
  /-- R199. -/
  | atomMaxI (s : BitVec 2) (d a b : BitVec 7)
  /-- R199. -/
  | atomMinN (s : BitVec 2) (d a b : BitVec 7)
  /-- R199. -/
  | atomMaxN (s : BitVec 2) (d a b : BitVec 7)
  /-- R199. -/
  | atomAnd (s : BitVec 2) (d a b : BitVec 7)
  /-- R199. -/
  | atomOr (s : BitVec 2) (d a b : BitVec 7)
  /-- R199. -/
  | atomXor (s : BitVec 2) (d a b : BitVec 7)
  /-- R199. -/
  | atomXchg (s : BitVec 2) (d a b : BitVec 7)
  /-- R199. -/
  | atomCas (s : BitVec 2) (d a b : BitVec 7)
  /-- R199. -/
  | atomAddI64 (s : BitVec 2) (d a b : BitVec 7)
  /-- R199. -/
  | atomIncw (s : BitVec 2) (d a b : BitVec 7)
  /-- R199. -/
  | atomAddBf16x2 (s : BitVec 2) (d a b : BitVec 7)
  /-- R202. -/
  | redAddI32 (s : BitVec 3) (a b : BitVec 7)
  /-- R202. -/
  | redAddF32 (s : BitVec 3) (a b : BitVec 7)
  /-- R202. -/
  | redMinI (s : BitVec 3) (a b : BitVec 7)
  /-- R202. -/
  | redMaxI (s : BitVec 3) (a b : BitVec 7)
  /-- R202. -/
  | redMinN (s : BitVec 3) (a b : BitVec 7)
  /-- R202. -/
  | redMaxN (s : BitVec 3) (a b : BitVec 7)
  /-- R202. -/
  | redAnd (s : BitVec 3) (a b : BitVec 7)
  /-- R202. -/
  | redOr (s : BitVec 3) (a b : BitVec 7)
  /-- R202. -/
  | redXor (s : BitVec 3) (a b : BitVec 7)
  /-- R202. -/
  | redXchg (s : BitVec 3) (a b : BitVec 7)
  /-- R202. -/
  | redCas (s : BitVec 3) (a b : BitVec 7)
  /-- R202. -/
  | redAddI64 (s : BitVec 3) (a b : BitVec 7)
  /-- R202. -/
  | redIncw (s : BitVec 3) (a b : BitVec 7)
  /-- R202. -/
  | redAddBf16x2 (s : BitVec 3) (a b : BitVec 7)
  /-- R225. -/
  | callo (d a b : BitVec 7)
  /-- R206. -/
  | fenceAcq (s : BitVec 3)
  /-- R206. -/
  | fenceRel (s : BitVec 3)
  /-- R206. -/
  | fenceAcqrel (s : BitVec 3)
  /-- R206. -/
  | fenceSc (s : BitVec 3)
  /-- R206. -/
  | fenceOpnd (s : BitVec 3)
  /-- R206. -/
  | fenceFlush (s : BitVec 3)
  /-- R206. -/
  | fenceEng (s : BitVec 3)
  /-- R208. -/
  | pft (a : BitVec 7) (h : BitVec 2) (o : BitVec 7)
  /-- R212. -/
  | copy (d a b : BitVec 7)
  /-- R212. -/
  | copyNp (d a b : BitVec 7)
  /-- R217. -/
  | gpool (d a b : BitVec 7)
  /-- R245. -/
  | coll (d a b : BitVec 7)
  /-- R301. -/
  | barInit (a b : BitVec 7)
  /-- R301. -/
  | barArrive (d a : BitVec 7)
  /-- R301. -/
  | barWait (a b : BitVec 7)
  /-- R301. -/
  | barArrwait (d a : BitVec 7)
  /-- R301. -/
  | barExpect (a b : BitVec 7)
  /-- R301. -/
  | barTrywait (d a b : BitVec 7)
  /-- R303. -/
  | barWaitp (a b : BitVec 7)
  /-- R301. -/
  | barDrop (d a : BitVec 7)
  /-- R305. -/
  | semInit (a b : BitVec 7)
  /-- R305. -/
  | semP (a : BitVec 7)
  /-- R305. -/
  | semV (a : BitVec 7)
  /-- R305. -/
  | semTryp (d a : BitVec 7)
  /-- R320. -/
  | spawn (a : BitVec 7)
  /-- R320. -/
  | jdec (d a : BitVec 7)
  /-- R219. -/
  | falloc (d a b : BitVec 7)
  /-- R220. -/
  | ffree (a : BitVec 7)
  /-- R221. -/
  | fquota (d a : BitVec 7)
  /-- R235. -/
  | creply (b : BitVec 7)
  /-- R236. -/
  | cdone
  /-- R237. -/
  | cabort (a : BitVec 7)
  /-- R133. -/
  | mloopBf16 (d a b : BitVec 7) (z q g : BitVec 1)
  /-- R133. -/
  | mloopF16 (d a b : BitVec 7) (z q g : BitVec 1)
  /-- R133. -/
  | mloopE4m3 (d a b : BitVec 7) (z s q g : BitVec 1)
  /-- R133. -/
  | mloopE5m2 (d a b : BitVec 7) (z s q g : BitVec 1)
  /-- R133. -/
  | mloopI8 (d a b : BitVec 7) (z q g : BitVec 1)
  /-- R133. -/
  | mloopCb4 (d a b : BitVec 7) (z s q g : BitVec 1)
  /-- R133. -/
  | mloopCb4bf (d a b : BitVec 7) (z s q g : BitVec 1)
  /-- R138. -/
  | mzero (d : BitVec 7)
  /-- R139. -/
  | mcb (s : BitVec 3) (a : BitVec 7)
  /-- R140. -/
  | mstat (d : BitVec 7) (w : BitVec 3) (c : BitVec 1)
  /-- R142. -/
  | mdrainStoreF32 (d a : BitVec 7) (c : BitVec 1)
  /-- R142. -/
  | mdrainStoreBf16 (d a : BitVec 7) (c : BitVec 1)
  /-- R142. -/
  | mdrainStoreE4m3 (d a : BitVec 7) (c : BitVec 1)
  /-- R142. -/
  | mdrainAddF32 (d a : BitVec 7) (c : BitVec 1)
  /-- R143. -/
  | mdrainAddOrdered (d a : BitVec 7) (c : BitVec 1)
  /-- R147. -/
  | msave (a : BitVec 7)
  /-- R148. -/
  | mrestore (a : BitVec 7)
  /-- R24. -/
  | clauseHeader (w : BitVec 12) (x y : BitVec 4) (l : BitVec 5)
  /-- R284: A stream ready for 256 cycles without issuing ranks as Aged. -/
  | streamAges (wave : Nat) (cs : Bool)
  /-- R78: A divide, special-function, reduce or scan result is written and its SETX flag may clear. -/
  | longLatencyWrite (wave id : Nat)
  /-- R195: A load or atomic lane writes its destination, and the counter drops when the last lane lands. -/
  | loadLand (id : Nat)
  /-- R197: A load lane returns a non-replayable error, ends without landing and raises a deferred trap. -/
  | loadError (id : Nat)
  /-- R417: A pending deferred trap is taken at the A-stream's next clause boundary. -/
  | deferredTrap (wave : Nat)
  /-- R204: A load, store, atomic or RED is applied at the word's home unit in arbiter order. -/
  | homeUnitRequest (id : Nat)
  /-- R160: Spill space frees, and a waiting recode write resumes. -/
  | spillFreed (mc : Nat)
  /-- R301: A BAR operation applies at the barrier word's home unit and is tested for a flip. -/
  | barrierHomeOp (op : Nat)
  /-- R302: A core receives a flip and makes the word's waiters ready. -/
  | flipWake (core key : Nat)
  /-- R305: A SEM operation applies at the semaphore's home unit, granting permits in arrival order. -/
  | semHomeOp (op : Nat)
  /-- R320: A JDEC applies at the join counter's home unit and may spawn its record. -/
  | jdecHomeOp (op : Nat)
  /-- R478: A BAR, SEM or JDEC reply reaches the waiting A-stream, which resumes, traps or waits. -/
  | homeReplyArrival (op : Nat)
  /-- R303: The GTC reaches a barrier's PROMISE before the phase passes, trapping a WAITP with PROMISE_MISSED. -/
  | promisePass (wave : Nat)
  /-- R465: A copy engine writes a new promise when its promise has passed with bytes outstanding. -/
  | promiseRevise (cmd : Nat)
  /-- R306: The GTC reaches a sleeping stream's tick and the stream becomes ready. -/
  | sleepWake (wave : Nat) (cs : Bool)
  /-- R115: The holder's queue empties, the engine state is zeroed, and the claim passes to the next waiting block. -/
  | matrixClaimPass (core : Nat)
  /-- R118: The head entry of a core's engine queue starts once every entry ahead has completed. -/
  | engineEntryStart (core : Nat)
  /-- R135: A K-step of a matrix loop is summed and rounded into the accumulator. -/
  | mloopKstepEnd (core : Nat)
  /-- R119: An engine entry completes and its SETY flag may clear. -/
  | engineEntryComplete (core : Nat)
  /-- R143: An ordered drain's ticket read returns and the drain proceeds or reads again. -/
  | drainTicketRead (core : Nat)
  /-- R213: A copy engine accepts a command, checks it and counts its bytes on the barrier. -/
  | copyAccept (cmd : Nat)
  /-- R217: A gather-pool engine accepts a command and counts its bytes. -/
  | gpoolAccept (cmd : Nat)
  /-- R214: A destination line is performed and its bytes are subtracted from the barrier word. -/
  | engineLinePerformed (cmd piece : Nat)
  /-- R247: A collective engine accepts an instance, assigns its sequence and arms its Curfew. -/
  | collAccept (cmd : Nat)
  /-- R249: Another rank's data for a matched instance reaches the collective engine. -/
  | collDataArrival (id : Nat)
  /-- R250: A destination rank acknowledges receipt of SEND bytes. -/
  | collAck (id : Nat)
  /-- R467: A rank receives the end of an instance and ends it or keeps the code. -/
  | collEndMessage (id : Nat)
  /-- R404: A rank's Curfew deadline passes for a live instance. -/
  | curfewExpiry (cmd : Nat)
  /-- R405: The first late rank's device answers the probe with an edge. -/
  | curfewProbeReply (id : Nat)
  /-- R405: A Curfew probe has no reply within 1 ms and the rank counts as unreachable. -/
  | curfewProbeTimeout (id : Nat)
  /-- R228: A CALLO instruction's requests enter the home Roundabout queue when all fit. -/
  | calloRequestArrival (op : Nat)
  /-- R229: A free reserved slot reads an object's descriptor and launches a combiner wave for a batch. -/
  | batchForm (core : Nat)
  /-- R227: A combining-object reply lands in a caller lane, and a14 drops at the last lane. -/
  | calloReplyLand (op : Nat)
  /-- R326: Every logical core has passed an epoch, and its buffered REDs and held calls are sorted and applied. -/
  | detEpochApply (task : Nat)
  /-- R311: A write of LCH_DOORBELL announces new launch records for a queue. -/
  | doorbell (v : DWord)
  /-- R314: The launcher gives a fitting core to the highest eligible record and starts its block. -/
  | blockDispatch (core : Nat)
  /-- R314: A record that has waited LIFT units rises by one level. -/
  | recordLift (id : Nat)
  /-- R314: A record passed over for WAIT units reserves the first cores on which it would fit. -/
  | reservationWait (id : Nat)
  /-- R328: A record that fits no core pre-empts a victim at once or after WAIT units. -/
  | preemptTrigger (id : Nat)
  /-- R329: The launcher stops, drains and saves a victim block and frees its core. -/
  | preemptSave (block : Nat)
  /-- R329: The launcher restores a saved block on a fitting core at the same quad position. -/
  | preemptRestore (core : Nat)
  /-- R318: A block's last wave leaves its core, and its completion bit is set. -/
  | blockLeave (block : Nat)
  /-- R320: The launcher copies a waiting record into its level's ring once room frees. -/
  | spawnRingCopy
  /-- R322: A task retires: flush, publish, free its range, write the completion word and decrement JOIN. -/
  | taskRetire (task : Nat)
  /-- R422: A task aborts: its waves stop, held accesses fail, blocks leave and it reruns or retires failed. -/
  | taskAbort (task : Nat)
  /-- R335: A page walk completes, filling the TLB or faulting. -/
  | pageWalkDone (id : Nat)
  /-- R340: A waiting fault record is written into the fault ring when room frees. -/
  | faultRecordWrite
  /-- R349: The hardware fault-service duty zero-fills a lazy page or reinstates a discarded page and replays. -/
  | faultServiceDuty (token : Nat)
  /-- R346: The hardware migration duty runs the page migration steps. -/
  | migrationDuty (tenant vpn frame : Nat)
  /-- R337: Starts an invalidation of every tenant's translations. -/
  | trnInvalAll
  /-- R337: Starts an invalidation of every page of one tenant. -/
  | trnInvalTenant (tenant : Nat)
  /-- R337: Starts an invalidation of a range of granules of one tenant. -/
  | trnInvalRange (tenant npages vpn : Nat)
  /-- R337: An invalidation completes, and TRN_INVSTAT.DONE advances. -/
  | invalidationDone
  /-- R340: A write of TRN_FPTR.HEAD frees fault-ring slots. -/
  | faultRingHead (v : Word)
  /-- R342: Replays one held entry and the entries that joined behind it. -/
  | replayToken (token : Nat)
  /-- R342: Replays every held access of a tenant on one page. -/
  | replayPage (tenant vpn : Nat)
  /-- R342: Replays every held access of a tenant. -/
  | replayTenant (tenant : Nat)
  /-- R342: Ends a held entry as a non-replayable fault with a code. -/
  | replayFail (token code : Nat)
  /-- R352: Installs a tenant's key set from an authenticated blob. -/
  | keyInstall
  /-- R354: Erases a tenant's keys and unbinds its frames. -/
  | keyRetire
  /-- R361: Verifies a destination frame and binds it under a new version. -/
  | frameBind
  /-- R361: Unbinds a frame. -/
  | frameUnbind
  /-- R352: Copies a frame's ciphertext and check fields to an unbound frame. -/
  | rawcopy
  /-- R367: Sets a tenant's Avenue quota on all eight planes. -/
  | avquotaWrite (v : DWord)
  /-- R438: Starts a snapshot epoch from a snapshot list. -/
  | snapshotStart (v : DWord)
  /-- R438: Aborts an active snapshot epoch. -/
  | snapshotAbort
  /-- R440: A first-touched page has been staged, and its held writes proceed. -/
  | snapshotStageDone (entry : Nat)
  /-- R440: An entry's copy to its destination completes and the next entry drains. -/
  | snapshotDrainDone
  /-- R243: A write of GRP_SYNC reloads a group entry into every collective engine. -/
  | groupReload (group : Nat)
  /-- R444: Sends a rebuild list to each listed device. -/
  | groupRebuild (v : DWord)
  /-- R444: A target applies a received rebuild list and acknowledges. -/
  | rebuildListArrival (dev : Nat)
  /-- R444: A device has not acknowledged a rebuild within 1 ms. -/
  | rebuildAckTimeout (dev : Nat)
  /-- R398: A write of CUR_SNAP writes every keeper's edges into a region. -/
  | waitSnapshot (v : DWord)
  /-- R402: A write of CUR_GATHER gathers edges from the listed devices. -/
  | waitGather (v : DWord)
  /-- R402: A gathered device has not answered within 1 ms and sets PARTIAL. -/
  | gatherDeviceTimeout (dev : Nat)
  /-- R406: A write of CUR_RPTR.HEAD frees Curfew report slots. -/
  | curfewRingHead (v : Word)
  /-- R410: A write of ERR_PTR.HEAD frees error-log slots. -/
  | errorLogHead (log : Nat) (v : Word)
  /-- R446: A write of EVR_HOSTPTR.HEAD frees trace-drain ring slots. -/
  | hostRingHead (v : Word)
  /-- R413: A write of INJ_CTL arms an injection at the next write of the target. -/
  | errorInjectArm (v : Word)
  /-- R410: A unit reports an error to a log, which takes a sequence number and logs or drops it. -/
  | errorReport (log chan loc : Nat) (uncorr : Bool)
  /-- R378: A source hands an event record to its die's trace hub, which accepts or drops it. -/
  | eventHandoff
  /-- R479: A channel drains hub records into the Dusk store ring. -/
  | duskDrain (ch : Nat)
  /-- R446: The hardware trace-drain duty copies Dusk records into the host ring. -/
  | traceDrainCopy
  /-- R387: A staged trace chunk is written to the ring or dropped, and WPTR advances. -/
  | traceChunkWrite (wave : Nat) (cs : Bool)
  /-- R429: A link receiver checks a flit and accepts it in sequence or NAKs. -/
  | flitReceive (link : Nat) (body : List Byte) (crc : Word) (fec : Bool)
  /-- R429: A sender receives a NAK and resends every flit after ACKSEQ. -/
  | nakReceive (link ackseq : Nat)
  /-- R430: A link lane fails, and the link trains, degrades or goes down. -/
  | laneFail (link : Nat) (lanes : Word)
  /-- R430: A link finishes retraining onto a half or 16 lanes and replays. -/
  | linkTrainDone (link : Nat)
  /-- R430: A link in TRAIN or HOLD delivers nothing for 1 ms and goes DOWN. -/
  | linkTrainTimeout (link : Nat)
  /-- R430: CMD 1 retrains a link on all 16 lanes. -/
  | linkCmd16 (link : Nat) (failed : Word)
  /-- R430: CMD 2 retrains a link on lanes 0 to 7. -/
  | linkCmdLow (link : Nat) (failed : Word)
  /-- R430: CMD 3 retrains a link on lanes 8 to 15. -/
  | linkCmdHigh (link : Nat) (failed : Word)
  /-- R362: Two mutually attested link ends agree a key and start encrypting. -/
  | linkKeyAgree (link : Nat)
  /-- R362: A link sender changes key slots after 2^32 flits or on request. -/
  | linkRekey (link : Nat)
  /-- R433: A target receives a fabric request and executes, drops or answers it by its key. -/
  | fabricRequestArrival
  /-- R432: A reply reaches the source, releases its tag or is discarded. -/
  | fabricReplyArrival
  /-- R432: 2 µs after a BUSY reply the source resends the request. -/
  | busyResend (txn : Nat)
  /-- R432: A transaction's 200 µs timer expires and the request is resent with RETRY. -/
  | e2eTimerExpiry (txn : Nat)
  /-- R433: A target drops a request key 2,000 µs after its SENT. -/
  | filterKeyExpire
  /-- R431: A valid write of FAB_PMAP starts a map-version fence. -/
  | planeMapWrite (v : DWord)
  /-- R431: Earlier transactions have ended, the new map takes effect and waiting transactions go out. -/
  | mapFenceDone
  /-- R445: A plane is declared dead, its only-homed lines are lost and the map is rewritten. -/
  | planeDead (plane : Nat)
  /-- R370: A time-discipline message adjusts the GTC rate toward the reference. -/
  | ptpMessage (src : Nat) (ahead : Bool) (ps : Nat)
  /-- R356: A host request without PASID reaches local HBM by physical address as tenant 0. -/
  | hostBar2PaRequest (port : Nat) (posted : Bool) (addr n : Nat) (data : List Byte)
  /-- R356: A host request with PASID translates through the tenant's tables. -/
  | hostBar2PasidRequest (port pasid : Nat) (posted : Bool) (va n : Nat) (data : List Byte)
  /-- R205: A PCIe AtomicOp to N9 memory executes or completes with Completer Abort. -/
  | hostAtomicop (port : Nat) (pasid : Option Nat) (addr op n a b : Nat)
  /-- R450: A host request before READY is retried, refused or discarded. -/
  | hostEarlyAccess (port kind : Nat)
  /-- R366: The root of trust answers an attestation request with a signed report and a session. -/
  | attestationRequest (nonce ekey : List Byte) (port tenant : Nat)
  /-- R363: A TLP that fails IDE checks is dropped and an event emitted. -/
  | ideTlpFail (port code : Nat)
  /-- R363: An IDE_KM message in the attested session programs IDE keys. -/
  | ideKmMessage (port : Nat) (m : IdeKey)
  /-- R447: Power is applied, everything is cleared and the boot sequence runs. -/
  | powerOn (ok : Bool)
  /-- R447: PWR_RESET CMD 1 or a hot reset on H0 stops work, erases keys and reboots. -/
  | warmReset (ok : Bool)
  /-- R447: PWR_RESET CMD 2 reloads firmware and reboots as a warm reset does. -/
  | firmwareReload (ok : Bool)
  /-- R448: A function-level reset or link-down of H0 resets only that port's function state. -/
  | flrH0
  /-- R448: A function-level reset, hot reset or link-down of H1 resets only that port's function state. -/
  | flrH1
  /-- R451: A die junction at 115 °C removes module power. -/
  | thermalTrip (temp : Nat)
  /-- R451: A die junction at 105 °C lowers that die's island ceilings until it cools. -/
  | junctionThrottle (die temp level : Nat)
  /-- R451: Over each 1 ms window island clocks are lowered to hold the power cap. -/
  | powerCapAdjust (watts level : Nat)
  /-- R454: A write of PWR_DEVNO sets the device number now or at the next warm reset. -/
  | devnoWrite (v : Word)
  /-- R458: A GO write to the recovery window starts verification of a recovery image. -/
  | recoveryGo (v : DWord)
  /-- R455: A write of a BAR0 or management register with no behaviour of its own stores the value. -/
  | registerWrite (port off size : Nat) (v : DWord)
  /-- R380: Removal of the 48 V supply stops the module and loses the Dusk store contents. -/
  | powerRemoval
  /-- R451: A throttled die junction falls below 100 °C and the die's island ceilings are no longer lowered. -/
  | throttleEnd (die temp : Nat)
  /-- R382: Each clock cycle is an occurrence of the count-only cycle kinds, which enabled event counters count and may overflow. -/
  | coreCycles (ticks : Nat)
  deriving DecidableEq, Repr

end Sys2Proof
end

