-- ==== Sys2Proof/Machine/Parts.lean ====
section
/-!
DEFINITION. The parts of the state of an N9 module, as plain data. INVENTORY.md lists every piece with the rule of spec/ that
names it. A field marked (M) is the model's own.
-/
namespace Sys2Proof.Machine

/-! ## Splits and streams (R254 to R269, R32, R34) -/

/-- A split: R254's table. Stacks hold their top first. `src` is the word that led to `pc` (R20, R27 name it in the trap frame). -/
structure Split where
  pc : DWord
  src : DWord
  base : Word
  exec : Word
  mstk : List Word
  cstk : List DWord
  deriving DecidableEq, Repr

/-- A join token (R262). -/
structure Token where
  active : Bool
  out : Word
  arrb : Word
  arre : Word
  mstk : List Word
  cstk : List DWord
  jpc : DWord
  deriving DecidableEq, Repr

def Token.idle : Token := ⟨false, 0#32, 0#32, 0#32, [], [], 0#64⟩

/-- The split table of a stream (R254): slots, pending list, tokens, the tokens whose merges wait for a slot (R476),
oldest first, and the slot served last (R269). -/
structure SplitTab where
  slots : Vector (Option Split) 4
  pend : List Split
  toks : Vector Token 8
  merges : List Nat
  last : Nat
  deriving DecidableEq, Repr

def SplitTab.empty : SplitTab := ⟨Vector.replicate 4 none, [], Vector.replicate 8 Token.idle, [], 3⟩

/-- The clause a stream is in (R24): its header's address, the split it issues from, the words that were fetched with it (R27)
and have not issued, its SETX and SETY. -/
structure Clause where
  hdr : DWord
  slot : Nat
  words : List Word
  setx : Nat
  sety : Nat
  /-- its next word is a matrix word that has trapped: its SETY flag does not count it (R119) -/
  off : Bool := false
  deriving DecidableEq, Repr

/-- What a waiting stream waits for (R308, R393). `since` is the tick at which the wait began. -/
inductive WaitFor where
  /-- The word checks its condition again when something has changed (M: the stamp of the last try). The number names
  the kind of awaited party, as R395 classes it. -/
  | poll (kind : Nat) (detail : Nat) (stamp : Nat)
  /-- A page walk (R191). -/
  | walk (walk : Nat)
  /-- The reply of a home unit (R478) or of a fabric transaction, by operation number. -/
  | reply (op : Nat)
  /-- A flip of the barrier word at this place, of this phase; `promise` is a WAITP (R302, R303). -/
  | barrier (key : Nat) (phase : Word) (promise : Bool) (addr : DWord)
  /-- A permit of the semaphore at this place (R305). -/
  | sem (key : Nat) (addr : DWord)
  /-- A GTC tick (R306). -/
  | sleep (tick : DWord)
  /-- A grant of the register pool (R294). -/
  | grant (n : Nat)
  /-- Acceptance of an engine command (R213, R217, R246). -/
  | accept (cmd : Nat)
  /-- A held fetch, or a held record read: replay (R341, R474, R477). -/
  | replay (cls entry : Nat)
  /-- the reply of a READ that a record or a fetch needs of another module -/
  | remote (txn : Nat)
  deriving DecidableEq, Repr

structure Wait where
  what : WaitFor
  since : DWord
  deriving DecidableEq, Repr

/-- Is what a word waits for at this try what it waited for at the last one: the same party, whatever its count or holder is by now (R396)? -/
def WaitFor.same (x y : WaitFor) : Bool :=
  match x, y with
  | .poll k d _, .poll l f _ => k == l && ((k != 10 && k != 15) || d == f)
  | x, y => x == y

/-- A wait as it stands after a try: SINCE stays while the wait lasts (R396). -/
def WaitFor.from_ (x : WaitFor) (old : Option Wait) (now : DWord) : Wait :=
  ⟨x, match old with
    | some y => if y.what.same x then y.since else now
    | none => now⟩

/-- Branch-and-mask trace of a stream (R386 to R392): the descriptor, the epoch, chunks produced, the open chunk's bytes, whether
it began with LOSS, whether a SYNC is due at the next clause boundary, the ticks of the last TIME or SYNC and of the last SYNC,
packets since, chunks dropped since the last written one, whether packets are discarded (R389), the slot served last. -/
structure TraceSt where
  desc : DWord
  epoch : Word
  seq : Nat
  data : List Byte
  resync : Bool
  needSync : Bool
  lastTick : DWord
  lastSync : DWord
  count : Nat
  /-- SEQ of the chunks dropped since the last written one (R390) -/
  dropped : List Nat
  discard : Bool
  lastSlot : Nat
  /-- a SYNC has been emitted since TRC.ON, so that TIME has something to count from (R391) -/
  synced : Bool
  deriving DecidableEq, Repr

/-- A closed chunk on its way to the ring, or a drop to be counted (R387, R388). -/
structure TraceChunk where
  wave : Nat
  cs : Bool
  tenant : Nat
  causal : DWord
  desc : DWord
  epoch : Word
  seq : Nat
  flags : Nat
  waveField : Nat
  data : List Byte
  drop : Bool
  /-- the stream that traces: its task, its wave's logical core and number -/
  who : Nat × Nat × Nat
  /-- (M) what has been performed of its writing: 0 nothing, 1 the chunk, 2 WPTR; of a dropped chunk 2 nothing, 3 LOST; WPTR's value and the address
  of the write under way; the fabric's transaction that it waits for, the code with which that failed; a fault has been reported (R387, R388) -/
  phase : Nat := 0
  wptr : Nat := 0
  va : Nat := 0
  out : Option Nat := none
  code : Nat := 0
  faulted : Bool := false
  deriving DecidableEq, Repr

/-- A stream (R18, R32). `stop` is R414's stop at the next clause boundary; `llHold` counts long-latency results whose
clause had SETX = 15 (R78); `readySince` counts in core cycles (R284). -/
structure Stream where
  regs : Vector Word 64
  z : Bool
  n : Bool
  c : Bool
  v : Bool
  tab : SplitTab
  clause : Option Clause
  storer : Bool
  readySince : Option DWord
  aged : Bool
  yielded : Bool
  wait : Option Wait
  gtcHi : Word
  vwin : Nat
  llHold : Nat
  launched : Word
  exited : Bool
  trace : Option TraceSt
  deriving DecidableEq, Repr

def Stream.empty : Stream :=
  { regs := Vector.replicate 64 0#32, z := false, n := false, c := false, v := false, tab := SplitTab.empty,
    clause := none, storer := false, readySince := none, aged := false, yielded := false, wait := none,
    gtcHi := 0#32, vwin := 0, llHold := 0, launched := 0#32, exited := true, trace := none }

/-! ## Waves (R17, R32, R34) -/

/-- Where a late result goes: a scalar of a stream, or a vector register of the wave by its place
16 × block + register. -/
inductive LateDest where
  | scalar (cs : Bool) (reg : Nat)
  | vec (reg : Nat)
  deriving DecidableEq, Repr

/-- A result that is written later (R78, R140): its destination is undefined until the flag that tracks it clears. `clob` are the
lanes another write has reached meanwhile. `flag` is that completion flag (15 for none); `engine` results wait for the matrix engine
(MSTAT). `done`: the result has been written and its flag is still set; of the lanes in `clob`, those in `pick` keep it. -/
structure Late where
  id : Nat
  cs : Bool
  dest : LateDest
  mask : Word
  vals : Lanes
  clob : Word
  fp : Word
  flag : Nat
  engine : Bool
  done : Bool
  pick : Word
  deriving DecidableEq, Repr

/-- A write of a shared register that the other stream may still miss (R79, R196): a vector place or a predicate, the lanes, what they held
(of a predicate in lane 0), the writing stream, the cycle, the step; `load` is the loading instruction and its counter where a landing load
wrote it, and then it lasts until the other stream's WAITA. -/
structure Recent where
  isPred : Bool
  reg : Nat
  lanes : Word
  old : Lanes
  cs : Bool
  cycle : Nat
  at_ : Nat
  load : Option (Nat × Nat)
  deriving DecidableEq, Repr

/-- One instruction counted on an arrival counter, in issue order (R288). -/
structure Arrival where
  op : Nat
  landed : Bool
  deriving DecidableEq, Repr

/-- A deferred trap (R417). (DEDUCED, unsafe: notes/assumptions/53.md) -/
structure Deferred where
  op : Nat
  code : Nat
  pc : DWord
  addr : DWord
  lanes : Word
  slot : Nat
  cs : Bool
  /-- the lowest failed lane so far: the address and the code are its own (DEDUCED, unsafe: notes/assumptions/53.md) -/
  lane : Nat := 0
  deriving DecidableEq, Repr

/-- An entry of QAC or QCA; `bad` is an uncorrectable entry (R412), `inj` an injected error that its read will find (R413): uncorrectable or not;
`at_` is the step of its QPUSH (R79). -/
structure QEntry where
  val : Word
  bad : Bool
  inj : Option Bool
  at_ : Nat
  deriving DecidableEq, Repr

/-- The trap context (R415). -/
structure TrapCtx where
  aTab : SplitTab
  cTab : SplitTab
  z : Bool
  n : Bool
  c : Bool
  v : Bool
  aClause : Option Clause
  cClause : Option Clause
  aWait : Option Wait
  /-- the A-stream had exited before the C-stream's trap: TRET does not start it again -/
  aExited : Bool := false
  deriving DecidableEq, Repr

/-- A request in a combiner batch (R228, R231). -/
structure CallReq where
  op : Nat
  /-- the caller: device, core, wave slot, lane -/
  dev : Nat
  core : Nat
  slot : Nat
  lane : Nat
  handle : DWord
  arg : Word
  blockNo : Nat
  tenant : Nat
  causal : DWord
  logical : Nat
  waveIx : Nat
  det : Bool
  /-- a held call of a deterministic task: the task and its flush epoch (R241) -/
  task : Nat
  epoch : Nat
  /-- the tick at which it entered the queue -/
  since : DWord
  bad : Bool
  deriving DecidableEq, Repr

/-- The requests of a CALLO on their way to the home queue (R228): the home, the release set (R188), whether they wait there for room. -/
structure CallSend where
  op : Nat
  dev : Nat
  home : Nat
  scope : Nat
  wave : Nat
  after : List Nat
  arrived : Bool
  reqs : List CallReq
  deriving DecidableEq, Repr

/-- A reply on its way to a caller's lane (R227, R475). -/
structure CallReply where
  op : Nat
  dev : Nat
  core : Nat
  slot : Nat
  lane : Nat
  val : Word
  status : Word
  scope : Nat
  det : Bool
  deriving DecidableEq, Repr

/-- A running batch: the state of its combiner wave (R231 to R238). -/
structure Batch where
  handle : DWord
  method : DWord
  stateVa : DWord
  ssize : Nat
  scope : Nat
  reqs : List CallReq
  replies : List Word
  /-- the commit buffer: bytes by virtual address, and its 32-B entries -/
  commit : Tab Byte
  issued : Nat
  descKey : Nat
  descTenant : Nat
  /-- the descriptor's device and address where it lies on another module (R223) -/
  descAt : Option (Nat × Nat) := none
  deriving DecidableEq, Repr

/-- A CALLO with replies outstanding (R227): its number, its object and the object's home, the places of its reply and status registers, its
lanes without a reply. -/
structure CallPend where
  op : Nat
  handle : DWord
  dev : Nat
  home : Nat
  dest : Nat
  status : Nat
  lanes : Word
  pc : DWord
  slot : Nat
  /-- a deterministic object (R241) -/
  det : Bool := false
  deriving DecidableEq, Repr

/-- A wave in a core's slot. -/
structure Wave where
  a : Stream
  c : Stream
  single : Bool
  vregs : Tab Lanes
  vpoison : Tab Word
  blocks : List Nat
  preds : Vector Word 48
  cnt : Vector (List Arrival) 16
  flags : Vector Nat 12
  qac : List QEntry
  qca : List QEntry
  fpFlags : Word
  fpMode : Word
  trapCode : Word
  trapAddr : DWord
  trapLanes : Word
  trapPc : DWord
  trapVector : DWord
  causal : DWord
  frame : DWord
  waveId : Nat
  blockX : Word
  blockY : Word
  blockZ : Word
  taskId : Word
  tenant : Nat
  /-- the live block (key in the launcher) and the task slot the wave belongs to -/
  block : Nat
  task : Nat
  logical : Nat
  /-- a block restored on another quad: its Plaza accesses go from the first quad's strides to the second's (R329) -/
  redirect : Option (Nat × Nat)
  codeLo : DWord
  codeHi : DWord
  late : List Late
  deferred : List Deferred
  /-- a trap waits for the other stream to stop (R414): the trapping stream, its slot, the kind -/
  trapping : Option (Bool × Nat × Nat)
  ctx : Option TrapCtx
  batch : Option Batch
  flushes : Nat
  /-- CALLO instructions whose replies have not all landed (R227) -/
  callo : List CallPend
  /-- writes that the other stream may still miss (R79, R196) -/
  recent : List Recent
  /-- elements that the C-stream has written while a load to them was outstanding: place and lanes (R196) -/
  crossed : List (Nat × Word)
  /-- instructions of which a lane has ended or failed: their counters keep them (R197, R343) -/
  failed : List Nat
  /-- completed FENCE.OPNDs, oldest first: the steps of their issue and of their completion; and the step of the QPUSH whose entry the C-stream
  has popped last (R124) -/
  opnds : List (Nat × Nat) := []
  popAt : Nat := 0
  ended : Bool
  /-- flags that a clause has raised from zero: the stream, the step and the cycle in which it issued, and the flags (R286) -/
  raised : Option (Bool × Nat × Nat × List Nat) := none
  /-- a stream that issues no more in a cycle, since a word of the other stream in it comes after (R385, R414, R421): the stream, the cycle -/
  pause : Option (Bool × Nat) := none
  /-- one more than the cycle in which a word of the A-stream, of the C-stream, or a late result raised flags of SYS_FPFLAGS last (R65) -/
  fpAt : Nat × Word × Word := (0, 0#32, 0#32)
  deriving DecidableEq, Repr

def Wave.empty : Wave :=
  { a := Stream.empty, c := Stream.empty, single := true, vregs := [], vpoison := [], blocks := [],
    preds := Vector.replicate 48 0#32, cnt := Vector.replicate 16 [], flags := Vector.replicate 12 0,
    qac := [], qca := [], fpFlags := 0#32, fpMode := 0#32, trapCode := 0#32, trapAddr := 0#64, trapLanes := 0#32,
    trapPc := 0#64, trapVector := 0#64, causal := 0#64, frame := 0#64, waveId := 0, blockX := 0#32, blockY := 0#32,
    blockZ := 0#32, taskId := 0#32, tenant := 0, block := 0, task := 0, logical := 0, redirect := none, codeLo := 0#64, codeHi := 0#64,
    late := [], deferred := [], trapping := none, ctx := none, batch := none, flushes := 0, callo := [], recent := [], crossed := [], failed := [], ended := false }

/-! ## Memory accesses in flight (R169 to R204) -/

/-- Where an address leads: local storage by memory key, or a fabric transaction (R149, R150). -/
inductive Place where
  /-- local: HBM, Plaza, pool or host, by key of the memory list -/
  | mem (key : Nat)
  /-- HBM of another module: device and PA -/
  | remote (dev : Nat) (pa : Nat)
  /-- the Avenue window -/
  | avenue (va : Nat)
  deriving DecidableEq, Repr

/-- What an access does. -/
inductive AccessKind where
  /-- a load: the bytes, sign extension, destination places low first (none: LDS of sz) -/
  | load (size : Nat) (signed : Bool) (dests : List LateDest)
  | store (data : List Byte) (release : Bool)
  /-- an atomic: minor, operands, destinations (none for RED) -/
  | atomic (minor : Nat) (b : DWord) (b2 : Word) (dests : List LateDest)
  deriving DecidableEq, Repr

/-- How far an access has come. -/
inductive AccessSt where
  | waiting
  /-- performed: the value read waits to be written to its lane -/
  | performed (val : List Byte)
  /-- an error came back (R197) -/
  | failed (code : Nat)
  deriving DecidableEq, Repr

/-- One lane's access in flight. `op` numbers the instruction; `seq` is its place in the wave's program order. -/
structure Access where
  id : Nat
  op : Nat
  wave : Nat
  core : Nat
  tenant : Nat
  lane : Nat
  /-- the lanes that its deferred trap names: its own, or for a scalar access its split's exec (R192, R416); none for an engine's -/
  traps : Word
  kind : AccessKind
  addr : DWord
  place : Place
  pageKind : Nat
  posted : Bool
  scope : Nat
  pc : DWord
  slot : Nat
  causal : DWord
  /-- a discarded page: a load returns zeros -/
  disc : Bool
  st : AccessSt
  /-- accesses that must be performed first (R171, R177, R182) -/
  after : List Nat
  /-- bytes that a combiner wave's commit buffer held at issue, by offset (R233) -/
  overlay : List (Nat × Byte)
  /-- the page, as a VPN and its span (R337, R339) -/
  page : Nat × Nat
  /-- fabric transaction number, once sent -/
  sent : Option Nat
  /-- of a remote load through the near cache (R155): 1 it has asked for the whole line and fills it, 2 it has asked for it and the line may no
  longer be filled, 3 it asks for its own bytes -/
  fill : Nat := 0
  /-- while it is held: the entries of its page behind which it joined the log, by their order, and the pages of their records (R185, R342) -/
  behind : List (Nat × Nat × Nat) := []
  /-- a RED of a deterministic task that is held: block, wave and flush epoch of its entry in the buffer (R203) -/
  det : Option (Nat × Nat × Nat) := none
  deriving DecidableEq, Repr

/-- A fence not yet complete (R207): the accesses that must be performed, those that must have landed, and the engine commands that
must have completed. -/
structure FenceSt where
  op : Nat
  wave : Nat
  kind : Nat
  scope : Nat
  perform : List Nat
  land : List Nat
  cmds : List Nat
  /-- the step of its issue -/
  at_ : Nat := 0
  deriving DecidableEq, Repr

/-- A TLB entry: the leaf, its level, and the lanes served from a discarded page (R334, R344). -/
structure TlbEntry where
  leaf : DWord
  level : Nat
  tenant : Nat
  tag : Nat
  vpn : Nat
  served : Nat
  deriving DecidableEq, Repr

/-- How a walk ended (R331 to R333). `span` is the level of the entry at fault. -/
inductive WalkEnd where
  | leaf (entry : DWord) (level : Nat)
  | missing (span : Nat) (entry : DWord)
  | error (code : Nat) (span : Nat)
  deriving DecidableEq, Repr

/-- A page walk in flight (R335): it fills a core's TLB, or, with `tte`, a quad's translation engine. The parties that share it. -/
structure Walk where
  id : Nat
  core : Nat
  tte : Bool
  tenant : Nat
  tag : Nat
  vpn : Nat
  askers : List Nat
  /-- the die whose pool serves it (R335) -/
  die : Nat := 0
  /-- the other TLBs that it fills, of parties that share it: TTE, unit, tag (R335) -/
  more : List (Bool × Nat × Nat) := []
  /-- a held entry, by its order, whose write waits here for a page's shadow (R327) -/
  held : Option Nat := none
  deriving DecidableEq, Repr

/-- A finished walk that found no leaf, kept for the party that asked (R191): a stream by 2 × wave + stream, an engine command by
its number above 10^9. -/
structure WalkRes where
  asker : Nat
  tenant : Nat
  vpn : Nat
  res : WalkEnd
  deriving DecidableEq, Repr

/-- A line of another module that a fetch or a record read has asked for (M): its transaction, and what has come back. -/
structure RemoteLine where
  asker : Nat
  dev : Nat
  line : Nat
  txn : Nat
  data : Option (List Byte)
  code : Nat
  deriving DecidableEq, Repr

/-- What is held for replay (R341, R474). -/
inductive HeldWhat where
  | lanes (accs : List Access)
  /-- a record read or a command at issue, of the stream 2 × wave + stream -/
  | record (asker : Nat)
  /-- an engine command at acceptance -/
  | command (cmd : Nat)
  /-- an engine line: engine number (kind), command, piece -/
  | line (cmd : Nat) (piece : Nat)
  /-- an entry of a core's matrix engine -/
  | engine (core : Nat) (id : Nat)
  /-- a combiner batch formation or its commit -/
  | batch (core : Nat) (handle : Nat)
  /-- an instruction fetch or JTAB entry -/
  | fetch (wave : Nat) (cs : Bool)
  deriving DecidableEq, Repr

/-- A holder's entry: operand log of a core (class 0), TTE list of a quad (1), a stream's fetch (2), or, in hardware mode, the page walker that
holds a write to a snapshot-protected page (3, R348). -/
structure Held where
  cls : Nat
  owner : Nat
  entry : Nat
  tenant : Nat
  vpn : Nat
  span : Nat
  /-- the faulting address, where it is not an access's own -/
  va : Nat
  what : HeldWhat
  /-- the entries, by their order, behind which lanes of it joined without a record of their own (R342) -/
  joined : List Nat
  order : Nat
  wave : Nat
  pc : DWord
  /-- it has been replayed and waits for these accesses to be performed (R343) -/
  replaying : List Nat
  /-- a replayed read that is to be tried again (R343) -/
  again : Bool
  deriving DecidableEq, Repr

/-- A fault record (R339), waiting for the ring (R340). -/
structure FaultRec where
  va : DWord
  causal : DWord
  source : Nat
  tenant : Nat
  code : Nat
  access : Nat
  flags : Nat
  token : Nat
  seq : Nat
  /-- a fault that a duty services: the table entry that its walk read (R338), and how many lines of the page have been sent to another module -/
  entry : DWord := 0#64
  zeroed : Nat := 0
  deriving DecidableEq, Repr

/-- A record of a queued invalidation (R337): the command and the accesses it waits for. -/
structure Inval where
  cmd : DWord
  started : Bool
  /-- the accesses in flight when it started -/
  waits : List Nat
  deriving DecidableEq, Repr

/-- An entry of the page-version table (R359), and what its sectors' tags verify under (M: R358). -/
structure PvtEntry where
  bound : Bool
  tenant : Nat
  vpn : Nat
  version : Nat
  redir : Option Nat
  content : Nat × Nat × Nat
  /-- unbind when this invalidation completes (R361) -/
  unbindAt : Option Nat
  deriving DecidableEq, Repr

/-! ## Cores (R9, R13, R281 to R296) -/

/-- An issue port (R281, R282, R284): the stream whose clause is in progress, the slot served last in each of ranks 3 to
5, the aged streams in the order in which they aged, and those a combiner batch's end lets issue first. -/
structure Port where
  cur : Option (Nat × Bool)
  lastLoader : Nat
  lastStorer : Nat
  lastComputer : Nat
  aged : List (Nat × Bool)
  afterBatch : List (Nat × Bool)
  deriving DecidableEq, Repr

/-- Reset: slot 47 counts as served last, so slot 0 is first (DESIGN CHOICE, unsafe: notes/assumptions/20.md). -/
def Port.reset : Port := ⟨none, 47, 47, 47, [], []⟩

/-- A waiting VACQ.B (R294). -/
structure BlockReq where
  wave : Nat
  cs : Bool
  n : Nat
  deriving DecidableEq, Repr

/-- A buffered RED lane of a deterministic task (R203); `flush` is its epoch on its logical core (R326). -/
structure DetRed where
  logical : Nat
  waveIx : Nat
  lane : Nat
  flush : Nat
  minor : Nat
  b : DWord
  b2 : Word
  place : Place
  addr : DWord
  tenant : Nat
  task : Nat
  causal : DWord
  order : Nat
  deriving DecidableEq, Repr

/-- A completion flag that tracks an engine entry (R119): the wave, the stream, the flag; 15 holds the stream's next clause. -/
structure Track where
  wave : Nat
  cs : Bool
  flag : Nat
  deriving DecidableEq, Repr

/-- A loop (R133): format 0 to 6, minor, descriptor, its copy of the record, next and end K-step. -/
structure LoopRec where
  fmt : Nat
  minor : Nat
  desc : Word
  record : List Byte
  next : Nat
  stop : Nat
  deriving DecidableEq, Repr

/-- A loop that an MSAVE has stopped (R147), with what its queue entry held: its flags, the word that issued it, its FENCE.OPNDs (R124). -/
structure StoppedLoop where
  loop : LoopRec
  tracks : List Track
  wave : Nat
  cs : Bool
  causal : DWord
  pc : DWord
  slot : Nat
  lanes : Word
  after : List Nat
  fenced : Nat
  upto : Nat
  seen : Nat
  deriving DecidableEq, Repr

/-- A matrix-engine entry (R118): what was issued. -/
inductive EngineOp where
  /-- MLOOP, with its indices once they have been read (R127) -/
  | loop (l : LoopRec) (idx : Option (List Nat))
  | zero (desc : Word)
  | mcb (slot : Nat) (addr : DWord) (place : Place) (kind : Nat) (disc : Bool)
  | mstat (late : Nat) (word : Nat) (clr : Bool)
  | drain (kind : Nat) (clr : Bool) (desc : Word) (record : List Byte)
  /-- MSAVE, with the loops that it has stopped and their flags -/
  | save (addr : DWord) (loops : Option (List StoppedLoop))
  | restore (addr : DWord)
  deriving DecidableEq, Repr

/-- An entry of the engine queue (R118). `phase` counts what a started entry has done: of a drain 0 its ticket, 1 its elements, 2 its
ticket's write. -/
structure EngineEntry where
  id : Nat
  wave : Nat
  block : Nat
  task : Nat
  tenant : Nat
  causal : DWord
  cs : Bool
  tracks : List Track
  pc : DWord
  slot : Nat
  lanes : Word
  op : EngineOp
  started : Bool
  phase : Nat
  redirect : Option (Nat × Nat)
  /-- where its elements, lines or ticket lead, once translated (R144): the place, its page's kind, whether the page is discarded -/
  places : List (Place × Nat × Bool)
  /-- FENCE.OPND at issue: stores that must be performed before it starts (R124) -/
  after : List Nat
  bad : Bool
  held : Bool
  /-- the FENCE.OPNDs that come before it are those that this wave issued by this step; it sees the stores performed by step `seen` (R124) -/
  fenced : Nat := 0
  upto : Nat := 0
  seen : Nat := 0
  deriving DecidableEq, Repr

/-- A store to the Plaza (R125): the step at which it was performed, its bytes before and after, the core whose engine made it (R120). An engine
that it is not ordered for may still miss it. -/
structure PlazaSt where
  at_ : Nat
  key : Nat
  old : List Byte
  new : List Byte
  eng : Option Nat
  deriving DecidableEq, Repr

/-- A write that waits at its memory controller for spill space (R160): an access by its number, a line of an engine's command, a packet's or a host's
write. -/
structure SpillWait where
  id : Nat
  key : Nat
  tenant : Nat
  causal : DWord
  since : DWord
  deriving DecidableEq, Repr

/-- The undefined-value window of an engine entry (R126): the ranges it reads and writes by memory key, the accumulator elements or
the codebook slot that it writes, whether a store has spoiled them; and the ranges by virtual address that it reads and writes as its tenant, and
task tag, while they are not translated. -/
structure EngineWindow where
  id : Nat
  tracks : List Track
  reads : List (Nat × Nat)
  writes : List (Nat × Nat)
  elems : List Nat
  book : Option Nat
  spoiled : Bool
  tenant : Nat := 0
  tag : Nat := 0
  redirect : Option (Nat × Nat) := none
  vreads : List (Nat × Nat) := []
  vwrites : List (Nat × Nat) := []
  deriving DecidableEq, Repr

/-- A core's matrix engine (R114 to R119, R139, R140). Accumulator elements and codebook entries not listed are 0. -/
structure Engine where
  holder : Option Nat
  claim : List Nat
  queue : List EngineEntry
  acc : Tab Word
  books : Tab (List (BitVec 16))
  mstat : Vector Word 7
  windows : List EngineWindow
  deriving DecidableEq, Repr

def Engine.reset : Engine := ⟨none, [], [], [], [], Vector.replicate 7 0#32, []⟩

/-- One core. Waves are held by the state itself, keyed core × 48 + slot. -/
structure CoreSt where
  ports : Vector Port 4
  /-- free blocks of the general pool, ascending (R292) -/
  freeBlocks : List Nat
  vacq : List BlockReq
  tlb : List TlbEntry
  /-- near cache: 128-B lines by memory key ÷ 128 (R155) -/
  near : Tab (List Byte)
  det : List DetRed
  engine : Engine
  /-- Roundabout: requests in order of arrival (R228) -/
  calls : List CallReq
  /-- objects whose batch is running here: descriptor keys (R229) -/
  running : List Nat
  /-- event counters: selected kinds and values (R382) -/
  cntSel : Vector Word 8
  cntVal : Vector DWord 8
  deriving DecidableEq, Repr

def CoreSt.reset : CoreSt :=
  { ports := Vector.replicate 4 Port.reset, freeBlocks := List.range 188, vacq := [], tlb := [], near := [], det := [],
    engine := Engine.reset, calls := [], running := [], cntSel := Vector.replicate 8 0#32, cntVal := Vector.replicate 8 0#64 }

/-! ## Operations under way at home units (R300 to R305, R320, R478) -/

/-- A barrier, semaphore or join-counter operation: sent to the home unit, applied, its reply under way. -/
structure HomeOp where
  op : Nat
  wave : Nat
  /-- 0 BAR, 1 SEM, 2 JDEC -/
  cls : Nat
  minor : Nat
  key : Nat
  addr : DWord
  arg : Word
  dest : BitVec 7
  causal : DWord
  lanes : Word
  /-- an arrival that finds EARLY ≥ EXPECT waits for the flip of this phase (R301) -/
  stuck : Option Word
  /-- the reply: value, and 0 for done, 1 for a wait, else a trap code -/
  reply : Option (Word × Nat)
  deriving DecidableEq, Repr

/-- A wave that waits at a barrier word or a semaphore (R302, R305). -/
structure Waiter where
  key : Nat
  wave : Nat
  phase : Word
  deriving DecidableEq, Repr

/-- A flip on its way to a core (R302): the word, and its PHASE after the flip. -/
structure Flip where
  core : Nat
  key : Nat
  phase : Word
  deriving DecidableEq, Repr

/-! ## Events (R374 to R379) -/

/-- An event as its source emits it, before its hub adds the flags (R374, R375). -/
structure EvRec where
  gtc : DWord
  source : Nat
  kind : Nat
  tenant : Nat
  causal : DWord
  payload : DWord
  /-- LOCK was 0 (R375) -/
  unlocked : Bool
  deriving DecidableEq, Repr

/-- A record as its hub accepts it: the event and the flags of WHO[3:0] (R374, R375). -/
structure DuskRec where
  ev : EvRec
  flags : Nat
  /-- the device number in effect, and the TRACE key of the event's tenant (R350) -/
  dev : Nat
  key : BitVec 256
  deriving DecidableEq, Repr

/-- A die's trace hub (R378): the records it holds, records lost since the last one accepted, the ticks of the first and last
of them. -/
structure Hub where
  buf : List DuskRec
  lost : Nat
  firstLost : DWord
  lastLost : DWord
  deriving DecidableEq, Repr

def Hub.reset : Hub := ⟨[], 0, 0#64, 0#64⟩

/-- The recorder (R370, R378 to R382, R446). -/
structure Recorder where
  timeCtl : DWord
  /-- the first-lock step has been taken since power-on or the last change of SRC (R370) -/
  stepped : Bool
  hubs : Tab Hub
  /-- records of the management controller that wait to be written (R479) -/
  mgmt : List DuskRec
  /-- hubs hold their records until the RESET record is written (R479) -/
  holdHubs : Bool
  /-- the Dusk ring: (index, record), oldest first -/
  dusk : List (Nat × DuskRec)
  wptr : Nat
  lost : Nat
  didx : DWord
  /-- the channel's turn: the hub of each pair served last (R479) -/
  turn : Tab Nat
  /-- die counters, by die × 64 + number: CNT_SEL and CNT_VAL -/
  dieCnt : Tab (Word × DWord)
  /-- what each counter has counted in this cycle: a write to CNT_VAL keeps it (R382) -/
  counted : Tab Nat
  /-- EVR_HOSTRING, EVR_HOSTPTR, the index of the record that the trace-drain duty copies next (R446) -/
  hostRing : DWord
  hostTail : Nat
  hostHead : Nat
  hostNext : Nat
  deriving DecidableEq, Repr

def Recorder.reset : Recorder :=
  { timeCtl := 0#64, stepped := false, hubs := [], mgmt := [], holdHubs := false, dusk := [], wptr := 0, lost := 0, didx := 0#64,
    turn := [], dieCnt := [], counted := [], hostRing := 0#64, hostTail := 0, hostHead := 0, hostNext := 0 }

/-! ## The copy, gather-pool and collective engines (R209 to R217, R245 to R253) -/

/-- A tensor record, read (R209). -/
structure Tensor where
  base : DWord
  fmt : Nat
  rank : Nat
  size : List Nat
  stride : List Nat
  box : List Nat
  deriving DecidableEq, Repr

/-- How far an engine command has come. -/
inductive CmdSt where
  /-- its records wait to be read and checked: the wave's A-stream waits for acceptance -/
  | issued
  | running
  | failed (code : Nat)
  deriving DecidableEq, Repr

/-- A command of a copy engine, a gather-pool engine or a collective engine (R212, R217, R246). `pieces` are the destination lines
not yet performed, by piece number. -/
structure Cmd where
  /-- 0 COPY, 1 COPY.NP, 2 GPOOL, 3 COLL -/
  kind : Nat
  engine : Nat
  wave : Nat
  task : Nat
  block : Nat
  tenant : Nat
  causal : DWord
  record : DWord
  bar : DWord
  dest : BitVec 7
  pc : DWord
  slot : Nat
  st : CmdSt
  scope : Nat
  evt : Bool
  /-- accesses of the release at issue (R186) -/
  after : List Nat
  src : Option Tensor
  dst : Option Tensor
  sorg : List Nat
  dorg : List Nat
  /-- GPOOL: addresses of indices, offsets, weights; bags, operation. COLL: see Collective.lean -/
  extra : List Nat
  barKey : Nat
  counted : Nat
  left : Nat
  pieces : List Nat
  skipped : Nat
  estimate : DWord
  status : Nat
  order : Nat
  redirect : Option (Nat × Nat)
  /-- it has ended, with a code and an address, and its STATUS is being written (R214) -/
  fin : Option (Nat × Nat) := none
  /-- its last STATUS has been performed; lines that have been performed and whose bytes have still to leave the barrier word -/
  stat : Bool := false
  owed : List Nat := []
  deriving DecidableEq, Repr

/-- A group-table entry as the collective engines have loaded it (R242, R243): `valid` with a usable rank list, one (device, endpoint) a rank. -/
structure Group where
  version : Nat
  tenant : Nat
  timeout : Nat
  valid : Bool
  cfault : Bool
  ranks : List (Nat × Nat)
  /-- NRANKS and RANKS as loaded -/
  nranks : Nat
  ranksPa : Nat
  deriving DecidableEq, Repr

def Group.unused : Group := ⟨0, 0, 0, false, false, [], 0, 0⟩

/-- What a collective engine keeps of a group (R248, R393, R467): the next sequence number on the loaded version, the codes of ends received
early, and its issuer record. -/
structure GroupAt where
  next : Nat
  kept : List (Nat × Nat)
  total : Nat
  wave : Nat
  causal : DWord
  tenant : Nat
  since : DWord
  order : Nat
  deriving DecidableEq, Repr

def GroupAt.fresh : GroupAt := ⟨0, [], 0, 0, 0#64, 0, 0#64, 0⟩

/-- A live instance of a collective (R247 to R253), beside its command. `key` is OP, RED, TYPE, ROOT, COUNT; `got` the data received, as
(rank, offset in the rank's part, bytes); `unacked` the SEND pieces sent and not acknowledged. -/
structure Coll where
  group : Nat
  version : Nat
  seq : Nat
  rank : Nat
  ranks : List (Nat × Nat)
  key : List Nat
  cfault : Bool
  armed : DWord
  deadline : Nat
  reported : Bool
  got : List (Nat × Nat × List Byte)
  unacked : List Nat
  /-- ranks whose matched instance is known to have been accepted (R249) -/
  heard : List Nat := []
  deriving DecidableEq, Repr

/-- A message between collective engines (R245, R249, R250, R407): 0 the instance has been accepted, 1 data, 2 an acknowledgement, 3 the
end. -/
structure CollMsg where
  id : Nat
  kind : Nat
  cle : Nat
  group : Nat
  version : Nat
  seq : Nat
  rank : Nat
  key : List Nat
  off : Nat
  piece : Nat
  code : Nat
  tenant : Nat
  causal : DWord
  data : List Byte
  deriving DecidableEq, Repr

/-- What the home unit keeps beside a barrier word (R469): the latest engine addition of the current phase. -/
structure BarNote where
  causal : DWord
  source : Nat
  /-- the widest SCOPE of the engine records that have counted bytes on the word since its INIT: a wait that they end acquires at it too (R251) -/
  scope : Nat
  deriving DecidableEq, Repr

def BarNote.none : BarNote := ⟨0#64, 0xFFFF, 0⟩

/-- A probe for a Curfew report (R405): the report as it stands, and the tick at which the probe was sent. -/
structure Probe where
  id : Nat
  /-- the transaction that carries the probe; 0 while none has been free -/
  txn : Nat
  /-- the late rank's device and engine -/
  to_ : Nat × Nat
  cle : Nat
  tenant : Nat
  handle : DWord
  group : Nat
  seq : Nat
  rank : Nat
  late : Nat
  nlate : Nat
  cfault : Bool
  armed : DWord
  expiry : DWord
  /-- the edge that the device answered with -/
  reply : Option (List Byte)
  deriving DecidableEq, Repr

/-- A hardware gather under way (R402, R403): region, room, the devices, the reads that have not been answered, by device, address and the tick in which
they were asked, those of them that no transaction has been free for, the edges so far. `round` 1 is the first read. -/
structure Gather where
  base : Nat
  room : Nat
  devs : List Nat
  waits : List (Nat × Nat × DWord)
  unsent : List (Nat × Nat)
  edges : List (Nat × List Byte)
  round : Nat
  retry : List (Nat × List Byte)
  first : List (List Byte)
  partial_ : Bool
  deriving DecidableEq, Repr

/-- What asks for a readout: CUR_SNAP, CUR_GATHER, a Curfew report (R398, R402, R446). -/
inductive ReadoutAsk where
  | snap (v : DWord)
  | gather (v : DWord)
  | curfew (devs : List Nat)
  deriving DecidableEq, Repr

/-- The wait-graph and Curfew registers (R398 to R402, R406). -/
structure WaitRegs where
  done : Nat
  trunc : Bool
  stale : Word
  rbase : DWord
  tail : Nat
  head : Nat
  probes : List Probe
  gather : Option Gather
  /-- CUR_AUTO, and the readouts that wait for the gather that runs (R398, R446) -/
  auto : DWord
  queue : List ReadoutAsk
  /-- the edges that a gather of another module reads here in pages: the module, the address of the first page, the edges as they stood at its read -/
  reads : List (Nat × Nat × List Byte)
  deriving DecidableEq, Repr

/-- Reset (R398, R401, R406): WINDOW 0x0010_0000, WHERE 3. -/
def WaitRegs.reset : WaitRegs := ⟨0, false, 0x100000#32, 0xC000000000000000#64, 0, 0, [], none, 0#64, [], []⟩

/-! ## The fabric (R423 to R433) -/

/-- What a transaction is for, and so who receives its reply (R432). -/
inductive TxnWhat where
  /-- lanes of an instruction in flight: their accesses -/
  | access (ids : List Nat)
  /-- a CALLO's requests: the wave, its operation number, the lanes without a reply -/
  | callo (wave : Nat) (op : Nat) (lanes : Word)
  /-- FALLOC, FFREE, FQUOTA: the wave that waits, the minor, D and B, TRAPQ -/
  | avctl (wave : Nat) (minor dest pred : Nat) (trapq : Bool)
  /-- an engine line: command and piece -/
  | line (cmd : Nat) (piece : Nat)
  /-- a collective's message, by its instance -/
  | coll (inst : Nat)
  /-- a probe: of a Curfew report, or of a gather -/
  | probe (what : Nat)
  /-- a line of another module that a fetch or a record read needs, for an asker -/
  | read (asker : Nat) (dev : Nat) (line : Nat)
  /-- a piece of a rebuild list (R444) -/
  | rebuild (id : Nat)
  /-- a trace unit's write (R387) -/
  | trace
  /-- a piece of a host's request (R356) -/
  | host (req piece : Nat)
  deriving DecidableEq, Repr

/-- An outstanding transaction (R432): its packet as first sent, the link it took, attempts made, whether the plane map holds it
back (R431), the tick of a BUSY reply. -/
structure Txn where
  id : Nat
  pkt : Packet
  relaxed : Bool
  line : Nat
  plane : Nat
  link : Nat
  attempts : Nat
  held : Bool
  /-- its target is marked dead in the peer table: sent nowhere, it fails (R442) -/
  dead : Bool
  busy : Option DWord
  what : TxnWhat
  deriving DecidableEq, Repr

/-- A link's registers and layer (R427 to R430, R362). `state` is STATE of FAB_LINKn. -/
structure LinkSt where
  state : Nat
  failed : Nat
  replays : Nat
  /-- SEQ last given, SEQ last accepted -/
  sent : Nat
  got : Nat
  /-- flits sent and not acknowledged, oldest first -/
  replay : List Flit
  /-- packets with no sequence number yet -/
  queue : List Packet
  /-- flits of packets being received, by virtual channel -/
  partials : Tab (List Flit)
  keyed : Bool
  keySlot : Nat
  /-- flits sent under the present key, authentication failures in a row, the tick training began -/
  flits : Nat
  authFails : Nat
  trainSince : DWord
  /-- the two key slots of the sending and of the receiving direction, the slot in which the last flit accepted was sealed, the flit counters of the
  two directions (R362), and keys agreed on the link so far -/
  txKeys : BitVec 256 × BitVec 256 := (0#256, 0#256)
  rxKeys : BitVec 256 × BitVec 256 := (0#256, 0#256)
  rxSlot : Nat := 0
  txCount : Nat := 0
  rxCount : Nat := 0
  agreed : Nat := 0
  /-- of the packets whose flits are being numbered: the flits that are left, by virtual channel (R426, R428) -/
  sending : Tab (List (FlitType × List Byte)) := []
  /-- by virtual channel: flits sent that the receiver has not credited, flits received that have still to be credited (R426) -/
  spent : Tab Nat := []
  credit : Tab Nat := []
  /-- the last idle flit sent (R427, R429) -/
  idle : Option Flit := none
  /-- changes of key that the sender has made of itself and no event has told yet (R362) -/
  rekeys : Nat := 0
  /-- CRC failures counted; a NAK has been sent and the flit that it asks for has not come (R429) -/
  crcFails : Nat
  nakked : Bool
  /-- flits sent that no counter has counted yet (R382) -/
  uncounted : Nat
  deriving DecidableEq, Repr

def LinkSt.reset : LinkSt :=
  { state := 0, failed := 0, replays := 0, sent := 0, got := 0, replay := [], queue := [], partials := [], keyed := false,
    keySlot := 0, flits := 0, authFails := 0, trainSince := 0#64, crcFails := 0, nakked := false,
    uncounted := 0 }

/-- An Avenue allocation as the fabric window table and the switches have it (R165 to R167). -/
structure AvAlloc where
  /-- switch address of its first byte (R165) -/
  pa : Nat
  size : Nat
  tenant : Nat
  mirrored : Bool
  pinned : Option Nat
  generation : Nat
  degraded : Bool
  /-- logical planes whose lines of it are lost (R167, R445) -/
  lost : List Nat
  deriving DecidableEq, Repr

/-- The fabric side of the module. (DESIGN CHOICE, unsafe: notes/assumptions/9.md) -/
structure Fabric where
  txns : List Txn
  links : Tab LinkSt
  mapVersion : Nat
  dead : Nat
  map : Nat
  /-- the version, the map and the dead planes that a running fence will bring into effect (R431) -/
  fence : Option (Nat × Nat × Nat)
  peerBase : DWord
  /-- the filter: key (SRCDEV, SRC, XTAG, SENT) as one number, done or executing, the replies kept (R433) -/
  filter : List ((Nat × Nat × Nat × Nat) × Bool × List Packet)
  window : Tab AvAlloc
  /-- requests of CALLO transactions of other modules, by operation number (R475) -/
  callFrom : Tab Packet
  /-- packets received whole and not yet acted on, with the link that each came on, oldest first -/
  inbox : List (Nat × Packet)
  /-- writes of FAB_PMAP that wait at their port for a running fence; none is the plane-remap duty's own (R431, R445) -/
  mapWait : List (Option DWord) := []
  deriving DecidableEq, Repr

/-- Reset (R430, R431): version 0, no plane dead, MAP 0xFAC688. -/
def Fabric.reset : Fabric :=
  { txns := [], links := [], mapVersion := 0, dead := 0, map := 0xFAC688, fence := none, peerBase := 0#64, filter := [],
    window := [], callFrom := [], inbox := [] }

/-! ## The launcher (R310 to R329) -/

/-- What the launcher needs of a code object's header (R47), offsets from its start. -/
structure CodeHdr where
  single : Bool
  aEntry : Nat
  cEntry : Nat
  vector : Nat
  codeOff : Nat
  codeSize : Nat
  waves : Nat
  gang : Nat
  blocks : Nat
  plaza : Nat
  lastLanes : Nat
  deriving DecidableEq, Repr

/-- A launch record (R312). -/
structure LaunchRec where
  code : DWord
  args : DWord
  gx : Nat
  gy : Nat
  gz : Nat
  taskId : Word
  flags : Nat
  retries : Nat
  lcores : Nat
  join : DWord
  doneVa : DWord
  seed : Nat
  ctrBase : Nat
  ctrCount : Nat
  deriving DecidableEq, Repr

/-- A continuation record (R319), its CTL taken apart. -/
structure ContRec where
  code : DWord
  frame : DWord
  join : DWord
  task : Nat
  block : Nat
  launcher : Bool
  level : Nat
  queue : Nat
  deriving DecidableEq, Repr

/-- A record in the ring of its level (R314, R319): since when it is eligible, levels it has risen, the ticks of its last rise and of the
first time a lower record passed it over; the saved blocks it restores, and whether it has re-entered at the head of its level (R323, R329). -/
structure Ready where
  id : Nat
  entry : ContRec
  since : DWord
  lifted : Nat
  passed : Option DWord
  reserved : List Nat
  saved : List Nat
  front : Bool
  /-- PA of its slot in the ring -/
  addr : Nat
  deriving DecidableEq, Repr

/-- An edge of a graph (R316). -/
structure Edge where
  prod : Nat
  cons : Nat
  map : Nat
  p1 : Nat
  p2 : Nat
  /-- TABLE: the producer blocks of each consumer block -/
  table : List (List Nat)
  deriving DecidableEq, Repr

/-- A graph that runs (R315): its own record and queue, the task slots of its nodes, its edges, whether a node has failed. A node's task
stays in the table until the graph has ended. -/
structure Graph where
  launch : LaunchRec
  queue : Nat
  tenant : Nat
  nodes : List Nat
  edges : List Edge
  failed : Bool
  deriving DecidableEq, Repr

/-- A task (R312, R318, R322 to R327). -/
structure Task where
  launch : LaunchRec
  queue : Nat
  tenant : Nat
  level : Nat
  /-- graph and node -/
  node : Option (Nat × Nat)
  commit : Bool
  det : Bool
  nblocks : Nat
  gang : Nat
  runs : Nat
  started : Bool
  /-- the completion bitmap, as the blocks whose bit is set, and the blocks made eligible (R318) -/
  doneBlocks : List Nat
  eligible : List Nat
  /-- records spawned and not yet left -/
  spawned : Nat
  /-- DET: the physical core of each logical core (R325), the epoch each has reached, those that have run their last block -/
  cores : List Nat
  epochs : List Nat
  lastRun : List Nat
  /-- epochs that have been applied -/
  applied : Nat
  order : Nat
  hdr : CodeHdr
  /-- it has written its completion word; it stays for its graph or for blocks spawned by its JOIN -/
  retired : Bool
  /-- a node that it depends on has failed after it had started: no further block of it starts (R315) -/
  dead : Bool := false
  /-- its records enter at the head of their level: it reruns (R323) -/
  atHead : Bool := false
  /-- it has published its shadows: the accesses that used an old translation (R347) -/
  pubWaits : Option (List Nat) := none
  deriving DecidableEq, Repr

/-- A block that runs on a core (R314, R153, R309). -/
structure Block where
  task : Nat
  index : Nat
  core : Nat
  waves : List Nat
  granules : List Nat
  entry : ContRec
  started : DWord
  /-- the gang's blocks, by block key -/
  gang : List Nat
  /-- flush points passed, and the logical core's epoch at its start (R326) -/
  flushed : Nat
  epoch0 : Nat
  /-- the order in which blocks started -/
  order : Nat
  deriving DecidableEq, Repr

/-- A range of random numbers (R324). -/
structure RngRange where
  task : Nat
  seed : Nat
  base : Nat
  count : Nat
  deriving DecidableEq, Repr

/-! ## Shadows and error marks -/

/-- A page of a resident kernel's code segment (R28): its frame, in units of 64 KiB of memory's keys, once it has been found mapped. -/
structure CodePage where
  tenant : Nat
  code : Nat
  vpn : Nat
  frame : Option Nat
  deriving DecidableEq, Repr

/-- A shadow of a commit task (R327): the page, the frame of the shadow, the REDIR entry it shadows. -/
structure Shadow where
  task : Nat
  tenant : Nat
  vpn : Nat
  entry : Nat
  frame : Nat
  deriving DecidableEq, Repr

/-- An uncorrectable or correctable error that the next read of a location finds (R358, R408, R413). Of a sector of HBM, `flips` are the symbols that do
not hold what was written, with what is added to each: of the 72, 0 to 63 ciphertext, 64 to 70 TAG, 71 P. -/
structure ErrMark where
  uncorr : Bool
  injected : Bool
  flips : List (Nat × Byte) := []
  deriving DecidableEq, Repr

/-- A report of this cycle (R409, R410): the log, its channel, whether it is uncorrectable, and the fields of its entry. -/
structure ErrRep where
  log : Nat
  chan : Nat
  uncorr : Bool
  loc : Nat
  cls : Nat
  syndrome : Nat
  tenant : Nat
  causal : DWord
  deriving DecidableEq, Repr

/-- An error log (R410): COUNT, DROPPED, TAIL and HEAD modulo 2^32, OVF, IRQ, and the entries by slot. -/
structure ErrLog where
  count : Nat
  dropped : Nat
  tail : Nat
  head : Nat
  ovf : Bool
  irq : Bool
  entries : Tab (List Byte)
  deriving DecidableEq, Repr

def ErrLog.reset : ErrLog := ⟨0, 0, 0, 0, false, false, []⟩

/-- INJ_CTL and INJ_TARGET (R413). -/
structure Inject where
  arm : Bool
  uncorr : Bool
  log : Nat
  channel : Nat
  loc : Nat
  deriving DecidableEq, Repr

def Inject.reset : Inject := ⟨false, false, 0, 0, 0⟩

/-- A pre-empted block (R329): its core, its waves by their slots, its granules' bytes, its matrix engine with the loops that were stopped;
its first quad; the pages of the save pool that it takes. -/
structure Saved where
  block : Block
  waves : List (Nat × Wave)
  bytes : List (List Byte)
  engine : Option Engine
  quad : Nat
  pages : Nat
  /-- the frames of the pool (R457) -/
  frames : List Nat := []
  /-- the barrier words that have been initialised in its granules, by their offset in the slice -/
  bars : Tab BarNote := []
  deriving DecidableEq, Repr

/-- A block that is being saved (R329): it has been asked to stop. -/
structure Victim where
  block : Nat
  for_ : Nat
  /-- step 3 of R329 is done: the block of a deterministic task has passed a flush point -/
  passed : Bool := false
  deriving DecidableEq, Repr

/-- The launcher: its registers (R329, R457), its tasks and records. (DESIGN CHOICE, unsafe: notes/assumptions/9.md) (DESIGN CHOICE, safe: notes/assumptions/58.md) -/
structure Launcher where
  qtab : DWord
  cqBase : DWord
  cqSize : Word
  shadow : DWord
  save : DWord
  preempt : Word
  tasks : Tab Task
  graphs : Tab Graph
  ready : List Ready
  /-- records that wait for room in their ring, in the order in which they reached the launcher (R320, R457) -/
  waiting : List Ready
  blocks : Tab Block
  saved : Tab Saved
  victims : List Victim
  rng : List RngRange
  /-- the queue served last within a level (R314) -/
  served : Tab Nat
  /-- buffered entries that a flush point has moved to the task's flush area: (epoch, entry) (R326) -/
  flushArea : List (Nat × DetRed)
  shadows : List Shadow
  /-- commit tasks that wait for a page: (task, the task that holds it, or itself for an empty pool) (R327) -/
  shadowWaits : List (Nat × Nat)
  /-- records written to the ring of each level -/
  ringTail : Tab Nat
  nextTask : Nat
  /-- launches that have failed R47, as the launcher logs them: queue and CODE -/
  recordErrs : List (Nat × Nat) := []
  /-- pages that the migration duty has set MOVING: tenant, VPN, the entry as it wrote it (R338, R346) -/
  moves : List (Nat × Nat × DWord) := []
  /-- the pages of resident kernels' code segments, and the words that stores have replaced in their frames, by address (R28) -/
  codePages : List CodePage := []
  codeLog : List (Nat × List Byte) := []
  deriving DecidableEq, Repr

/-- Reset values of R329 and R457: LCH_CQSIZE 12, LCH_PREEMPT EN 1 and WAIT 64. -/
def Launcher.reset : Launcher :=
  { qtab := 0#64, cqBase := 0#64, cqSize := 12#32, shadow := 0#64, save := 0#64, preempt := 0x80000040#32, tasks := [],
    graphs := [], ready := [], waiting := [], blocks := [], saved := [], victims := [], rng := [], served := [],
    flushArea := [], shadows := [], shadowWaits := [], ringTail := [], nextTask := 0 }

/-! ## The security block (R350 to R368) -/

/-- A session (R366): its number, the port that it was opened through (0 H0, 1 H1, 2 the management interface), the tenant that opened it, the session
key: the shared secret. -/
structure Session where
  num : Nat
  port : Nat
  tenant : Nat
  key : BitVec 256
  deriving DecidableEq, Repr

/-- An IDE stream whose keys are set (R363): its host port, its kind (0 PCIe link, 1 PCIe selective, 2 CXL, which is in containment mode), its number,
the tenant that opened the session which set its key. -/
structure IdeStream where
  port : Nat
  kind : Nat
  num : Nat
  tenant : Nat
  key : BitVec 256
  deriving DecidableEq, Repr

/-- The keys of a tenant (R350). -/
structure KeySet where
  xts1 : BitVec 256
  xts2 : BitVec 256
  mac : BitVec 256
  trace : BitVec 256
  deriving DecidableEq, Repr

/-- The four keys of 128 bytes, in the order of R353. -/
def KeySet.ofBytes (b : List Byte) : KeySet :=
  let k (i : Nat) : BitVec 256 := BitVec.ofNat 256 (bytesToNat ((b.drop (32 * i)).take 32))
  ⟨k 0, k 1, k 2, k 3⟩

/-- The keys that the root of trust draws for tenant 0 (R355): the n-th draw. (DESIGN CHOICE, safe: notes/assumptions/11.md) -/
def KeySet.drawn (n : Nat) : KeySet :=
  ⟨Config.bootKeys (4 * n), Config.bootKeys (4 * n + 1), Config.bootKeys (4 * n + 2), Config.bootKeys (4 * n + 3)⟩

/-- SEC_KCMD's queue, SEC_KSTAT.DONE, the key sets installed, the live sessions, oldest first, the next session number, the identity key's leaf
index, the IDE streams whose keys are set, the reports answered with their signatures of 9,893 bytes (M; R364). (DESIGN CHOICE, unsafe: notes/assumptions/9.md) (DESIGN CHOICE, unsafe: notes/assumptions/57.md) -/
structure Sec where
  cmds : List Nat
  done : Nat
  keys : Tab KeySet
  sessions : List Session
  nextSession : Nat
  leaf : Nat
  ide : List IdeStream
  reports : List (List Byte × Vector Byte 9893)
  /-- SEC_PVT (R457), which the security block writes at boot -/
  pvtBase : DWord
  /-- the digest and the security version of the image that the root of trust has accepted (R365, R366) -/
  fwDigest : BitVec 512
  fwVersion : Word
  deriving DecidableEq, Repr

/-- The page-version table lies in the highest 144 MiB of the HBM. (DESIGN CHOICE, unsafe: notes/assumptions/57.md) -/
def Sec.reset : Sec := ⟨[], 0, [], [], 0, 0, [], [], BitVec.ofNat 64 ((9437184 - 2304) * 65536), Config.fwDigest, Config.fwVersion⟩

/-! ## Recovery (R437 to R446) -/

/-- MEM_SNAPCTL; the entry of the list that drains, whether its copy to another module has been sent, and the code of a write that failed (R438,
R440). -/
structure Snap where
  state : Nat
  mode : Bool
  list : Nat
  cur : Nat
  sent : Bool
  code : Nat
  /-- in a double-buffer epoch: the frames, and pages of the pool and of hosts, that have been written since START (R439) -/
  touched : List Nat := []
  deriving DecidableEq, Repr

def Snap.reset : Snap := { state := 0, mode := false, list := 0, cur := 0, sent := false, code := 0 }

/-- A rebuild that this module has started (R444): its number, its list, the devices that have not acknowledged with the tick at which the list was sent. -/
structure Rebuild where
  id : Nat
  base : Nat
  waits : List (Nat × DWord)
  missed : Bool
  refused : Bool
  deriving DecidableEq, Repr

/-- A piece of a rebuild list received: its packet. `off` of `total` bytes. -/
structure RebuildIn where
  off : Nat
  total : Nat
  pkt : Packet
  deriving DecidableEq, Repr

/-! ## Power and management (R447 to R458) -/

/-- The management controller: PWR_STATUS, the stored PWR_DEVNO, PWR_CAP, PWR_POWER, PWR_TEMP by die, PWR_FUSESEL, PWR_ISLn.MAX by island, the level
that the power cap holds island clocks at, the level of a throttled die, the bytes of the recovery window, resets that wait: code, and
whether the image in flash verifies (R449). -/
structure Power where
  ready : Bool
  devWait : Bool
  recWait : Bool
  lastReset : Nat
  early : Nat
  devno : Word
  cap : Nat
  watts : Nat
  temps : Tab Nat
  fuseSel : Nat
  islMax : Tab Nat
  capLevel : Nat
  throttle : Tab Nat
  recovery : Tab Byte
  pending : List (Nat × Bool)
  deriving DecidableEq, Repr

/-- Reset (R450 to R454): the machine waits at boot step 410 for its device number. -/
def Power.reset : Power :=
  { ready := false, devWait := true, recWait := false, lastReset := 0, early := 0, devno := 0xFFF#32, cap := 2800, watts := 0, temps := [],
    fuseSel := 0, islMax := [], capLevel := 64, throttle := [], recovery := [], pending := [] }

/-- What a host receives for a request (M): port, status 0 Successful Completion, 1 Unsupported Request, 2 Completer Abort, 3 Configuration Request
Retry, and the data of a read or the old value of an AtomicOp. -/
structure HostReply where
  port : Nat
  status : Nat
  data : List Byte
  deriving DecidableEq, Repr

/-- A host's request that has gone to another module (M): the port, the tenant, its address, whether it is a posted write; each piece's data once its
reply has come; the first code of one that failed. -/
structure HostReq where
  id : Nat
  port : Nat
  tenant : Nat
  va : Nat
  posted : Bool
  parts : List (Option (List Byte))
  code : Nat
  deriving DecidableEq, Repr

end Sys2Proof.Machine
end

