-- ==== Sys2Proof/Machine/State.lean ====
section
/-!
DEFINITION. The state of one N9 module as plain data, how a step can stop, and `State.reset`. INVENTORY.md lists every
piece with the rule of spec/ that names it. A field marked (M) is the model's own.
-/
namespace Sys2Proof.Machine

/-! ## How a step can stop -/

/-- The machine stops. Safe: no claim about a next state can be proved from a stop. (DESIGN CHOICE, safe: notes/assumptions/50.md) -/
inductive Fault where
  /-- `step` of a module that holds no power: nothing executes until POWER_ON (R447). Safe. -/
  | noPower
  deriving DecidableEq, Repr

/-- An instruction without a meaning. Safe. -/
inductive Refusal where
  /-- Raised only by an arm of `exec` whose instruction the model does not give. Safe. -/
  | notModelled (mnemonic : String)
  deriving DecidableEq, Repr

/-! ## Turns -/

/-- What happens next (M, notes/assumptions/1.md): a step of the table; a stream issues a word; the near cache of a core evicts a
line; a stored location is upset (R408); a register is read; a host or the pool writes a byte of its own memory; an allocation of the Avenue changes on
behalf of another module (R165). (DESIGN CHOICE, safe: notes/assumptions/1.md) -/
inductive Turn where
  | event (i : Instr)
  | issue (wave : Nat) (cs : Bool)
  | evict (core line : Nat)
  | upset (mark : Nat) (uncorr : Bool)
  | outside (key : Nat) (b : Byte)
  | avenue (base : Nat) (a : Option AvAlloc)
  /-- the host or the management controller reads BAR0 -/
  | read (off size : Nat)
  deriving DecidableEq, Repr

/-- The stream that issues (M), and at a clause boundary the split that it serves. -/
structure Cursor where
  wave : Nat
  cs : Bool
  slot : Nat
  deriving DecidableEq, Repr

/-- The module. -/
structure State where
  /-- (M) turns to take; empty: the model chooses (DESIGN CHOICE, unsafe: notes/assumptions/15.md) -/
  tape : List Turn
  cur : Cursor
  /-- (M) the counter that free values are applied to; `stamp` counts steps that changed something; `nextId` numbers
  accesses, commands and operations -/
  free : Nat
  stamp : Nat
  /-- (M) core cycles counted; what has been served in the present one where the spec orders what comes in one cycle: kind, place, rank -/
  cycle : Nat
  inCycle : List (Nat × Nat × Nat)
  nextId : Nat
  /-- the last GTC tick that has ended (M) -/
  lastGtc : DWord
  gtc : DWord
  powered : Bool
  device : Nat
  waves : Tab Wave
  cores : Tab CoreSt
  mem : List (Nat × Byte)
  flight : List Access
  fences : List FenceSt
  walks : List Walk
  walkRes : List WalkRes
  lines : List RemoteLine
  held : List Held
  heldNext : Nat
  faultQ : List FaultRec
  faultSeq : Nat
  /-- TRN_FBASE, TRN_FPTR, and whether FAULT_RING_OFF has been emitted since the ring was last enabled (R340) -/
  faultBase : DWord
  faultTail : Nat
  faultHead : Nat
  faultOff : Bool
  /-- faults that a hardware duty services: no record (R348, R349) -/
  silent : List FaultRec
  /-- invalidations queued or running, and TRN_INVSTAT.DONE (R337) -/
  invals : List Inval
  invDone : Nat
  /-- DPR (R446) -/
  dpr : Word
  pvt : Tab PvtEntry
  version : Nat
  keyed : List Nat
  granules : Tab Nat
  homeOps : List HomeOp
  /-- waiters of barrier words and semaphores, oldest first -/
  waiters : List Waiter
  /-- initialised barrier words (R297), and what their home unit keeps beside them (R469) -/
  barWords : Tab BarNote
  /-- flips not yet received by the cores (R302) -/
  flips : List Flip
  callSends : List CallSend
  callReplies : List CallReply
  /-- replies for callers on other modules, to be sent (R475) -/
  remoteReplies : List CallReply
  evq : List EvRec
  traceOut : List TraceChunk
  /-- tasks that are being aborted: task slot and code (R418, R422) -/
  aborts : Tab Nat
  /-- fresh-identifier sequence of each source (R371) -/
  freshSeq : Tab Nat
  /-- branch-trace epochs taken (R386) -/
  traceEpoch : Nat
  /-- TLBs of the tensor translation engines, by quad (R336) -/
  tteTlb : Tab (List TlbEntry)
  trnRoot : DWord
  /-- MEM_RECODE: value written, value in effect (R160) -/
  recode : DWord
  recodeNow : DWord
  /-- spill space in use, units of 64 MiB, and writes that wait for it, by access (R160) -/
  spillUsed : Nat
  spillWait : List SpillWait
  marks : Tab ErrMark
  errs : Tab ErrLog
  /-- reports of this cycle, which reach their logs at its end in ascending channel order (R410) -/
  errQ : List ErrRep
  inj : Inject
  /-- messages sent to the host: function and MSI-X vector, oldest first (M: the host's side of R340, R410) -/
  msi : List (Nat × Nat)
  /-- flags of the loops of a saved image: tenant, address, and each loop's flags (R147) -/
  savedFlags : List ((Nat × Nat) × List StoppedLoop)
  /-- the stores to the Plaza that an engine may still miss, oldest first (R125) -/
  opLog : List PlazaSt
  /-- commands of the CE, GPE and CLE queues, by number -/
  cmds : Tab Cmd
  /-- GRP_BASE, the group entries loaded, what each collective engine keeps of each group (engine × 65,536 + group), live instances by
  command, messages received and not yet acted on, messages that wait for a fabric tag (device, message) -/
  grpBase : DWord
  groups : Tab Group
  groupAt : Tab GroupAt
  colls : Tab Coll
  collIn : List CollMsg
  collOut : List (Nat × CollMsg)
  waitRegs : WaitRegs
  evr : Recorder
  fab : Fabric
  lch : Launcher
  sec : Sec
  snap : Snap
  rebuild : Option Rebuild
  rebuildIn : List RebuildIn
  power : Power
  /-- answers to host requests, oldest first (M: the host's side of R356, R205, R450) -/
  hostOut : List HostReply
  /-- host requests that have gone to other modules -/
  hostReqs : List HostReq
  deriving DecidableEq, Repr

/-! ## Reset -/

/-- The module after a power-on, as the boot of R450 leaves it at step 410: tenant 0 is keyed, and it waits there for its device number, since PWR_DEVNO
reads VALID 0 (R454). What is not listed is as after reset: cores, pages, memory, links, tables. (DESIGN CHOICE, unsafe: notes/assumptions/9.md) -/
def State.reset : State :=
  { tape := [], cur := ⟨0, false, 0⟩, free := 0, stamp := 0, cycle := 0, inCycle := [], nextId := 1, lastGtc := 0#64, gtc := 0#64, powered := true, device := 0xFFF, waves := [], cores := [],
    mem := [], flight := [], fences := [], walks := [], walkRes := [], lines := [], held := [], heldNext := 0, faultQ := [], faultSeq := 0,
    faultBase := 0xC000000000000000#64, faultTail := 0, faultHead := 0, faultOff := false, silent := [], invals := [], invDone := 0, dpr := 0x51#32,
    pvt := [], version := 0, keyed := [0], granules := [], homeOps := [], waiters := [], barWords := [], flips := [], callSends := [],
    callReplies := [], remoteReplies := [], evq := [], traceOut := [], aborts := [], freshSeq := [], traceEpoch := 0, tteTlb := [], trnRoot := 0#64,
    recode := 0#64, recodeNow := 0#64, spillUsed := 0, spillWait := [], marks := [], errs := [], errQ := [], inj := Inject.reset, msi := [], savedFlags := [], opLog := [],
    cmds := [], grpBase := 0#64, groups := [], groupAt := [], colls := [], collIn := [], collOut := [], waitRegs := WaitRegs.reset,
    evr := { Recorder.reset with holdHubs := true }, fab := Fabric.reset, lch := Launcher.reset,
    sec := { Sec.reset with keys := [(0, KeySet.drawn 0)] }, snap := Snap.reset, rebuild := none, rebuildIn := [], power := Power.reset,
    hostOut := [], hostReqs := [] }

end Sys2Proof.Machine
end

