-- ==== Sys2Proof/Machine/Memory.lean ====
section
/-!
DEFINITION. Memory as one sorted list of the bytes that differ from what an unlisted byte reads as, and where the tiers lie in it
(spec/06_memory_tiers.md, R149 to R153).
-/
namespace Sys2Proof.Machine

/-- What a byte that no entry lists reads as: 0. HBM frames are zero-filled when bound (R360), Plaza granules when granted (R153); for host
and pool memory it is the model's choice (DESIGN CHOICE, unsafe: notes/assumptions/3.md). -/
def unlistedByte : Byte := 0#8

/-- Memory keys of the tiers: HBM by physical address, then the Plaza by core and offset, the CXL pool and host memory by physical
address. -/
def plazaBase : Nat := 2 ^ 60
def poolBase : Nat := 2 ^ 61
def hostBase : Nat := 2 ^ 62
def plazaKey (core off : Nat) : Nat := plazaBase + core * 0x80000 + off

/-- HBM of one module: 12 stacks of 48 GiB (R12). -/
def hbmBytes : Nat := 576 * 2 ^ 30
/-- The recode aperture (R160). -/
def apertureBase : Nat := 0x400000000000

def isPlazaKey (k : Nat) : Bool := decide (plazaBase ≤ k) && decide (k < poolBase)
def isHbmKey (k : Nat) : Bool := decide (k < plazaBase)
/-- Pool or host: writes to them are posted (R189). -/
def isPostedKey (k : Nat) : Bool := decide (poolBase ≤ k)

/-- Read one byte. (DESIGN CHOICE, unsafe: notes/assumptions/3.md) -/
def memGet (m : List (Nat × Byte)) (k : Nat) : Byte := tabGetD m k unlistedByte

/-- Write one byte, keeping the canonical form. (DESIGN CHOICE, unsafe: notes/assumptions/3.md) -/
def memPut (m : List (Nat × Byte)) (k : Nat) (b : Byte) : List (Nat × Byte) :=
  if b = unlistedByte then tabErase m k else tabPut m k b

/-- Write bytes from `k` up. -/
def memPuts : List (Nat × Byte) → Nat → List Byte → List (Nat × Byte)
  | m, _, [] => m
  | m, k, b :: bs => memPuts (memPut m k b) (k + 1) bs

/-- Read `n` bytes from `k` up. -/
def memGets (m : List (Nat × Byte)) : Nat → Nat → List Byte
  | _, 0 => []
  | k, n + 1 => memGet m k :: memGets m (k + 1) n

/-- Zero-fill: drop every listed byte of [k, k + n). -/
def memZero (m : List (Nat × Byte)) (k n : Nat) : List (Nat × Byte) :=
  m.filter fun c => decide (c.1 < k) || decide (k + n ≤ c.1)

/-- Copy [src, src + n) to [dst, dst + n). -/
def memCopy (m : List (Nat × Byte)) (src dst n : Nat) : List (Nat × Byte) :=
  (m.filter fun c => decide (src ≤ c.1) && decide (c.1 < src + n)).foldl
    (fun m c => memPut m (dst + (c.1 - src)) c.2) (memZero m dst n)

/-- The canonical form: keys strictly rising, no entry equal to what an unlisted byte reads as. -/
abbrev Memory.wf (m : List (Nat × Byte)) : Bool := tabSorted m && m.all fun c => c.2 != unlistedByte

def State.rd (s : State) (k n : Nat) : Nat := bytesToNat (memGets s.mem k n)
def State.wr (s : State) (k n v : Nat) : State := { s with mem := memPuts s.mem k (natToBytes n v) }

end Sys2Proof.Machine
end

