-- ==== Sys2Proof/WellFormed.lean ====
section
/-!
DEFINITION. What a well-formed instruction is: the register fields of R29 to R31 and the field values that R24, R38, R59 and
R137 allow. The operand lists also say what each instruction reads and writes (R113, R274 and the entries).
-/
namespace Sys2Proof

/-- What a register field names (R29 to R31): a scalar, a scalar pair (127 is the 64-bit zero), a scalar pair that may not be 127,
a vector register, a vector pair, an aligned quad (R193), a predicate. -/
inductive RegClass where
  | scalar | pair | pairNz | vec | vpair | vquad | pred
  deriving DecidableEq, Repr

/-- One register operand of an instruction. -/
structure Operand where
  cls : RegClass
  reg : BitVec 7
  reads : Bool
  writes : Bool
  deriving DecidableEq, Repr

/-- Why an encoding is rejected (R38); every one of them is an ILLEGAL_ENCODING trap. -/
inductive Reject where
  | unlistedMajor | unlistedMinor | mustBeZero | badScalar | badPair | badVectorPair | badQuad | badPredicate
  | badCond | badScope | badRounding | badFlag | badWord | badNumber
  deriving DecidableEq, Repr

/-- The check of one register field (R29 to R31, R193). -/
def Operand.check (o : Operand) : Option Reject :=
  match o.cls with
  | .scalar => if o.reg.toNat < 64 ∨ o.reg.toNat = 127 then none else some .badScalar
  | .pair => if (o.reg.toNat < 64 ∧ o.reg.toNat % 2 = 0) ∨ o.reg.toNat = 127 then none else some .badPair
  | .pairNz => if o.reg.toNat < 64 ∧ o.reg.toNat % 2 = 0 then none else some .badPair
  | .vec => none
  | .vpair => if o.reg.toNat % 2 = 0 then none else some .badVectorPair
  | .vquad => if o.reg.toNat % 4 = 0 then none else some .badQuad
  | .pred => if o.reg.toNat < 48 then none else some .badPredicate

/-! Operands by class and use: R reads, W writes, X reads and writes. -/

def sR (r : BitVec 7) : Operand := ⟨.scalar, r, true, false⟩
def sW (r : BitVec 7) : Operand := ⟨.scalar, r, false, true⟩
def sX (r : BitVec 7) : Operand := ⟨.scalar, r, true, true⟩
def pR (r : BitVec 7) : Operand := ⟨.pair, r, true, false⟩
def pW (r : BitVec 7) : Operand := ⟨.pair, r, false, true⟩
def pX (r : BitVec 7) : Operand := ⟨.pair, r, true, true⟩
def zR (r : BitVec 7) : Operand := ⟨.pairNz, r, true, false⟩
def zW (r : BitVec 7) : Operand := ⟨.pairNz, r, false, true⟩
def zX (r : BitVec 7) : Operand := ⟨.pairNz, r, true, true⟩
def vR (r : BitVec 7) : Operand := ⟨.vec, r, true, false⟩
def vW (r : BitVec 7) : Operand := ⟨.vec, r, false, true⟩
def vX (r : BitVec 7) : Operand := ⟨.vec, r, true, true⟩
def vpR (r : BitVec 7) : Operand := ⟨.vpair, r, true, false⟩
def vpW (r : BitVec 7) : Operand := ⟨.vpair, r, false, true⟩
def vpX (r : BitVec 7) : Operand := ⟨.vpair, r, true, true⟩
def vqR (r : BitVec 7) : Operand := ⟨.vquad, r, true, false⟩
def vqW (r : BitVec 7) : Operand := ⟨.vquad, r, false, true⟩
def vqX (r : BitVec 7) : Operand := ⟨.vquad, r, true, true⟩
def qR (r : BitVec 7) : Operand := ⟨.pred, r, true, false⟩
def qW (r : BitVec 7) : Operand := ⟨.pred, r, false, true⟩
def qX (r : BitVec 7) : Operand := ⟨.pred, r, true, true⟩
/-- A vector field whose lanes the meaning itself says it reads (R105, R272). -/
def vN (r : BitVec 7) : Operand := ⟨.vec, r, false, false⟩

/-- The numbers of the system registers, and those that MTSR writes (R34, R35). -/
def sysListed (n : Nat) : Bool :=
  decide (n ≤ 0x008) || n == 0x010 || n == 0x011 || n == 0x020 || n == 0x021 || (decide (0x030 ≤ n) && decide (n ≤ 0x037)) ||
    n == 0x040 || n == 0x041 || n == 0x050 || n == 0x051 || n == 0x060 || n == 0x061
def sysWritable (n : Nat) : Bool := n == 0x020 || n == 0x021 || n == 0x036 || n == 0x037

/-- What the word checks of R39 need to know of an instruction: its register operands, the verdict on its other fields, whether only
the A-stream may issue it (R18), whether it is a lane instruction, whether a combiner wave may not use it (R232), and whether it encodes
something in a combiner wave only (R234). -/
structure Form where
  ops : List Operand
  bad : Option Reject
  aOnly : Bool
  lane : Bool
  forbidden : Bool
  combOnly : Bool
  deriving DecidableEq, Repr

namespace Form
/-- Wave-level, either stream. -/
def wave (ops : List Operand) : Form := ⟨ops, none, false, false, false, false⟩
/-- Wave-level, A-stream only. -/
def waveA (ops : List Operand) : Form := ⟨ops, none, true, false, false, false⟩
/-- Lane instruction, either stream. -/
def lanes (ops : List Operand) : Form := ⟨ops, none, false, true, false, false⟩
/-- Lane instruction, A-stream only. -/
def lanesA (ops : List Operand) : Form := ⟨ops, none, true, true, false, false⟩
/-- The form with a check of a field that names no register. -/
def need (f : Form) (c : Bool) (e : Reject) : Form := ⟨f.ops, if c then none else some e, f.aOnly, f.lane, f.forbidden, f.combOnly⟩
/-- The form of an instruction that ends a batch with COMB_FORBIDDEN (R232). -/
def noComb (f : Form) : Form := ⟨f.ops, f.bad, f.aOnly, f.lane, true, f.combOnly⟩
/-- The form of an instruction that encodes nothing outside a combiner wave (R234). -/
def onlyComb (f : Form) : Form := ⟨f.ops, f.bad, f.aOnly, f.lane, f.forbidden, true⟩
/-- The first check that fails: ILLEGAL_ENCODING (R38). -/
def check (f : Form) : Option Reject :=
  match f.bad with
  | some e => some e
  | none => f.ops.findSome? Operand.check
end Form

namespace Instr

/-- The form of every instruction (R36, R113, R274 and each entry); a step without a word has no operands. -/
def form (i : Instr) : Form :=
  match i with
  | .nop => .wave []
  | .yield => (.wave [] : Form).noComb
  | .exit => (.wave [] : Form).noComb
  | .tret => (.waveA [] : Form).noComb
  | .roleL => (.waveA [] : Form).noComb
  | .roleS => (.waveA [] : Form).noComb
  | .flusha => (.waveA [] : Form).noComb
  | .br c _ => (.wave [] : Form).need (c.toNat < 15) .badCond
  | .call _ => .wave []
  | .jmpi a => .wave [pR a]
  | .calli a => .wave [pR a]
  | .ret => .wave []
  | .jtab d a b _ => .wave [sR d, vR a, pR b]
  | .fork d _ _ => .wave [qR d]
  | .join _ => .wave []
  | .mpush a => .wave [qR a]
  | .melse => .wave []
  | .mpop => .wave []
  | .mset a => .wave [sR a]
  | .mget d => .wave [sW d]
  | .trap _ => .wave []
  | .waita _ _ => .wave []
  | .waitf _ => (.wave [] : Form).noComb
  | .sleep a => (.wave [zR a] : Form).noComb
  | .mfsr d n => (.wave [sW d] : Form).need (sysListed n.toNat) .badNumber
  | .mtsr a n => ((.wave [sR a] : Form).need (sysWritable n.toNat) .badNumber).noComb
  | .evt a b => .wave [pR a, sR b]
  | .causeSet a => (.wave [pR a] : Form).noComb
  | .causeGet d => .wave [pW d]
  | .trcOn a => (.wave [zR a] : Form).noComb
  | .trcOff => (.wave [] : Form).noComb
  | .sadd d a b => .wave [sW d, sR a, sR b]
  | .ssub d a b => .wave [sW d, sR a, sR b]
  | .sand d a b => .wave [sW d, sR a, sR b]
  | .sor d a b => .wave [sW d, sR a, sR b]
  | .sxor d a b => .wave [sW d, sR a, sR b]
  | .sshl d a b => .wave [sW d, sR a, sR b]
  | .sshr d a b => .wave [sW d, sR a, sR b]
  | .ssar d a b => .wave [sW d, sR a, sR b]
  | .smin d a b => .wave [sW d, sR a, sR b]
  | .smax d a b => .wave [sW d, sR a, sR b]
  | .sminn d a b => .wave [sW d, sR a, sR b]
  | .smaxn d a b => .wave [sW d, sR a, sR b]
  | .smul d a b => .wave [sW d, sR a, sR b]
  | .smulh d a b => .wave [sW d, sR a, sR b]
  | .smulhn d a b => .wave [sW d, sR a, sR b]
  | .sandn d a b => .wave [sW d, sR a, sR b]
  | .saddi d a _ => .wave [sW d, sR a]
  | .sandi d a _ => .wave [sW d, sR a]
  | .sori d a _ => .wave [sW d, sR a]
  | .sxori d a _ => .wave [sW d, sR a]
  | .sshlImm d a _ => .wave [sW d, sR a]
  | .sshrImm d a _ => .wave [sW d, sR a]
  | .ssarImm d a _ => .wave [sW d, sR a]
  | .srot d a _ => .wave [sW d, sR a]
  | .smovi d _ => .wave [sW d]
  | .smovhi d _ => .wave [sX d]
  | .scmp a b => .wave [sR a, sR b]
  | .scmpN a b => .wave [sR a, sR b]
  | .scmpi a _ => .wave [sR a]
  | .scmpiN a _ => .wave [sR a]
  | .saddp d a b p _ => .wave [pW d, pR a, (if p = 1#1 then pR b else sR b)]
  | .ssel d a b c => (.wave [sW d, sR a, sR b] : Form).need (c.toNat < 15) .badCond
  | .smov d a => .wave [sW d, sR a]
  | .snot d a => .wave [sW d, sR a]
  | .sneg d a => .wave [sW d, sR a]
  | .sclz d a => .wave [sW d, sR a]
  | .spopc d a => .wave [sW d, sR a]
  | .sbrev d a => .wave [sW d, sR a]
  | .ssext8 d a => .wave [sW d, sR a]
  | .ssext16 d a => .wave [sW d, sR a]
  | .sdivi d a b => .wave [sW d, sR a, sR b]
  | .sdivn d a b => .wave [sW d, sR a, sR b]
  | .sremi d a b => .wave [sW d, sR a, sR b]
  | .sremn d a b => .wave [sW d, sR a, sR b]
  | .qpush a => (.wave [sR a] : Form).noComb
  | .qpop d => (.wave [sW d] : Form).noComb
  | .qpeek d => (.wave [sW d] : Form).noComb
  | .qlen d => (.wave [sW d] : Form).noComb
  | .vacqB a => (.wave [sR a] : Form).noComb
  | .vacqT d a => (.wave [qW d, sR a] : Form).noComb
  | .vrel a => (.wave [sR a] : Form).noComb
  | .vwin a => (.wave [sR a] : Form).noComb
  | .vregGrant _ => .wave []
  | .vadd d a b => .lanes [vW d, vR a, vR b]
  | .vsub d a b => .lanes [vW d, vR a, vR b]
  | .vand d a b => .lanes [vW d, vR a, vR b]
  | .vor d a b => .lanes [vW d, vR a, vR b]
  | .vxor d a b => .lanes [vW d, vR a, vR b]
  | .vshl d a b => .lanes [vW d, vR a, vR b]
  | .vshr d a b => .lanes [vW d, vR a, vR b]
  | .vsar d a b => .lanes [vW d, vR a, vR b]
  | .vmin d a b => .lanes [vW d, vR a, vR b]
  | .vmax d a b => .lanes [vW d, vR a, vR b]
  | .vminn d a b => .lanes [vW d, vR a, vR b]
  | .vmaxn d a b => .lanes [vW d, vR a, vR b]
  | .vmul d a b => .lanes [vW d, vR a, vR b]
  | .vmulh d a b => .lanes [vW d, vR a, vR b]
  | .vmulhn d a b => .lanes [vW d, vR a, vR b]
  | .vandn d a b => .lanes [vW d, vR a, vR b]
  | .vaddS d a b => .lanes [vW d, vR a, sR b]
  | .vsubS d a b => .lanes [vW d, vR a, sR b]
  | .vandS d a b => .lanes [vW d, vR a, sR b]
  | .vorS d a b => .lanes [vW d, vR a, sR b]
  | .vxorS d a b => .lanes [vW d, vR a, sR b]
  | .vshlS d a b => .lanes [vW d, vR a, sR b]
  | .vshrS d a b => .lanes [vW d, vR a, sR b]
  | .vsarS d a b => .lanes [vW d, vR a, sR b]
  | .vminS d a b => .lanes [vW d, vR a, sR b]
  | .vmaxS d a b => .lanes [vW d, vR a, sR b]
  | .vminnS d a b => .lanes [vW d, vR a, sR b]
  | .vmaxnS d a b => .lanes [vW d, vR a, sR b]
  | .vmulS d a b => .lanes [vW d, vR a, sR b]
  | .vmulhS d a b => .lanes [vW d, vR a, sR b]
  | .vmulhnS d a b => .lanes [vW d, vR a, sR b]
  | .vandnS d a b => .lanes [vW d, vR a, sR b]
  | .vaddi d a _ => .lanes [vW d, vR a]
  | .vandi d a _ => .lanes [vW d, vR a]
  | .vori d a _ => .lanes [vW d, vR a]
  | .vxori d a _ => .lanes [vW d, vR a]
  | .vshlImm d a _ => .lanes [vW d, vR a]
  | .vshrImm d a _ => .lanes [vW d, vR a]
  | .vsarImm d a _ => .lanes [vW d, vR a]
  | .vrot d a _ => .lanes [vW d, vR a]
  | .vmovi d _ => .lanes [vW d]
  | .madloI32 d a b => .lanes [vX d, vR a, vR b]
  | .madhiI32 d a b => .lanes [vX d, vR a, vR b]
  | .madloN32 d a b => .lanes [vX d, vR a, vR b]
  | .madhiN32 d a b => .lanes [vX d, vR a, vR b]
  | .vcmpEq d a b => .lanes [qW d, vR a, vR b]
  | .vcmpNe d a b => .lanes [qW d, vR a, vR b]
  | .vcmpLt d a b => .lanes [qW d, vR a, vR b]
  | .vcmpLe d a b => .lanes [qW d, vR a, vR b]
  | .vcmpGt d a b => .lanes [qW d, vR a, vR b]
  | .vcmpGe d a b => .lanes [qW d, vR a, vR b]
  | .vcmpLtn d a b => .lanes [qW d, vR a, vR b]
  | .vcmpLen d a b => .lanes [qW d, vR a, vR b]
  | .vcmpGtn d a b => .lanes [qW d, vR a, vR b]
  | .vcmpGen d a b => .lanes [qW d, vR a, vR b]
  | .vcmpsEq d a b => .lanes [qW d, vR a, sR b]
  | .vcmpsNe d a b => .lanes [qW d, vR a, sR b]
  | .vcmpsLt d a b => .lanes [qW d, vR a, sR b]
  | .vcmpsLe d a b => .lanes [qW d, vR a, sR b]
  | .vcmpsGt d a b => .lanes [qW d, vR a, sR b]
  | .vcmpsGe d a b => .lanes [qW d, vR a, sR b]
  | .vcmpsLtn d a b => .lanes [qW d, vR a, sR b]
  | .vcmpsLen d a b => .lanes [qW d, vR a, sR b]
  | .vcmpsGtn d a b => .lanes [qW d, vR a, sR b]
  | .vcmpsGen d a b => .lanes [qW d, vR a, sR b]
  | .vsel d a b _ => .lanes [vW d, vR a, vR b]
  | .vmov d a => .lanes [vW d, vR a]
  | .vnot d a => .lanes [vW d, vR a]
  | .vneg d a => .lanes [vW d, vR a]
  | .vabs d a => .lanes [vW d, vR a]
  | .vclz d a => .lanes [vW d, vR a]
  | .vpopc d a => .lanes [vW d, vR a]
  | .vbrev d a => .lanes [vW d, vR a]
  | .vsext8 d a => .lanes [vW d, vR a]
  | .vsext16 d a => .lanes [vW d, vR a]
  | .vzext8 d a => .lanes [vW d, vR a]
  | .vzext16 d a => .lanes [vW d, vR a]
  | .vlane d => .lanes [vW d]
  | .vbfeN d a b => .lanes [vW d, vR a, vR b]
  | .vbfeI d a b => .lanes [vW d, vR a, vR b]
  | .vbfi d a b => .lanes [vX d, vR a, vR b]
  | .vleaN d a b _ => .lanes [vpW d, pR a, vR b]
  | .vleaI d a b _ => .lanes [vpW d, pR a, vR b]
  | .vrand d a b _ => .lanes [vW d, pR a, vR b]
  | .pand d a b => .lanes [qW d, qR a, qR b]
  | .por d a b => .lanes [qW d, qR a, qR b]
  | .pxor d a b => .lanes [qW d, qR a, qR b]
  | .pandn d a b => .lanes [qW d, qR a, qR b]
  | .porn d a b => .lanes [qW d, qR a, qR b]
  | .pnot d a => .lanes [qW d, qR a]
  | .pmov d a => .lanes [qW d, qR a]
  | .pset d => .lanes [qW d]
  | .pclr d => .lanes [qW d]
  | .ptov d a => .lanes [vW d, qR a]
  | .vtop d a => .lanes [qW d, vR a]
  | .fadd d a b => .lanes [vW d, vR a, vR b]
  | .fsub d a b => .lanes [vW d, vR a, vR b]
  | .fmul d a b => .lanes [vW d, vR a, vR b]
  | .fmin d a b => .lanes [vW d, vR a, vR b]
  | .fmax d a b => .lanes [vW d, vR a, vR b]
  | .fcopysign d a b => .lanes [vW d, vR a, vR b]
  | .faddS d a b => .lanes [vW d, vR a, sR b]
  | .fsubS d a b => .lanes [vW d, vR a, sR b]
  | .fmulS d a b => .lanes [vW d, vR a, sR b]
  | .fminS d a b => .lanes [vW d, vR a, sR b]
  | .fmaxS d a b => .lanes [vW d, vR a, sR b]
  | .fcopysignS d a b => .lanes [vW d, vR a, sR b]
  | .ffma d a b _ => .lanes [vX d, vR a, vR b]
  | .ffmaNeg d a b _ => .lanes [vX d, vR a, vR b]
  | .ffmaSub d a b _ => .lanes [vX d, vR a, vR b]
  | .ffmaNegsub d a b _ => .lanes [vX d, vR a, vR b]
  | .ffmas d a b _ => .lanes [vX d, vR a, sR b]
  | .ffmasNeg d a b _ => .lanes [vX d, vR a, sR b]
  | .ffmasSub d a b _ => .lanes [vX d, vR a, sR b]
  | .ffmasNegsub d a b _ => .lanes [vX d, vR a, sR b]
  | .fcmpEq d a b => .lanes [qW d, vR a, vR b]
  | .fcmpNe d a b => .lanes [qW d, vR a, vR b]
  | .fcmpLt d a b => .lanes [qW d, vR a, vR b]
  | .fcmpLe d a b => .lanes [qW d, vR a, vR b]
  | .fcmpGt d a b => .lanes [qW d, vR a, vR b]
  | .fcmpGe d a b => .lanes [qW d, vR a, vR b]
  | .fcmpUnord d a b => .lanes [qW d, vR a, vR b]
  | .fcmpOrd d a b => .lanes [qW d, vR a, vR b]
  | .frcp d a => .lanes [vW d, vR a]
  | .frsq d a => .lanes [vW d, vR a]
  | .fsqrt d a => .lanes [vW d, vR a]
  | .fexp2 d a => .lanes [vW d, vR a]
  | .flog2 d a => .lanes [vW d, vR a]
  | .fsin d a => .lanes [vW d, vR a]
  | .fcos d a => .lanes [vW d, vR a]
  | .ftanh d a => .lanes [vW d, vR a]
  | .fdiv d a b => .lanes [vW d, vR a, vR b]
  | .fcvtBf16F32 d a r => (.lanes [vW d, vR a] : Form).need (r.toNat < 5) .badRounding
  | .fcvtF16F32 d a r => (.lanes [vW d, vR a] : Form).need (r.toNat < 5) .badRounding
  | .fcvtF32Bf16 d a r => (.lanes [vW d, vR a] : Form).need (r.toNat < 5) .badRounding
  | .fcvtF32F16 d a r => (.lanes [vW d, vR a] : Form).need (r.toNat < 5) .badRounding
  | .fcvtE4m3F32 d a r => (.lanes [vW d, vR a] : Form).need (r.toNat < 5) .badRounding
  | .fcvtE5m2F32 d a r => (.lanes [vW d, vR a] : Form).need (r.toNat < 5) .badRounding
  | .fcvtF32E4m3 d a r => (.lanes [vW d, vR a] : Form).need (r.toNat < 5) .badRounding
  | .fcvtF32E5m2 d a r => (.lanes [vW d, vR a] : Form).need (r.toNat < 5) .badRounding
  | .fcvtI32F32 d a r => (.lanes [vW d, vR a] : Form).need (r.toNat < 5) .badRounding
  | .fcvtN32F32 d a r => (.lanes [vW d, vR a] : Form).need (r.toNat < 5) .badRounding
  | .fcvtF32I32 d a r => (.lanes [vW d, vR a] : Form).need (r.toNat < 5) .badRounding
  | .fcvtF32N32 d a r => (.lanes [vW d, vR a] : Form).need (r.toNat < 5) .badRounding
  | .fcvtscE4m3F32 d a b _ => .lanes [vX d, vR a, vN b]
  | .fcvtscE5m2F32 d a b _ => .lanes [vX d, vR a, vN b]
  | .fcvtscF32E4m3 d a b _ => .lanes [vW d, vR a, vN b]
  | .fcvtscF32E5m2 d a b _ => .lanes [vW d, vR a, vN b]
  | .hadd2 d a b _ => .lanes [vW d, vR a, vR b]
  | .hsub2 d a b _ => .lanes [vW d, vR a, vR b]
  | .hmul2 d a b _ => .lanes [vW d, vR a, vR b]
  | .hmin2 d a b _ => .lanes [vW d, vR a, vR b]
  | .hmax2 d a b _ => .lanes [vW d, vR a, vR b]
  | .hfma2 d a b _ => .lanes [vX d, vR a, vR b]
  | .hfma2Neg d a b _ => .lanes [vX d, vR a, vR b]
  | .hfma2Sub d a b _ => .lanes [vX d, vR a, vR b]
  | .hfma2Negsub d a b _ => .lanes [vX d, vR a, vR b]
  | .dot2Bf16 d a b => .lanes [vX d, vR a, vR b]
  | .dot2F16 d a b => .lanes [vX d, vR a, vR b]
  | .dot4E4m3 d a b => .lanes [vX d, vR a, vR b]
  | .dot4E5m2 d a b => .lanes [vX d, vR a, vR b]
  | .dot4I8 d a b => .lanes [vX d, vR a, vR b]
  | .dot4N8 d a b => .lanes [vX d, vR a, vR b]
  | .dot8Cb4 d a b => .lanes [vX d, vR a, vR b]
  | .fclass d a => .lanes [vW d, vR a]
  | .frnd d a r => (.lanes [vW d, vR a] : Form).need (r.toNat < 5) .badRounding
  | .fmovi d _ => .lanes [vW d]
  | .fscaleb d a b => .lanes [vW d, vR a, vR b]
  | .fgetexp d a => .lanes [vW d, vR a]
  | .fgetmant d a => .lanes [vW d, vR a]
  | .shflIdx d a b => .lanes [vW d, vN a, vR b]
  | .shflUp d a b => .lanes [vW d, vN a, vR b]
  | .shflDn d a b => .lanes [vW d, vN a, vR b]
  | .shflXor d a b => .lanes [vW d, vN a, vR b]
  | .shfliIdx d a _ => .lanes [vW d, vN a]
  | .shfliUp d a _ => .lanes [vW d, vN a]
  | .shfliDn d a _ => .lanes [vW d, vN a]
  | .shfliXor d a _ => .lanes [vW d, vN a]
  | .voteAny d a => .lanes [qW d, qR a]
  | .voteAll d a => .lanes [qW d, qR a]
  | .voteBallot d a => .lanes [vW d, qR a]
  | .voteUni d a => .lanes [qW d, vR a]
  | .voteElect d => .lanes [qW d]
  | .reduceAddI32 d a => .lanes [vW d, vR a]
  | .reduceAddF32 d a => .lanes [vW d, vR a]
  | .reduceMinI d a => .lanes [vW d, vR a]
  | .reduceMaxI d a => .lanes [vW d, vR a]
  | .reduceMinN d a => .lanes [vW d, vR a]
  | .reduceMaxN d a => .lanes [vW d, vR a]
  | .reduceAnd d a => .lanes [vW d, vR a]
  | .reduceOr d a => .lanes [vW d, vR a]
  | .reduceXor d a => .lanes [vW d, vR a]
  | .reduceMinF32 d a => .lanes [vW d, vR a]
  | .reduceMaxF32 d a => .lanes [vW d, vR a]
  | .scanAddI32 d a _ => .lanes [vW d, vR a]
  | .scanAddF32 d a _ => .lanes [vW d, vR a]
  | .scanMinI d a _ => .lanes [vW d, vR a]
  | .scanMaxI d a _ => .lanes [vW d, vR a]
  | .scanOr d a _ => .lanes [vW d, vR a]
  | .matchLanes d a => .lanes [vW d, vR a]
  | .rdlane d a b => .lanes [sW d, vN a, sR b]
  | .wrlane d a b => .lanes [vN d, sR a, sR b]
  | .bcast d a b => .lanes [vW d, vN a, sR b]
  | .ldvN8 d a _ _ => .lanesA [vW d, vpR a]
  | .ldvI8 d a _ _ => .lanesA [vW d, vpR a]
  | .ldvN16 d a _ _ => .lanesA [vW d, vpR a]
  | .ldvI16 d a _ _ => .lanesA [vW d, vpR a]
  | .ldv32 d a _ _ => .lanesA [vW d, vpR a]
  | .ldv64 d a _ _ => .lanesA [vpW d, vpR a]
  | .ldv128 d a _ _ => .lanesA [vqW d, vpR a]
  | .stv8 d a k _ => (.lanesA [vR d, vpR a] : Form).need ((k.extractLsb' 0 3).toNat < 6) .badScope
  | .stv16 d a k _ => (.lanesA [vR d, vpR a] : Form).need ((k.extractLsb' 0 3).toNat < 6) .badScope
  | .stv32 d a k _ => (.lanesA [vR d, vpR a] : Form).need ((k.extractLsb' 0 3).toNat < 6) .badScope
  | .stv64 d a k _ => (.lanesA [vpR d, vpR a] : Form).need ((k.extractLsb' 0 3).toNat < 6) .badScope
  | .stv128 d a k _ => (.lanesA [vqR d, vpR a] : Form).need ((k.extractLsb' 0 3).toNat < 6) .badScope
  | .lds32 d a _ _ => .waveA [sW d, pR a]
  | .lds64 d a _ _ => .waveA [pW d, pR a]
  | .sts32 d a k _ => (.waveA [sR d, pR a] : Form).need ((k.extractLsb' 0 3).toNat < 6) .badScope
  | .sts64 d a k _ => (.waveA [pR d, pR a] : Form).need ((k.extractLsb' 0 3).toNat < 6) .badScope
  | .atomAddI32 _ d a b => (.lanesA [vW d, vpR a, vR b] : Form).noComb
  | .atomAddF32 _ d a b => (.lanesA [vW d, vpR a, vR b] : Form).noComb
  | .atomMinI _ d a b => (.lanesA [vW d, vpR a, vR b] : Form).noComb
  | .atomMaxI _ d a b => (.lanesA [vW d, vpR a, vR b] : Form).noComb
  | .atomMinN _ d a b => (.lanesA [vW d, vpR a, vR b] : Form).noComb
  | .atomMaxN _ d a b => (.lanesA [vW d, vpR a, vR b] : Form).noComb
  | .atomAnd _ d a b => (.lanesA [vW d, vpR a, vR b] : Form).noComb
  | .atomOr _ d a b => (.lanesA [vW d, vpR a, vR b] : Form).noComb
  | .atomXor _ d a b => (.lanesA [vW d, vpR a, vR b] : Form).noComb
  | .atomXchg _ d a b => (.lanesA [vW d, vpR a, vR b] : Form).noComb
  | .atomCas _ d a b => (.lanesA [vW d, vpR a, vpR b] : Form).noComb
  | .atomAddI64 _ d a b => (.lanesA [vpW d, vpR a, vpR b] : Form).noComb
  | .atomIncw _ d a b => (.lanesA [vW d, vpR a, vR b] : Form).noComb
  | .atomAddBf16x2 _ d a b => (.lanesA [vW d, vpR a, vR b] : Form).noComb
  | .redAddI32 s a b => ((.lanesA [vpR a, vR b] : Form).need (s.toNat < 6) .badScope : Form).noComb
  | .redAddF32 s a b => ((.lanesA [vpR a, vR b] : Form).need (s.toNat < 6) .badScope : Form).noComb
  | .redMinI s a b => ((.lanesA [vpR a, vR b] : Form).need (s.toNat < 6) .badScope : Form).noComb
  | .redMaxI s a b => ((.lanesA [vpR a, vR b] : Form).need (s.toNat < 6) .badScope : Form).noComb
  | .redMinN s a b => ((.lanesA [vpR a, vR b] : Form).need (s.toNat < 6) .badScope : Form).noComb
  | .redMaxN s a b => ((.lanesA [vpR a, vR b] : Form).need (s.toNat < 6) .badScope : Form).noComb
  | .redAnd s a b => ((.lanesA [vpR a, vR b] : Form).need (s.toNat < 6) .badScope : Form).noComb
  | .redOr s a b => ((.lanesA [vpR a, vR b] : Form).need (s.toNat < 6) .badScope : Form).noComb
  | .redXor s a b => ((.lanesA [vpR a, vR b] : Form).need (s.toNat < 6) .badScope : Form).noComb
  | .redXchg s a b => ((.lanesA [vpR a, vR b] : Form).need (s.toNat < 6) .badScope : Form).noComb
  | .redCas s a b => ((.lanesA [vpR a, vpR b] : Form).need (s.toNat < 6) .badScope : Form).noComb
  | .redAddI64 s a b => ((.lanesA [vpR a, vpR b] : Form).need (s.toNat < 6) .badScope : Form).noComb
  | .redIncw s a b => ((.lanesA [vpR a, vR b] : Form).need (s.toNat < 6) .badScope : Form).noComb
  | .redAddBf16x2 s a b => ((.lanesA [vpR a, vR b] : Form).need (s.toNat < 6) .badScope : Form).noComb
  | .callo d a b => .lanesA [vpW d, pR a, vR b]
  | .fenceAcq s => (.waveA [] : Form).need (s.toNat < 6) .badScope
  | .fenceRel s => (.waveA [] : Form).need (s.toNat < 6) .badScope
  | .fenceAcqrel s => (.waveA [] : Form).need (s.toNat < 6) .badScope
  | .fenceSc s => (.waveA [] : Form).need (s.toNat < 6) .badScope
  | .fenceOpnd s => (.waveA [] : Form).need (s.toNat < 6) .badScope
  | .fenceFlush s => (.waveA [] : Form).need (s.toNat < 6) .badScope
  | .fenceEng s => (.waveA [] : Form).need (s.toNat < 6) .badScope
  | .pft a _ _ => .lanesA [vpR a]
  | .copy d a b => (.waveA [pW d, pR a, pR b] : Form).noComb
  | .copyNp d a b => (.waveA [pW d, pR a, pR b] : Form).noComb
  | .gpool d a b => (.waveA [pW d, pR a, pR b] : Form).noComb
  | .coll d a b => (.waveA [pW d, zR a, zR b] : Form).noComb
  | .barInit a b => (.waveA [zR a, sR b] : Form).noComb
  | .barArrive d a => (.waveA [sW d, zR a] : Form).noComb
  | .barWait a b => (.waveA [zR a, sR b] : Form).noComb
  | .barArrwait d a => (.waveA [sW d, zR a] : Form).noComb
  | .barExpect a b => (.waveA [zR a, sR b] : Form).noComb
  | .barTrywait d a b => (.waveA [qW d, zR a, sR b] : Form).noComb
  | .barWaitp a b => (.waveA [zR a, sR b] : Form).noComb
  | .barDrop d a => (.waveA [sW d, zR a] : Form).noComb
  | .semInit a b => (.waveA [zR a, sR b] : Form).noComb
  | .semP a => (.waveA [zR a] : Form).noComb
  | .semV a => (.waveA [zR a] : Form).noComb
  | .semTryp d a => (.waveA [qW d, zR a] : Form).noComb
  | .spawn a => (.waveA [zR a] : Form).noComb
  | .jdec d a => (.waveA [sW d, zR a] : Form).noComb
  | .falloc d a b => (.waveA [pW d, pR a, qW b] : Form).noComb
  | .ffree a => (.waveA [pR a] : Form).noComb
  | .fquota d a => (.waveA [pW d, pR a] : Form).noComb
  | .creply b => (.waveA [vN b] : Form).onlyComb
  | .cdone => (.waveA [] : Form).onlyComb
  | .cabort a => (.waveA [sR a] : Form).onlyComb
  | .mloopBf16 d a b _ _ _ => (.wave [sR d, pR a, sR b] : Form).noComb
  | .mloopF16 d a b _ _ _ => (.wave [sR d, pR a, sR b] : Form).noComb
  | .mloopE4m3 d a b _ _ _ _ => (.wave [sR d, pR a, sR b] : Form).noComb
  | .mloopE5m2 d a b _ _ _ _ => (.wave [sR d, pR a, sR b] : Form).noComb
  | .mloopI8 d a b _ _ _ => (.wave [sR d, pR a, sR b] : Form).noComb
  | .mloopCb4 d a b _ _ _ _ => (.wave [sR d, pR a, sR b] : Form).noComb
  | .mloopCb4bf d a b _ _ _ _ => (.wave [sR d, pR a, sR b] : Form).noComb
  | .mzero d => (.wave [sR d] : Form).noComb
  | .mcb _ a => (.waveA [pR a] : Form).noComb
  | .mstat d w _ => ((.wave [sW d] : Form).need (w.toNat < 7) .badWord : Form).noComb
  | .mdrainStoreF32 d a _ => (.waveA [sR d, pR a] : Form).noComb
  | .mdrainStoreBf16 d a _ => (.waveA [sR d, pR a] : Form).noComb
  | .mdrainStoreE4m3 d a _ => (.waveA [sR d, pR a] : Form).noComb
  | .mdrainAddF32 d a _ => (.waveA [sR d, pR a] : Form).noComb
  | .mdrainAddOrdered d a _ => (.waveA [sR d, pR a] : Form).noComb
  | .msave a => (.waveA [pR a] : Form).noComb
  | .mrestore a => (.waveA [pR a] : Form).noComb
  | .clauseHeader _ x y _ => (.wave [] : Form).need ((x.toNat < 12 ∨ x.toNat = 15) ∧ (y.toNat < 12 ∨ y.toNat = 15)) .badFlag
  | .streamAges _ _ => .wave []
  | .longLatencyWrite _ _ => .wave []
  | .loadLand _ => .wave []
  | .loadError _ => .wave []
  | .deferredTrap _ => .wave []
  | .homeUnitRequest _ => .wave []
  | .spillFreed _ => .wave []
  | .barrierHomeOp _ => .wave []
  | .flipWake _ _ => .wave []
  | .semHomeOp _ => .wave []
  | .jdecHomeOp _ => .wave []
  | .homeReplyArrival _ => .wave []
  | .promisePass _ => .wave []
  | .promiseRevise _ => .wave []
  | .sleepWake _ _ => .wave []
  | .matrixClaimPass _ => .wave []
  | .engineEntryStart _ => .wave []
  | .mloopKstepEnd _ => .wave []
  | .engineEntryComplete _ => .wave []
  | .drainTicketRead _ => .wave []
  | .copyAccept _ => .wave []
  | .gpoolAccept _ => .wave []
  | .engineLinePerformed _ _ => .wave []
  | .collAccept _ => .wave []
  | .collDataArrival _ => .wave []
  | .collAck _ => .wave []
  | .collEndMessage _ => .wave []
  | .curfewExpiry _ => .wave []
  | .curfewProbeReply _ => .wave []
  | .curfewProbeTimeout _ => .wave []
  | .calloRequestArrival _ => .wave []
  | .batchForm _ => .wave []
  | .calloReplyLand _ => .wave []
  | .detEpochApply _ => .wave []
  | .doorbell _ => .wave []
  | .blockDispatch _ => .wave []
  | .recordLift _ => .wave []
  | .reservationWait _ => .wave []
  | .preemptTrigger _ => .wave []
  | .preemptSave _ => .wave []
  | .preemptRestore _ => .wave []
  | .blockLeave _ => .wave []
  | .spawnRingCopy => .wave []
  | .taskRetire _ => .wave []
  | .taskAbort _ => .wave []
  | .pageWalkDone _ => .wave []
  | .faultRecordWrite => .wave []
  | .faultServiceDuty _ => .wave []
  | .migrationDuty _ _ _ => .wave []
  | .trnInvalAll => .wave []
  | .trnInvalTenant _ => .wave []
  | .trnInvalRange _ _ _ => .wave []
  | .invalidationDone => .wave []
  | .faultRingHead _ => .wave []
  | .replayToken _ => .wave []
  | .replayPage _ _ => .wave []
  | .replayTenant _ => .wave []
  | .replayFail _ _ => .wave []
  | .keyInstall => .wave []
  | .keyRetire => .wave []
  | .frameBind => .wave []
  | .frameUnbind => .wave []
  | .rawcopy => .wave []
  | .avquotaWrite _ => .wave []
  | .snapshotStart _ => .wave []
  | .snapshotAbort => .wave []
  | .snapshotStageDone _ => .wave []
  | .snapshotDrainDone => .wave []
  | .groupReload _ => .wave []
  | .groupRebuild _ => .wave []
  | .rebuildListArrival _ => .wave []
  | .rebuildAckTimeout _ => .wave []
  | .waitSnapshot _ => .wave []
  | .waitGather _ => .wave []
  | .gatherDeviceTimeout _ => .wave []
  | .curfewRingHead _ => .wave []
  | .errorLogHead _ _ => .wave []
  | .hostRingHead _ => .wave []
  | .errorInjectArm _ => .wave []
  | .errorReport _ _ _ _ => .wave []
  | .eventHandoff => .wave []
  | .duskDrain _ => .wave []
  | .traceDrainCopy => .wave []
  | .traceChunkWrite _ _ => .wave []
  | .flitReceive _ _ _ _ => .wave []
  | .nakReceive _ _ => .wave []
  | .laneFail _ _ => .wave []
  | .linkTrainDone _ => .wave []
  | .linkTrainTimeout _ => .wave []
  | .linkCmd16 _ _ => .wave []
  | .linkCmdLow _ _ => .wave []
  | .linkCmdHigh _ _ => .wave []
  | .linkKeyAgree _ => .wave []
  | .linkRekey _ => .wave []
  | .fabricRequestArrival => .wave []
  | .fabricReplyArrival => .wave []
  | .busyResend _ => .wave []
  | .e2eTimerExpiry _ => .wave []
  | .filterKeyExpire => .wave []
  | .planeMapWrite _ => .wave []
  | .mapFenceDone => .wave []
  | .planeDead _ => .wave []
  | .ptpMessage _ _ _ => .wave []
  | .hostBar2PaRequest _ _ _ _ _ => .wave []
  | .hostBar2PasidRequest _ _ _ _ _ _ => .wave []
  | .hostAtomicop _ _ _ _ _ _ _ => .wave []
  | .hostEarlyAccess _ _ => .wave []
  | .attestationRequest _ _ _ _ => .wave []
  | .ideTlpFail _ _ => .wave []
  | .ideKmMessage _ _ => .wave []
  | .powerOn _ => .wave []
  | .warmReset _ => .wave []
  | .firmwareReload _ => .wave []
  | .flrH0 => .wave []
  | .flrH1 => .wave []
  | .thermalTrip _ => .wave []
  | .junctionThrottle _ _ _ => .wave []
  | .powerCapAdjust _ _ => .wave []
  | .devnoWrite _ => .wave []
  | .recoveryGo _ => .wave []
  | .registerWrite _ _ _ _ => .wave []
  | .powerRemoval => .wave []
  | .throttleEnd _ _ => .wave []
  | .coreCycles _ => .wave []

/-- The first check that an instruction fails (R38). -/
def check (i : Instr) : Option Reject := i.form.check

/-- A well-formed instruction passes every check. -/
abbrev wellFormed (i : Instr) : Prop := i.check = none

/-- Does the step have an instruction word? -/
def hasWord (i : Instr) : Bool :=
  match i with
  | .nop => true
  | .yield => true
  | .exit => true
  | .tret => true
  | .roleL => true
  | .roleS => true
  | .flusha => true
  | .br _ _ => true
  | .call _ => true
  | .jmpi _ => true
  | .calli _ => true
  | .ret => true
  | .jtab _ _ _ _ => true
  | .fork _ _ _ => true
  | .join _ => true
  | .mpush _ => true
  | .melse => true
  | .mpop => true
  | .mset _ => true
  | .mget _ => true
  | .trap _ => true
  | .waita _ _ => true
  | .waitf _ => true
  | .sleep _ => true
  | .mfsr _ _ => true
  | .mtsr _ _ => true
  | .evt _ _ => true
  | .causeSet _ => true
  | .causeGet _ => true
  | .trcOn _ => true
  | .trcOff => true
  | .sadd _ _ _ => true
  | .ssub _ _ _ => true
  | .sand _ _ _ => true
  | .sor _ _ _ => true
  | .sxor _ _ _ => true
  | .sshl _ _ _ => true
  | .sshr _ _ _ => true
  | .ssar _ _ _ => true
  | .smin _ _ _ => true
  | .smax _ _ _ => true
  | .sminn _ _ _ => true
  | .smaxn _ _ _ => true
  | .smul _ _ _ => true
  | .smulh _ _ _ => true
  | .smulhn _ _ _ => true
  | .sandn _ _ _ => true
  | .saddi _ _ _ => true
  | .sandi _ _ _ => true
  | .sori _ _ _ => true
  | .sxori _ _ _ => true
  | .sshlImm _ _ _ => true
  | .sshrImm _ _ _ => true
  | .ssarImm _ _ _ => true
  | .srot _ _ _ => true
  | .smovi _ _ => true
  | .smovhi _ _ => true
  | .scmp _ _ => true
  | .scmpN _ _ => true
  | .scmpi _ _ => true
  | .scmpiN _ _ => true
  | .saddp _ _ _ _ _ => true
  | .ssel _ _ _ _ => true
  | .smov _ _ => true
  | .snot _ _ => true
  | .sneg _ _ => true
  | .sclz _ _ => true
  | .spopc _ _ => true
  | .sbrev _ _ => true
  | .ssext8 _ _ => true
  | .ssext16 _ _ => true
  | .sdivi _ _ _ => true
  | .sdivn _ _ _ => true
  | .sremi _ _ _ => true
  | .sremn _ _ _ => true
  | .qpush _ => true
  | .qpop _ => true
  | .qpeek _ => true
  | .qlen _ => true
  | .vacqB _ => true
  | .vacqT _ _ => true
  | .vrel _ => true
  | .vwin _ => true
  | .vregGrant _ => false
  | .vadd _ _ _ => true
  | .vsub _ _ _ => true
  | .vand _ _ _ => true
  | .vor _ _ _ => true
  | .vxor _ _ _ => true
  | .vshl _ _ _ => true
  | .vshr _ _ _ => true
  | .vsar _ _ _ => true
  | .vmin _ _ _ => true
  | .vmax _ _ _ => true
  | .vminn _ _ _ => true
  | .vmaxn _ _ _ => true
  | .vmul _ _ _ => true
  | .vmulh _ _ _ => true
  | .vmulhn _ _ _ => true
  | .vandn _ _ _ => true
  | .vaddS _ _ _ => true
  | .vsubS _ _ _ => true
  | .vandS _ _ _ => true
  | .vorS _ _ _ => true
  | .vxorS _ _ _ => true
  | .vshlS _ _ _ => true
  | .vshrS _ _ _ => true
  | .vsarS _ _ _ => true
  | .vminS _ _ _ => true
  | .vmaxS _ _ _ => true
  | .vminnS _ _ _ => true
  | .vmaxnS _ _ _ => true
  | .vmulS _ _ _ => true
  | .vmulhS _ _ _ => true
  | .vmulhnS _ _ _ => true
  | .vandnS _ _ _ => true
  | .vaddi _ _ _ => true
  | .vandi _ _ _ => true
  | .vori _ _ _ => true
  | .vxori _ _ _ => true
  | .vshlImm _ _ _ => true
  | .vshrImm _ _ _ => true
  | .vsarImm _ _ _ => true
  | .vrot _ _ _ => true
  | .vmovi _ _ => true
  | .madloI32 _ _ _ => true
  | .madhiI32 _ _ _ => true
  | .madloN32 _ _ _ => true
  | .madhiN32 _ _ _ => true
  | .vcmpEq _ _ _ => true
  | .vcmpNe _ _ _ => true
  | .vcmpLt _ _ _ => true
  | .vcmpLe _ _ _ => true
  | .vcmpGt _ _ _ => true
  | .vcmpGe _ _ _ => true
  | .vcmpLtn _ _ _ => true
  | .vcmpLen _ _ _ => true
  | .vcmpGtn _ _ _ => true
  | .vcmpGen _ _ _ => true
  | .vcmpsEq _ _ _ => true
  | .vcmpsNe _ _ _ => true
  | .vcmpsLt _ _ _ => true
  | .vcmpsLe _ _ _ => true
  | .vcmpsGt _ _ _ => true
  | .vcmpsGe _ _ _ => true
  | .vcmpsLtn _ _ _ => true
  | .vcmpsLen _ _ _ => true
  | .vcmpsGtn _ _ _ => true
  | .vcmpsGen _ _ _ => true
  | .vsel _ _ _ _ => true
  | .vmov _ _ => true
  | .vnot _ _ => true
  | .vneg _ _ => true
  | .vabs _ _ => true
  | .vclz _ _ => true
  | .vpopc _ _ => true
  | .vbrev _ _ => true
  | .vsext8 _ _ => true
  | .vsext16 _ _ => true
  | .vzext8 _ _ => true
  | .vzext16 _ _ => true
  | .vlane _ => true
  | .vbfeN _ _ _ => true
  | .vbfeI _ _ _ => true
  | .vbfi _ _ _ => true
  | .vleaN _ _ _ _ => true
  | .vleaI _ _ _ _ => true
  | .vrand _ _ _ _ => true
  | .pand _ _ _ => true
  | .por _ _ _ => true
  | .pxor _ _ _ => true
  | .pandn _ _ _ => true
  | .porn _ _ _ => true
  | .pnot _ _ => true
  | .pmov _ _ => true
  | .pset _ => true
  | .pclr _ => true
  | .ptov _ _ => true
  | .vtop _ _ => true
  | .fadd _ _ _ => true
  | .fsub _ _ _ => true
  | .fmul _ _ _ => true
  | .fmin _ _ _ => true
  | .fmax _ _ _ => true
  | .fcopysign _ _ _ => true
  | .faddS _ _ _ => true
  | .fsubS _ _ _ => true
  | .fmulS _ _ _ => true
  | .fminS _ _ _ => true
  | .fmaxS _ _ _ => true
  | .fcopysignS _ _ _ => true
  | .ffma _ _ _ _ => true
  | .ffmaNeg _ _ _ _ => true
  | .ffmaSub _ _ _ _ => true
  | .ffmaNegsub _ _ _ _ => true
  | .ffmas _ _ _ _ => true
  | .ffmasNeg _ _ _ _ => true
  | .ffmasSub _ _ _ _ => true
  | .ffmasNegsub _ _ _ _ => true
  | .fcmpEq _ _ _ => true
  | .fcmpNe _ _ _ => true
  | .fcmpLt _ _ _ => true
  | .fcmpLe _ _ _ => true
  | .fcmpGt _ _ _ => true
  | .fcmpGe _ _ _ => true
  | .fcmpUnord _ _ _ => true
  | .fcmpOrd _ _ _ => true
  | .frcp _ _ => true
  | .frsq _ _ => true
  | .fsqrt _ _ => true
  | .fexp2 _ _ => true
  | .flog2 _ _ => true
  | .fsin _ _ => true
  | .fcos _ _ => true
  | .ftanh _ _ => true
  | .fdiv _ _ _ => true
  | .fcvtBf16F32 _ _ _ => true
  | .fcvtF16F32 _ _ _ => true
  | .fcvtF32Bf16 _ _ _ => true
  | .fcvtF32F16 _ _ _ => true
  | .fcvtE4m3F32 _ _ _ => true
  | .fcvtE5m2F32 _ _ _ => true
  | .fcvtF32E4m3 _ _ _ => true
  | .fcvtF32E5m2 _ _ _ => true
  | .fcvtI32F32 _ _ _ => true
  | .fcvtN32F32 _ _ _ => true
  | .fcvtF32I32 _ _ _ => true
  | .fcvtF32N32 _ _ _ => true
  | .fcvtscE4m3F32 _ _ _ _ => true
  | .fcvtscE5m2F32 _ _ _ _ => true
  | .fcvtscF32E4m3 _ _ _ _ => true
  | .fcvtscF32E5m2 _ _ _ _ => true
  | .hadd2 _ _ _ _ => true
  | .hsub2 _ _ _ _ => true
  | .hmul2 _ _ _ _ => true
  | .hmin2 _ _ _ _ => true
  | .hmax2 _ _ _ _ => true
  | .hfma2 _ _ _ _ => true
  | .hfma2Neg _ _ _ _ => true
  | .hfma2Sub _ _ _ _ => true
  | .hfma2Negsub _ _ _ _ => true
  | .dot2Bf16 _ _ _ => true
  | .dot2F16 _ _ _ => true
  | .dot4E4m3 _ _ _ => true
  | .dot4E5m2 _ _ _ => true
  | .dot4I8 _ _ _ => true
  | .dot4N8 _ _ _ => true
  | .dot8Cb4 _ _ _ => true
  | .fclass _ _ => true
  | .frnd _ _ _ => true
  | .fmovi _ _ => true
  | .fscaleb _ _ _ => true
  | .fgetexp _ _ => true
  | .fgetmant _ _ => true
  | .shflIdx _ _ _ => true
  | .shflUp _ _ _ => true
  | .shflDn _ _ _ => true
  | .shflXor _ _ _ => true
  | .shfliIdx _ _ _ => true
  | .shfliUp _ _ _ => true
  | .shfliDn _ _ _ => true
  | .shfliXor _ _ _ => true
  | .voteAny _ _ => true
  | .voteAll _ _ => true
  | .voteBallot _ _ => true
  | .voteUni _ _ => true
  | .voteElect _ => true
  | .reduceAddI32 _ _ => true
  | .reduceAddF32 _ _ => true
  | .reduceMinI _ _ => true
  | .reduceMaxI _ _ => true
  | .reduceMinN _ _ => true
  | .reduceMaxN _ _ => true
  | .reduceAnd _ _ => true
  | .reduceOr _ _ => true
  | .reduceXor _ _ => true
  | .reduceMinF32 _ _ => true
  | .reduceMaxF32 _ _ => true
  | .scanAddI32 _ _ _ => true
  | .scanAddF32 _ _ _ => true
  | .scanMinI _ _ _ => true
  | .scanMaxI _ _ _ => true
  | .scanOr _ _ _ => true
  | .matchLanes _ _ => true
  | .rdlane _ _ _ => true
  | .wrlane _ _ _ => true
  | .bcast _ _ _ => true
  | .ldvN8 _ _ _ _ => true
  | .ldvI8 _ _ _ _ => true
  | .ldvN16 _ _ _ _ => true
  | .ldvI16 _ _ _ _ => true
  | .ldv32 _ _ _ _ => true
  | .ldv64 _ _ _ _ => true
  | .ldv128 _ _ _ _ => true
  | .stv8 _ _ _ _ => true
  | .stv16 _ _ _ _ => true
  | .stv32 _ _ _ _ => true
  | .stv64 _ _ _ _ => true
  | .stv128 _ _ _ _ => true
  | .lds32 _ _ _ _ => true
  | .lds64 _ _ _ _ => true
  | .sts32 _ _ _ _ => true
  | .sts64 _ _ _ _ => true
  | .atomAddI32 _ _ _ _ => true
  | .atomAddF32 _ _ _ _ => true
  | .atomMinI _ _ _ _ => true
  | .atomMaxI _ _ _ _ => true
  | .atomMinN _ _ _ _ => true
  | .atomMaxN _ _ _ _ => true
  | .atomAnd _ _ _ _ => true
  | .atomOr _ _ _ _ => true
  | .atomXor _ _ _ _ => true
  | .atomXchg _ _ _ _ => true
  | .atomCas _ _ _ _ => true
  | .atomAddI64 _ _ _ _ => true
  | .atomIncw _ _ _ _ => true
  | .atomAddBf16x2 _ _ _ _ => true
  | .redAddI32 _ _ _ => true
  | .redAddF32 _ _ _ => true
  | .redMinI _ _ _ => true
  | .redMaxI _ _ _ => true
  | .redMinN _ _ _ => true
  | .redMaxN _ _ _ => true
  | .redAnd _ _ _ => true
  | .redOr _ _ _ => true
  | .redXor _ _ _ => true
  | .redXchg _ _ _ => true
  | .redCas _ _ _ => true
  | .redAddI64 _ _ _ => true
  | .redIncw _ _ _ => true
  | .redAddBf16x2 _ _ _ => true
  | .callo _ _ _ => true
  | .fenceAcq _ => true
  | .fenceRel _ => true
  | .fenceAcqrel _ => true
  | .fenceSc _ => true
  | .fenceOpnd _ => true
  | .fenceFlush _ => true
  | .fenceEng _ => true
  | .pft _ _ _ => true
  | .copy _ _ _ => true
  | .copyNp _ _ _ => true
  | .gpool _ _ _ => true
  | .coll _ _ _ => true
  | .barInit _ _ => true
  | .barArrive _ _ => true
  | .barWait _ _ => true
  | .barArrwait _ _ => true
  | .barExpect _ _ => true
  | .barTrywait _ _ _ => true
  | .barWaitp _ _ => true
  | .barDrop _ _ => true
  | .semInit _ _ => true
  | .semP _ => true
  | .semV _ => true
  | .semTryp _ _ => true
  | .spawn _ => true
  | .jdec _ _ => true
  | .falloc _ _ _ => true
  | .ffree _ => true
  | .fquota _ _ => true
  | .creply _ => true
  | .cdone => true
  | .cabort _ => true
  | .mloopBf16 _ _ _ _ _ _ => true
  | .mloopF16 _ _ _ _ _ _ => true
  | .mloopE4m3 _ _ _ _ _ _ _ => true
  | .mloopE5m2 _ _ _ _ _ _ _ => true
  | .mloopI8 _ _ _ _ _ _ => true
  | .mloopCb4 _ _ _ _ _ _ _ => true
  | .mloopCb4bf _ _ _ _ _ _ _ => true
  | .mzero _ => true
  | .mcb _ _ => true
  | .mstat _ _ _ => true
  | .mdrainStoreF32 _ _ _ => true
  | .mdrainStoreBf16 _ _ _ => true
  | .mdrainStoreE4m3 _ _ _ => true
  | .mdrainAddF32 _ _ _ => true
  | .mdrainAddOrdered _ _ _ => true
  | .msave _ => true
  | .mrestore _ => true
  | .clauseHeader _ _ _ _ => true
  | .streamAges _ _ => false
  | .longLatencyWrite _ _ => false
  | .loadLand _ => false
  | .loadError _ => false
  | .deferredTrap _ => false
  | .homeUnitRequest _ => false
  | .spillFreed _ => false
  | .barrierHomeOp _ => false
  | .flipWake _ _ => false
  | .semHomeOp _ => false
  | .jdecHomeOp _ => false
  | .homeReplyArrival _ => false
  | .promisePass _ => false
  | .promiseRevise _ => false
  | .sleepWake _ _ => false
  | .matrixClaimPass _ => false
  | .engineEntryStart _ => false
  | .mloopKstepEnd _ => false
  | .engineEntryComplete _ => false
  | .drainTicketRead _ => false
  | .copyAccept _ => false
  | .gpoolAccept _ => false
  | .engineLinePerformed _ _ => false
  | .collAccept _ => false
  | .collDataArrival _ => false
  | .collAck _ => false
  | .collEndMessage _ => false
  | .curfewExpiry _ => false
  | .curfewProbeReply _ => false
  | .curfewProbeTimeout _ => false
  | .calloRequestArrival _ => false
  | .batchForm _ => false
  | .calloReplyLand _ => false
  | .detEpochApply _ => false
  | .doorbell _ => false
  | .blockDispatch _ => false
  | .recordLift _ => false
  | .reservationWait _ => false
  | .preemptTrigger _ => false
  | .preemptSave _ => false
  | .preemptRestore _ => false
  | .blockLeave _ => false
  | .spawnRingCopy => false
  | .taskRetire _ => false
  | .taskAbort _ => false
  | .pageWalkDone _ => false
  | .faultRecordWrite => false
  | .faultServiceDuty _ => false
  | .migrationDuty _ _ _ => false
  | .trnInvalAll => false
  | .trnInvalTenant _ => false
  | .trnInvalRange _ _ _ => false
  | .invalidationDone => false
  | .faultRingHead _ => false
  | .replayToken _ => false
  | .replayPage _ _ => false
  | .replayTenant _ => false
  | .replayFail _ _ => false
  | .keyInstall => false
  | .keyRetire => false
  | .frameBind => false
  | .frameUnbind => false
  | .rawcopy => false
  | .avquotaWrite _ => false
  | .snapshotStart _ => false
  | .snapshotAbort => false
  | .snapshotStageDone _ => false
  | .snapshotDrainDone => false
  | .groupReload _ => false
  | .groupRebuild _ => false
  | .rebuildListArrival _ => false
  | .rebuildAckTimeout _ => false
  | .waitSnapshot _ => false
  | .waitGather _ => false
  | .gatherDeviceTimeout _ => false
  | .curfewRingHead _ => false
  | .errorLogHead _ _ => false
  | .hostRingHead _ => false
  | .errorInjectArm _ => false
  | .errorReport _ _ _ _ => false
  | .eventHandoff => false
  | .duskDrain _ => false
  | .traceDrainCopy => false
  | .traceChunkWrite _ _ => false
  | .flitReceive _ _ _ _ => false
  | .nakReceive _ _ => false
  | .laneFail _ _ => false
  | .linkTrainDone _ => false
  | .linkTrainTimeout _ => false
  | .linkCmd16 _ _ => false
  | .linkCmdLow _ _ => false
  | .linkCmdHigh _ _ => false
  | .linkKeyAgree _ => false
  | .linkRekey _ => false
  | .fabricRequestArrival => false
  | .fabricReplyArrival => false
  | .busyResend _ => false
  | .e2eTimerExpiry _ => false
  | .filterKeyExpire => false
  | .planeMapWrite _ => false
  | .mapFenceDone => false
  | .planeDead _ => false
  | .ptpMessage _ _ _ => false
  | .hostBar2PaRequest _ _ _ _ _ => false
  | .hostBar2PasidRequest _ _ _ _ _ _ => false
  | .hostAtomicop _ _ _ _ _ _ _ => false
  | .hostEarlyAccess _ _ => false
  | .attestationRequest _ _ _ _ => false
  | .ideTlpFail _ _ => false
  | .ideKmMessage _ _ => false
  | .powerOn _ => false
  | .warmReset _ => false
  | .firmwareReload _ => false
  | .flrH0 => false
  | .flrH1 => false
  | .thermalTrip _ => false
  | .junctionThrottle _ _ _ => false
  | .powerCapAdjust _ _ => false
  | .devnoWrite _ => false
  | .recoveryGo _ => false
  | .registerWrite _ _ _ _ => false
  | .powerRemoval => false
  | .throttleEnd _ _ => false
  | .coreCycles _ => false

end Instr
end Sys2Proof
end

