-- ==== Sys2Proof/Machine/Ops.lean ====
section
/-!
DEFINITION. The named operations that the meanings share: cores, waves, registers, events, identifiers, the branch trace, taking a trap
(spec/18_errors_and_traps.md, R414 to R418) and issuing a word under the checks of R39.
-/
namespace Sys2Proof.Machine

abbrev Out := Host.Outcome State Fault Refusal

/-! ## Codes (R50) -/

def cIllegal : Nat := 0x01
def cStreamClass : Nat := 0x02
def cRegWindow : Nat := 0x03
def cVacqLimit : Nat := 0x04
def cClauseForm : Nat := 0x05
def cMisaligned : Nat := 0x06
def cJtabBound : Nat := 0x07
def cStackLimit : Nat := 0x08
def cPromiseMissed : Nat := 0x0A
def cTranslation : Nat := 0x10
def cPermission : Nat := 0x11
def cDiscardedWrite : Nat := 0x12
def cKindConflict : Nat := 0x13
def cIntegrity : Nat := 0x18
def cPoison : Nat := 0x19
def cRfUncorrectable : Nat := 0x1A
def cPlazaUncorrectable : Nat := 0x1B
def cAvenueLost : Nat := 0x20
def cAvenueQuota : Nat := 0x21
def cCombinerFault : Nat := 0x22
def cObjectPoisoned : Nat := 0x23
def cGroupStale : Nat := 0x24
def cCurfew : Nat := 0x25
def cNestedCallo : Nat := 0x26
def cDetOverflow : Nat := 0x34
def cAvRequest : Nat := 0x35
def cCombDesc : Nat := 0x36
def cCombForbidden : Nat := 0x37
def cCombLimit : Nat := 0x3C
def cCombBuffer : Nat := 0x3D

/-! ## Cores and waves -/

/-- A core that nothing has touched is as after reset. -/
def State.core (s : State) (c : Nat) : CoreSt := tabGetD s.cores c CoreSt.reset
def State.setCore (s : State) (c : Nat) (x : CoreSt) : State := { s with cores := tabPut s.cores c x }
def State.setWave (s : State) (k : Nat) (w : Wave) : State := { s with waves := tabPut s.waves k w }
def State.wave? (s : State) (k : Nat) : Option Wave := tabGet? s.waves k
def State.updWave (s : State) (k : Nat) (f : Wave → Wave) : State := { s with waves := tabUpd s.waves k f }

/-- Wave key: core × 48 + slot (R17). -/
def coreOf (k : Nat) : Nat := k / 48
def slotOf (k : Nat) : Nat := k % 48
/-- Die and quad of a core (R9). -/
def dieOf (c : Nat) : Nat := c / 80
def quadOf (c : Nat) : Nat := c / 4

def Wave.stream (w : Wave) (cs : Bool) : Stream := if cs then w.c else w.a
def Wave.setStream (w : Wave) (cs : Bool) (st : Stream) : Wave := if cs then { w with c := st } else { w with a := st }
def Wave.updStream (w : Wave) (cs : Bool) (f : Stream → Stream) : Wave := w.setStream cs (f (w.stream cs))

/-! ## Events and identifiers (R371, R374) -/

/-- Source numbers (R373): class × 4,096 + number within the class. -/
def srcCore (c : Nat) : Nat := c
def srcOf (cls n : Nat) : Nat := cls * 4096 + n

/-- LOCK of EVR_TIMECTL (R370). -/
def State.locked (s : State) : Bool := s.evr.timeCtl.getLsbD 2

/-- Does this CNT_SEL count the kind (R382)? -/
def selects (sel : Word) (kind : Nat) : Bool := sel.getLsbD 31 && sel.toNat / 65536 % 4096 == kind

/-- Does the SOURCE field of a die counter match (R382)? -/
def selectsSource (sel : Word) (source : Nat) : Bool :=
  sel.toNat % 65536 == source || (sel.toNat % 4096 == 0xFFF && sel.toNat / 4096 % 16 == source / 4096)

/-- Put an event on its way to the hub. -/
def State.push (s : State) (e : EvRec) : State := { s with evq := s.evq ++ [{ e with unlocked := !s.locked }] }

/-- COUNT wraps to 0 past 2^48 − 1 (R382): the new value, and whether it wrapped. -/
def bump (v : DWord) : DWord × Bool := if v.toNat % 2 ^ 48 = 2 ^ 48 - 1 then (0#64, true) else (v + 1#64, false)

/-- The place of a counter in the record of the cycle's occurrences: a core's 8, then the dies'. -/
def coreCounter (core i : Nat) : Nat := 8 * core + i
def dieCounter (i : Nat) : Nat := 4096 + i

/-- One more occurrence of a counter in this cycle. -/
def State.tallied (s : State) (i : Nat) : State :=
  { s with evr := { s.evr with counted := tabPut s.evr.counted i (tabGetD s.evr.counted i 0 + 1) } }

/-- A COUNTER_OVF record, which is counted in its turn (R382). -/
def State.overflow (s : State) (wrapped : Bool) (source number : Nat) (again : State → Nat → Nat → State) : State :=
  if wrapped then again (s.push ⟨s.gtc, source, 0x004, 0, 0#64, BitVec.ofNat 64 number, false⟩) source 0x004 else s

/-- Count one occurrence of a kind (R382): the source's core, for classes 0 and 9, and every die counter that matches. A counter's overflow is an
occurrence too; no more than a core's 8 and the dies' counters can overflow at once. -/
def State.countUpTo : Nat → State → Nat → Nat → State
  | 0, s, _, _ => s
  | fuel + 1, s, source, kind =>
    let s := if source / 4096 = 0 ∨ source / 4096 = 9 then
        match tabGet? s.cores (source % 4096) with
        | none => s
        | some c => (List.range 8).foldl (fun s i =>
            if selects (c.cntSel.getD i 0#32) kind then
              let r := bump ((s.core (source % 4096)).cntVal.getD i 0#64)
              let c' := s.core (source % 4096)
              let s := (s.setCore (source % 4096) { c' with cntVal := c'.cntVal.setIfInBounds i r.1 }).tallied (coreCounter (source % 4096) i)
              s.overflow r.2 (source % 4096) i (State.countUpTo fuel)
            else s) s
      else s
    s.evr.dieCnt.foldl (fun s x =>
      if selects x.2.1 kind && selectsSource x.2.1 source then
        let v := tabGetD s.evr.dieCnt x.1 x.2
        let r := bump v.2
        let s := ({ s with evr := { s.evr with dieCnt := tabPut s.evr.dieCnt x.1 (v.1, r.1) } } : State).tallied (dieCounter x.1)
        s.overflow r.2 (srcOf 11 0) (256 + x.1 % 64) (State.countUpTo fuel)
      else s) s
def State.count (s : State) (source kind : Nat) : State := s.countUpTo 600 source kind

/-- Emit one event in the current tick. -/
def State.emit (s : State) (source kind tenant : Nat) (causal payload : DWord) : State :=
  (s.push ⟨s.gtc, source, kind, tenant, causal, payload, false⟩).count source kind

/-! ## Error logs (R408 to R413) -/

/-- Count a memory write that the module discards before READY, saturating at 255 (R450, R453). -/
def State.countEarly (s : State) : State := { s with power := { s.power with early := min 255 (s.power.early + 1) } }

/-- The memory controller of a physical address (R157). -/
def mcOf (pa : Nat) : Nat := pa / 256 % 12

/-- Send an MSI-X vector to the host. -/
def State.sendMsi (s : State) (fn vec : Nat) : State := { s with msi := s.msi ++ [(fn, vec)] }

/-- What a read of a sector gives (R358): TAG and P agree with the ciphertext; P alone is wrong and is written again; one symbol is corrected by trial;
the error is uncorrectable. -/
inductive SectorRead where
  | deliver | parity
  | fixed (symbol : Nat)
  | integrity
  deriving DecidableEq, Repr

/-- TagOk of a sector whose symbols `flips` are altered: TAG is the one that was written for these 64 bytes; of other bytes it is another tag's.
(DESIGN CHOICE, unsafe: notes/assumptions/79.md) -/
def tagOk (flips : List (Nat × Byte)) : Bool := flips.all fun x => x.1 == 71
/-- The parity difference e of R358: P against the XOR of the 71 stored symbols. -/
def parityDiff (flips : List (Nat × Byte)) : Byte := flips.foldl (fun e x => e ^^^ x.2) 0#8
/-- The read of R358. Of a lone altered symbol i, e is what was added to it, so symbol i XOR e alone verifies; where more are altered no trial of one
symbol does, or e is 0. (DESIGN CHOICE, unsafe: notes/assumptions/79.md) -/
def sectorRead (flips : List (Nat × Byte)) : SectorRead :=
  if tagOk flips then (if flips.isEmpty then .deliver else .parity)
  else match flips with
    | [x] => .fixed x.1
    | _ => .integrity

/-- Symbols of a sector that an error alters, one or two of them (R413); which, and what is added to each, is free. -/
def State.symbols (s : State) (uncorr : Bool) : List (Nat × Byte) :=
  let at_ (i : Nat) : Nat × Byte := ((Config.freeNat s.free (5100 + i) % 36) + 36 * i, BitVec.ofNat 8 (Config.freeNat s.free (5102 + i) % 255 + 1))
  if uncorr then [at_ 0, at_ 1] else [at_ 0]

/-- A mark of an array: the sectors of HBM are those of log 6. -/
def State.mark (s : State) (log : Nat) (uncorr injected : Bool) : ErrMark := ⟨uncorr, injected, if log = 6 then s.symbols uncorr else []⟩

/-- SYNDROME of an entry (R409): of log 6 the parity difference e and the corrected symbol's position, or 0xFF; of a SECDED word or element of 32 bits the
seven check bits' difference, of the other arrays eight bits, free. (DEDUCED, unsafe: notes/assumptions/40.md) -/
def State.syndrome (s : State) (log : Nat) (uncorr : Bool) (flips : List (Nat × Byte)) : Nat :=
  if log = 6 then
    let f := if flips.isEmpty then s.symbols uncorr else flips
    (parityDiff f).toNat + 256 * (if uncorr then 0xFF else (f.head?.map Prod.fst).getD 71)
  else (Config.freeWord s.free (5000 + log)).toNat % (if log ≤ 2 then 128 else 256)

/-- A report to a log (R409). It reaches the log at the end of the cycle. -/
def State.reportWith (s : State) (log chan loc : Nat) (uncorr injected poisoned : Bool) (tenant : Nat) (causal : DWord) (flips : List (Nat × Byte)) : State :=
  let cls := log + (if uncorr then 16 else 0) + (if injected then 32 else 0) + (if poisoned then 64 else 0)
  { s with errQ := s.errQ ++ [⟨log, chan, uncorr, loc, cls, s.syndrome log uncorr flips, tenant, causal⟩] }
def State.report (s : State) (log chan loc : Nat) (uncorr injected poisoned : Bool) (tenant : Nat) (causal : DWord) : State :=
  s.reportWith log chan loc uncorr injected poisoned tenant causal []

/-- A report reaches its log: it takes the next sequence number and is logged or dropped (R410). -/
def State.logReport (s : State) (r : ErrRep) : State :=
  let l := tabGetD s.errs r.log ErrLog.reset
  let entry := natToBytes 8 r.loc ++ natToBytes 4 l.count ++ natToBytes 2 r.chan ++ natToBytes 2 r.cls ++
    natToBytes 4 r.syndrome ++ natToBytes 2 r.tenant ++ natToBytes 2 0 ++ natToBytes 8 r.causal.toNat
  let l' := { l with count := (l.count + 1) % 2 ^ 32 }
  if (l.tail + 2 ^ 32 - l.head) % 2 ^ 32 < 64 then
    let l' := { l' with entries := tabPut l.entries (l.tail % 64) entry, tail := (l.tail + 1) % 2 ^ 32 }
    let s := { s with errs := tabPut s.errs r.log l' }
    if r.uncorr && l.irq then s.sendMsi 0 1 else s
  else { s with errs := tabPut s.errs r.log { l' with dropped := (l.dropped + 1) % 2 ^ 32, ovf := true } }

/-- The reports of the cycle reach their logs, in ascending channel order (R410). -/
def State.logReports (s : State) : State :=
  (s.errQ.insertionSort fun a b => a.chan ≤ b.chan).foldl State.logReport { s with errQ := [] }

/-- Marks of elements that are no bytes of memory: an accumulator element, a register element. -/
def accMark (core off : Nat) : Nat := 2 ^ 63 + core * 32768 + off
def vecMark (core loc : Nat) : Nat := 2 ^ 64 + core * 131072 + loc

/-- Does the armed injection name this location? -/
def State.injectHit (s : State) (log chan loc : Nat) : Bool :=
  s.inj.arm && s.inj.log == log && s.inj.channel == chan && s.inj.loc == loc

/-- A write of the target stores altered check bits (R413). -/
def State.injectAt (s : State) (log chan loc mark : Nat) : State :=
  if s.injectHit log chan loc then
    { s with inj := { s.inj with arm := false }, marks := tabPut s.marks mark (s.mark log s.inj.uncorr true) }
  else s

/-- Marks of entries of queues and of other arrays (R408): an engine entry, an operand-log entry, a Roundabout request, a near-cache line, a Dusk
record. -/
def engineMark (id : Nat) : Nat := 2 ^ 65 + id
def logMark (order : Nat) : Nat := 2 ^ 66 + order
def nearMark (core line : Nat) : Nat := 2 ^ 67 + core * 512 + line % 512
def duskMark (i : Nat) : Nat := 2 ^ 68 + i
def callMark (op lane : Nat) : Nat := 2 ^ 130 + op * 32 + lane

/-- LOC of a queue entry (R409): kind, wave slot, entry. (DEDUCED, unsafe: notes/assumptions/40.md) -/
def queueLoc (kind slot entry : Nat) : Nat := kind + slot % 64 * 16 + entry % 256 * 1024

/-- A read finds the error of a location, and reports it (R408, R413): whether it is uncorrectable. -/
def State.foundAt (s : State) (log chan loc mark tenant : Nat) (causal : DWord) : Bool × State :=
  if s.marks.isEmpty then (false, s)
  else match tabGet? s.marks mark with
    | none => (false, s)
    | some m => (m.uncorr, { s with marks := tabErase s.marks mark }.report log chan loc m.uncorr m.injected false tenant causal)

/-! ## Errors of stored data (R154, R158, R358, R408) -/

/-- The unit of an error mark: a 64-B sector of HBM, a word of the Plaza. -/
def markKey (key : Nat) : Nat := if isPlazaKey key then key / 4 * 4 else key / 64 * 64

/-- The keys of the marks that `n` bytes at `key` touch. -/
def markKeys (key n : Nat) : List Nat :=
  let u := if isPlazaKey key then 4 else 64
  (List.range ((key % u + n + u - 1) / u)).map fun i => markKey (key + i * u)

/-- Log, channel and location of a mark of memory (R408, R409). -/
def markLoc (key : Nat) : Nat × Nat × Nat :=
  if isPlazaKey key then (1, (key - plazaBase) / 0x80000, (key - plazaBase) % 0x80000)
  else (6, key / 256 % 12, key / 64 % 2 ^ 46)

/-- HBM sectors are read, or written (R376): only a die's counters can count them, whose source is the memory controller. (DESIGN CHOICE, unsafe: notes/assumptions/96.md) -/
def State.countSectors (s : State) (key n kind : Nat) : State :=
  if s.evr.dieCnt.isEmpty || !isHbmKey key then s else (markKeys key n).foldl (fun s k => s.count (srcOf 5 (mcOf k)) kind) s

/-- A read of these bytes finds their errors: each is reported, and a correctable one is corrected, by trial where TAG did not agree (R358, R376, R408). -/
def State.findErrors (s : State) (key n tenant : Nat) (causal : DWord) : State :=
  let s := s.countSectors key n 0x110
  if s.marks.isEmpty then s
  else (markKeys key n).foldl (fun s k =>
    match tabGet? s.marks k with
    | none => s
    | some m =>
      let x := markLoc k
      let s := s.reportWith x.1 x.2.1 x.2.2 m.uncorr m.injected false tenant causal m.flips
      let s := if isHbmKey k && !m.uncorr && !tagOk m.flips then s.count (srcOf 5 (mcOf k)) 0x115 else s
      if m.uncorr then s else { s with marks := tabErase s.marks k }) s

/-- A write of units stores fresh check bits; an armed injection alters those of its target (R413). -/
def State.wroteMem (s : State) (key n : Nat) : State :=
  let ks := markKeys key n
  let s := { s with marks := s.marks.filter fun m => !(ks.contains m.1) }
  ks.foldl (fun s k => let x := markLoc k; s.injectAt x.1 x.2.1 x.2.2 k) s

/-- The same of a range that is zeroed: what it held of errors and of barrier words goes with it. -/
def State.freshMem (s : State) (key n : Nat) : State :=
  let here (k : Nat) : Bool := decide (key ≤ k) && decide (k < key + n)
  let s := { s with marks := s.marks.filter (fun m => !here m.1), barWords := s.barWords.filter fun x => !here x.1 }
  let target := if isPlazaKey key then plazaBase + s.inj.channel * 0x80000 + s.inj.loc / 4 * 4 else s.inj.loc * 64
  if s.inj.arm && here target then (let x := markLoc target; s.injectAt x.1 x.2.1 x.2.2 target) else s

/-- The code of an uncorrectable error that a read of these bytes finds. -/
def State.readError (s : State) (key n : Nat) : Option Nat :=
  if (markKeys key n).any fun k => ((tabGet? s.marks k).map fun m => m.uncorr).getD false then
    some (if isPlazaKey key then cPlazaUncorrectable else cIntegrity)
  else none

/-- The units of `n` bytes at `key` that a write of them does not cover. -/
def partUnits (key n : Nat) : List Nat :=
  let u := if isPlazaKey key then 4 else 64
  (markKeys key n).filter fun k => decide (k < key) || decide (key + n < k + u)

/-- Does a write that does not cover one of its units meet an uncorrectable error there (R158)? -/
def State.writeError (s : State) (key n : Nat) : Option Nat := (partUnits key n).findSome? fun k => s.readError k 1

/-- A write reads the units that it covers in part, and finds their errors. -/
def State.findPart (s : State) (key n tenant : Nat) (causal : DWord) : State :=
  if s.marks.isEmpty then s else (partUnits key n).foldl (fun s k => s.findErrors k 1 tenant causal) s

/-- A unit of the module changes `n` bytes at home. -/
def State.put (s : State) (key n v : Nat) : State :=
  let s := s.wr key n v
  if s.marks.isEmpty && !s.inj.arm then s else s.wroteMem key n

/-- A fresh causal identifier of a source (R371): [63:52] device, [51:36] source, [35:0] sequence. -/
def State.freshId (s : State) (source : Nat) : DWord × State :=
  let n := tabGetD s.freshSeq source 0
  (BitVec.ofNat 64 (s.device * 2 ^ 52 + source * 2 ^ 36 + n),
   { s with freshSeq := tabPut s.freshSeq source ((n + 1) % 2 ^ 36) })

/-- A new number for an access, a command or an operation (M). -/
def State.newId (s : State) : Nat × State := (s.nextId, { s with nextId := s.nextId + 1 })

/-! ## The branch-and-mask trace (R386 to R392) -/

/-- The traced stream of a wave: its task, logical core and wave number. -/
def Wave.who (w : Wave) : Nat × Nat × Nat := (w.task, w.logical, w.waveId)

/-- The trace after a chunk closes (R388, R389). -/
def TraceSt.closed (t : TraceSt) (drop : Bool) : TraceSt :=
  { t with seq := t.seq + 1, data := [], resync := false, dropped := if drop then t.dropped ++ [t.seq] else t.dropped, discard := drop }

/-- Are both staging places of a stream busy (R388)? -/
def State.stagesFull (s : State) (w : Wave) (cs : Bool) : Bool :=
  decide ((s.traceOut.filter fun c => c.who == w.who && c.cs == cs && !c.drop).length ≥ 2)

/-- Close the open chunk. Each stream stages two closed chunks; a further one is dropped (R388). -/
def State.traceClose (s : State) (k : Nat) (cs : Bool) (w : Wave) (t : TraceSt) (fin : Bool) : State :=
  let drop := s.stagesFull w cs
  let ch : TraceChunk :=
    { wave := k, cs := cs, tenant := w.tenant, causal := w.causal, desc := t.desc, epoch := t.epoch, seq := t.seq,
      flags := (if cs then 1 else 0) + (if w.tenant ≠ 0 then 2 else 0) + (if t.resync then 4 else 0) + (if fin then 8 else 0),
      waveField := coreOf k * 64 + slotOf k, data := t.data, drop := drop, who := w.who, phase := if drop then 2 else 0 }
  { (s.setWave k (w.updStream cs fun st => { st with trace := if fin then none else some (t.closed drop) })) with
    traceOut := s.traceOut ++ [ch] }

/-- Append bytes to a stream's trace; a chunk closes when its 44 bytes are full (R388, R463). -/
def State.traceBytes (s : State) (k : Nat) (cs : Bool) : List Byte → State
  | [] => s
  | b :: bs =>
    match s.wave? k with
    | none => s
    | some w =>
      match (w.stream cs).trace with
      | none => s
      | some t =>
        if t.discard then s else
        let t' := { t with data := t.data ++ [b] }
        let s' := s.setWave k (w.updStream cs fun st => { st with trace := some t' })
        let s'' := if t'.data.length = 44 then s'.traceClose k cs w t' false else s'
        s''.traceBytes k cs bs

/-- The fewest bytes that hold `n` (R391), at least one. -/
def byteCount (n : Nat) : Nat := max 1 ((n.log2 + 8) / 8)

/-- Emit one packet: a TIME packet first when the GTC has advanced since the last TIME or SYNC (R391). Before the first SYNC there is none to count from.
(DESIGN CHOICE, unsafe: notes/assumptions/87.md) -/
def State.tracePkt (s : State) (k : Nat) (cs : Bool) (pkt : List Byte) : State :=
  match s.wave? k with
  | none => s
  | some w =>
    match (w.stream cs).trace with
    | none => s
    | some t =>
      if t.discard then s else
      let d := (s.gtc - t.lastTick).toNat
      let n := byteCount d
      let time : List Byte := if d = 0 || !t.synced then [] else BitVec.ofNat 8 (16 + n) :: natToBytes n d
      let t' := { t with lastTick := s.gtc, count := t.count + 1 }
      (s.setWave k (w.updStream cs fun st => { st with trace := some t' })).traceBytes k cs (time ++ pkt)

/-- A packet's header byte (R390). -/
def pktHead (kind slot low : Nat) : Byte := BitVec.ofNat 8 (kind * 16 + slot * 4 + low)
def bytes4 (x : Word) : List Byte := natToBytes 4 x.toNat
def bytes8 (x : DWord) : List Byte := natToBytes 8 x.toNat

/-- END, and the chunk closes with it (R390); the trace as it then stands. A stream that discards its packets closes none (R389). -/
def State.traceFin (s : State) (k : Nat) (cs : Bool) (slot why : Nat) : Option TraceSt × State :=
  let s := s.tracePkt k cs []
  match s.wave? k with
  | none => (none, s)
  | some w =>
    match (w.stream cs).trace with
    | none => (none, s)
    | some t =>
      if t.discard then (some t, s.setWave k (w.updStream cs fun st => { st with trace := none }))
      else (some (t.closed (s.stagesFull w cs)), s.traceClose k cs w { t with data := t.data ++ [pktHead 9 slot why] } true)
def State.traceEnd (s : State) (k : Nat) (cs : Bool) (slot why : Nat) : State := (s.traceFin k cs slot why).2

/-! ## Clearing exited lanes and completing tokens (R256, R265, R476) -/

def Token.complete (t : Token) : Bool := t.active && decide (t.out &&& ~~~t.arrb = 0#32)

def Split.clear (x : Word) (p : Split) : Split :=
  { p with base := p.base &&& ~~~x, exec := p.exec &&& ~~~x, mstk := p.mstk.map (· &&& ~~~x) }

def Token.clear (x : Word) (t : Token) : Token :=
  { t with out := t.out &&& ~~~x, arrb := t.arrb &&& ~~~x, arre := t.arre &&& ~~~x, mstk := t.mstk.map (· &&& ~~~x) }

/-- The lowest free slot. -/
def SplitTab.freeSlot (t : SplitTab) : Option Nat := (List.range 4).find? fun i => (t.slots.getD i none).isNone
def SplitTab.freeCount (t : SplitTab) : Nat := ((List.range 4).filter fun i => (t.slots.getD i none).isNone).length
def SplitTab.slot (t : SplitTab) (i : Nat) : Option Split := t.slots.getD i none
def SplitTab.setSlot (t : SplitTab) (i : Nat) (p : Option Split) : SplitTab := { t with slots := t.slots.setIfInBounds i p }
def SplitTab.tok (t : SplitTab) (i : Nat) : Token := t.toks.getD i Token.idle
def SplitTab.setTok (t : SplitTab) (i : Nat) (k : Token) : SplitTab := { t with toks := t.toks.setIfInBounds i k }
def SplitTab.anySplit (t : SplitTab) : Bool := (List.range 4).any fun i => (t.slot i).isSome

/-- The merged split of a token (R265), at `pc`. -/
def Token.merged (t : Token) (pc : DWord) : Split := ⟨pc, t.jpc, t.arrb, t.arre, t.mstk, t.cstk⟩

/-- Fill free slots: waiting merges first, the one whose token completed first, then the oldest pending entry (R268, R476).
Also gives the slots that pending groups took, for the trace. -/
def SplitTab.refill : Nat → SplitTab → List Nat → SplitTab × List Nat
  | 0, t, tk => (t, tk)
  | f + 1, t, tk =>
    match t.freeSlot with
    | none => (t, tk)
    | some i =>
      match t.merges with
      | m :: ms =>
        let k := t.tok m
        SplitTab.refill f ({ t with merges := ms }.setSlot i (some (k.merged (k.jpc + 4#64))) |>.setTok m Token.idle) tk
      | [] =>
        match t.pend with
        | p :: ps => SplitTab.refill f ({ t with pend := ps }.setSlot i (some p)) (tk ++ [i])
        | [] => (t, tk)

/-- After a change of OUT, ARRB or lanes: tokens newly complete without an arrival either vanish or wait for a slot; tokens no longer
complete stop waiting (R476). (DESIGN CHOICE, unsafe: notes/assumptions/91.md) -/
def SplitTab.settle (t : SplitTab) : SplitTab × List Nat :=
  let t := (List.range 8).foldl (fun (t : SplitTab) i =>
    let k := t.tok i
    if !k.active then { t with merges := t.merges.filter (· ≠ i) }
    else if k.complete then
      if k.arrb = 0#32 then { (t.setTok i Token.idle) with merges := t.merges.filter (· ≠ i) }
      else if t.merges.contains i then t else { t with merges := t.merges ++ [i] }
    else { t with merges := t.merges.filter (· ≠ i) }) t
  SplitTab.refill 4 t []

/-- Clear lanes from a stream's split table (R256): splits and pending entries whose lanes are gone end. -/
def SplitTab.clearLanes (x : Word) (t : SplitTab) : SplitTab × List Nat :=
  let keep (p : Split) : Option Split := let q := p.clear x; if q.base = 0#32 then none else some q
  let t : SplitTab :=
    { t with slots := Vector.ofFn fun i : Fin 4 => (t.slots[i.val]).bind keep,
             pend := t.pend.filterMap keep,
             toks := Vector.ofFn fun i : Fin 8 => (t.toks[i.val]).clear x }
  t.settle

/-- SPLIT start packets for the slots that pending groups took (R390). -/
def State.traceStarts (s : State) (k : Nat) (cs : Bool) (t : SplitTab) (slots : List Nat) : State :=
  slots.foldl (fun s i => match t.slot i with
    | some p => s.tracePkt k cs (pktHead 4 i 2 :: (bytes8 p.pc ++ bytes4 p.exec))
    | none => s) s

/-! ## Traps (R414 to R418) -/

/-- The lanes of a wave that were launched and have not exited: those that one of its streams still has (R321). -/
def Wave.live (w : Wave) : Word := w.a.launched ||| w.c.launched

/-- Is this stream stopped for a trap of the other (R414)? At a clause boundary, held at a word, or exited. -/
def Stream.stopped (st : Stream) : Bool := st.exited || st.clause.isNone || st.wait.isSome

/-- Start the handler once the other stream has stopped: save the trap context and run the vector as one split in slot 0 of the
A front end (R415). The split's source address is 0. (DESIGN CHOICE, unsafe: notes/assumptions/67.md) -/
def State.enterNow (s : State) (k : Nat) : State :=
  match s.wave? k with
  | none => s
  | some w =>
    match w.trapping with
    | none => s
    | some (_, slot, _) =>
      let ctx : TrapCtx :=
        { aTab := w.a.tab, cTab := w.c.tab, z := w.a.z, n := w.a.n, c := w.a.c, v := w.a.v,
          aClause := w.a.clause, cClause := w.c.clause, aWait := w.a.wait, aExited := w.a.exited }
      let p : Split := ⟨w.trapVector, 0#64, w.live, w.live, [], []⟩
      let tab := SplitTab.empty.setSlot 0 (some p)
      let w' := { w with ctx := some ctx, trapping := none,
                         a := { w.a with tab := tab, clause := none, wait := none, exited := false } }
      let pk (cs' : Bool) (s : State) : State :=
        s.tracePkt k cs' (pktHead 7 slot 0 :: BitVec.ofNat 8 w.trapCode.toNat :: bytes8 w.trapVector)
      (pk true (pk false (s.setWave k w')))

/-- The trap that waits is taken once the other stream has stopped (R414). (DESIGN CHOICE, unsafe: notes/assumptions/67.md) -/
def State.enterHandler (s : State) (k : Nat) : State :=
  match s.wave? k with
  | none => s
  | some w =>
    match w.trapping with
    | none => s
    | some (cs, _, _) => if !(w.stream (!cs)).stopped || (tabGet? s.aborts w.task).isSome then s else s.enterNow k

/-- Mark a task as aborting (R418, R422): its waves stop issuing, and the step TASK_ABORT completes it. The first code stands. -/
def State.abortTask (s : State) (task code : Nat) : State :=
  match tabGet? s.aborts task with
  | some _ => s
  | none => { s with aborts := tabPut s.aborts task code }

/-- Send a reply to its caller's lane: over the die mesh, or over the fabric (R475). -/
def State.sendReply (s : State) (r : CallReq) (scope : Nat) (val status : Word) : State :=
  let x : CallReply := ⟨r.op, r.dev, r.core, r.slot, r.lane, val, status, scope, r.det⟩
  if r.dev = s.device then { s with callReplies := s.callReplies ++ [x] }
  else { s with remoteReplies := s.remoteReplies ++ [x] }

/-- The status word of R227. -/
def callStatus (pos mcode code : Nat) : Word := BitVec.ofNat 32 (pos % 32 * 65536 + mcode % 256 * 256 + code)

/-- The number of a commit's write among those that wait for spill space (M). -/
def commitSpill (k : Nat) : Nat := 90000000000 + k

/-- Free a combiner wave's slot; its port owes every aged stream one clause before the next combiner clause (R284). -/
def State.freeBatch (s : State) (k : Nat) (desc : Nat) : State :=
  let c := s.core (coreOf k)
  let pn := slotOf k % 4
  let port := c.ports.getD pn Port.reset
  let c' := { c with running := c.running.filter (· ≠ desc),
                     ports := c.ports.setIfInBounds pn { port with afterBatch := port.aged, cur := none } }
  let asks (a : Nat) : Bool := a == 2 * k || a == 2 * k + 1
  { s.setCore (coreOf k) c' with
    spillWait := s.spillWait.filter (fun x => x.id != commitSpill k),
    waves := tabErase s.waves k, flight := s.flight.filter fun a => a.wave ≠ k, fences := s.fences.filter fun f => f.wave != k,
    walkRes := s.walkRes.filter fun r => !asks r.asker, lines := s.lines.filter fun r => !asks r.asker,
    held := s.held.filter fun h => h.wave != k || (match h.what with | .batch _ _ => true | _ => false) }

/-! ## What one cycle brings to one place -/

/-- Has something that the spec puts after this one been served at this place in this cycle? It then waits for the next cycle. -/
def State.tooLate (s : State) (kind place rank : Nat) : Bool :=
  s.inCycle.any fun x => x.1 == kind && x.2.1 == place && decide (rank < x.2.2)
def State.serve (s : State) (kind place rank : Nat) : State :=
  if s.inCycle.contains (kind, place, rank) then s else { s with inCycle := s.inCycle ++ [(kind, place, rank)] }

/-- Writes and atomics of one cycle reach a location by source number (R172), kept by 128-B line. (DESIGN CHOICE, unsafe: notes/assumptions/55.md) -/
def State.writeLateIn (s : State) (key src : Nat) : Bool := s.tooLate 0 (key / 128) src
def State.writeServed (s : State) (key src : Nat) : State := s.serve 0 (key / 128) src

/-! ## A descriptor at its batch's end (R236, R238, R239) -/

/-- A home's updates of descriptors that lie on other modules are numbered as accesses of wave 3 × 10^15 + core (M). -/
def descWave (core : Nat) : Nat := 3000000000000000 + core

/-- Send one update of a descriptor that lies on another module (R223): after the home's earlier ones. (DESIGN CHOICE, unsafe: notes/assumptions/56.md) -/
def State.descSend (s : State) (core tenant o : Nat) (causal : DWord) (p : Nat × Nat) (kind : AccessKind) (handle : DWord) : State :=
  let place : Place := .remote p.1 (p.2 + o)
  let a : Access :=
    { id := s.nextId, op := s.nextId, wave := descWave core, core := core, tenant := tenant, lane := 0, traps := 0#32, kind := kind,
      addr := handle, place := place, pageKind := 3, posted := false, scope := 4, pc := 0#64, slot := 0, causal := causal, disc := false,
      st := .waiting, after := (s.flight.filter fun x => x.wave == descWave core).map fun x => x.id, overlay := [], page := (0, 0),
      sent := none }
  { s with nextId := s.nextId + 1, flight := s.flight ++ [a] }

/-- The home's update of a descriptor: FCOUNT, BATCHES, and of a faulted batch LASTCODE and POISONED, each computed from what the descriptor holds when
the update applies (R236, R238, R239). -/
def State.descApply (s : State) (key : Nat) (fault : Option Nat) : State :=
  let f := match fault with | some _ => min (s.rd (key + 27) 1 + 1) 3 | none => 0
  let s := ((s.put (key + 27) 1 f).put (key + 32) 8 (s.rd (key + 32) 8 + 1)).countSectors key 64 0x111
  let s := match fault with | some c => s.put (key + 40) 1 c | none => s
  if f = 3 then s.put (key + 26) 1 (s.rd (key + 26) 1 ||| 2) else s

/-- The minor of the fabric operation that carries the update to a descriptor on another module; its operand is 0, or 256 and the method code
(DESIGN CHOICE, unsafe: notes/assumptions/56.md). -/
def descMinor : Nat := 14
def descCode (b : DWord) : Option Nat := if b.getLsbD 8 then some (b.toNat % 256) else none
def descOperand (fault : Option Nat) : DWord := match fault with | some c => BitVec.ofNat 64 (256 + c % 256) | none => 0#64

/-- The update goes to the descriptor (R239); a write of software in the same cycle has come first. -/
def State.descEnd (s : State) (core : Nat) (b : Batch) (causal : DWord) (fault : Option Nat) : State :=
  match b.descAt with
  | none => (s.descApply b.descKey fault).writeServed b.descKey (srcOf 9 core)
  | some p => s.descSend core b.descTenant 0 causal p (.atomic descMinor (descOperand fault) 0#32 []) b.handle

/-- The Roundabout's event on poisoning (R238). -/
def State.poisonEvent (s : State) (core tenant : Nat) (causal handle : DWord) : State :=
  s.emit (srcOf 9 core) 0x041 tenant causal (BitVec.ofNat 64 (handle.toNat % 2 ^ 56))

/-- A batch faults (R238): nothing of its state is written, every request is answered, the descriptor counts the fault and a third
in a row poisons the object. -/
def State.faultBatch (s : State) (k : Nat) (w : Wave) (b : Batch) (code : Nat) : State :=
  let s := (List.range b.reqs.length).foldl (fun s i =>
    match b.reqs[i]? with
    | some r => s.sendReply r b.scope 0#32 (callStatus i code cCombinerFault)
    | none => s) s
  let s := s.descEnd (coreOf k) b w.causal (some code)
  let src := srcOf 9 (coreOf k)
  let s := s.emit src 0x040 w.tenant w.causal
    (BitVec.ofNat 64 (code % 256 + b.reqs.length * 256 + b.handle.toNat / 64 % 2 ^ 48 * 65536))
  let s := if b.descAt.isNone && s.rd (b.descKey + 27) 1 = 3 then s.poisonEvent (coreOf k) w.tenant w.causal b.handle else s
  s.freeBatch k b.descKey

/-- What a stream had asked for at the word where it stands goes: finished walks, remote lines, a held record read (M). -/
def State.dropReads (s : State) (asker : Nat) : State :=
  { s with walkRes := s.walkRes.filter fun r => r.asker != asker,
           lines := s.lines.filter fun r => r.asker != asker,
           held := s.held.filter fun h => h.what != .record asker }

/-- Take a trap (R414 to R416, R418): kind 0 precise, 1 software, 2 deferred. In a combiner wave it is the batch's fault (R232). -/
def State.takeTrap (s : State) (k : Nat) (cs : Bool) (slot : Nat) (pc : DWord) (code : Nat) (addr : DWord) (lanes : Word)
    (kind : Nat) : State :=
  let s := s.dropReads (2 * k + (if cs then 1 else 0))
  match s.wave? k with
  | none => s
  | some w =>
    match w.batch with
    | some b => s.faultBatch k w b code
    | none =>
      -- an aborting task takes no further trap (R422)
      if (tabGet? s.aborts w.task).isSome then s
      else if w.trapping.isSome then
        -- the losing stream's word counts as not issued; the stream stops there (R414)
        (s.setWave k (w.updStream cs fun st => { st with wait := some ⟨.poll 0 0 s.stamp, s.gtc⟩ })).enterHandler k
      else
        let w' := { w with trapCode := BitVec.ofNat 32 ((if cs then 4096 else 0) + kind * 1024 + slot * 256 + code),
                           trapAddr := addr, trapLanes := lanes, trapPc := pc }
        let s' := s.emit (srcCore (coreOf k)) 0x011 w.tenant w.causal (BitVec.ofNat 64 (code + pc.toNat % 2 ^ 56 * 256))
        if w.ctx.isSome || w.trapVector = 0#64 then
          (s'.setWave k w').abortTask w.task code
        else
          -- of two traps in one cycle the A-stream's stands: it comes before the C-stream's (R414)
          (s'.setWave k { w' with trapping := some (cs, slot, kind), pause := if cs then some (false, s.cycle) else w.pause }).enterHandler k

/-! ## The stream that issues -/

/-- What an issuing word sees: the state, its wave, stream, split and clause. -/
structure Env where
  s : State
  key : Nat
  cs : Bool
  w : Wave
  sp : Split
  cl : Clause
  /-- what the stream waited for when it came to the word -/
  old : Option Wait

def Env.st (e : Env) : Stream := e.w.stream e.cs
def Env.pc (e : Env) : DWord := e.sp.pc
def Env.exec (e : Env) : Word := e.sp.exec
def Env.core (e : Env) : Nat := coreOf e.key

/-- A stream of a block that is being saved stops at its next clause boundary, and at a word that holds it (R329). -/
def State.stopping (s : State) (w : Wave) (cs : Bool) : Bool :=
  s.lch.victims.any (fun v => v.block == w.block) && ((w.stream cs).clause.isNone || (w.stream cs).wait.isSome)

/-- May a stream of this wave issue? Its task is not aborting (R422), it is not the stream that waits for a trap to be taken (R414), and
the C-stream does not issue while the handler runs (R415). -/
def State.mayIssue (s : State) (w : Wave) (cs : Bool) : Bool :=
  !w.ended && w.pause != some (cs, s.cycle) && (w.batch.isSome || ((tabGet? s.aborts w.task).isNone && !s.stopping w cs)) &&
  (match w.trapping with | some (t, _, _) => t != cs | none => true) && !(w.ctx.isSome && cs) && !(w.stream cs).exited

/-- A stream that waits for an event issues nothing (R308); one that holds at a word tries it again. -/
def Stream.waiting (st : Stream) : Bool :=
  match st.wait with
  | some ⟨.poll _ _ _, _⟩ => false
  | some _ => true
  | none => false

/-- A stream in the middle of a clause (R281), whatever it waits for. -/
def State.envAt (s : State) (k : Nat) (cs : Bool) : Option Env :=
  match s.wave? k with
  | none => none
  | some w =>
    match (w.stream cs).clause with
    | none => none
    | some cl =>
      match (w.stream cs).tab.slot cl.slot with
      | none => none
      | some sp =>
        some { s := s, key := k, cs := cs, w := w.updStream cs (fun st => { st with wait := none }), sp := sp, cl := cl,
               old := (w.stream cs).wait }

/-- The stream at the cursor, if it issues a word now. -/
def State.env? (s : State) : Option Env :=
  match s.wave? s.cur.wave with
  | none => none
  | some w =>
    if s.mayIssue w s.cur.cs && !(w.stream s.cur.cs).waiting then s.envAt s.cur.wave s.cur.cs else none

/-! ## Registers -/

/-- Where a vector field leads: 16 × block + register, if the wave has acquired the block (R29). -/
def Env.place? (e : Env) (r : Nat) : Option Nat :=
  let b := e.st.vwin + r / 16
  if b < e.w.blocks.length then some (16 * b + r % 16) else none

/-- Does every register that the operands name lie in acquired blocks (R29)? -/
def Env.inWindow (e : Env) (ops : List Operand) : Bool :=
  ops.all fun o =>
    match o.cls with
    | .vec => (e.place? o.reg.toNat).isSome
    | .vpair => (e.place? (o.reg.toNat + 1)).isSome
    | .vquad => (e.place? (o.reg.toNat + 3)).isSome
    | _ => true

/-- The vector places that an operand names. -/
def Env.places (e : Env) (o : Operand) : List Nat :=
  let n := match o.cls with
    | .vec => 1
    | .vpair => 2
    | .vquad => 4
    | _ => 0
  (List.range n).filterMap fun i => e.place? (o.reg.toNat + i)

/-- The scalars that an operand names. -/
def scalarsOf (o : Operand) : List Nat :=
  match o.cls with
  | .scalar => if o.reg.toNat < 64 then [o.reg.toNat] else []
  | .pair => if o.reg.toNat < 64 then [o.reg.toNat, o.reg.toNat + 1] else []
  | .pairNz => [o.reg.toNat, o.reg.toNat + 1]
  | _ => []

/-- Scalar read; 127 reads 0 (R30); a destination of a pending late result reads a free value (R78). -/
def Env.s32 (e : Env) (r : BitVec 7) : Word :=
  if r.toNat ≥ 64 then 0#32
  else if e.w.late.any (fun l => l.dest == .scalar e.cs r.toNat) then Config.freeWord e.s.free r.toNat
  else e.st.regs.getD r.toNat 0#32

/-- Scalar pair read (R30). -/
def Env.s64 (e : Env) (r : BitVec 7) : DWord :=
  if r.toNat ≥ 64 then 0#64 else e.s32 (r + 1#7) ++ e.s32 r

/-- The write of the other stream that this stream may still miss in lane `l` of a shared register (R79, R196). (DEDUCED, unsafe: notes/assumptions/71.md) -/
def Env.missed (e : Env) (isPred : Bool) (reg l : Nat) : Option Recent :=
  e.w.recent.find? fun x => x.isPred == isPred && x.reg == reg && laneIn x.lanes l && x.cs != e.cs &&
    (x.load.isSome || x.cycle == e.s.cycle)

/-- Lane `l` of the register at place `p`; a pending late result makes it a free value (R78), and what the other stream writes around the same
time gives the old value or the new one (R79). -/
def Env.elem (e : Env) (p l : Nat) : Word :=
  if e.w.late.any (fun x => x.dest == .vec p && laneIn x.mask l) then Config.freeWord e.s.free (1000 + 32 * p + l)
  else match e.missed false p l with
    | some x => if Config.freeBit e.s.free (20000 + 32 * p + l) then x.old.lane l else (tabGetD e.w.vregs p Lanes.zero).lane l
    | none => (tabGetD e.w.vregs p Lanes.zero).lane l

/-- Lane `l` of the vector that a field names. -/
def Env.v32 (e : Env) (r : BitVec 7) (l : Nat) : Word :=
  match e.place? r.toNat with
  | some p => e.elem p l
  | none => 0#32

/-- Lane `l` of register r + i. -/
def Env.v32i (e : Env) (r : BitVec 7) (i l : Nat) : Word :=
  match e.place? (r.toNat + i) with
  | some p => e.elem p l
  | none => 0#32

/-- Lane `l` of a vector pair (R29). -/
def Env.v64 (e : Env) (r : BitVec 7) (l : Nat) : DWord := e.v32i r 1 l ++ e.v32i r 0 l

/-- A lane that has exited or was never launched reads as 0 (R273). -/
def Env.readLane (e : Env) (r : BitVec 7) (l : Nat) : Word :=
  if laneIn e.w.live l then e.v32 r l else 0#32

/-- A predicate; the bits that the other stream writes around the same time are old or new (R79). -/
def Env.p32 (e : Env) (r : BitVec 7) : Word :=
  let now := e.w.preds.getD r.toNat 0#32
  if e.w.recent.isEmpty then now
  else maskOf fun l => match e.missed true r.toNat l with
    | some x => if Config.freeBit e.s.free (40000 + 32 * r.toNat + l) then laneIn (x.old.lane 0) l else laneIn now l
    | none => laneIn now l

/-- A pending late result whose destination something else writes keeps the mark (R78). -/
def Wave.clobber (w : Wave) (d : LateDest) (m : Word) : Wave :=
  { w with late := w.late.map fun l => if l.dest == d then { l with clob := l.clob ||| m } else l }

def Wave.putScalar (w : Wave) (cs : Bool) (r : Nat) (x : Word) : Wave :=
  if r < 64 then
    (w.updStream cs fun st => { st with regs := st.regs.setIfInBounds r x }).clobber (.scalar cs r) 1#32
  else w

/-- Write the lanes of `m` of the register at place `p`; writing an element clears its poison (R411). -/
def Wave.putVec (w : Wave) (p : Nat) (m : Word) (f : Nat → Word) : Wave :=
  if m = 0#32 then w else
  { (w.clobber (.vec p) m) with
    vregs := tabPut w.vregs p ((tabGetD w.vregs p Lanes.zero).write m f),
    vpoison := tabUpd w.vpoison p (· &&& ~~~m) }

/-- Log 0 location of an element (R409). -/
def Wave.loc0 (w : Wave) (p l : Nat) : Nat := w.blocks.getD (p / 16) 0 + (p % 16) * 256 + l * 4096

/-- Written elements get fresh check bits; an armed injection alters those of its target (R413). -/
def State.wroteVec (s : State) (core : Nat) (w : Wave) (p : Nat) (m : Word) : State :=
  if s.marks.isEmpty && !s.inj.arm then s
  else (lanesOf m).foldl (fun s l =>
    let loc := w.loc0 p l
    { s with marks := tabErase s.marks (vecMark core loc) }.injectAt 0 core loc (vecMark core loc)) s

/-- All lanes of these vector elements of a wave are written, as when a new block is zeroed or an image restored: errors marked there end, one may
be injected. -/
def State.wroteElems (s : State) (core : Nat) (w : Wave) (lo n : Nat) : State :=
  if s.marks.isEmpty && !s.inj.arm then s
  else (List.range n).foldl (fun s i => s.wroteVec core w (lo + i) 0xFFFFFFFF#32) s

/-- Is a lane of `m` of this place the destination of an A-stream load that has not landed or ended (R196, R197)? -/
def State.unlanded (s : State) (k : Nat) (d : LateDest) (m : Word) : Bool :=
  s.flight.any (fun a => a.wave == k && (laneIn m a.lane || (match d with | .scalar _ _ => true | .vec _ => false)) &&
    (match a.st with | .failed _ => false | _ => true) &&
    (match a.kind with
     | .load _ _ ds => ds.contains d
     | .atomic _ _ _ ds => ds.contains d
     | .store _ _ => false)) ||
  s.held.any (fun h => match h.what with
    | .lanes as => as.any fun a => a.wave == k && (laneIn m a.lane || (match d with | .scalar _ _ => true | .vec _ => false)) &&
        (match a.kind with
         | .load _ _ ds => ds.contains d
         | .atomic _ _ _ ds => ds.contains d
         | .store _ _ => false)
    | _ => false) ||
  ((s.wave? k).map fun w => w.callo.any fun c => (d == .vec c.dest || d == .vec c.status) && c.lanes &&& m != 0#32).getD false

/-- Write a scalar; 127 discards (R30). -/
def Env.put32 (e : Env) (r : BitVec 7) (x : Word) : Env := { e with w := e.w.putScalar e.cs r.toNat x }
def Env.put64 (e : Env) (r : BitVec 7) (x : DWord) : Env :=
  if r.toNat ≥ 64 then e else (e.put32 r (loHalf x)).put32 (r + 1#7) (hiHalf x)
/-- The lanes of `m` in which a write of this stream stays: where the A-stream has written in the same cycle, its value remains (R79). -/
def Env.winning (e : Env) (isPred : Bool) (reg : Nat) (m : Word) : Word :=
  if e.cs && !e.w.recent.isEmpty then
    m &&& ~~~((e.w.recent.filter fun x => x.isPred == isPred && x.reg == reg && !x.cs && x.load.isNone && x.cycle == e.s.cycle).foldl
      (fun a x => a ||| x.lanes) 0#32)
  else m

/-- Note a write of a wave with two streams, which the other one may still miss (R79). (DEDUCED, unsafe: notes/assumptions/71.md) -/
def Env.note (e : Env) (isPred : Bool) (reg : Nat) (m : Word) (old : Lanes) : List Recent :=
  if e.w.single then e.w.recent
  else (e.w.recent.filter fun x => x.load.isSome || x.cycle == e.s.cycle) ++ [⟨isPred, reg, m, old, e.cs, e.s.cycle, e.s.free, none⟩]

/-- Lanes of an element that an outstanding load of the A-stream also writes, when the C-stream writes them (R196). -/
def Env.crossing (e : Env) (p : Nat) (m : Word) : List (Nat × Word) :=
  if e.cs && e.s.unlanded e.key (.vec p) m then e.w.crossed ++ [(p, m)] else e.w.crossed

/-- Write the register at place `p` in the lanes of `m`. -/
def Env.putPlace (e : Env) (p : Nat) (m : Word) (f : Nat → Word) : Env :=
  let m' := e.winning false p m
  { e with w := { (e.w.putVec p m' f) with recent := e.note false p m' (tabGetD e.w.vregs p Lanes.zero), crossed := e.crossing p m' },
           s := e.s.wroteVec e.core e.w p m' }

/-- Write a vector register in the lanes of `m`. -/
def Env.putV (e : Env) (r : BitVec 7) (m : Word) (f : Nat → Word) : Env :=
  match e.place? r.toNat with
  | some p => e.putPlace p m f
  | none => e
def Env.putVi (e : Env) (r : BitVec 7) (i : Nat) (m : Word) (f : Nat → Word) : Env :=
  match e.place? (r.toNat + i) with
  | some p => e.putPlace p m f
  | none => e
/-- Write a predicate in the lanes of `m`. -/
def Env.putP (e : Env) (r : BitVec 7) (m : Word) (x : Word) : Env :=
  let old := e.w.preds.getD r.toNat 0#32
  let m' := e.winning true r.toNat m
  { e with w := { e.w with preds := e.w.preds.setIfInBounds r.toNat ((old &&& ~~~m') ||| (x &&& m')),
                           recent := e.note true r.toNat m' (Lanes.zero.write 1#32 fun _ => old) } }
def Env.setSt (e : Env) (f : Stream → Stream) : Env := { e with w := e.w.updStream e.cs f }
/-- The flags that results of the A-stream and of the C-stream have raised in this cycle (R65). -/
def Wave.fpRaised (w : Wave) (cycle : Nat) : Flags × Flags := if w.fpAt.1 = cycle + 1 then w.fpAt.2 else (0#32, 0#32)

/-- OR flags into SYS_FPFLAGS (R65), and note the cycle; `a` and `c`: whose results raise them. -/
def Wave.raiseFp (w : Wave) (cycle : Nat) (a c : Bool) (f : Flags) : Wave :=
  let r := w.fpRaised cycle
  { w with fpFlags := w.fpFlags ||| f,
           fpAt := if f = 0#32 then w.fpAt else (cycle + 1, if a then r.1 ||| f else r.1, if c then r.2 ||| f else r.2) }
def Env.orFlags (e : Env) (f : Flags) : Env := { e with w := e.w.raiseFp e.s.cycle (!e.cs) e.cs f }

/-! ## Ending a word -/

/-- Put a late result in its register, but for the lanes that keep what something else has written (R78). -/
def Wave.putLateVal (w : Wave) (l : Late) : Wave :=
  let m := l.mask &&& (~~~l.clob ||| l.pick)
  match l.dest with
  | .scalar cs r => if m = 0#32 then w else w.putScalar cs r (l.vals.lane 0)
  | .vec p => w.putVec p m l.vals.lane

/-- Flag `f` has cleared: the late results that it tracked stand in their registers (R78, R140). -/
def Wave.settleLate (w : Wave) (f : Nat) : Wave :=
  let mine := w.late.filter fun l => l.done && l.flag == f
  if mine.isEmpty then w
  else mine.foldl Wave.putLateVal { w with late := w.late.filter fun l => !(l.done && l.flag == f) }

/-- The major of a word. -/
def wordMajor (w : Word) : Nat := w.toNat / 2 ^ 25
/-- Words whose results SETY tracks (R24): matrix-engine operations. -/
def tracksY (w : Word) : Bool := decide (0x70 ≤ wordMajor w) && decide (wordMajor w ≤ 0x79)

/-- The completion flag `f` loses one tracked operation (R25). (DEDUCED, unsafe: notes/assumptions/49.md) -/
def Wave.flagDown (w : Wave) (f : Nat) : Wave :=
  if f < 12 then
    let w := { w with flags := w.flags.setIfInBounds f (w.flags.getD f 0 - 1) }
    if w.flags.getD f 0 = 0 then w.settleLate f else w
  else w
def Wave.flagUp (w : Wave) (f n : Nat) : Wave :=
  if f < 12 then { w with flags := w.flags.setIfInBounds f (w.flags.getD f 0 + n) } else w

/-- The word that a stream is at traps: a matrix word adds nothing to its SETY flag (R119) until it issues after all. -/
def Wave.uncount (w : Wave) (cs : Bool) : Wave :=
  match (w.stream cs).clause with
  | some c =>
    if (c.words.head?.map tracksY).getD false && !c.off then
      (w.updStream cs fun st => { st with clause := some { c with off := true } }).flagDown c.sety
    else w
  | none => w

/-- A combiner wave counts the instructions of its batch (R232). -/
def Wave.countIssued (w : Wave) : Wave := { w with batch := w.batch.map fun b => { b with issued := b.issued + 1 } }

/-- Commit the wave and leave the clause word: the split goes to `pc`; the clause ends with its last word; `trace` adds the word's packets. Any trap of the
other stream that waits for this one is taken at the clause boundary (R414). -/
def Env.leaveWith (e : Env) (pc : DWord) (last : Bool) (trace : State → State) : State :=
  let rest := e.cl.words.drop 1
  let cl : Option Clause := if last || rest.isEmpty then none else some { e.cl with words := rest, off := false }
  let w := e.w.updStream e.cs fun st =>
    { st with clause := cl, tab := (match st.tab.slot e.cl.slot with
                                    | some p => st.tab.setSlot e.cl.slot (some { p with pc := pc, src := e.pc })
                                    | none => st.tab) }
  (trace (e.s.setWave e.key w.countIssued)).enterHandler e.key
def Env.leave (e : Env) (pc : DWord) (last : Bool) : State := e.leaveWith pc last fun s => s

/-- The word has issued; the split goes on to the next word. -/
def Env.done (e : Env) : State := e.leave (e.pc + 4#64) false

/-- A control transfer: the split goes to `pc`, the clause ends (R257). -/
def Env.jump (e : Env) (pc : DWord) : State := e.leave pc true

/-- The word holds its stream and has no effect (R281); it tries again when something has changed. -/
def Env.hold (e : Env) (kind detail : Nat) : Out :=
  let w := e.w.updStream e.cs fun st => { st with wait := some ((WaitFor.poll kind detail e.s.stamp).from_ e.old e.s.gtc) }
  .next ((e.s.setWave e.key w).enterHandler e.key)

/-- The word at which a stopped position stands is done: the clause loses it, the split goes on (R420, R478). -/
def advance (tab : SplitTab) (cl : Option Clause) : SplitTab × Option Clause :=
  match cl with
  | none => (tab, none)
  | some c =>
    let rest := c.words.drop 1
    (match tab.slot c.slot with
     | some p => tab.setSlot c.slot (some { p with pc := p.pc + 4#64, src := p.pc })
     | none => tab,
     if rest.isEmpty then none else some { c with words := rest })

/-- Where a wait of a stream stands that satisfies `p`: in the stream itself, or, while a handler runs on the A front end, in the trap
context (R415). -/
def Wave.whichWait (w : Wave) (cs : Bool) (p : WaitFor → Bool) : Option Bool :=
  let at_ (x : Option Wait) : Bool := match x with | some x => p x.what | none => false
  if at_ (w.stream cs).wait then some false
  else match cs, w.ctx with
    | false, some c => if at_ c.aWait then some true else none
    | _, _ => none

/-- The wait of a stream, or of the A-stream in the trap context. -/
def Wave.waitAt (w : Wave) (cs inCtx : Bool) : Option Wait :=
  match inCtx, w.ctx with
  | true, some c => c.aWait
  | _, _ => (w.stream cs).wait

def Wave.setWait (w : Wave) (cs inCtx : Bool) (x : Option Wait) : Wave :=
  match inCtx, w.ctx with
  | true, some c => { w with ctx := some { c with aWait := x } }
  | _, _ => w.updStream cs fun st => { st with wait := x }

/-- The word at which a stream waits completes, with the changes `f` to its wave. -/
def State.finishWord (s : State) (k : Nat) (cs inCtx : Bool) (f : Wave → Wave) : State :=
  match s.wave? k with
  | none => s
  | some w =>
    let w := f w
    match inCtx, w.ctx with
    | true, some c =>
      let r := advance c.aTab c.aClause
      s.setWave k { w with ctx := some { c with aTab := r.1, aClause := r.2, aWait := none } }
    | _, _ =>
      match (s.setWave k w).envAt k cs with
      | some e => e.done
      | none => s.setWave k w

/-- The stream tries its word again. -/
def State.wakeWord (s : State) (k : Nat) (cs inCtx : Bool) : State := s.updWave k fun w => w.setWait cs inCtx none

/-- Commit the wave and stay at the word. -/
def Env.commit (e : Env) : Env := { e with s := e.s.setWave e.key e.w }

/-- Wait at the word for an event (R308). -/
def Env.await (e : Env) (x : WaitFor) : State :=
  let w := e.w.updStream e.cs fun st => { st with wait := some (x.from_ e.old e.s.gtc) }
  (e.s.setWave e.key w).enterHandler e.key

/-- A precise trap at the word, which has had no effect (R414) and adds nothing to a flag (R119). The lanes are the split's exec where the rule names
none (R416). -/
def Env.trapWith (e : Env) (code : Nat) (addr : DWord) (lanes : Word) : Out :=
  .next ((e.s.updWave e.key fun w => w.uncount e.cs).takeTrap e.key e.cs e.cl.slot e.pc code addr lanes 0)
def Env.trap (e : Env) (code : Nat) (addr : DWord) : Out := e.trapWith code addr e.exec

/-! ## Issue checks (R39, R76, R196) -/

/-- Do the operands wait for loads of this wave (R196)? Only the issuing A-stream waits. -/
def Env.operandsLanded (e : Env) (ops : List Operand) : Bool :=
  e.cs || ops.all fun o =>
    (scalarsOf o).all (fun r => !e.s.unlanded e.key (.scalar false r) 1#32) &&
    ((!o.reads && !o.writes) || (e.places o).all (fun p => !e.s.unlanded e.key (.vec p) e.exec))

def Env.loc0 (e : Env) (p l : Nat) : DWord := BitVec.ofNat 64 (e.w.loc0 p l)

/-- Reading the lanes of `m` of elements finds their errors (R408, R411): a correctable one is corrected, an uncorrectable one poisons its element. -/
def State.findVec (s : State) (core : Nat) (w : Wave) (ps : List Nat) (m : Word) : Wave × State :=
  if s.marks.isEmpty then (w, s)
  else
    (ps.flatMap fun p => (lanesOf m).map fun l => (p, l)).foldl (fun (x : Wave × State) e =>
      let key := vecMark core (w.loc0 e.1 e.2)
      match tabGet? x.2.marks key with
      | none => x
      | some m =>
        let s := { x.2 with marks := tabErase x.2.marks key }
        let s := s.report 0 core (w.loc0 e.1 e.2) m.uncorr m.injected m.uncorr w.tenant w.causal
        (if m.uncorr then { x.1 with vpoison := tabPut x.1.vpoison e.1 (tabGetD x.1.vpoison e.1 0#32 ||| BitVec.ofNat 32 (2 ^ e.2)) }
       else x.1, s)) (w, s)

/-- The poison stays with the elements whatever the word then does (R411). -/
def Env.findVec (e : Env) (ps : List Nat) (m : Word) : Env :=
  let r := e.s.findVec e.core e.w ps m
  if e.s.marks.isEmpty then e
  else { e with w := r.1, s := r.2.updWave e.key fun v => { v with vpoison := r.1.vpoison } }

/-- The poisoned elements that the operands consume in the lanes of `m` (R76, R411): their lanes, and the lowest one's place; of several elements
poisoned in the lowest lane the first in the order D, A, B. (DESIGN CHOICE, unsafe: notes/assumptions/80.md) -/
def Env.poisoned (e : Env) (ps : List Nat) (m : Word) : Word × Option (Nat × Nat) :=
  let lanes := ps.foldl (fun x p => x ||| (tabGetD e.w.vpoison p 0#32 &&& m)) 0#32
  (lanes, (lanesOf lanes).head?.bind fun l =>
    (ps.find? fun p => laneIn (tabGetD e.w.vpoison p 0#32) l).map fun p => (p, l))

/-- RF_UNCORRECTABLE where a consumed element is poisoned (R76), else go on. -/
def Env.consume (e : Env) (ps : List Nat) (m : Word) (k : Unit → Out) : Out :=
  match e.poisoned ps m with
  | (lanes, some (p, l)) => e.trapWith cRfUncorrectable (e.loc0 p l) lanes
  | (_, none) => k ()

/-- End the batch of a combiner wave with a method code (R232, R238). -/
def Env.batchFault (e : Env) (code : Nat) : Out :=
  match e.w.batch with
  | some b => .next (e.s.faultBatch e.key e.w b code)
  | none => .next e.s

/-- Issue a word (R39): encoding, stream class, register window, a combiner wave's limits (R232), then the waits for landing loads, poisoned
sources, and the word's own rules `k`. A stream that is not in a clause issues nothing. (DEDUCED, unsafe: notes/assumptions/72.md) -/
def issue (f : Form) (s : State) (k : Env → Out) : Out :=
  match s.env? with
  | none => .next s
  | some e =>
    let full := match e.w.batch with | some b => decide (b.issued ≥ 4096) | none => false
    if f.check.isSome || (f.combOnly && e.w.batch.isNone) then e.trap cIllegal 0#64
    else if e.cs && f.aOnly then e.trap cStreamClass 0#64
    else if !e.inWindow f.ops then e.trap cRegWindow 0#64
    else if full then e.batchFault cCombLimit
    else if f.forbidden && e.w.batch.isSome then e.batchFault cCombForbidden
    else if !e.operandsLanded f.ops then e.hold 0 0
    else
      -- only the active lanes read their elements (R75)
      let e := e.findVec ((f.ops.filter fun o => o.reads).flatMap e.places) e.exec
      e.consume ((f.ops.filter fun o => o.reads).flatMap e.places) e.exec fun _ => k e

/-- A word whose bits encode nothing (R38). -/
def issueIllegal (s : State) : Out := issue ((Form.wave []).need false .unlistedMajor) s fun e => .next e.s

end Sys2Proof.Machine
end

