-- ==== Sys2Proof/Machine/Flush.lean ====
section
/-!
DEFINITION. Flush points of deterministic tasks (spec/13_tasks_and_launch.md, R326; 08_memory_instructions.md, R203): a block passes its
nth flush point when every one of its waves has issued its nth FLUSHA or has exited.
-/
namespace Sys2Proof.Machine

/-- The waves of a block. -/
def State.blockWaves (s : State) (b : Block) : List Wave := b.waves.filterMap s.wave?

/-- The flush points that a block has passed: the least count among its waves that have not exited; when all have, the greatest that one has issued. -/
def State.flushLeast (s : State) (b : Block) : Option Nat :=
  match (((s.blockWaves b).filter fun w => !w.ended).map fun w => w.flushes).min? with
  | some n => some n
  | none => ((s.blockWaves b).map fun w => w.flushes).max?

/-- Move the entries of one epoch of a task from a core's buffer to the task's flush area. -/
def State.moveFlush (s : State) (core task epoch : Nat) : State :=
  let c := s.core core
  let mine (d : DetRed) : Bool := d.task == task && d.flush == epoch
  let moved := (c.det.filter mine).map fun d => (epoch, d)
  { s.setCore core { c with det := c.det.filter fun d => !mine d } with
    lch := { s.lch with flushArea := s.lch.flushArea ++ moved } }

/-- Pass one flush point of the block: its epoch's entries move, and its logical core's epoch advances. -/
def State.passFlush (s : State) (key : Nat) (b : Block) (t : Task) : State :=
  let lc := b.index % max 1 t.launch.lcores
  let e := t.epochs.getD lc 0
  let s := s.moveFlush b.core b.task e
  { s with lch := { s.lch with
      tasks := tabPut s.lch.tasks b.task { t with epochs := t.epochs.set lc (e + 1) },
      blocks := tabPut s.lch.blocks key { b with flushed := b.flushed + 1 } } }

/-- Pass every flush point that the block has reached. Fuel bounds their number. -/
def State.flushCheck : Nat → State → Nat → State
  | 0, s, _ => s
  | fuel + 1, s, key =>
    match tabGet? s.lch.blocks key with
    | none => s
    | some b =>
      match tabGet? s.lch.tasks b.task, s.flushLeast b with
      | some t, some n => if t.det && decide (b.flushed < n) then (s.passFlush key b t).flushCheck fuel key else s
      | _, _ => s

/-- Check the block of a wave. -/
def State.flushWave (s : State) (w : Wave) : State :=
  match tabGet? s.lch.blocks w.block with
  | some b =>
    let most := ((s.blockWaves b).map fun w => w.flushes).foldl max 0
    s.flushCheck (most - b.flushed + 1) w.block
  | none => s

end Sys2Proof.Machine
end

