-- ==== Sys2Proof/Machine/Operands.lean ====
section
/-!
DEFINITION. Operand forms: immediates (R37), branch targets (R22), memory operands (R23), packed elements (R55), lane reads of the
cross-lane and scale forms (R105, R272, R273).
-/
namespace Sys2Proof.Machine

/-- An immediate widened with its sign (R37). -/
def immS {n : Nat} (i : BitVec n) : Word := i.signExtend 32
/-- An immediate widened with zeros (R37). -/
def immZ {n : Nat} (i : BitVec n) : Word := i.zeroExtend 32
/-- SMOVHI and FMOVI place 18 bits above 14 (R37). -/
def immHi (i : BitVec 18) : Word := i ++ 0#14

/-- A relative target: the word's own address plus 4 × offset (R22, R263). -/
def relTarget {n : Nat} (pc : DWord) (o : BitVec n) : DWord := pc + (o.signExtend 64 <<< 2)

/-- A memory operand: base plus OFF × size, modulo 2^64 (R23, R193). -/
def memAddr (base : DWord) (off : BitVec 7) (size : Nat) : DWord := base + BitVec.ofNat 64 (off.toNat * size)

/-- Element i of width w of a 32-bit register (R55). -/
def elemOf (x : Word) (w i : Nat) : Nat := x.toNat / 2 ^ (w * i) % 2 ^ w
/-- `x` with element i of width w replaced (R55). -/
def setElem (x : Word) (w i v : Nat) : Word :=
  let hole := (2 ^ w - 1) * 2 ^ (w * i)
  (x &&& ~~~(BitVec.ofNat 32 hole)) ||| BitVec.ofNat 32 (v % 2 ^ w * 2 ^ (w * i))

/-- Have the lanes of `m` of a vector field landed (R196, R272)? -/
def Env.landed (e : Env) (r : BitVec 7) (m : Word) : Bool :=
  match e.place? r.toNat with
  | some p => e.cs || !e.s.unlanded e.key (.vec p) m
  | none => true

/-- Read lanes `m` of a vector for the active lanes' results (R272): wait until they have landed, trap if one is poisoned. Reading them
finds their errors (R408). -/
def Env.crossRead (e : Env) (r : BitVec 7) (m : Word) (k : Env → Out) : Out :=
  if !e.landed r m then e.hold 0 0
  else match e.place? r.toNat with
    | some p =>
      let m := m &&& e.w.live
      let e := e.findVec [p] m
      e.consume [p] m fun _ => k e
    | none => k e

end Sys2Proof.Machine
end

