-- ==== Sys2Proof/Machine/Flags.lean ====
section
/-!
DEFINITION. Flag computations: the condition codes of SCMP and SCMPI (R83), Cond (R84), the rounding mode and the sticky
floating-point flags (R63 to R65), and rounding over lanes with the neighbours of R62.
-/
namespace Sys2Proof.Machine

/-- Z, N, C and V of a comparison (R83). -/
structure CondCodes where
  z : Bool
  n : Bool
  c : Bool
  v : Bool
  deriving DecidableEq, Repr

def compareSigned (a b : Word) : CondCodes :=
  { z := a == b, n := (a - b).getLsbD 31, c := decide (a.toNat ≥ b.toNat),
    v := decide (a.toInt - b.toInt < -(2 ^ 31)) || decide (a.toInt - b.toInt > 2 ^ 31 - 1) }

def compareUnsigned (a b : Word) : CondCodes :=
  { z := a == b, n := decide (a.toNat < b.toNat), c := decide (a.toNat ≥ b.toNat), v := false }

def Env.putCodes (e : Env) (x : CondCodes) : Env := e.setSt fun st => { st with z := x.z, n := x.n, c := x.c, v := x.v }

/-- Cond(c) from the stream's codes and the split's exec (R84). -/
def condHolds (c : Nat) (x : CondCodes) (exec : Word) : Bool :=
  match c with
  | 0 => true
  | 1 => x.z
  | 2 => !x.z
  | 3 => x.n != x.v
  | 4 => x.n == x.v
  | 5 => x.z || (x.n != x.v)
  | 6 => !x.z && (x.n == x.v)
  | 7 => !x.c
  | 8 => x.c
  | 9 => !x.c || x.z
  | 10 => x.c && !x.z
  | 11 => exec == 0#32
  | 12 => exec != 0#32
  | 13 => x.v
  | 14 => !x.v
  | _ => false

def Env.codes (e : Env) : CondCodes := ⟨e.st.z, e.st.n, e.st.c, e.st.v⟩
def Env.cond (e : Env) (c : Nat) : Bool := condHolds c e.codes e.exec

/-- DRM, the rounding code of SYS_FPMODE (R63). -/
def Env.drm (e : Env) : Rm := Rm.ofCode (e.w.fpMode.toNat % 8)

/-- The hash input of R62 for lane l: the neighbours' D values, 0 for lanes outside exec. -/
def srNeighbours (exec : Word) (d : Nat → Nat) (l : Nat) : Nat :=
  let g (x : Nat) : Nat := if laneIn exec x then d x else 0
  srHash (g ((l + 31) % 32)) (g ((l + 1) % 32)) l

/-- Round lane l's exact value to `f` under `m`, with the lanes of the same instruction as neighbours (R60, R62). -/
def roundLane (f : Fmt) (m : Rm) (exec : Word) (x : Nat → Exact) (l : Nat) : Rounded :=
  let r := roundTo f m (x l).val (if m = .sr then srNeighbours exec (fun j => srD f (x j).val) l else 0)
  ⟨r.bits, r.flags ||| (x l).flags⟩

/-- The flags that the active lanes raise (R65). -/
def lanesFlags (exec : Word) (r : Nat → Rounded) : Flags := (lanesOf exec).foldl (fun f l => f ||| (r l).flags) 0#32

/-- Write rounded results into the active lanes of d and OR their flags (R65, R75). -/
def Env.putRounded (e : Env) (d : BitVec 7) (r : Nat → Rounded) : Env :=
  (e.putV d e.exec fun l => BitVec.ofNat 32 (r l).bits).orFlags (lanesFlags e.exec r)

/-! ## Late results (R78) -/

/-- A result that is written later: SETX's flag tracks it, or, with SETX 15, it holds the stream's next clause. An instruction with no
active lane writes nothing and is counted off its flag at once (R272). -/
def Env.putLate (e : Env) (dest : LateDest) (m : Word) (vals : Nat → Word) (fp : Flags) : Env :=
  if m = 0#32 then { e with w := e.w.flagDown e.cl.setx }
  else
    let l : Late := { id := e.s.nextId, cs := e.cs, dest := dest, mask := m,
                      vals := Lanes.zero.write m vals, clob := 0#32, fp := fp, flag := e.cl.setx, engine := false,
                      done := false, pick := 0#32 }
    let w := if e.cl.setx = 15 then e.w.updStream e.cs fun st => { st with llHold := st.llHold + 1 } else e.w
    { e with s := { e.s with nextId := e.s.nextId + 1 }, w := { (w.clobber dest m) with late := w.late ++ [l] } }

/-- A late vector result (FSFU, REDUCE, SCAN). -/
def Env.putLateV (e : Env) (d : BitVec 7) (vals : Nat → Word) (fp : Flags) : Env :=
  match e.place? d.toNat with
  | some p => e.putLate (.vec p) e.exec vals fp
  | none => e

/-- A late scalar result (SDIV); a destination of sz is discarded, and its write still ends the tracking. -/
def Env.putLateS (e : Env) (d : BitVec 7) (x : Word) : Env := e.putLate (.scalar e.cs d.toNat) 1#32 (fun _ => x) 0#32

end Sys2Proof.Machine
end

