-- ==== Sys2Proof/Machine/Control.lean ====
section
/-!
DEFINITION. Control transfers, masks, fork and join, traps, system registers, flags, counters, queues, register blocks, sleep and
the trace switches (spec/11_control_and_splits.md, 12_waves_streams_barriers.md, 18_errors_and_traps.md, 16_event_recorder.md).
-/
namespace Sys2Proof.Machine

/-- Change the issuing split. -/
def Env.setSplit (e : Env) (f : Split → Split) : Env :=
  let p := f e.sp
  { e with sp := p, w := e.w.updStream e.cs fun st => { st with tab := st.tab.setSlot e.cl.slot (some p) } }
def Env.tab (e : Env) : SplitTab := e.st.tab
def Env.setTab (e : Env) (t : SplitTab) : Env := e.setSt fun st => { st with tab := t }

/-- Finish a transfer with a packet of the branch-and-mask trace (R390). -/
def Env.jumpPkt (e : Env) (pc : DWord) (pkt : List Byte) : Out := .next (e.leaveWith pc true fun s => s.tracePkt e.key e.cs pkt)
def Env.donePkt (e : Env) (pkt : List Byte) : Out := .next (e.leaveWith (e.pc + 4#64) false fun s => s.tracePkt e.key e.cs pkt)

/-- A transfer to `pc`: a target that is not a multiple of 4 traps at the word (R20). -/
def Env.transfer (e : Env) (pc : DWord) (pkt : List Byte) : Out :=
  if pc.toNat % 4 ≠ 0 then e.trap cMisaligned pc else e.jumpPkt pc pkt

/-! ## NOP, YIELD, roles -/

/-- NOP (R40). -/
def execNop (s : State) : Out := issue (Form.wave []) s fun e => .next e.done

/-- YIELD (R285): the stream's ready age is 0, and another ready stream of the port goes first. -/
def execYield (s : State) : Out :=
  issue (Form.wave []).noComb s fun e =>
    .next (e.setSt fun st => { st with readySince := none, yielded := true }).done

/-- ROLE.L (R283). -/
def execRoleL (s : State) : Out :=
  issue (Form.waveA []).noComb s fun e => .next (e.setSt fun st => { st with storer := false }).done
/-- ROLE.S (R283). -/
def execRoleS (s : State) : Out :=
  issue (Form.waveA []).noComb s fun e => .next (e.setSt fun st => { st with storer := true }).done

/-! ## Branches and calls (R258 to R260) -/

/-- BR (R258). -/
def execBr (c : BitVec 5) (o : BitVec 20) (s : State) : Out :=
  issue ((Form.wave []).need (c.toNat < 15) .badCond) s fun e =>
    let taken := e.cond c.toNat
    let pkt : List Byte := if c = 0#5 then [] else [pktHead 2 e.cl.slot (if taken then 1 else 0)]
    let t := if taken then relTarget e.pc o else e.pc + 4#64
    if pkt.isEmpty then .next (e.jump t) else e.jumpPkt t pkt

/-- Push a return address; a ninth entry traps first (R259, R260). -/
def Env.pushCall (e : Env) (k : Env → Out) : Out :=
  if e.sp.cstk.length ≥ 8 then e.trap cStackLimit 0#64
  else k (e.setSplit fun p => { p with cstk := (e.pc + 4#64) :: p.cstk })

/-- CALL (R259). -/
def execCall (o : BitVec 20) (s : State) : Out :=
  issue (Form.wave []) s fun e => e.pushCall fun e' => .next (e'.jump (relTarget e.pc o))

/-- JMPI (R260). -/
def execJmpi (a : BitVec 7) (s : State) : Out :=
  issue (Form.wave [pR a]) s fun e => e.transfer (e.s64 a) (pktHead 6 e.cl.slot 0 :: bytes8 (e.s64 a))

/-- CALLI (R260). (DEDUCED, unsafe: notes/assumptions/24.md) -/
def execCalli (a : BitVec 7) (s : State) : Out :=
  issue (Form.wave [pR a]) s fun e =>
    let t := e.s64 a
    if e.sp.cstk.length ≥ 8 then e.trap cStackLimit 0#64
    else if t.toNat % 4 ≠ 0 then e.trap cMisaligned t
    else e.pushCall fun e' => e'.jumpPkt t (pktHead 6 e.cl.slot 0 :: bytes8 t)

/-- RET (R260). -/
def execRet (s : State) : Out :=
  issue (Form.wave []) s fun e =>
    match e.sp.cstk with
    | [] => e.trap cStackLimit 0#64
    | t :: rest =>
      if t.toNat % 4 ≠ 0 then e.trap cMisaligned t
      else (e.setSplit fun p => { p with cstk := rest }).jumpPkt t (pktHead 6 e.cl.slot 0 :: bytes8 t)

/-! ## The mask stack (R261) -/

def Env.maskPkt (e : Env) : List Byte := pktHead 3 e.cl.slot 0 :: bytes4 e.exec

/-- MPUSH (R261). -/
def execMpush (a : BitVec 7) (s : State) : Out :=
  issue (Form.wave [qR a]) s fun e =>
    if e.sp.mstk.length ≥ 16 then e.trap cStackLimit 0#64
    else
      let e' := e.setSplit fun p => { p with mstk := p.exec :: p.mstk, exec := p.exec &&& e.p32 a }
      e'.donePkt e'.maskPkt

/-- MELSE (R261). -/
def execMelse (s : State) : Out :=
  issue (Form.wave []) s fun e =>
    match e.sp.mstk with
    | [] => e.trap cStackLimit 0#64
    | top :: _ =>
      let e' := e.setSplit fun p => { p with exec := top &&& ~~~p.exec }
      e'.donePkt e'.maskPkt

/-- MPOP (R261). -/
def execMpop (s : State) : Out :=
  issue (Form.wave []) s fun e =>
    match e.sp.mstk with
    | [] => e.trap cStackLimit 0#64
    | top :: rest =>
      let e' := e.setSplit fun p => { p with exec := top, mstk := rest }
      e'.donePkt e'.maskPkt

/-- MSET (R261). -/
def execMset (a : BitVec 7) (s : State) : Out :=
  issue (Form.wave [sR a]) s fun e =>
    let e' := e.setSplit fun p => { p with exec := e.s32 a &&& p.base }
    e'.donePkt e'.maskPkt

/-- MGET (R261). -/
def execMget (d : BitVec 7) (s : State) : Out := issue (Form.wave [sW d]) s fun e => .next (e.put32 d e.exec).done

/-! ## FORK and JOIN (R262 to R265) -/

/-- A part of a divided split: its lanes, its `exec`, its stacks cut to its lanes (R263). -/
def Split.part (p : Split) (pc src : DWord) (base exec : Word) : Split :=
  { pc := pc, src := src, base := base, exec := exec, mstk := p.mstk.map (· &&& base), cstk := p.cstk }

/-- Activate a token, or widen it (R263, R476): a token whose merge waits and that is no longer complete waits no more. -/
def SplitTab.widen (t : SplitTab) (i : Nat) (p : Split) : SplitTab :=
  let k := t.tok i
  let k' : Token := if k.active then { k with out := k.out ||| p.base }
    else ⟨true, p.base, 0#32, 0#32, p.mstk, p.cstk, 0#64⟩
  let t := t.setTok i k'
  if k'.complete then t else { t with merges := t.merges.filter (· ≠ i) }

/-- Place a new group: the lowest free slot, else the tail of the pending list; also the destination byte of its packet (R263,
R267, R390). -/
def SplitTab.place (t : SplitTab) (p : Split) : SplitTab × Nat :=
  match t.freeSlot with
  | some i => (t.setSlot i (some p), i)
  | none => ({ t with pend := t.pend ++ [p] }, 16 + t.pend.length)

/-- FORK (R263). -/
def execFork (d : BitVec 7) (t : BitVec 3) (i : BitVec 11) (s : State) : Out :=
  issue (Form.wave [qR d]) s fun e =>
    let T := e.exec &&& e.p32 d
    let F := e.exec &&& ~~~(e.p32 d)
    let target := relTarget e.pc i
    let pkt (dest : Nat) : List Byte := pktHead 4 e.cl.slot 0 :: (bytes4 T ++ [BitVec.ofNat 8 dest])
    if e.exec = 0#32 then .next (e.jump (e.pc + 4#64))
    else if T = 0#32 then e.jumpPkt (e.pc + 4#64) (pkt 255)
    else if F = 0#32 then e.jumpPkt target (pkt 255)
    else if e.tab.freeSlot.isNone && decide (e.tab.pend.length ≥ 16) then e.trap cStackLimit 0#64
    else
      let tab := e.tab.widen t.toNat e.sp
      let own := e.sp.part e.pc e.sp.src (e.sp.base &&& ~~~T) F
      let r := (tab.setSlot e.cl.slot (some own)).place (e.sp.part target e.pc T T)
      (e.setTab r.1).jumpPkt (e.pc + 4#64) (pkt r.2)

/-- The issuing split leaves its slot with its packet; the slot is taken as R268 gives, each pending group that starts with its packet (R390). -/
def Env.leaveSlot (e : Env) (t : SplitTab) (pkt : List Byte) : State :=
  let r := (t.setSlot e.cl.slot none).settle
  let w := (e.w.updStream e.cs fun st => { st with clause := none, tab := r.1 }).countIssued
  (((e.s.setWave e.key w).tracePkt e.key e.cs pkt).traceStarts e.key e.cs r.1 r.2).enterHandler e.key

/-- JOIN (R264, R265). -/
def execJoin (t : BitVec 3) (s : State) : Out :=
  issue (Form.wave []) s fun e =>
    let k := e.tab.tok t.toNat
    if !k.active then .next (e.jump (e.pc + 4#64))
    else if e.sp.mstk.length ≠ k.mstk.length || e.sp.cstk.length ≠ k.cstk.length then e.trap cStackLimit 0#64
    else
      let k' : Token := { k with arrb := k.arrb ||| e.sp.base, arre := k.arre ||| e.exec, out := k.out ||| e.sp.base, jpc := e.pc }
      if k'.complete then
        let m := k'.merged (e.pc + 4#64)
        let tab := { (e.tab.setTok t.toNat Token.idle) with merges := e.tab.merges.filter (· ≠ t.toNat) }
        let e' := ({ e with sp := m }).setTab (tab.setSlot e.cl.slot (some m))
        e'.jumpPkt (e.pc + 4#64) (pktHead 5 e.cl.slot 1 :: BitVec.ofNat 8 t.toNat :: bytes4 m.exec)
      else
        let pkt := pktHead 5 e.cl.slot 0 :: [BitVec.ofNat 8 t.toNat]
        .next (e.leaveSlot (e.tab.setTok t.toNat k') pkt)

/-! ## EXIT (R321) -/

/-- Are writes into the wave's blocks from place `p` up still to come: load lanes, long-latency results, CALLO replies (R295)? -/
def State.pendingFrom (s : State) (k : Nat) (w : Wave) (p : Nat) : Bool :=
  let hits : LateDest → Bool := fun d => match d with | .vec q => decide (p ≤ q) | .scalar _ _ => false
  let dests : AccessKind → List LateDest := fun x => match x with
    | .load _ _ ds => ds
    | .atomic _ _ _ ds => ds
    | .store _ _ => []
  w.late.any (fun l => !l.done && hits l.dest) ||
  w.callo.any (fun c => decide (p ≤ c.status) || decide (p ≤ c.dest)) ||
  s.flight.any (fun a => a.wave == k && (match a.st with | .failed _ => false | _ => true) && (dests a.kind).any hits) ||
  s.held.any (fun h => match h.what with
    | .lanes as => as.any fun a => a.wave == k && (dests a.kind).any hits
    | _ => false)

/-- Put blocks back, ascending (R292). Blocks 188 to 191 are the combiner slots' own (R231). -/
def CoreSt.giveBlocks (c : CoreSt) (bs : List Nat) : CoreSt :=
  { c with freeBlocks := (List.range 188).filter fun b => c.freeBlocks.contains b || bs.contains b }

/-- A wave that has exited returns its blocks once every pending write into them has landed (R309). -/
def State.reap (s : State) (k : Nat) : State :=
  match s.wave? k with
  | none => s
  | some w =>
    if w.ended && !w.blocks.isEmpty && !s.pendingFrom k w 0 then
      (s.setCore (coreOf k) ((s.core (coreOf k)).giveBlocks w.blocks)).setWave k { w with blocks := [] }
    else s

/-- A stream with no split, pending group or waiting merge has exited; its trace ends (R321, R386). A wave whose streams have
both exited has exited. -/
def State.exitCheck (s : State) (k : Nat) (cs : Bool) (slot : Nat) : State :=
  match s.wave? k with
  | none => s
  | some w =>
    let st := w.stream cs
    if st.tab.anySplit || !st.tab.pend.isEmpty || !st.tab.merges.isEmpty then s
    else
      let s := s.traceEnd k cs slot 1
      let s := s.updWave k fun w =>
        let w := w.updStream cs fun st => { st with exited := true, launched := 0#32, clause := none, wait := none }
        -- the replies of a wave that has exited are discarded (R227)
        { w with ended := w.a.exited && w.c.exited, callo := if w.a.exited && w.c.exited then [] else w.callo }
      match s.wave? k with
      | some w => (s.flushWave w).reap k
      | none => s

/-- EXIT in a handler ends the wave: every lane leaves both streams, the trap context and any deferred trap are discarded
(R417, R420). -/
def State.exitHandler (s : State) (k : Nat) (slot : Nat) : State :=
  let s := (s.traceEnd k false slot 1).traceEnd k true slot 1
  let fin (st : Stream) : Stream :=
    { st with exited := true, launched := 0#32, clause := none, wait := none, tab := SplitTab.empty }
  let s := s.updWave k fun w => { w with a := fin w.a, c := fin w.c, ctx := none, deferred := [], callo := [], ended := true }
  match s.wave? k with
  | some w => (s.flushWave w).reap k
  | none => s

/-- EXIT (R321). -/
def execExit (s : State) : Out :=
  issue (Form.wave []).noComb s fun e =>
    if e.w.ctx.isSome then .next ((e.s.setWave e.key e.w).exitHandler e.key e.cl.slot)
    else
      let x := e.sp.base
      -- a lane exits once both streams have cleared it; this stream clears it now (R256, R321)
      let r := ({ e with w := e.w.updStream e.cs fun st => { st with launched := st.launched &&& ~~~x } }).w
      let t := SplitTab.clearLanes x ((r.stream e.cs).tab.setSlot e.cl.slot none)
      let w := r.updStream e.cs fun st => { st with tab := t.1, clause := none }
      let s1 := ((e.s.setWave e.key w).traceStarts e.key e.cs t.1 t.2).exitCheck e.key e.cs e.cl.slot
      .next (s1.enterHandler e.key)

/-! ## TRAP, TRET and deferred traps (R414 to R420) -/

/-- TRAP (R419). -/
def execTrap (n : BitVec 7) (s : State) : Out :=
  issue (Form.wave []) s fun e => .next (e.s.takeTrap e.key e.cs e.cl.slot e.pc (0x80 + n.toNat) 0#64 e.exec 1)

/-- May the wave take a deferred trap now: its A-stream is at a clause boundary or held at a word, outside any handler (R417)? -/
def Wave.deferredReady (w : Wave) : Bool :=
  !w.deferred.isEmpty && w.ctx.isNone && w.trapping.isNone && !w.ended &&
  (w.a.clause.isNone || w.a.wait.isSome)

/-- Is this operation a release of its wave (R177): an arrival, a V, a JDEC? -/
def HomeOp.releases (h : HomeOp) : Bool :=
  match h.cls with
  | 0 => h.minor == 1 || h.minor == 3 || h.minor == 7
  | 1 => h.minor == 2
  | _ => true

/-- The wave's releases after access `op`, which has failed, are never performed (R185). (DEDUCED, unsafe: notes/assumptions/54.md) -/
def State.dropBarred (s : State) (k op : Nat) : State :=
  let gone (x : CallSend) : Bool := x.wave == k && decide (op < x.op) && !x.arrived
  let calls := (s.callSends.filter gone).map fun x => x.op
  let rel (a : Access) : Bool := match a.kind with | .store _ r => r | _ => false
  let barredCmd (c : Nat × Cmd) : Bool := c.2.wave == k && decide (op < c.1) && c.2.st == .issued
  let s := { s with
    flight := s.flight.filter fun a => !(a.wave == k && decide (op < a.op) && rel a && a.st == .waiting && a.sent.isNone),
    fences := s.fences.filter fun f => !(f.wave == k && decide (op < f.op) && decide (1 ≤ f.kind) && decide (f.kind ≤ 3)),
    homeOps := s.homeOps.filter fun h => !(h.wave == k && decide (op < h.op) && h.reply.isNone && h.releases),
    callSends := s.callSends.filter fun x => !gone x,
    -- engine commands that no engine has accepted (R186)
    cmds := s.cmds.filter fun c => !barredCmd c,
    held := s.held.filter fun h => match h.what with | .command id => !(s.cmds.any fun c => c.1 == id && barredCmd c) | _ => true }
  if calls.isEmpty then s else s.updWave k fun w => { w with callo := w.callo.filter fun c => !calls.contains c.op }

/-- Take the oldest deferred trap (R417), `now` before any further word issues; an aborting task takes none (R422). -/
def State.takeDeferred (s : State) (k : Nat) (now : Bool := false) : State :=
  match s.wave? k with
  | none => s
  | some w =>
    match w.deferred with
    | [] => s
    | d :: rest =>
      if !(now && !w.ended || w.deferredReady) || (w.batch.isNone && (tabGet? s.aborts w.task).isSome) then s
      else
        let s := ((s.dropBarred k d.op).updWave k fun w => { w with deferred := rest }).takeTrap k d.cs d.slot d.pc d.code d.addr d.lanes 2
        if now then s.enterNow k else s

/-- Deferred traps whose A-stream is held at a word, or at its clause boundary, are taken at once (R417). -/
def State.deferSettle (s : State) : State :=
  (s.waves.filter fun x => x.2.deferredReady).foldl (fun s x => s.takeDeferred x.1) s

/-- DEFERRED_TRAP (R417): a deferred trap of the wave is taken. -/
def execDeferredTrap (wave : Nat) (s : State) : Out := .next (s.takeDeferred wave)

/-- TRET (R420). -/
def execTret (s : State) : Out :=
  issue (Form.waveA []).noComb s fun e =>
    match e.w.ctx with
    | none => e.trap cIllegal 0#64
    | some c =>
      let kind := e.w.trapCode.toNat / 1024 % 4
      let trappedC := e.w.trapCode.getLsbD 12
      if kind = 2 then
        .next ((e.s.setWave e.key e.w).abortTask e.w.task (e.w.trapCode.toNat % 256))
      else
        let rA := if kind = 1 && !trappedC then advance c.aTab c.aClause else (c.aTab, c.aClause)
        let rC := if kind = 1 && trappedC then advance c.cTab c.cClause else (c.cTab, c.cClause)
        let w := { e.w with
          a := { e.w.a with tab := rA.1, clause := rA.2, wait := c.aWait, exited := c.aExited, z := c.z, n := c.n, c := c.c, v := c.v }
          c := { e.w.c with tab := rC.1, clause := rC.2 }
          ctx := none }
        let pk (cs : Bool) (s : State) : State :=
          s.tracePkt e.key cs [pktHead 7 e.cl.slot (if kind = 1 then 2 else 1)]
        .next ((pk true (pk false (e.s.setWave e.key w))).takeDeferred e.key true)

/-! ## Flags, counters, sleep (R287, R289, R306) -/

/-- A WAITA of the C-stream has returned: it sees the elements of the loads whose decrements the counter has counted (R196). -/
def Env.counted (e : Env) (c : Nat) : Env :=
  if e.cs then
    { e with w := { e.w with recent := e.w.recent.filter fun x => match x.load with
      | some (op, k) => k != c || (e.w.cnt.getD c []).any fun a => a.op == op
      | none => true } }
  else e

/-- WAITA (R196, R289). -/
def execWaita (c : BitVec 4) (t : BitVec 6) (s : State) : Out :=
  issue (Form.wave []) s fun e =>
    let n := (e.w.cnt.getD c.toNat []).length
    if n ≤ t.toNat then .next (e.counted c.toNat).done
    else if c.toNat = 14 && !e.w.callo.isEmpty then e.hold 5 0
    else e.hold 8 c.toNat

/-- WAITF (R287). -/
def execWaitf (f : BitVec 12) (s : State) : Out :=
  issue (Form.wave []).noComb s fun e =>
    if (List.range 12).all fun i => !f.getLsbD i || e.w.flags.getD i 0 == 0 then .next e.done
    else e.hold 9 f.toNat

/-- SLEEP (R306). -/
def execSleep (a : BitVec 7) (s : State) : Out :=
  issue (Form.wave [zR a]).noComb s fun e =>
    if (e.s64 a).toNat ≤ e.s.gtc.toNat then .next e.done
    else .next (e.await (.sleep (e.s64 a)))

/-- SLEEP_WAKE (R306): the GTC has reached the tick that the stream sleeps to. -/
def execSleepWake (wave : Nat) (cs : Bool) (s : State) : Out :=
  match s.wave? wave with
  | none => .next s
  | some w =>
    let due (x : WaitFor) : Bool := match x with | .sleep t => decide (t.toNat ≤ s.gtc.toNat) | _ => false
    match w.whichWait cs due with
    | some inCtx => .next (s.finishWord wave cs inCtx id)
    | none => .next s

/-- A late result is written (R78, R140): it stands in its register once the flag that tracks it has cleared, and a lane that something else has
written meanwhile then keeps either value. Flag 15 tracks nothing, and the result stands there at once. -/
def State.writeLate (s : State) (wave : Nat) (w : Wave) (l : Late) : State :=
  let l := { l with done := true, pick := Config.freeWord s.free 2000 }
  let s := match l.dest with
    | .scalar _ _ => s
    | .vec p => s.wroteVec (coreOf wave) w p l.mask
  let others := w.late.filter fun x => x.id != l.id
  let w := w.raiseFp s.cycle true true l.fp
  -- an outstanding load of the A-stream writes the element too (R196)
  let w := match l.dest with
    | .vec p => if l.cs && s.unlanded wave l.dest l.mask then { w with crossed := w.crossed ++ [(p, l.mask)] } else w
    | .scalar _ _ => w
  let w := if l.flag = 15 then
      let w := Wave.putLateVal { w with late := others } l
      if l.engine then w else w.updStream l.cs fun st => { st with llHold := st.llHold - 1 }
    else
      let w := { w with late := others ++ [l] }
      if l.engine then w else w.flagDown l.flag
  (s.setWave wave w).reap wave

/-- LONG_LATENCY_WRITE (R78): a long-latency result is written, and the tracking of its clause ends with it. -/
def execLongLatencyWrite (wave : Nat) (id : Nat) (s : State) : Out :=
  match s.wave? wave with
  | none => .next s
  | some w =>
    match w.late.find? fun l => l.id == id && !l.engine && !l.done with
    | none => .next s
    | some l => .next (s.writeLate wave w l)

/-! ## System registers (R34, R35, R421) -/

/-- MFSR's value (R34); none for a number that the table does not list. -/
def Env.sysReg (e : Env) (n : Nat) : Option Word :=
  match n with
  | 0x000 => some (BitVec.ofNat 32 e.w.waveId)
  | 0x001 => some e.w.blockX
  | 0x002 => some e.w.blockY
  | 0x003 => some e.w.blockZ
  | 0x004 => some (BitVec.ofNat 32 e.core)
  | 0x005 => some (BitVec.ofNat 32 (dieOf e.core))
  | 0x006 => some (BitVec.ofNat 32 (e.s.device % 4096))
  | 0x007 => some e.w.taskId
  | 0x008 => some (BitVec.ofNat 32 (e.w.tenant % 1024))
  | 0x010 => some (loHalf e.s.gtc)
  | 0x011 => some e.st.gtcHi
  | 0x020 => some e.w.fpFlags
  | 0x021 => some e.w.fpMode
  | 0x030 => some e.w.trapCode
  | 0x031 => some (loHalf e.w.trapAddr)
  | 0x032 => some (hiHalf e.w.trapAddr)
  | 0x033 => some e.w.trapLanes
  | 0x034 => some (loHalf e.w.trapPc)
  | 0x035 => some (hiHalf e.w.trapPc)
  | 0x036 => some (loHalf e.w.trapVector)
  | 0x037 => some (hiHalf e.w.trapVector)
  | 0x040 => some (loHalf e.w.causal)
  | 0x041 => some (hiHalf e.w.causal)
  | 0x050 => some (loHalf e.w.frame)
  | 0x051 => some (hiHalf e.w.frame)
  | 0x060 => some (BitVec.ofNat 32 e.st.vwin)
  | 0x061 => some (BitVec.ofNat 32 e.w.blocks.length)
  | _ => none

/-- MFSR (R421). -/
def execMfsr (d : BitVec 7) (n : BitVec 11) (s : State) : Out :=
  issue ((Form.wave [sW d]).need (sysListed n.toNat) .badNumber) s fun e =>
    match e.sysReg n.toNat with
    | none => e.trap cIllegal 0#64
    | some x =>
      let e := if n.toNat = 0x010 then e.setSt fun st => { st with gtcHi := hiHalf e.s.gtc } else e
      .next (e.put32 d x).done

/-- The flags that the other stream and late results have raised in the cycle. -/
def Wave.fpOthers (w : Wave) (cs : Bool) (cycle : Nat) : Flags := if cs then (w.fpRaised cycle).1 else (w.fpRaised cycle).2

/-- MTSR (R35, R63, R421). -/
def execMtsr (a : BitVec 7) (n : BitVec 11) (s : State) : Out :=
  issue ((Form.wave [sR a]).need (sysWritable n.toNat) .badNumber).noComb s fun e =>
    let x := e.s32 a
    -- of two writes in one cycle the A-stream's remains: the C-stream issues nothing after it in that cycle
    let e := if e.cs then e else { e with w := { e.w with pause := some (true, e.s.cycle) } }
    match n.toNat with
    -- flags that results raise in the cycle are ORed into it (R65)
    | 0x020 => .next ({ e with w := { e.w with fpFlags := (x &&& 31#32) ||| e.w.fpOthers e.cs e.s.cycle } }).done
    | 0x021 => if x.toNat % 8 ≥ 5 then e.trap cIllegal 0#64 else .next ({ e with w := { e.w with fpMode := x &&& 7#32 } }).done
    | 0x036 => .next ({ e with w := { e.w with trapVector := joinHalves (hiHalf e.w.trapVector) (x &&& ~~~3#32) } }).done
    | 0x037 => .next ({ e with w := { e.w with trapVector := joinHalves (x &&& 0xFFFFFF#32) (loHalf e.w.trapVector) } }).done
    | _ => e.trap cIllegal 0#64

/-! ## Events and the trace switches (R384 to R386) -/

/-- EVT (R384). -/
def execEvt (a b : BitVec 7) (s : State) : Out :=
  issue (Form.wave [pR a, sR b]) s fun e =>
    .next (e.done.emit (srcCore e.core) (0xF00 + (e.s32 b).toNat % 256) e.w.tenant e.w.causal (e.s64 a))

/-- CAUSE.SET (R385). -/
def execCauseSet (a : BitVec 7) (s : State) : Out :=
  issue (Form.wave [pR a]).noComb s fun e =>
    let r : DWord × State := if e.s64 a = 0#64 then e.s.freshId (srcCore e.core) else (e.s64 a, e.s)
    -- the other stream carries the old one in this cycle: it issues nothing more in it
    .next ({ e with s := r.2, w := { e.w with causal := r.1, pause := some (!e.cs, e.s.cycle) } }).done

/-- CAUSE.GET (R385). -/
def execCauseGet (d : BitVec 7) (s : State) : Out :=
  issue (Form.wave [pW d]) s fun e => .next (e.put64 d e.w.causal).done

/-- TRC.ON (R386). -/
def execTrcOn (a : BitVec 7) (s : State) : Out :=
  issue (Form.wave [zR a]).noComb s fun e =>
    let d := e.s64 a
    if d.toNat % 64 ≠ 0 then e.trap cMisaligned d
    else
      let s1 := e.done.traceEnd e.key e.cs e.cl.slot 0
      let t : TraceSt :=
        { desc := d, epoch := BitVec.ofNat 32 s1.traceEpoch, seq := 0, data := [], resync := false, needSync := true,
          lastTick := s1.gtc, lastSync := s1.gtc, count := 0, dropped := [], discard := false, lastSlot := 0, synced := false }
      let s2 := { s1 with traceEpoch := s1.traceEpoch + 1 }
      .next (s2.updWave e.key fun w => w.updStream e.cs fun st => { st with trace := some t })

/-- TRC.OFF (R386). -/
def execTrcOff (s : State) : Out :=
  issue (Form.wave []).noComb s fun e => .next (e.done.traceEnd e.key e.cs e.cl.slot 0)

/-! ## The stream queues (R290, R291) -/

/-- The wave of a `.single` kernel has no queues (R290). -/
def Env.queues (e : Env) (k : Unit → Out) : Out := if e.w.single then e.trap cIllegal 0#64 else k ()

def Env.incoming (e : Env) : List QEntry := if e.cs then e.w.qac else e.w.qca
def Env.outgoing (e : Env) : List QEntry := if e.cs then e.w.qca else e.w.qac
def Env.setIncoming (e : Env) (q : List QEntry) : Env :=
  { e with w := if e.cs then { e.w with qac := q } else { e.w with qca := q } }
def Env.setOutgoing (e : Env) (q : List QEntry) : Env :=
  { e with w := if e.cs then { e.w with qca := q } else { e.w with qac := q } }

/-- QPUSH (R290). -/
def execQpush (a : BitVec 7) (s : State) : Out :=
  issue (Form.wave [sR a]).noComb s fun e => e.queues fun _ =>
    if e.outgoing.length ≥ 16 then e.hold 6 (if e.cs then 0 else 1)
    else
      let loc := queueLoc (if e.cs then 1 else 0) (slotOf e.key) e.outgoing.length
      let hit := e.s.injectHit 4 e.core loc
      let e' := e.setOutgoing (e.outgoing ++ [⟨e.s32 a, false, if hit then some e.s.inj.uncorr else none, e.s.free⟩])
      .next (if hit then { e' with s := { e'.s with inj := { e'.s.inj with arm := false } } } else e').done

/-- Reading an entry finds an injected error (R413): whether the entry is uncorrectable. -/
def Env.findEntry (e : Env) (x : QEntry) : Bool × Env :=
  match x.inj with
  | none => (x.bad, e)
  | some u => (x.bad || u, { e with s := e.s.report 4 e.core (queueLoc (if e.cs then 0 else 1) (slotOf e.key) 0) u true false e.w.tenant e.w.causal })

/-- The entry taken was pushed at step `t`: this stream misses no write of the other that precedes it (R79), and the FENCE.OPNDs before it come before
what the C-stream issues (R124). -/
def Env.synced (e : Env) (t : Nat) : Env :=
  { e with w := { e.w with recent := e.w.recent.filter fun x => x.cs == e.cs || decide (t ≤ x.at_),
                           popAt := if e.cs then max e.w.popAt t else e.w.popAt } }

/-- QPOP (R79, R290, R412). -/
def execQpop (d : BitVec 7) (s : State) : Out :=
  issue (Form.wave [sW d]).noComb s fun e => e.queues fun _ =>
    match e.incoming with
    | [] => e.hold 6 (if e.cs then 0 else 1)
    | x :: rest =>
      let r := (e.setIncoming rest).findEntry x
      if r.1 then r.2.commit.trap cPoison 0#64 else .next ((r.2.put32 d x.val).synced x.at_).done

/-- QPEEK (R290, R412). -/
def execQpeek (d : BitVec 7) (s : State) : Out :=
  issue (Form.wave [sW d]).noComb s fun e => e.queues fun _ =>
    match e.incoming with
    | [] => e.hold 6 (if e.cs then 0 else 1)
    | x :: rest =>
      let r := e.findEntry x
      if r.1 then (r.2.setIncoming ({ x with bad := true, inj := none } :: rest)).commit.trap cPoison 0#64
      else .next ((r.2.setIncoming ({ x with inj := none } :: rest)).put32 d x.val).done

/-- QLEN (R290). -/
def execQlen (d : BitVec 7) (s : State) : Out :=
  issue (Form.wave [sW d]).noComb s fun e => e.queues fun _ =>
    .next (e.put32 d (BitVec.ofNat 32 (e.incoming.length + 65536 * (16 - e.outgoing.length)))).done

/-! ## Register blocks (R292 to R296) -/

/-- Nothing is remembered of the elements from this place on: what they held, and which writes crossed there, went with their block (R292, R296). -/
def Wave.forget (w : Wave) (lo : Nat) : Wave :=
  { w with recent := w.recent.filter fun x => x.isPred || decide (x.reg < lo), crossed := w.crossed.filter fun x => decide (x.1 < lo) }

/-- Give the wave `n` blocks of the pool; each reads 0 (R292, R294). -/
def State.grantBlocks (s : State) (k n : Nat) : State :=
  match s.wave? k with
  | none => s
  | some w =>
    let c := s.core (coreOf k)
    let lo := 16 * w.blocks.length
    let fresh {α : Type} (t : Tab α) : Tab α := t.filter fun x => decide (x.1 < lo)
    let w' : Wave := { w.forget lo with blocks := w.blocks ++ c.freeBlocks.take n, vregs := fresh w.vregs, vpoison := fresh w.vpoison }
    ((s.setCore (coreOf k) { c with freeBlocks := c.freeBlocks.drop n }).setWave k w').wroteElems (coreOf k) w' lo (16 * n)

/-- The blocks that the wave's waiting VACQ.B requests ask for (R294). (DEDUCED, unsafe: notes/assumptions/25.md) -/
def Env.asked (e : Env) : Nat :=
  (((e.s.core e.core).vacq.filter fun r => r.wave == e.key).map fun r => r.n).sum

/-- Has the pool room for n blocks now, with no request waiting (R294)? -/
def Env.poolFits (e : Env) (n : Nat) : Bool :=
  (e.s.core e.core).vacq.isEmpty && decide (n ≤ (e.s.core e.core).freeBlocks.length)

/-- VACQ.B (R294). (DEDUCED, unsafe: notes/assumptions/25.md) -/
def execVacqB (a : BitVec 7) (s : State) : Out :=
  issue (Form.wave [sR a]).noComb s fun e =>
    let n := (e.s32 a).toNat
    if e.w.blocks.length + n + e.asked > 32 then e.trap cVacqLimit 0#64
    else if n = 0 then .next e.done
    else if e.poolFits n then .next ((e.done).grantBlocks e.key n)
    else
      let c := e.s.core e.core
      let s' := e.s.setCore e.core { c with vacq := c.vacq ++ [⟨e.key, e.cs, n⟩] }
      .next ({ e with s := s' }.await (.grant n))

/-- VACQ.T (R294). (DEDUCED, unsafe: notes/assumptions/25.md) -/
def execVacqT (d a : BitVec 7) (s : State) : Out :=
  issue (Form.wave [qW d, sR a]).noComb s fun e =>
    let n := (e.s32 a).toNat
    if e.w.blocks.length + n + e.asked > 32 then e.trap cVacqLimit 0#64
    else if n = 0 then .next e.done
    else if e.poolFits n then .next ((e.putP d 0xFFFFFFFF#32 0xFFFFFFFF#32).done.grantBlocks e.key n)
    else .next (e.putP d 0xFFFFFFFF#32 0#32).done

/-- VREL (R295). -/
def execVrel (a : BitVec 7) (s : State) : Out :=
  issue (Form.wave [sR a]).noComb s fun e =>
    let n := (e.s32 a).toNat
    let keep := e.w.blocks.length - n
    if n > e.w.blocks.length then e.trap cVacqLimit 0#64
    else if n = 0 then .next e.done
    else if e.s.pendingFrom e.key e.w (16 * keep) then e.hold 15 (5 + 16 * keep)
    else
      let s' := e.s.setCore e.core ((e.s.core e.core).giveBlocks (e.w.blocks.drop keep))
      -- a result that has been written no longer matters there once its flag clears
      let late := e.w.late.filter fun l => match l.dest with | .vec q => decide (q < 16 * keep) | .scalar _ _ => true
      .next ({ e with s := s', w := { e.w.forget (16 * keep) with blocks := e.w.blocks.take keep, late := late } }).done

/-- VWIN (R296). -/
def execVwin (a : BitVec 7) (s : State) : Out :=
  issue (Form.wave [sR a]).noComb s fun e =>
    if (e.s32 a).toNat > 31 then e.trap cRegWindow 0#64
    else .next (e.setSt fun st => { st with vwin := (e.s32 a).toNat }).done

/-- VREG_GRANT (R294): the oldest waiting request of a core is granted, if it fits. -/
def execVregGrant (core : Nat) (s : State) : Out :=
  let c := s.core core
  match c.vacq with
  | [] => .next s
  | r :: rest =>
    if r.n ≤ c.freeBlocks.length then
      let asks (x : WaitFor) : Bool := match x with | .grant _ => true | _ => false
      let inCtx := ((s.wave? r.wave).bind fun w => w.whichWait r.cs asks).getD false
      .next (((s.setCore core { c with vacq := rest }).grantBlocks r.wave r.n).finishWord r.wave r.cs inCtx id)
    else .next s

end Sys2Proof.Machine
end

