-- ==== Sys2Proof/Machine/Access.lean ====
section
/-!
DEFINITION. Where an address leads (spec/06_memory_tiers.md, R149 to R168; 14_translation.md, R331 to R349;
15_tenancy_and_trust.md, R355 to R360): windows, page walks, TLBs, the binding check of a frame, the near cache.
-/
namespace Sys2Proof.Machine

/-! ## Frames of local HBM (R355, R359, R360) -/

/-- A frame that nothing has bound. -/
def PvtEntry.free : PvtEntry :=
  { bound := false, tenant := 0, vpn := 0, version := 0, redir := none, content := (0, 0, 0), unbindAt := none }

def State.isKeyed (s : State) (tenant : Nat) : Bool := s.keyed.contains tenant

/-- Does the page-version table lie in the frame: 144 MiB from SEC_PVT.BASE, which no agent but the security block reaches (R355, R457)? -/
def State.pvtFrame (s : State) (frame : Nat) : Bool :=
  let b := s.sec.pvtBase.toNat / 65536
  decide (b ≤ frame) && decide (frame < b + 2304)

/-- Frames of the recode aperture: (CARVE − SPILL) × 4 ÷ 3 bytes (R160). -/
def State.apertureBytes (s : State) : Nat :=
  ((s.recodeNow.toNat % 2 ^ 16) - (s.recodeNow.toNat / 2 ^ 16 % 2 ^ 16)) * 2 ^ 26 * 4 / 3

/-- Does the frame exist: ordinary HBM, or the aperture when the page has RECODE = 1 (R160)? -/
def State.frameExists (s : State) (frame : Nat) (recodePage : Bool) : Bool :=
  (decide (frame * 65536 + 65536 ≤ hbmBytes) && !s.pvtFrame frame) ||
  (recodePage && decide (apertureBase ≤ frame * 65536) && decide (frame * 65536 + 65536 ≤ apertureBase + s.apertureBytes))

/-- A 256-B block fits the lossless form when its 128 BF16 exponent fields span at most 8 consecutive values. (DESIGN CHOICE, unsafe: notes/assumptions/19.md) -/
def blockFits (bs : List Byte) : Bool :=
  let exps := (List.range 128).map fun i => (bytesToNat ((bs.drop (2 * i)).take 2)) / 128 % 256
  match exps with
  | [] => true
  | e :: es => decide (es.foldl max e - es.foldl min e ≤ 7)

/-- Blocks of the aperture that lie in the spill area. (DESIGN CHOICE, unsafe: notes/assumptions/19.md) -/
def spilledBlocks (m : List (Nat × Byte)) : List Nat :=
  (((m.filter fun c => decide (apertureBase ≤ c.1) && isHbmKey c.1).map fun c => c.1 / 256).dedup).filter fun b =>
    !blockFits (memGets m (b * 256) 256)

/-- SPILL of the value in effect, in bytes (R160). (DESIGN CHOICE, unsafe: notes/assumptions/19.md) -/
def State.spillBytes (s : State) : Nat := s.recodeNow.toNat / 65536 % 65536 * 2 ^ 26

/-- USED of MEM_RECODE (R160): spill space in use, in units of 64 MiB, rounded up. (DESIGN CHOICE, unsafe: notes/assumptions/19.md) -/
def State.spillNote (s : State) : State :=
  if s.recodeNow = 0#64 then s else { s with spillUsed := ((spilledBlocks s.mem).length * 256 + 2 ^ 26 - 1) / 2 ^ 26 }

/-- No near cache keeps a line of a frame whose binding changes (R354, R360). (DEDUCED, unsafe: notes/assumptions/83.md) -/
def State.nearDropFrame (s : State) (frame : Nat) : State :=
  if s.cores.any fun c => !c.2.near.isEmpty then
    { s with cores := s.cores.map fun c => (c.1, { c.2 with near := c.2.near.filter fun x => x.1 / 512 != frame }) }
  else s

/-- Zero-fill `n` bytes of memory: their errors and the barrier words in them go (R297, R360). -/
def State.zeroMem (s : State) (key n : Nat) : State := ({ s with mem := memZero s.mem key n } : State).freshMem key n

/-- Bind a frame to (tenant, VPN) under the next version, zero-filled (R360). -/
def State.bindFrame (s : State) (frame tenant vpn : Nat) : State :=
  let v := (s.version + 1) % 2 ^ 48
  let s := (s.zeroMem (frame * 65536) 65536).nearDropFrame frame
  let s := { s with version := v,
                    pvt := tabPut s.pvt frame { PvtEntry.free with bound := true, tenant := tenant, vpn := vpn, version := v,
                                                                   content := (tenant, vpn, v) } }
  if apertureBase ≤ frame * 65536 then s.spillNote else s

/-- The frame that a BIND has moved the pair's binding away from: it holds an older version of contents that another frame is bound to (R361).
(DEDUCED, unsafe: notes/assumptions/83.md) -/
def State.movedAway (s : State) (e : PvtEntry) (tenant vpn : Nat) : Bool :=
  e.content.1 == tenant && e.content.2.1 == vpn && e.content.2.2 != 0 &&
  s.pvt.any fun x => x.2.bound && x.2.tenant == tenant && x.2.vpn == vpn && decide (e.content.2.2 < x.2.version)

/-- The binding check of an access (R351, R360, R361): an unbound frame is bound by the first access; none is a refusal. (DEDUCED, unsafe: notes/assumptions/83.md) -/
def State.bindCheck (s : State) (frame tenant vpn : Nat) : Option State :=
  if !s.isKeyed tenant then none
  else
    let e := tabGetD s.pvt frame PvtEntry.free
    if e.bound then (if e.tenant = tenant ∧ e.vpn = vpn then some s else none)
    else if s.movedAway e tenant vpn then none
    else some (s.bindFrame frame tenant vpn)

/-- A physical-address access acts as tenant 0 with VPN equal to the frame (R355). -/
def State.sysCheck (s : State) (pa : Nat) : Option State :=
  let frame := pa / 65536
  if s.frameExists frame false then s.bindCheck frame 0 frame else none

/-- Read `n` bytes of a system structure at a physical address (R355): the value, or the code: the frame belongs to someone else, or the read finds an
uncorrectable error (R358). -/
def State.sysRead (s : State) (pa n : Nat) : Except Nat Nat × State :=
  match s.sysCheck pa with
  | none => (.error cPermission, s)
  | some s => (match s.readError pa n with | some c => .error c | none => .ok (s.rd pa n), s.findErrors pa n 0 0#64)
/-- Write a system structure. -/
def State.sysWrite (s : State) (pa n v : Nat) : State :=
  match s.sysCheck pa with
  | none => s
  | some s => let s := s.findPart pa n 0 0#64; if (s.writeError pa n).isSome then s else s.put pa n v

/-! ## Page-table entries (R332) -/

def pteV (e : DWord) : Bool := e.getLsbD 0
def pteR (e : DWord) : Bool := e.getLsbD 1
def pteW (e : DWord) : Bool := e.getLsbD 2
def pteX (e : DWord) : Bool := e.getLsbD 3
def pteKind (e : DWord) : Nat := e.toNat / 16 % 4
def pteSysAtom (e : DWord) : Bool := e.getLsbD 6
def pteDisc (e : DWord) : Bool := e.getLsbD 7
def pteVers (e : DWord) : Bool := e.getLsbD 8
def pteSnap (e : DWord) : Bool := e.getLsbD 9
def pteRecode (e : DWord) : Bool := e.getLsbD 10
def pteMoving (e : DWord) : Bool := e.getLsbD 11
def pteLoc (e : DWord) : Nat := e.toNat / 2 ^ 12 % 4
def pteReserved (e : DWord) : Nat := e.toNat / 2 ^ 14 % 4
def pteDevno (e : DWord) : Nat := e.toNat / 2 ^ 16 % 2 ^ 12
def pteFrame (e : DWord) : Nat := e.toNat / 2 ^ 28
/-- A leaf has one of R, W and X. -/
def pteLeaf (e : DWord) : Bool := pteR e || pteW e || pteX e

/-- 64 KiB granules that an entry of a level covers: the root word is level 0's parent (R339). Spans are counted by the
power of 1,024: 0 for level 3, 3 for level 0, 4 for a root word. -/
def spanGranules (span : Nat) : Nat := 1024 ^ (span % 8)

/-- A walk that ended because an entry could not be read has this added to its span; its record's ACCESS is 7 (R339). -/
def tableRead : Nat := 8
def unread (code : Nat) : Nat := if code = cPermission then 0 else tableRead
def walkAccess (span access : Nat) : Nat := if span ≥ tableRead then 7 else access

/-- Is the entry of this level well formed (R331, R333)? -/
def pteOk (level : Nat) (e : DWord) : Bool :=
  pteReserved e == 0 &&
  (if pteLeaf e then
    decide (level ≥ 1) && (level != 1 || pteFrame e % 2 ^ 20 == 0) && (level != 2 || pteFrame e % 2 ^ 10 == 0) &&
    !((pteSnap e || pteVers e) && level != 3) && !(pteSnap e && pteVers e)
   else decide (level ≤ 2) && decide (e.toNat % 2 ^ 28 = 1))

/-- Walk from level `level` at the table `frame` (R331 to R333). Fuel counts the levels left. -/
def State.walkFrom : Nat → State → Nat → Nat → Nat → WalkEnd × State
  | 0, s, _, _, _ => (.error cPermission 0, s)
  | fuel + 1, s, level, frame, vpn =>
    let pa := frame * 65536 + vpn / 1024 ^ (3 - level) % 1024 * 8
    match s.sysRead pa 8 with
    | (.error c, s) => (.error c (3 - level + unread c), s)
    | (.ok v, s) =>
      let e := BitVec.ofNat 64 v
      if !pteV e then (.missing (3 - level) e, s)
      else if !pteOk level e then (.error cPermission (3 - level), s)
      else if pteLeaf e then (.leaf e level, s)
      else State.walkFrom fuel s (level + 1) (pteFrame e) vpn

/-- Walk a tenant's tables from its root word (R331). -/
def State.walkPage (s : State) (tenant vpn : Nat) : WalkEnd × State :=
  let pa := s.trnRoot.toNat / 2 ^ 13 % 2 ^ 39 * 2 ^ 13 + 8 * tenant
  match s.sysRead pa 8 with
  | (.error c, s) => (.error c (4 + unread c), s)
  | (.ok v, s) =>
    let e := BitVec.ofNat 64 v
    if !pteV e then (.missing 4 0#64, s)
    else if e.toNat % 2 ^ 28 ≠ 1 then (.error cPermission 4, s)
    else State.walkFrom 4 s 0 (pteFrame e) vpn

/-! ## TLBs (R334, R336) -/

/-- Does a TLB entry hold this page for this party? -/
def TlbEntry.covers (t : TlbEntry) (tenant tag vpn : Nat) : Bool :=
  t.tenant == tenant && (t.tag == 0 || t.tag == tag) && t.vpn / 1024 ^ (3 - t.level) == vpn / 1024 ^ (3 - t.level)

/-- The TLB of a core, or of a quad's translation engine. -/
def State.tlb (s : State) (tte : Bool) (n : Nat) : List TlbEntry := if tte then tabGetD s.tteTlb n [] else (s.core n).tlb
def State.setTlb (s : State) (tte : Bool) (n : Nat) (t : List TlbEntry) : State :=
  if tte then { s with tteTlb := tabPut s.tteTlb n t } else s.setCore n { s.core n with tlb := t }

/-- A task's own tagged entry goes before an untagged one (R334). -/
def tlbFind (t : List TlbEntry) (tenant tag vpn : Nat) : Option TlbEntry :=
  match t.find? fun x => x.covers tenant tag vpn && x.tag != 0 with
  | some x => some x
  | none => t.find? fun x => x.covers tenant tag vpn

/-- A TLB entry leaves: lanes served from a discarded page are reported (R344). -/
def State.tlbReport (s : State) (core : Nat) (x : TlbEntry) : State :=
  if x.served = 0 then s
  else s.emit (srcCore core) 0x012 x.tenant 0#64 (BitVec.ofNat 64 (x.vpn % 2 ^ 40 + min x.served (2 ^ 24 - 1) * 2 ^ 40))

/-- Fill a TLB: 2,048 entries in a core, 512 in a quad (R334, R336); a full one drops its first entry
(DESIGN CHOICE, unsafe: notes/assumptions/7.md). -/
def State.tlbFill (s : State) (tte : Bool) (n : Nat) (x : TlbEntry) : State :=
  let old := s.tlb tte n
  let same (y : TlbEntry) : Bool := y.tenant == x.tenant && y.tag == x.tag && y.level == x.level && y.covers x.tenant x.tag x.vpn
  let cap := if tte then 512 else 2048
  -- a page that it holds already keeps its one entry
  if old.any same then s.setTlb tte n (old.map fun y => if same y then { x with served := y.served } else y)
  else if old.length < cap then s.setTlb tte n (old ++ [x])
  else
    let s := match old with
      | o :: _ => if tte then s else s.tlbReport n o
      | [] => s
    s.setTlb tte n (old.drop 1 ++ [x])

/-! ## Where an access leads -/

/-- What an access does to its location (R333, R339 ACCESS). -/
inductive Dir where
  | load | store | atomic | fetch
  deriving DecidableEq, Repr

/-- An address resolved (R192): where it leads, its page kind, whether its page is discarded; a refusal; a walk error, with the span of
the entry at fault; a replayable fault with span and record flags; a page that no TLB holds. -/
inductive Resolved where
  | ok (place : Place) (kind : Nat) (disc : Bool)
  | refused (code : Nat)
  | walkError (code span : Nat)
  | faults (code span flags : Nat) (kind : Option Nat)
  | miss (vpn : Nat)
  /-- a commit task waits for the page's shadow (R327): the task that holds the page, or itself when the pool is empty -/
  | shadowWait (holder : Nat)
  deriving DecidableEq, Repr

/-- Who makes an access: the core (or quad, with `tte`) whose TLB it uses, its tenant, the task slot that tags its commit task's
shadows (0 for none, else slot + 1), the party that a finished walk is kept for, the redirection of a restored block (R329). -/
structure Asker where
  tte : Bool
  unit : Nat
  tenant : Nat
  tag : Nat
  id : Nat
  redirect : Option (Nat × Nat)
  /-- SCOPE of the engine record that it reads for (R164); 99 where nothing names one -/
  scope : Nat := 99
  /-- it checks its pages as a store does and only reads them: it takes no shadow (R320, R327) -/
  look : Bool := false
  deriving DecidableEq, Repr

/-- The Plaza key of a window offset, redirected for a restored block (R151, R329). -/
def plazaOf (redirect : Option (Nat × Nat)) (off : Nat) : Nat :=
  let core := off / 0x80000
  let core := match redirect with
    | some (q, q') => if core / 4 = q then q' * 4 + core % 4 else core
    | none => core
  plazaKey core (off % 0x80000)

/-- Granule number of a Plaza key: 80 granules of 4 KiB to a slice (R153). -/
def granuleOf (key : Nat) : Nat := (key - plazaBase) / 0x80000 * 80 + (key - plazaBase) % 0x80000 / 4096

/-- Check 2 of R192 without the Avenue's scope: an address that leads nowhere (R149, R151). -/
def vaBad (va : Nat) : Bool :=
  decide (va ≥ 2 ^ 56) ||
  (decide (va ≥ 0xFF000000000000) &&
    (decide (va ≥ 0xFF00000A000000) || decide ((va - 0xFF000000000000) % 0x80000 ≥ 0x50000)))

def isPlazaVa (va : Nat) : Bool := decide (0xFF000000000000 ≤ va) && decide (va < 0xFF00000A000000)
def isAvenueVa (va : Nat) : Bool := decide (0xFE000000000000 ≤ va) && decide (va < 0xFF000000000000)

/-- Does the leaf allow the access (R333)? -/
def leafAllows (e : DWord) (d : Dir) : Bool :=
  match d with
  | .load => pteR e
  | .store => pteW e
  | .atomic => pteR e && pteW e
  | .fetch => pteX e

/-- The Avenue allocation that holds an address (R165). (DESIGN CHOICE, unsafe: notes/assumptions/27.md) -/
def State.avAlloc (s : State) (va tenant : Nat) : Option AvAlloc :=
  (s.fab.window.find? fun x => decide (x.1 ≤ va) && decide (va < x.1 + x.2.size) && x.2.tenant == tenant).map Prod.snd

/-- The deterministic REDs that wait for their flush, in the cores' logs and in the flush area (R318). -/
def State.bufferedReds (s : State) : List DetRed := (s.cores.flatMap fun c => c.2.det) ++ s.lch.flushArea.map Prod.snd

/-- The frame of a VERS leaf: the task's shadow, else the current version's frame, which the REDIR entry locates (R347). -/
def State.versFrame (s : State) (entry tag : Nat) : Nat :=
  match s.lch.shadows.find? fun x => x.entry == entry && x.task + 1 == tag with
  | some x => x.frame
  | none => (tabGetD s.pvt entry PvtEntry.free).redir.getD entry

/-- May a shadow take the pool's frame: it exists, and is unbound or tenant 0's own system frame (R355, R360)? (DESIGN CHOICE, unsafe: notes/assumptions/81.md) -/
def State.poolFrame (s : State) (frame : Nat) : Bool :=
  let e := tabGetD s.pvt frame PvtEntry.free
  s.frameExists frame false && (!e.bound || (e.tenant == 0 && e.vpn == frame))

/-- Shadows and old versions that nothing uses any more go back to the pool, unbound. (DESIGN CHOICE, unsafe: notes/assumptions/81.md) -/
def State.poolFree (s : State) (frames : List Nat) : State :=
  if frames.isEmpty then s else { s with pvt := s.pvt.filter fun x => !(frames.contains x.1) }

/-- Frames of the shadow pool that no shadow or published version uses: BASE in units of 64 KiB, SIZE frames (R457). -/
def State.freeShadow (s : State) : Option Nat :=
  let base := s.lch.shadow.toNat / 65536 % 2 ^ 36
  (List.range (s.lch.shadow.toNat % 65536)).findSome? fun i =>
    let f := base + i
    if !s.poolFrame f || (s.lch.shadows.any fun x => x.frame == f) || (s.pvt.any fun x => x.2.redir == some f) ||
       -- an access that used an old translation of the frame has not been performed (R347)
       s.flight.any (fun a => a.st == .waiting && (match a.place with | .mem k => isHbmKey k && k / 65536 == f | _ => false)) then none else some f

/-- A commit task's first write to a VERS page takes a shadow of the current version (R327); a page that another live commit task has
shadowed holds the access, and so does an empty pool. (DEDUCED, unsafe: notes/assumptions/47.md) (DESIGN CHOICE, unsafe: notes/assumptions/81.md) -/
def State.takeShadow (s : State) (entry tag tenant vpn : Nat) : Option (State ⊕ Nat) :=
  if tag = 0 || (s.lch.shadows.any fun x => x.entry == entry && x.task + 1 == tag) then some (.inl s)
  else match s.lch.shadows.find? fun x => x.entry == entry with
    | some x => some (.inr x.task)
    | none =>
      match s.freeShadow with
      | none => some (.inr (tag - 1))
      | some f =>
        let cur := (tabGetD s.pvt entry PvtEntry.free).redir.getD entry
        -- the current version's frame is bound to this page, or nobody reads it (R354, R360)
        (s.bindCheck cur tenant vpn).map fun s =>
          let s := s.bindFrame f tenant vpn
          let x : Shadow := ⟨tag - 1, tenant, vpn, entry, f⟩
          .inl { s with mem := memCopy s.mem (cur * 65536) (f * 65536) 65536,
                        lch := { s.lch with shadows := s.lch.shadows ++ [x] } }

/-- The bytes that a leaf of a level maps, and the PA of an address in it (R331). -/
def leafPa (e : DWord) (level va : Nat) : Nat := pteFrame e * 65536 + va % (65536 * 1024 ^ (3 - level))

/-- A write's faults on a leaf: MOVING (R346), SNAP (R348), DISC (R344); the record's flags with them. -/
def leafFault (e : DWord) (d : Dir) : Option (Nat × Nat) :=
  let writes := d == .store || d == .atomic
  if writes && pteMoving e then some (cTranslation, 2)
  else if writes && pteSnap e then some (cTranslation, 8)
  else if writes && pteDisc e then some (cDiscardedWrite, 0)
  else none

/-- LOC of a leaf, which may name this module (R331). -/
def State.locOf (s : State) (e : DWord) : Nat := if pteLoc e = 1 && pteDevno e == s.device then 0 else pteLoc e

/-- Resolve through a leaf (R192 checks 3 and 5). The binding check (R360) may bind the frame. -/
def State.resolveLeaf (s : State) (w : Asker) (d : Dir) (scope va : Nat) (e : DWord) (level : Nat) :
    Resolved × State :=
  let loc := s.locOf e
  let sysNeed := d == .atomic && (scope == 5 || loc == 2 || loc == 3)
  if !leafAllows e d || pteKind e == 3 || (sysNeed && !pteSysAtom e) then (.refused cPermission, s)
  else match leafFault e d with
    | some (code, fl) =>
      -- SHADOW: the task has a shadow of the page (R347)
      let sh := if pteVers e && s.lch.shadows.any (fun x => x.entry == pteFrame e && x.task + 1 == w.tag) then 4 else 0
      (.faults code (3 - level) (fl + sh) (some (pteKind e)), s)
    | none =>
      let pa := leafPa e level va
      match loc with
      | 0 =>
        match (if pteVers e && (d == .store || d == .atomic) && !w.look then s.takeShadow (pa / 65536) w.tag w.tenant (va / 65536) else some (.inl s)) with
        | none => (.refused cPermission, s)
        | some (.inr t) => (.shadowWait t, s)
        | some (.inl s) =>
        let frame := if pteVers e then s.versFrame (pa / 65536) w.tag else pa / 65536
        let pa := frame * 65536 + pa % 65536
        if decide (apertureBase ≤ pa) && !pteRecode e then (.refused cPermission, s)
        else if !s.frameExists frame (pteRecode e) then (.refused cPermission, s)
        else if pteDisc e then (.ok (.mem pa) (pteKind e) true, s)
        else match s.bindCheck frame w.tenant (va / 65536) with
          | none => (.refused cPermission, s)
          | some s => (.ok (.mem pa) (pteKind e) false, s)
      | 1 =>
        if decide (apertureBase ≤ pa) && !pteRecode e then (.refused cPermission, s)
        else (.ok (.remote (pteDevno e) pa) (pteKind e) (pteDisc e), s)
      | 2 => (.ok (.mem (poolBase + pa)) (pteKind e) (pteDisc e), s)
      | _ => (.ok (.mem (hostBase + pa)) (pteKind e) (pteDisc e), s)

/-- Resolve one address (R149, R192). `scope` is what the access names; loads name none (99). (DESIGN CHOICE, unsafe: notes/assumptions/27.md) -/
def State.resolve (s : State) (w : Asker) (d : Dir) (scope va : Nat) : Resolved × State :=
  if vaBad va then (.refused cPermission, s)
  else if isPlazaVa va then
    if d == .fetch then (.refused cPermission, s)
    else
      let key := plazaOf w.redirect (va - 0xFF000000000000)
      match tabGet? s.granules (granuleOf key) with
      | some t => if t = w.tenant then (.ok (.mem key) 0 false, s) else (.refused cPermission, s)
      | none => (.refused cPermission, s)
  else if isAvenueVa va then
    if d == .fetch || scope < 4 then (.refused cPermission, s)
    else if (d == .store || d == .atomic) && w.tag != 0 then (.refused cPermission, s)
    else match s.avAlloc va w.tenant with
      | some _ => (.ok (.avenue va) 0 false, s)
      | none => (.refused cPermission, s)
  else
    let ended : Option WalkEnd := (s.walkRes.find? fun r => r.asker == w.id && r.tenant == w.tenant && r.vpn == va / 65536).map fun r => r.res
    match ended with
    | some (.error code span) => (.walkError code span, s)
    | _ =>
      match tlbFind (s.tlb w.tte w.unit) w.tenant w.tag (va / 65536) with
      | some t => s.resolveLeaf w d scope va t.leaf t.level
      | none =>
        match ended with
        | some (.missing span _) => (.faults cTranslation span 0 none, s)
        | _ => (.miss (va / 65536), s)

/-- The die whose walkers serve a party: its core's, or its quad's (R335). -/
def Asker.die (w : Asker) : Nat := if w.tte then w.unit / 20 % 4 else dieOf w.unit

/-- The granules of the page that a VPN lies in, as the tables stand. -/
def State.pageGranules (s : State) (tenant vpn : Nat) : Nat :=
  match (s.walkPage tenant vpn).1 with
  | .leaf _ level => spanGranules (3 - level)
  | _ => 1

/-- Start a walk of the party's die, or join the one for the same page (R335). -/
def State.startWalk (s : State) (w : Asker) (vpn : Nat) : Nat × State :=
  let g := s.pageGranules w.tenant vpn
  match s.walks.find? fun x => x.die == w.die && x.tenant == w.tenant && x.vpn / g == vpn / g && x.held.isNone with
  | some x =>
    let t := (w.tte, w.unit, w.tag)
    let more := if t == (x.tte, x.core, x.tag) || x.more.contains t then x.more else x.more ++ [t]
    let askers := if x.askers.contains w.id then x.askers else x.askers ++ [w.id]
    (x.id, { s with walks := s.walks.map fun y => if y.id == x.id then { y with askers := askers, more := more } else y })
  | none =>
    let r := s.newId
    let x : Walk := { id := r.1, core := w.unit, tte := w.tte, tenant := w.tenant, tag := w.tag, vpn := vpn, askers := [w.id], die := w.die }
    (r.1, { r.2 with walks := r.2.walks ++ [x] })

/-- Has a walk one of the 1,024 walkers of its die: they go to the misses in order of arrival (R335)? -/
def State.walkRuns (s : State) (x : Walk) : Bool := ((s.walks.filter fun y => y.die == x.die).take 1024).any fun y => y.id == x.id

/-- Is an address translated by the page tables? -/
def pagedVa (va : Nat) : Bool := !isPlazaVa va && !isAvenueVa va

/-- The page of an address that a TLB has just translated: its VPN and its span (R331). -/
def State.pageOf (s : State) (tte : Bool) (unit tenant tag va : Nat) : Nat × Nat :=
  (va / 65536, match tlbFind (s.tlb tte unit) tenant tag (va / 65536) with | some t => 3 - t.level | none => 0)

/-- Lanes that a discarded page serves are counted in the TLB entry that serves them (R344). -/
def State.discServed (s : State) (core tenant tag va : Nat) : State :=
  match tlbFind (s.core core).tlb tenant tag (va / 65536) with
  | none => s
  | some x => s.setCore core { s.core core with tlb := (s.core core).tlb.map fun t => if t == x then { t with served := t.served + 1 } else t }

/-- A read of a word outside the data path that a discarded page serves counts as a lane, once for the word however often it is tried (R344): the note
of it stands among the lines that the word has asked for, as one of module 4,096 (M). -/
def State.discRead (s : State) (w : Asker) (va : Nat) : State :=
  if w.tte || s.lines.any (fun r => r.asker == w.id && r.dev == 4096 && r.line == va / 65536) then s
  else let t := s.discServed w.unit w.tenant w.tag va
       { t with lines := t.lines ++ [⟨w.id, 4096, va / 65536, 0, none, 0⟩] }

/-! ## Fault records (R339) -/

/-- A lazy page (R345). -/
def pteLazy (e : DWord) : Bool := !pteV e && pteLeaf e && pteFrame e != 0

/-- Does a hardware duty service this replayable fault, with no record (R348, R349)? A lazy page and a discarded one: the fault-service duty; a
snapshot-protected one: the checkpoint duty. -/
def State.serviced (s : State) (va tenant code flags : Nat) : Bool :=
  flags % 2 == 0 &&
  ((s.dpr.getLsbD 0 && code == cDiscardedWrite) || (s.dpr.getLsbD 6 && flags / 8 % 2 == 1) ||
   (s.dpr.getLsbD 0 && code == cTranslation && flags == 0 &&
    (match (s.walkPage tenant (va / 65536)).1 with | .missing 0 e => pteLazy e | _ => false)))

/-- The table entry at which a walk of the page ends. -/
def State.leafNow (s : State) (tenant vpn : Nat) : DWord :=
  match (s.walkPage tenant vpn).1 with
  | .leaf e _ => e
  | .missing _ e => e
  | .error _ _ => 0#64

/-- SHADOW of a record (R347): the page is one of which the task of this tag has a shadow. -/
def State.shadowFlag (s : State) (tenant tag vpn : Nat) : Nat :=
  let e := s.leafNow tenant vpn
  if pteV e && pteVers e && s.lch.shadows.any (fun x => x.entry == pteFrame e && x.task + 1 == tag) then 4 else 0

/-- The tag under which a task translates: of a commit task its own (R347). -/
def State.taskTag (s : State) (task : Nat) : Nat :=
  match tabGet? s.lch.tasks task with
  | some t => if t.commit then task + 1 else 0
  | none => 0

/-- Produce a record and its FAULT event; a fault that a duty services has none, and keeps the entry that its walk read (R338, R349). -/
def State.faultRecord (s : State) (va causal : DWord) (source tenant code access flags token : Nat) : State :=
  let seq := s.faultSeq
  if s.serviced va.toNat tenant code flags then
    { s with silent := s.silent ++ [(⟨va, causal, source, tenant, code, access, flags, token, 0,
                                        s.leafNow tenant (va.toNat / 65536), 0⟩ : FaultRec)] }
  else
  ({ s with faultSeq := (seq + 1) % 2 ^ 32,
            faultQ := s.faultQ ++ [(⟨va, causal, source, tenant, code, access, flags, token, seq, 0#64, 0⟩ : FaultRec)] }).emit
    source 0x010 tenant causal (BitVec.ofNat 64 (seq + code * 2 ^ 32))

/-- The asker of a wave's stream. -/
def State.waveAsker (s : State) (k : Nat) (cs : Bool) (w : Wave) : Asker :=
  { tte := false, unit := coreOf k, tenant := w.tenant,
    tag := (match tabGet? s.lch.tasks w.task with | some t => if t.commit && w.batch.isNone then w.task + 1 else 0 | none => 0),
    id := 2 * k + (if cs then 1 else 0), redirect := w.redirect }

/-! ## The near cache (R155, R156) -/

/-- The number of a location among the lines of a near cache: paged memory of this module, the pool or the host by its key, that of another module
above; none for the Plaza and the Avenue, which no near cache holds (R155). -/
def nearKey (p : Place) : Option Nat :=
  match p with
  | .mem k => if isPlazaKey k then none else some k
  | .remote dev pa => some (2 ^ 70 + dev * 2 ^ 47 + pa)
  | .avenue _ => none

/-- May a location be held in the near cache: a line of an RC page of paged memory, at any LOC? -/
def nearable (p : Place) (kind : Nat) : Bool := kind == 0 && (nearKey p).isSome

def State.nearLine (s : State) (core key : Nat) : Option (List Byte) := tabGet? (s.core core).near (key / 128)
def State.setNear (s : State) (core : Nat) (t : Tab (List Byte)) : State := s.setCore core { s.core core with near := t }

/-- What a load of this core has asked of another module may no longer fill the lines that `p` picks. -/
def State.noFill (s : State) (core : Nat) (p : Nat → Bool) : State :=
  if s.flight.any fun a => a.core == core && a.fill == 1 then
    { s with flight := s.flight.map fun a =>
        if a.core == core && a.fill == 1 && (match nearKey a.place with | some k => p (k / 128) | none => false) then { a with fill := 2 } else a }
  else s

/-- Invalidate a core's near cache whole (R156). -/
def State.nearClear (s : State) (core : Nat) : State := (s.setNear core []).noFill core fun _ => true
def State.nearDrop (s : State) (core line : Nat) : State := (s.setNear core (tabErase (s.core core).near line)).noFill core fun l => l == line

/-- A read or an atomic of the core that does not go through its near cache removes the line from it (R155, R171). -/
def State.nearForget (s : State) (core : Nat) (p : Place) : State :=
  match nearKey p with
  | some k => s.nearDrop core (k / 128)
  | none => s

/-- Put a line (512 lines; a full cache drops its first line, notes/assumptions/7.md). (DESIGN CHOICE, unsafe: notes/assumptions/7.md) -/
def State.nearPut (s : State) (core line : Nat) (bytes : List Byte) : State :=
  let t := (s.core core).near
  let t := if t.length ≥ 512 && (tabGet? t line).isNone then t.drop 1 else t
  (s.setNear core (tabPut t line bytes)).injectAt 3 core (line % 512) (nearMark core line)

/-- Fill the line of `key` from this module's memory. (DESIGN CHOICE, unsafe: notes/assumptions/7.md) -/
def State.nearFill (s : State) (core key : Nat) : State := s.nearPut core (key / 128) (memGets s.mem (key / 128 * 128) 128)

/-- A parity error invalidates the line, which is then fetched again: it is a correctable one (R408). -/
def State.nearCheck (s : State) (core key : Nat) : State :=
  if s.marks.isEmpty then s else match tabGet? s.marks (nearMark core (key / 128)) with
    | none => s
    | some m => ({ s with marks := tabErase s.marks (nearMark core (key / 128)) }.report 3 core (key / 128 % 512) false m.injected false 0 0#64).nearDrop
        core (key / 128)

/-- Read bytes as a load of a core does: from its near cache where the page allows it, else from memory, filling the line. (DESIGN CHOICE, unsafe: notes/assumptions/7.md) -/
def State.nearRead (s : State) (core key n : Nat) : List Byte × State :=
  let s := s.nearCheck core key
  match s.nearLine core key with
  | some l => ((l.drop (key % 128)).take n, s)
  | none => let s := s.nearFill core key; (memGets s.mem key n, s)

/-- A store of the core updates its copy (R155), through whatever page it goes. -/
def State.nearStore (s : State) (core : Nat) (p : Place) (data : List Byte) : State :=
  match nearKey p with
  | none => s
  | some key =>
    let s := s.noFill core fun l => l == key / 128
    match s.nearLine core key with
    | some l => s.setNear core (tabPut (s.core core).near (key / 128)
        (l.take (key % 128) ++ data ++ l.drop (key % 128 + data.length)))
    | none => s

end Sys2Proof.Machine
end

