-- ==== Sys2Proof/Machine/Send.lean ====
section
/-!
DEFINITION. Sending over the Volrida fabric (spec/19_fabric_links.md, R423 to R432): planes and links, headers and flits, outstanding
transactions and their tags.
-/
namespace Sys2Proof.Machine

/-- Bits [hi:lo] of a number. -/
def bitsOf (x hi lo : Nat) : Nat := x / 2 ^ lo % 2 ^ (hi - lo + 1)

/-- Parity of the low `n` bits. -/
def parityOf (n x : Nat) : Nat := ((List.range n).filter fun i => x.testBit i).length % 2

/-- Logical plane of a target address (R423). -/
def planeOfPa (pa : Nat) : Nat := bitsOf pa 9 7 ^^^ bitsOf pa 14 12 ^^^ bitsOf pa 19 17
/-- Logical plane of an ordered pair (R424). -/
def planeOfDev (dev : Nat) : Nat := bitsOf dev 2 0 ^^^ bitsOf dev 5 3 ^^^ bitsOf dev 8 6 ^^^ bitsOf dev 11 9
/-- Logical plane of a tenant's Avenue control agent (R424). -/
def planeOfTenant (t : Nat) : Nat := bitsOf t 2 0 ^^^ bitsOf t 5 3 ^^^ bitsOf t 8 6 ^^^ bitsOf t 9 9

/-- Physical plane of a logical plane (R431). -/
def Fabric.phys (f : Fabric) (l : Nat) : Nat := f.map / 2 ^ (3 * l) % 8
def Fabric.link (f : Fabric) (n : Nat) : LinkSt := tabGetD f.links n LinkSt.reset
def Fabric.setLink (f : Fabric) (n : Nat) (x : LinkSt) : Fabric := { f with links := tabPut f.links n x }
def Fabric.deadPlane (f : Fabric) (p : Nat) : Bool := f.dead.testBit p
/-- UP16, UP8L or UP8H, on a plane that is not dead (R430, R431). -/
def Fabric.up (f : Fabric) (n : Nat) : Bool :=
  !f.deadPlane (n / 2) && decide (2 ≤ (f.link n).state) && decide ((f.link n).state ≤ 4)

/-- OP codes (R428). -/
def pktOpCode (o : PktOp) : Nat :=
  match o with
  | .read => 0
  | .write => 1
  | .atom => 2
  | .red => 3
  | .callo => 4
  | .reply => 5
  | .busy => 6
  | .coll => 7
  | .avctl => 8
  | .probe => 9

def pktOpOf (n : Nat) : Option PktOp :=
  match n with
  | 0 => some .read
  | 1 => some .write
  | 2 => some .atom
  | 3 => some .red
  | 4 => some .callo
  | 5 => some .reply
  | 6 => some .busy
  | 7 => some .coll
  | 8 => some .avctl
  | 9 => some .probe
  | _ => none

def b2n (b : Bool) : Nat := if b then 1 else 0

/-- The 48 payload bytes of a header flit (R428). -/
def pktHeader (p : Packet) : List Byte :=
  natToBytes 2 (p.dst % 4096) ++ natToBytes 2 (p.srcDev % 4096) ++ natToBytes 2 p.src ++ natToBytes 2 p.xtag ++
  [BitVec.ofNat 8 (pktOpCode p.op),
   BitVec.ofNat 8 (p.scope % 8 + 8 * b2n p.release + 16 * b2n p.retry + 32 * b2n p.unlocked)] ++
  natToBytes 2 (p.tenant % 1024 + 1024 * (p.minor % 16)) ++ natToBytes 4 (p.len % 8192) ++ natToBytes 8 (p.addr % 2 ^ 56) ++
  natToBytes 8 p.causal.toNat ++ natToBytes 8 p.sent.toNat ++ natToBytes 8 p.opnd.toNat

/-- Read a header (R428); an OP that is not listed gives none. -/
def pktOfHeader (b : List Byte) (data : List Byte) : Option Packet :=
  let f (o n : Nat) : Nat := bytesToNat ((b.drop o).take n)
  (pktOpOf (f 8 1)).map fun op =>
    { dst := f 0 2 % 4096, srcDev := f 2 2 % 4096, src := f 4 2, xtag := f 6 2, op := op, scope := f 9 1 % 8,
      release := (f 9 1).testBit 3, retry := (f 9 1).testBit 4, unlocked := (f 9 1).testBit 5, tenant := f 10 2 % 1024,
      minor := f 10 2 / 1024 % 16, len := f 12 4 % 8192, addr := f 16 8 % 2 ^ 56, causal := BitVec.ofNat 64 (f 24 8),
      sent := BitVec.ofNat 64 (f 32 8), opnd := BitVec.ofNat 64 (f 40 8), data := data.take (f 12 4 % 8192) }

/-- The virtual channel of a packet (R426): replies 2, relaxed requests 1, ordered requests 0. -/
def pktVc (p : Packet) : Nat :=
  match p.op with
  | .reply => 2
  | .busy => 2
  | .read => 1
  | .write => 1
  | .atom => 1
  | .red => 1
  | _ => 0

/-- 48 bytes to a flit, the last one zero-filled (R428). -/
def chunk48 : Nat → List Byte → List (List Byte)
  | 0, _ => []
  | _ + 1, [] => []
  | n + 1, b => ((b.take 48) ++ List.replicate (48 - (b.take 48).length) 0#8) :: chunk48 n (b.drop 48)

/-- The flits of a packet: their types and payloads (R428). -/
def pktBodies (p : Packet) : List (FlitType × List Byte) :=
  (.header, pktHeader p) :: (chunk48 (p.data.length / 48 + 1) p.data).map fun d => (.data, d)

/-! ### Flits (R362, R427) -/

/-- One bit, one byte, and the bytes of a CRC-32 with polynomial 0x04C1_1DB7 (R427), least significant bit first. (PRESUMED, unsafe: notes/assumptions/78.md) -/
def crcBit (c : BitVec 32) : BitVec 32 := if c.getLsbD 0 then (c >>> 1) ^^^ 0xEDB88320#32 else c >>> 1
def crcByte (c : BitVec 32) (b : Byte) : BitVec 32 := (List.range 8).foldl (fun c _ => crcBit c) (c ^^^ b.setWidth 32)
/-- The CRC starts from ones and is complemented at its end. (PRESUMED, unsafe: notes/assumptions/78.md) -/
def crc32 (bs : List Byte) : BitVec 32 := ~~~(bs.foldl crcByte 0xFFFFFFFF#32)

/-- TYPE of a flit (R427). -/
def flitTypeCode (k : FlitType) : Nat :=
  match k with
  | .idle => 0
  | .header => 1
  | .data => 2
  | .control => 3
  | .attest => 4

def flitTypeOf (n : Nat) : Option FlitType :=
  match n with
  | 0 => some .idle
  | 1 => some .header
  | 2 => some .data
  | 3 => some .control
  | 4 => some .attest
  | _ => none

/-- Bytes 0 to 7 of a flit (R427). -/
def flitHead (f : Flit) : List Byte :=
  natToBytes 2 (f.seq % 4096 + 4096 * (f.keySlot % 2) + 8192 * flitTypeCode f.kind) ++
  natToBytes 2 (f.ackSeq % 4096 + 4096 * b2n f.ackValid + 8192 * b2n f.nak) ++
  [BitVec.ofNat 8 (f.vc % 4 + 4 * b2n f.last), BitVec.ofNat 8 (f.creditVc % 4 + 4 * (f.credits % 64)), 0#8, 0#8]

/-- Bytes 0 to 59, over which the CRC runs, and the 64 bytes of a flit (R427). -/
def flitBody (f : Flit) : List Byte := flitHead f ++ f.payload ++ natToBytes 4 f.tag
def flitBytes (f : Flit) : List Byte := flitBody f ++ natToBytes 4 (crc32 (flitBody f)).toNat

/-- Read a flit (R427); none where its CRC fails, its TYPE is undefined or a zero field is not zero. -/
def flitOf (b : List Byte) : Option Flit :=
  let f (o n : Nat) : Nat := bytesToNat ((b.drop o).take n)
  if b.length ≠ 64 || f 60 4 ≠ (crc32 (b.take 60)).toNat || f 2 2 / 16384 ≠ 0 || f 4 1 / 8 ≠ 0 || f 6 2 ≠ 0 then none
  else (flitTypeOf (f 0 2 / 8192)).map fun k =>
    { seq := f 0 2 % 4096, keySlot := f 0 2 / 4096 % 2, kind := k, ackSeq := f 2 2 % 4096, ackValid := (f 2 2).testBit 12, nak := (f 2 2).testBit 13,
      vc := f 4 1 % 4, last := (f 4 1).testBit 2, creditVc := f 5 1 % 4, credits := f 5 1 / 4, payload := (b.drop 8).take 48, tag := f 56 4 }

/-- The nonce of the flit that a flit counter numbers (R362). (PRESUMED, unsafe: notes/assumptions/78.md) -/
def flitNonce (count : Nat) : List Byte := natToBytes 12 (count % 2 ^ 64)
/-- Two strings of bytes, added bit by bit: AES-GCM's encryption under its key stream, and its decryption. -/
def xorBytes (a b : List Byte) : List Byte := List.zipWith (fun x y => x ^^^ y) a b
/-- The first 4 bytes of a flit's GCM tag (R427). -/
def flitTag (key : BitVec 256) (count : Nat) (f : Flit) : Nat :=
  bytesToNat ((Config.gcmTag key (flitNonce count) (flitHead f) f.payload).toList.take 4)

def pairAt (p : BitVec 256 × BitVec 256) (slot : Nat) : BitVec 256 := if slot % 2 = 0 then p.1 else p.2
/-- In use is `slot`; the other slot takes the key that the ends agree to use next. -/
def pairNext (p : BitVec 256 × BitVec 256) (slot : Nat) : BitVec 256 × BitVec 256 :=
  if slot % 2 = 0 then (p.1, Config.linkKeyAfter p.1) else (Config.linkKeyAfter p.2, p.2)

/-- Seal a flit with the sender's key, once the link is keyed (R362). -/
def LinkSt.seal (l : LinkSt) (count : Nat) (f : Flit) : Flit :=
  if !l.keyed then f
  else
    let key := pairAt l.txKeys l.keySlot
    let f := { f with payload := xorBytes f.payload (Config.gcmStream key (flitNonce count) 48).toList }
    { f with tag := flitTag key count f }

/-- Open a flit with the key slot that it names (R362); none where its tag fails. The receiver's flit counter and SEQ go together, so the counter of a
flit that was lost or sent again follows from its SEQ. (PRESUMED, unsafe: notes/assumptions/78.md) -/
def LinkSt.opened (l : LinkSt) (f : Flit) : Option Flit :=
  if !l.keyed then some f
  else
    let d := (f.seq + 4096 - l.got) % 4096
    let count := if d < 2048 then l.rxCount + d else l.rxCount - (4096 - d)
    let key := pairAt l.rxKeys f.keySlot
    if f.tag = flitTag key count f then some { f with payload := xorBytes f.payload (Config.gcmStream key (flitNonce count) 48).toList } else none

/-- The sender changes to its other key slot (R362). -/
def LinkSt.rekey (l : LinkSt) : LinkSt :=
  { l with keySlot := 1 - l.keySlot, flits := 0, txKeys := pairNext l.txKeys (1 - l.keySlot) }

/-- The credits that the next flit returns: a virtual channel, and how many of its flits. -/
def LinkSt.returns (l : LinkSt) : Nat × Nat := (l.credit.find? fun x => x.2 != 0).elim (0, 0) fun x => (x.1, min 63 x.2)
def LinkSt.returned (l : LinkSt) : LinkSt :=
  { l with credit := tabPut l.credit l.returns.1 (tabGetD l.credit l.returns.1 0 - l.returns.2) }

/-- A flit of the link as it stands: its acknowledgement and the credits that it returns. -/
def LinkSt.flit (l : LinkSt) (seq : Nat) (kind : FlitType) (vc : Nat) (last nak : Bool) (payload : List Byte) : Flit :=
  { seq := seq, keySlot := if l.keyed then l.keySlot else 0, kind := kind, ackSeq := l.got, ackValid := true, nak := nak, vc := vc, last := last,
    creditVc := l.returns.1, credits := l.returns.2, payload := payload, tag := 0 }

/-- Send an idle flit (R427): it carries the acknowledgement, or a NAK, and credits; it repeats the last SEQ and is neither counted nor replayed. -/
def LinkSt.sendIdle (l : LinkSt) (nak : Bool) : LinkSt :=
  { l.returned with idle := some (l.seal l.txCount (l.flit l.sent .idle 0 false nak (List.replicate 48 0#8))) }

/-- Send one flit on a virtual channel (R429): numbered SEQ + 1, and kept until it is acknowledged. The sender changes keys every 2^32 flits (R362). -/
def LinkSt.sendFlit (l : LinkSt) (vc : Nat) (b : FlitType × List Byte) (last : Bool) : LinkSt :=
  let l := if l.keyed && decide (2 ^ 32 ≤ l.flits) then { l.rekey with rekeys := l.rekeys + 1 } else l
  let f := l.seal (l.txCount + 1) (l.flit ((l.sent + 1) % 4096) b.1 vc last false b.2)
  { l.returned with replay := l.replay ++ [f], sent := f.seq, uncounted := l.uncounted + 1, flits := l.flits + 1, txCount := (l.txCount + 1) % 2 ^ 64,
                    spent := tabPut l.spent vc (tabGetD l.spent vc 0 + 1) }

/-- The next flit that may go on a virtual channel: of the packet under way there, or of the first packet that waits for the channel; and the link
without it. -/
def LinkSt.nextOn (l : LinkSt) (vc : Nat) : Option ((FlitType × List Byte) × Bool × LinkSt) :=
  if Config.linkCredits vc ≤ tabGetD l.spent vc 0 then none
  else match tabGetD l.sending vc [] with
    | b :: rest => some (b, rest.isEmpty, { l with sending := tabPut l.sending vc rest })
    | [] =>
      match l.queue.find? fun p => pktVc p == vc with
      | none => none
      | some p =>
        match pktBodies p with
        | [] => none
        | b :: rest => some (b, rest.isEmpty, { l with queue := l.queue.erase p, sending := tabPut l.sending vc rest })

/-- Send what the credits and the replay buffer of 2,048 flits allow (R426, R429): replies never wait behind requests. (DEDUCED, unsafe: notes/assumptions/38.md) -/
def LinkSt.pump : Nat → LinkSt → LinkSt
  | 0, l => l
  | n + 1, l =>
    if l.replay.length ≥ 2048 then l
    else match [3, 2, 0, 1].findSome? fun vc => (l.nextOn vc).map fun x => (vc, x) with
      | none => l
      | some (vc, b, last, l) => LinkSt.pump n (l.sendFlit vc b last)

/-- The flits that wait at a link. -/
def LinkSt.waiting (l : LinkSt) : Nat :=
  (l.queue.map fun p => (pktBodies p).length).sum + (l.sending.map fun x => x.2.length).sum

/-- Sequences restart at 0, and the flit counters with them (R430). (DEDUCED, unsafe: notes/assumptions/38.md) -/
def LinkSt.restart (l : LinkSt) : LinkSt :=
  { l with replay := [], sent := 0, got := 0, partials := [], sending := [], spent := [], credit := [], txCount := 0, rxCount := 0 }

/-- Queue a packet at a link and send what can be sent. -/
def Fabric.send (f : Fabric) (n : Nat) (p : Packet) : Fabric :=
  let l := f.link n
  let l := { l with queue := l.queue ++ [p] }
  f.setLink n (if f.up n && l.keyed then l.pump l.waiting else l)

/-- Of a plane's two links, the one that is up; of two, the preferred one, else its sibling. -/
def Fabric.pickLink (f : Fabric) (preferred : Nat) : Nat :=
  let sib := preferred / 2 * 2 + (1 - preferred % 2)
  if f.up preferred || !f.up sib then preferred else sib

def LinkSt.load (l : LinkSt) : Nat := l.replay.length + l.waiting

/-- Two transactions on one line (R425): of one target, through one logical plane. -/
def Txn.sameLine (t u : Txn) : Bool := t.relaxed && u.relaxed && t.line == u.line && t.pkt.dst == u.pkt.dst && t.plane == u.plane

/-- The link of a relaxed packet (R425): the link of an earlier transaction to the line, else the less loaded one of the plane. -/
def Fabric.relaxedLink (f : Fabric) (t : Txn) : Nat :=
  match f.txns.find? fun u => t.sameLine u && !u.held with
  | some u => u.link
  | none =>
    let p := f.phys t.plane
    let a := 2 * p
    f.pickLink (if (f.link a).load ≤ (f.link (a + 1)).load then a else a + 1)

/-- The link of an ordered pair (R424). -/
def Fabric.orderedLink (f : Fabric) (plane par : Nat) : Nat := f.pickLink (2 * f.phys plane + par)

/-- The link that R423 to R431 now give a transaction. -/
def Fabric.linkFor (f : Fabric) (t : Txn) : Nat :=
  if t.relaxed then f.relaxedLink t
  else f.orderedLink t.plane (if t.pkt.dst = 0xFFF then parityOf 10 t.pkt.tenant else parityOf 12 t.pkt.dst)

/-- Two transactions of one ordered pair (R424): of one target device, or of one tenant's Avenue control agent. -/
def Txn.samePair (t u : Txn) : Bool :=
  !t.relaxed && !u.relaxed && t.pkt.dst == u.pkt.dst && (t.pkt.dst != 0xFFF || t.pkt.tenant == u.pkt.tenant)

/-- Has the port of a link no entry free in its in-flight line table (R425)? -/
def Fabric.linesFull (f : Fabric) (n : Nat) : Bool := decide ((f.txns.filter fun t => t.relaxed && t.link == n && !t.held).length ≥ 4096)

/-- A plane moves in a running map-version fence (R431). -/
def Fabric.fenced (f : Fabric) (plane : Nat) : Bool :=
  match f.fence with
  | some (_, m, _) => m / 2 ^ (3 * plane) % 8 != f.phys plane
  | none => false

/-- Must a transaction that would go on link `n` wait (R424, R430, R431)? Its plane moves in a running fence; an earlier transaction of its ordered pair
is out on another link, or waits; an earlier one of its line waits, or is in flight on the link that it left. -/
def Fabric.mustWait (f : Fabric) (t : Txn) (n : Nat) : Bool :=
  f.fenced t.plane ||
  f.txns.any fun u => decide (u.id < t.id) && !u.dead &&
    ((t.samePair u && (u.held || u.link != n)) || (t.sameLine u && (u.held || (u.link == t.link && !f.up t.link))))

/-- A tag that the (source, device) pair does not hold (R432). -/
def Fabric.freeTag (f : Fabric) (src dst : Nat) : Option Nat :=
  let used := (f.txns.filter fun t => t.pkt.src == src && t.pkt.dst == dst).map fun t => t.pkt.xtag
  (List.range (min 65536 (used.length + 1))).find? fun i => !used.contains i

/-- Is the target device marked dead in the peer table (R442)? With the state that reading the table leaves. -/
def State.peerDead (s : State) (dev : Nat) : Bool × State :=
  if !s.fab.peerBase.getLsbD 63 || dev == 0xFFF then (false, s)
  else match s.sysRead (s.fab.peerBase.toNat / 4096 % 2 ^ 40 * 4096 + dev) 1 with
    | (.ok v, s) => (v % 2 == 1, s)
    | (.error _, s) => (false, s)

/-! ## Homes of Avenue lines (R165 to R167) -/

/-- The logical planes that keep a line of the allocation, its home first: of a mirrored one also plane (p + 4) mod 8. -/
def AvAlloc.homes (a : AvAlloc) (pa : Nat) : List Nat :=
  let p := a.pinned.getD (planeOfPa pa)
  if a.mirrored then [p, (p + 4) % 8] else [p]

/-- The plane that serves a line now: its home, or of a mirrored one that the home's plane has lost, the other; none where the line is lost. -/
def AvAlloc.plane (a : AvAlloc) (pa : Nat) : Option Nat := (a.homes pa).find? fun p => !a.lost.contains p

/-- Where a window address of a tenant leads. -/
inductive AvHome where
  | ok (plane pa : Nat)
  | lost
  | none
  deriving DecidableEq, Repr

/-- The fabric window table gives the switch address (R165), which gives the plane. -/
def State.avHome (s : State) (va tenant : Nat) : AvHome :=
  match s.fab.window.find? fun x => decide (x.1 ≤ va) && decide (va < x.1 + x.2.size) && x.2.tenant == tenant with
  | .none => .none
  | some x =>
    let pa := x.2.pa + (va - x.1)
    match x.2.plane pa with
    | some p => .ok p pa
    | .none => .lost

/-- The allocation that holds a switch address. -/
def State.avByPa (s : State) (pa tenant : Nat) : Option AvAlloc :=
  (s.fab.window.find? fun x => decide (x.2.pa ≤ pa) && decide (pa < x.2.pa + x.2.size) && x.2.tenant == tenant).map Prod.snd

/-- Send a new transaction (R432): first send at the present GTC. None when the pair holds every tag, or the port's line table is full
(R425). One that must wait has made no attempt yet. -/
def State.newTxn (s : State) (relaxed : Bool) (plane par : Nat) (p : Packet) (what : TxnWhat) : Option State :=
  let f := s.fab
  match f.freeTag p.src p.dst with
  | none => none
  | some tag =>
    let p := { p with xtag := tag, sent := s.gtc, unlocked := !s.locked, srcDev := s.device }
    let d := s.peerDead p.dst
    let r := d.2.newId
    let t : Txn := { id := r.1, pkt := p, relaxed := relaxed, line := p.addr / 128, plane := plane, link := 2 * f.phys plane + par, attempts := 1,
                     held := false, dead := d.1, busy := none, what := what }
    let n := f.linkFor t
    let held := f.mustWait { t with link := n } n
    if relaxed && !held && f.linesFull n then none
    else
      let t := { t with link := n, held := held, attempts := if held then 0 else 1 }
      let f := { f with txns := f.txns ++ [t] }
      some { r.2 with fab := if held || t.dead then f else f.send n p }

/-! ## Requests of a host (R205, R356) -/

/-- What a host receives for a non-posted request; a posted write receives nothing. -/
def State.hostAnswer (s : State) (port status : Nat) (data : List Byte) : State := { s with hostOut := s.hostOut ++ [⟨port % 2, status, data⟩] }
def State.hostAnswerIf (s : State) (posted : Bool) (port status : Nat) : State := if posted then s else s.hostAnswer port status []

/-- A host port translates through the first quad's tensor translation engine of its die (DESIGN CHOICE, unsafe: notes/assumptions/39.md). -/
def hostAsker (port tenant : Nat) : Asker :=
  { tte := true, unit := 40 * (port % 2), tenant := tenant, tag := 0, id := 3000000000 + port % 2, redirect := none }

/-- A request that fails a check of R356: a final fault record with ACCESS 4 or 5, of the port's translation engine, then Completer Abort, or a posted
write dropped. (DESIGN CHOICE, unsafe: notes/assumptions/39.md) -/
def State.hostFault (s : State) (port tenant va code : Nat) (posted : Bool) (span : Nat := 0) (flags : Nat := 0) : State :=
  (s.faultRecord (BitVec.ofNat 64 va) 0#64 (srcOf 8 (hostAsker port tenant).unit) tenant code (walkAccess span (if posted then 5 else 4))
    (flags / 2 * 2 + 1) 0).hostAnswerIf posted port 2

/-- The last reply of a request to another module answers it: its home's refusal is a failed binding check (R356, R360). -/
def State.hostEnd (s : State) (r : HostReq) : State :=
  if r.code = 0 then (if r.posted then s else s.hostAnswer r.port 0 (r.parts.flatMap fun p => p.getD []))
  else if r.code = cPermission then s.hostFault r.port r.tenant r.va r.code r.posted
  else s.hostAnswerIf r.posted r.port 2

/-- A piece's reply, or its failure. -/
def State.hostBack (s : State) (req piece code : Nat) (data : List Byte) : State :=
  match s.hostReqs.find? fun r => r.id == req with
  | none => s
  | some r =>
    let r := { r with parts := r.parts.set piece (some data), code := if r.code = 0 then code else r.code }
    let rest := s.hostReqs.filter fun x => x.id != req
    if r.parts.all Option.isSome then ({ s with hostReqs := rest } : State).hostEnd r else { s with hostReqs := rest ++ [r] }

/-- Send a host's request to another module, a packet a piece (DESIGN CHOICE, unsafe: notes/assumptions/22.md); where one finds no tag, none is sent and the
request is made again. -/
def State.hostSend (s : State) (port tenant va : Nat) (posted : Bool) (ps : List Packet) : State :=
  let r := s.newId
  let t : State := { r.2 with hostReqs := r.2.hostReqs ++ [⟨r.1, port % 2, tenant, va, posted, List.replicate ps.length none, 0⟩] }
  (ps.zipIdx.foldl (fun (o : Option State) p => o.bind fun x => x.newTxn true (planeOfPa p.1.addr) 0 p.1 (.host r.1 p.2)) (some t)).getD s

end Sys2Proof.Machine
end

