-- ==== Sys2Proof/Machine/Order.lean ====
section
/-!
DEFINITION. What orders the accesses of a wave (spec/07_ordering_rules.md, R171 to R190; 08_memory_instructions.md, R191, R206,
R207): release sets, fences, the accesses held in the operand log, and arrival counters.
-/
namespace Sys2Proof.Machine

/-- The accesses held in an entry. -/
def heldAccesses (h : Held) : List Access :=
  match h.what with
  | .lanes as => as
  | _ => []

/-- Is this party held, and not yet replayed? -/
def State.heldFor (s : State) (what : HeldWhat) : Bool := s.held.any fun h => h.what == what && !h.again
/-- Its entry frees. -/
def State.dropHeld (s : State) (what : HeldWhat) : State := { s with held := s.held.filter fun h => h.what != what }

/-- Has a load returned its value, or an access been performed at its home? A failed one has not. -/
def AccessSt.open_ (x : AccessSt) : Bool := match x with | .performed _ => false | _ => true
def AccessSt.failed? (x : AccessSt) : Bool := match x with | .failed _ => true | _ => false

/-- Has the access not been performed yet: in flight and waiting or failed, or held (R170)? -/
def State.unperformed (s : State) (id : Nat) : Bool :=
  s.flight.any (fun a => a.id == id && a.st.open_) || s.held.any fun h => (heldAccesses h).any fun a => a.id == id

/-- An access, an engine entry, a home operation or a buffered RED has not been performed, whatever translation it used (R337, R347). -/
def State.usedBy (s : State) (id : Nat) : Bool :=
  s.unperformed id || s.cores.any (fun c => c.2.engine.queue.any fun x => x.id == id) || s.homeOps.any (fun h => h.op == id && h.reply.isNone) ||
  s.bufferedReds.any fun d => d.order == id

/-- Has the access not landed yet; an ended lane counts as landed here (R197)? -/
def State.unlandedId (s : State) (id : Nat) : Bool :=
  s.flight.any (fun a => a.id == id && (match a.st with | .failed _ => false | _ => true)) ||
  s.held.any fun h => (heldAccesses h).any fun a => a.id == id

/-- Live engine commands (R180): the CE, GPE and CLE commands that have not completed. -/
def State.liveCmd (s : State) (id : Nat) : Bool := s.cmds.any fun c => c.1 == id

def isLoadKind (k : AccessKind) : Bool := match k with | .store _ _ => false | _ => true
def isStoreKind (k : AccessKind) : Bool := match k with | .load _ _ _ => false | _ => true

/-- The wave's accesses that a release at `scope` must wait for (R177, R183, R189): not UN, and not posted, unless the scope is system. -/
def State.releaseSet (s : State) (k scope : Nat) : List Nat :=
  ((s.flight.filter fun a => a.wave == k && a.st.open_ && (scope == 5 || (a.pageKind != 2 && !a.posted))).map fun a => a.id) ++
  -- writes held at their page walkers (R348)
  ((s.held.filter fun h => h.cls == 3 && h.wave == k).flatMap heldAccesses).map fun a => a.id

/-- May no release `op` of the wave be performed, because an access before it has failed and its trap has not been taken (R185)?
(DEDUCED, unsafe: notes/assumptions/54.md) -/
def State.barred (s : State) (k op : Nat) : Bool :=
  s.flight.any (fun a => a.wave == k && decide (a.op < op) && a.st.failed?) ||
  ((s.wave? k).map fun w => w.deferred.any fun d => decide (d.op < op)).getD false

/-- Does the wave hold an access in the log (R185)? -/
def State.holdsAccess (s : State) (k : Nat) : Bool :=
  s.held.any fun h => h.wave == k && h.cls == 0 && (match h.what with | .lanes _ => true | _ => false)

/-- Is a VPN in a page, given as a VPN and a span (R339)? -/
def inPage (page : Nat × Nat) (vpn : Nat) : Bool := vpn / spanGranules page.2 == page.1 / spanGranules page.2

/-- The held pages that an address of the wave lies in (R185, R342): each entry's order, and the page as its first granule and span. -/
def State.heldPages (s : State) (k vpn : Nat) : List (Nat × Nat × Nat) :=
  (s.held.filter fun h => h.wave == k && h.cls == 0).flatMap fun h =>
    ((heldAccesses h).find? fun a => inPage a.page vpn).toList.map fun a => (h.order, a.page)

/-! ## Fences (R180, R207) -/

/-- Has the fence completed? -/
def State.fenceDone (s : State) (f : FenceSt) : Bool :=
  !(decide (1 ≤ f.kind) && decide (f.kind ≤ 3) && s.barred f.wave f.op) && f.perform.all (fun i => !s.unperformed i) && f.land.all (fun i => !s.unlandedId i) && f.cmds.all (fun i => !s.liveCmd i)

/-- ACQ, ACQREL, SC and ENG, which acts as an acquire (R180), at gang scope or wider invalidate the near cache (R156). -/
def FenceSt.invalidates (f : FenceSt) : Bool := (f.kind == 0 || f.kind == 2 || f.kind == 3 || f.kind == 6) && decide (f.scope ≥ 2)

/-- The completed FENCE.OPNDs of a wave that still matter: the last one, and the last before each entry that the C-stream has popped or will pop. -/
def Wave.keepOpnds (w : Wave) (l : List (Nat × Nat)) : List (Nat × Nat) :=
  l.filter fun f => l.getLast? == some f || (w.popAt :: w.qac.map fun q => q.at_).any fun t => (l.filter fun g => decide (g.1 < t)).getLast? == some f

/-- A FENCE.OPND completes: the engine entries that it comes before see every store performed by now (R124). -/
def State.opndDone (s : State) (f : FenceSt) : State :=
  let s := s.updWave f.wave fun w => { w with opnds := w.keepOpnds (w.opnds ++ [(f.at_, s.free + 1)]) }
  let c := s.core (coreOf f.wave)
  let comes (wave upto : Nat) : Bool := wave == f.wave && decide (f.at_ < upto)
  let stopped (ls : List StoppedLoop) : List StoppedLoop := ls.map fun l => if comes l.fenced l.upto then { l with seen := s.free + 1 } else l
  let s := if s.savedFlags.isEmpty then s else { s with savedFlags := s.savedFlags.map fun x => (x.1, stopped x.2) }
  if c.engine.queue.isEmpty then s
  else
    let q := c.engine.queue.map fun (x : EngineEntry) =>
      let x := if comes x.fenced x.upto then { x with seen := s.free + 1 } else x
      match x.op with
      | .save a (some ls) => { x with op := .save a (some (stopped ls)) }
      | _ => x
    s.setCore (coreOf f.wave) { c with engine := { c.engine with queue := q } }

/-- Complete the FENCE.OPNDs whose stores have all been performed. -/
def State.opndSettle (s : State) : State :=
  let done (f : FenceSt) : Bool := f.kind == 4 && s.fenceDone f
  if s.fences.any done then { (s.fences.filter done).foldl State.opndDone s with fences := s.fences.filter fun f => !done f } else s

/-- Complete the fences of a wave that can complete. -/
def State.fenceSettle (s : State) (k : Nat) : State :=
  let s := s.opndSettle
  let done := s.fences.filter fun f => f.wave == k && s.fenceDone f
  let s := if done.any FenceSt.invalidates then s.nearClear (coreOf k) else s
  { s with fences := s.fences.filter fun f => !(f.wave == k && s.fenceDone f) }

/-- What a memory-class instruction is to the fences of R207: a load, one that a release fence holds, or a fence of its own. -/
inductive MemClass where
  | load | held
  deriving DecidableEq, Repr

/-- Does an incomplete fence of the wave hold the instruction (R207)? A REL at system scope acts as FLUSH too (R180). -/
def State.fenceHolds (s : State) (k : Nat) (c : MemClass) : Bool :=
  s.fences.any fun f => f.wave == k &&
    (f.kind == 0 || f.kind == 2 || f.kind == 3 || f.kind == 5 || f.kind == 6 || (f.kind == 1 && (c == .held || f.scope == 5)))

/-- Is the core's operand log full (R341)? -/
def State.logFull (s : State) (core : Nat) : Bool :=
  decide ((s.held.filter fun h => h.cls == 0 && h.owner == core).length ≥ 256)

/-- The gate of every memory-class instruction: fences first (R207), then a full operand log (R341); an instruction that R185 names waits for held
accesses. -/
def Env.memGate (e : Env) (c : MemClass) (ordered : Bool) (k : Env → Out) : Out :=
  let s := e.s.fenceSettle e.key
  let e := { e with s := s }
  if s.fenceHolds e.key c then e.hold 15 1
  -- a word whose own held read replays resumes (R474)
  else if s.logFull e.core && !s.held.any (fun h => h.what == .record (2 * e.key + if e.cs then 1 else 0)) then e.hold 10 e.core
  else if ordered && s.holdsAccess e.key then e.hold 15 4
  else k e

/-! ## Arrival counters (R33, R288) -/

/-- Landed heads leave the counter: decrements of one counter are applied in issue order (R288). -/
def popLanded : List Arrival → List Arrival
  | [] => []
  | x :: xs => if x.landed then popLanded xs else x :: xs

def Wave.count1 (w : Wave) (c op : Nat) : Wave :=
  { w with cnt := w.cnt.setIfInBounds c (w.cnt.getD c [] ++ [⟨op, false⟩]) }

/-- The instruction `op` has landed whole: its decrement is applied, or held behind earlier ones. -/
def Wave.landOp (w : Wave) (op : Nat) : Wave :=
  { w with cnt := Vector.ofFn fun i : Fin 16 =>
      popLanded ((w.cnt[i.val]).map fun x => if x.op == op then { x with landed := true } else x) }

/-- The instruction lands when none of its lanes is in flight, held or ended (R195, R197). -/
def State.landCheck (s : State) (k op : Nat) : State :=
  if s.flight.any (fun a => a.wave == k && a.op == op) || s.held.any (fun h => (heldAccesses h).any fun a => a.wave == k && a.op == op) ||
     ((s.wave? k).map fun w => w.failed.contains op).getD false
  then s else s.updWave k fun w => w.landOp op

/-! ## A wave's accesses enter the memory system -/

/-- Do two places share a byte? -/
def samePlace (p : Place) (n : Nat) (q : Place) (m : Nat) : Bool :=
  match p, q with
  | .mem a, .mem b => decide (a < b + m) && decide (b < a + n)
  | .remote d a, .remote d' b => d == d' && decide (a < b + m) && decide (b < a + n)
  | .avenue a, .avenue b => decide (a < b + m) && decide (b < a + n)
  | _, _ => false

/-- Bytes that an access touches. -/
def AccessKind.bytes (k : AccessKind) : Nat :=
  match k with
  | .load n _ _ => n
  | .store d _ => d.length
  | .atomic m _ _ _ => if m = 11 then 8 else 4

/-- The same line of a remote or Avenue home is reached in program order (R190). -/
def sameLine (p q : Place) : Bool :=
  match p, q with
  | .remote d a, .remote d' b => d == d' && a / 128 == b / 128
  | .avenue a, .avenue b => a / 128 == b / 128
  | _, _ => false

/-- Does the wave still have an access of these bytes, or on the way to their line, that a read outside the data path must follow (R171, R190)? -/
def State.behind (s : State) (k : Nat) (p : Place) (n : Nat) : Bool :=
  s.flight.any fun b => b.wave == k && b.st.open_ && (samePlace b.place b.kind.bytes p n || sameLine b.place p)

/-- Do the address ranges of two accesses meet? -/
def Access.meets (a b : Access) : Bool :=
  decide (a.addr.toNat < b.addr.toNat + b.kind.bytes) && decide (b.addr.toNat < a.addr.toNat + a.kind.bytes)

def AccessKind.isAtomic (k : AccessKind) : Bool := match k with | .atomic _ _ _ _ => true | _ => false

/-- The earlier accesses of its wave that `a` must come after (R171, R177, R182, R190). -/
def State.afterOf (s : State) (a : Access) : List Nat :=
  (s.flight.filter fun b => b.wave == a.wave && b.st.open_ && b.op != a.op &&
    (samePlace b.place b.kind.bytes a.place a.kind.bytes || sameLine b.place a.place || (b.pageKind == 1 && a.pageKind == 1))).map
    (fun b => b.id) ++
  (((s.held.filter fun h => h.cls == 3 && h.wave == a.wave).flatMap heldAccesses).filter fun b => b.op != a.op && b.meets a).map (fun b => b.id) ++
  (match a.kind with
   | .store _ true => s.releaseSet a.wave a.scope
   | _ => []) ++
  -- the atomics of one core on one word keep their order of issue (R204)
  (if a.kind.isAtomic && decide (a.wave < 48 * 320) then
     (s.flight.filter fun b => b.core == a.core && b.wave != a.wave && decide (b.wave < 48 * 320) && b.kind.isAtomic && b.st == .waiting &&
       samePlace b.place b.kind.bytes a.place a.kind.bytes).map fun b => b.id
   else []) ++
  -- lanes of one store that write one location, in ascending order (R173)
  (match a.kind with
   | .store _ _ => (s.flight.filter fun b => b.op == a.op && b.st == .waiting && samePlace b.place b.kind.bytes a.place a.kind.bytes).map
       fun b => b.id
   | _ => [])

/-- Put an access in flight. -/
def State.launch (s : State) (a : Access) : State :=
  { s with flight := s.flight ++ [{ a with after := a.after ++ s.afterOf a, st := .waiting }] }

end Sys2Proof.Machine
end

