-- ==== Sys2Proof/Machine/Atomics.lean ====
section
/-!
DEFINITION. What an atomic writes (spec/08_memory_instructions.md, R199), and performing an access at its home unit (R204): loads, stores,
atomics, errors, the recode spill area (R160), and landing (R195 to R197).
-/
namespace Sys2Proof.Machine

/-- Two BF16 halves added, each rounded RNE (R199). -/
def addBf16x2 (a b : Word) : Word :=
  let h (i : Nat) : Nat := (addRne .bf16 (elemOf a 16 i) (elemOf b 16 i)).bits % 65536
  BitVec.ofNat 32 (h 0 + 65536 * h 1)

/-- The new memory value of an atomic (R199); the value is 64 bits wide for ADD.i64 and 32 otherwise. -/
def atomicNew (minor : Nat) (old b : DWord) (b2 : Word) : DWord :=
  let o := loHalf old
  let x := loHalf b
  let w (v : Word) : DWord := v.zeroExtend 64
  match minor with
  | 0 => w (o + x)
  | 1 => w (BitVec.ofNat 32 (addRne .f32 o.toNat x.toNat).bits)
  | 2 => w (if o.toInt ≤ x.toInt then o else x)
  | 3 => w (if o.toInt ≤ x.toInt then x else o)
  | 4 => w (if o.toNat ≤ x.toNat then o else x)
  | 5 => w (if o.toNat ≤ x.toNat then x else o)
  | 6 => w (o &&& x)
  | 7 => w (o ||| x)
  | 8 => w (o ^^^ x)
  | 9 => w x
  | 10 => w (if o = x then b2 else o)
  | 11 => old + b
  | 12 => w (if o.toNat ≥ x.toNat then 0#32 else o + 1#32)
  | _ => w (addBf16x2 o x)

/-! ## The recode spill area (R159, R160) -/

/-- Would this write of the aperture need spill space that there is not? -/
def State.needsSpill (s : State) (key : Nat) (data : List Byte) : Bool :=
  isHbmKey key && decide (apertureBase ≤ key) &&
  (let m := memPuts s.mem key data
   decide ((spilledBlocks m).length * 256 > s.spillBytes) && !blockFits (memGets m (key / 256 * 256) 256))

/-! ## Writing a location (R171, R155, R158, R297) -/

/-- The fields of a barrier word in bytes 0 to 51, as offset and length (R297). -/
def barFields : List (Nat × Nat) :=
  [(0, 2), (2, 2), (4, 2), (6, 2), (8, 4), (12, 1), (13, 1), (14, 2), (16, 8), (24, 8), (32, 8), (40, 4), (44, 8)]

/-- The bytes of a word's fields that a write of `n` bytes from offset `o` touches. -/
def barTouched (o n : Nat) : List Nat :=
  (barFields.filter fun f => decide (f.1 < o + n) && decide (o < f.1 + f.2)).flatMap fun f => (List.range f.2).map fun i => f.1 + i

/-- A plain write leaves undefined values in the whole fields that it touches of every initialised barrier word (R297): the bytes written, and the
fields' other bytes. (DESIGN CHOICE, safe: notes/assumptions/17.md) -/
def State.barSpoil (s : State) (key : Nat) (data : List Byte) : List (Nat × Byte) :=
  let words := (List.range ((key % 64 + data.length + 63) / 64)).map fun i => key / 64 * 64 + 64 * i
  (words.filter fun w => (tabGet? s.barWords w).isSome).flatMap fun w =>
    let lo := max key w
    (barTouched (lo - w) (min (key + data.length) (w + 64) - lo)).map fun i => (w + i, BitVec.ofNat 8 (Config.freeWord s.free (3000 + i)).toNat)

/-- A store to the Plaza is noted: an engine for which it is not ordered may still miss it (R125). `eng` is the core whose engine stores. -/
def State.plazaNote (s : State) (key : Nat) (data : List Byte) (eng : Option Nat) : State :=
  if isPlazaKey key then { s with opLog := s.opLog ++ [⟨s.free, key, memGets s.mem key data.length, data, eng⟩] } else s

/-- Where a page of code lies, in units of 64 KiB of memory's keys, as the tables stand; none where it is not mapped, or on another module. -/
def State.codeFrame (s : State) (tenant vpn : Nat) : Option Nat :=
  match (s.walkPage tenant vpn).1 with
  | .leaf e level =>
    let f := leafPa e level (vpn * 65536) / 65536
    if !leafAllows e .fetch then none
    else match s.locOf e with
      | 0 => some (if pteVers e then s.versFrame f 0 else f)
      | 2 => some (poolBase / 65536 + f)
      | 3 => some (hostBase / 65536 + f)
      | _ => none
  | _ => none

/-- Pages of code that were not mapped when their kernel became resident. -/
def State.codeFind (s : State) : State :=
  if s.lch.codePages.any fun x => x.frame.isNone then
    { s with lch := { s.lch with codePages := s.lch.codePages.map fun (x : CodePage) =>
        if x.frame.isNone then { x with frame := s.codeFrame x.tenant x.vpn } else x } }
  else s

/-- A store to the code of a resident kernel: a word that is fetched afterwards may still be the old one (R28). (DESIGN CHOICE, unsafe: notes/assumptions/76.md) -/
def State.codeNote (s : State) (key n : Nat) : State :=
  let s := s.codeFind
  if s.lch.codePages.any fun x => x.frame == some (key / 65536) then
    let ks := (List.range ((key % 4 + n + 3) / 4)).map fun i => key / 4 * 4 + 4 * i
    { s with lch := { s.lch with codeLog := s.lch.codeLog ++ ks.map fun k => (k, memGets s.mem k 4) } }
  else s

/-- A double-buffer epoch notes which pages are written (R439). -/
def State.snapNote (s : State) (key : Nat) : State :=
  if s.snap.state = 1 && s.snap.mode then { s with snap := { s.snap with touched := key / 65536 :: s.snap.touched } } else s

/-- Write bytes at home; marks of units that are written whole go. (DESIGN CHOICE, unsafe: notes/assumptions/6.md) (DESIGN CHOICE, safe: notes/assumptions/17.md) -/
def State.homeWrite (s : State) (key : Nat) (data : List Byte) (eng : Option Nat := none) : State :=
  let s := { (((s.countSectors key data.length 0x111).codeNote key data.length).snapNote key).plazaNote key data eng with mem := memPuts s.mem key data }
  let s := if isHbmKey key && decide (apertureBase ≤ key) then s.spillNote else s
  if s.marks.isEmpty && !s.inj.arm then s else s.wroteMem key data.length

/-- A plain write at home: the fields of a barrier word that it touches become undefined (R297). -/
def State.plainWrite (s : State) (key : Nat) (data : List Byte) (eng : Option Nat := none) : State :=
  let t := s.homeWrite key data eng
  if s.barWords.isEmpty then t else (s.barSpoil key data).foldl (fun t x => { t with mem := memPut t.mem x.1 x.2 }) t

/-! ## HOME_UNIT_REQUEST (R204) -/

/-- The bytes that a load returns, the commit buffer's bytes over them (R233). -/
def overlayed (ov : List (Nat × Byte)) (bs : List Byte) : List Byte :=
  bs.zipIdx.map fun x => ((ov.find? fun o => o.1 == x.2).map Prod.snd).getD x.1

def State.setAccess (s : State) (id : Nat) (f : Access → Access) : State :=
  { s with flight := s.flight.map fun a => if a.id == id then f a else a }
def State.dropAccess (s : State) (id : Nat) : State := { s with flight := s.flight.filter fun a => a.id != id }

/-! ## The matrix engine's share (R126, R140) -/

/-- Accesses of engine entries are numbered as those of wave 10^9 + entry (M). -/
def engineWave (id : Nat) : Nat := 1000000000 + id
/-- The REDs of a deterministic task that its flush area applies are numbered as accesses of wave 10^15 + task slot (M). -/
def detWave (task : Nat) : Nat := 1000000000000000 + task

/-- Is this the number of an engine entry's accesses? -/
def byEngine (wave : Nat) : Bool := decide (engineWave 0 ≤ wave) && decide (wave < detWave 0)

/-- The core whose engine makes an access. -/
def engOf (a : Access) : Option Nat := if byEngine a.wave then some a.core else none

/-- An entry of a core's engine meets an error (R139, R144): DRAIN_ERR, the first error's code and address, an ENG_ERROR event. -/
def State.drainErr (s : State) (core tenant : Nat) (causal : DWord) (code addr : Nat) : State :=
  let c := s.core core
  let m := c.engine.mstat
  let w0 := m.getD 0 0#32
  let first := !w0.getLsbD 3
  let w0' := (if first then (w0 &&& 0xFFFF00FF#32) ||| BitVec.ofNat 32 (code % 256 * 256) else w0) ||| 8#32
  let m := m.setIfInBounds 0 w0'
  let m := if first then (m.setIfInBounds 5 (BitVec.ofNat 32 addr)).setIfInBounds 6 (BitVec.ofNat 32 (addr / 2 ^ 32)) else m
  (s.setCore core { c with engine := { c.engine with mstat := m } }).emit (srcCore core) 0x031 tenant causal
    (BitVec.ofNat 64 (code % 256 + addr % 2 ^ 56 * 256))

/-- Does a tracked flag still count (R119)? -/
def State.trackUp (s : State) (t : Track) : Bool :=
  match s.wave? t.wave with
  | some w => if t.flag = 15 then decide ((w.stream t.cs).llHold > 0) else decide (w.flags.getD t.flag 0 > 0)
  | none => false

/-- Is the window still open (R126): its entry waits, or its flag is set? (DESIGN CHOICE, safe: notes/assumptions/30.md) -/
def State.windowOpen (s : State) (e : Engine) (x : EngineWindow) : Bool :=
  (e.queue.any fun q => q.id == x.id) || x.tracks.any s.trackUp

/-- Elements or a codebook slot become undefined (R126): free values. (DESIGN CHOICE, safe: notes/assumptions/30.md) -/
def Engine.spoil (e : Engine) (free : Nat) (x : EngineWindow) : Engine :=
  let acc := x.elems.foldl (fun t i => tabPut t i (Config.freeWord free (1000000 + i))) e.acc
  let books := match x.book with
    | some b => tabPut e.books b ((List.range 16).map fun i => (Config.freeWord free (900000 + i)).setWidth 16)
    | none => e.books
  { e with acc := acc, books := books }

def rangeHits (rs : List (Nat × Nat)) (key n : Nat) : Bool := rs.any fun r => decide (r.1 < key + n) && decide (key < r.1 + r.2)

/-- Where an address leads under the tables as they stand, with no effect. -/
def State.whereNow (s : State) (tenant tag : Nat) (redirect : Option (Nat × Nat)) (va : Nat) : Option Place :=
  if isPlazaVa va then some (.mem (plazaOf redirect (va - 0xFF000000000000)))
  else if isAvenueVa va then some (.avenue va)
  else match (s.walkPage tenant (va / 65536)).1 with
    | .leaf e l =>
      let pa := leafPa e l va
      match (if pteLoc e = 1 && pteDevno e == s.device then 0 else pteLoc e) with
      | 0 => some (.mem (if pteVers e then s.versFrame (pa / 65536) tag * 65536 + pa % 65536 else pa))
      | 1 => some (.remote (pteDevno e) pa)
      | 2 => some (.mem (poolBase + pa))
      | _ => some (.mem (hostBase + pa))
    | _ => none

/-- The memory key to which an address leads now. -/
def State.peek (s : State) (tenant tag : Nat) (redirect : Option (Nat × Nat)) (va : Nat) : Option Nat :=
  match s.whereNow tenant tag redirect va with
  | some (.mem k) => some k
  | _ => none

/-- Do two ranges, each at a place, share a byte? -/
def Place.hits (p : Place) (n : Nat) (q : Place) (m : Nat) : Bool :=
  let meet (a b : Nat) : Bool := decide (a < b + m) && decide (b < a + n)
  match p, q with
  | .mem a, .mem b => meet a b
  | .remote d a, .remote f b => d == f && meet a b
  | .avenue a, .avenue b => meet a b
  | _, _ => false

/-- Does a range at a place touch what virtual ranges of a window lead to now, page by page? -/
def State.windowHits (s : State) (x : EngineWindow) (vs : List (Nat × Nat)) (p : Place) (n : Nat) : Bool :=
  vs.any fun r => (List.range ((r.1 + r.2 - 1) / 65536 - r.1 / 65536 + 1)).any fun i =>
    let lo := max r.1 ((r.1 / 65536 + i) * 65536)
    let hi := min (r.1 + r.2) ((r.1 / 65536 + i) * 65536 + 65536)
    (s.whereNow x.tenant x.tag x.redirect lo).any fun q => q.hits (hi - lo) p n

/-- Does a range at a place touch memory ranges? -/
def placeHits (rs : List (Nat × Nat)) (p : Place) (n : Nat) : Bool := match p with | .mem key => rangeHits rs key n | _ => false

/-- A store spoils the windows whose reads it touches (R126); one of core `own`'s engine those of other cores, since it is ordered with the entries of its
own queue (R120). (DESIGN CHOICE, safe: notes/assumptions/30.md) -/
def State.storeAt (s : State) (p : Place) (n : Nat) (own : Option Nat) : State :=
  s.cores.foldl (fun s c =>
    if c.2.engine.windows.isEmpty || own == some c.1 then s
    else
      let e := (s.core c.1).engine
      let hit (x : EngineWindow) : Bool := s.windowOpen e x && (placeHits x.reads p n || s.windowHits x x.vreads p n)
      let e' := (e.windows.filter hit).foldl (fun e x => e.spoil s.free x) e
      let ws := (e.windows.filter fun x => s.windowOpen e x).map fun x => if hit x then { x with spoiled := true } else x
      s.setCore c.1 { s.core c.1 with engine := { e' with windows := ws } }) s

def State.storeInWindows (s : State) (key n : Nat) (own : Option Nat := none) : State := s.storeAt (.mem key) n own

/-- Does a load touch bytes that a drain in its window writes (R126)? -/
def State.drainsAt (s : State) (p : Place) (n : Nat) : Bool :=
  s.cores.any fun c => c.2.engine.windows.any fun x =>
    s.windowOpen c.2.engine x && (placeHits x.writes p n || s.windowHits x x.vwrites p n)

/-- The undefined value of such a load. -/
def State.drainedBytes (s : State) (n : Nat) : List Byte := (List.range n).map fun i => (Config.freeWord s.free (4000 + i)).setWidth 8

/-- A failed store, RED or write: its wave takes a deferred trap (R417, R432) with the address and code of the lowest failed lane (R197). (DEDUCED, unsafe: notes/assumptions/53.md) -/
def State.deferTrap (s : State) (a : Access) (code : Nat) : State :=
  if a.wave ≥ detWave 0 then s
  else if byEngine a.wave then
    -- an uncorrectable Plaza word leaves an ADD's old value unreadable, as a poisoned one (R144)
    s.drainErr a.core a.tenant a.causal (if code = cPlazaUncorrectable then cPoison else code) a.addr.toNat
  else
  s.updWave a.wave fun w =>
    let lanes := if a.traps = 0#32 then ((w.a.tab.slot a.slot).map fun p => p.exec).getD 0#32 else a.traps
    let more (d : Deferred) : Deferred :=
      if d.op ≠ a.op then d
      else if a.lane < d.lane then { d with lanes := d.lanes ||| lanes, lane := a.lane, addr := a.addr, code := code }
      else { d with lanes := d.lanes ||| lanes }
    let w := { w with failed := if w.failed.contains a.op then w.failed else w.failed ++ [a.op] }
    if w.deferred.any fun d => d.op == a.op then { w with deferred := w.deferred.map more }
    else if w.ended then w
    else { w with deferred := w.deferred ++ [{ op := a.op, code := code, pc := a.pc, addr := a.addr,
                                               lanes := lanes, slot := a.slot, cs := false, lane := a.lane }] }

/-- The bytes that a local load finds: a hit or a miss is counted (R376), and what a drain in its window writes is undefined (R126). -/
def State.loadValue (s : State) (a : Access) (key n : Nat) : List Byte × State :=
  let r := if nearable a.place a.pageKind && !byEngine a.wave then
      let hit := (s.nearLine a.core key).isSome
      (s.count (srcCore a.core) (if hit then 0x104 else 0x105)).nearRead a.core key n
    else (memGets s.mem key n, if !byEngine a.wave then s.nearForget a.core a.place else s)
  if !byEngine a.wave && s.drainsAt a.place n then (s.drainedBytes n, r.2)
  else (overlayed a.overlay r.1, r.2)

/-- A write waits at its memory controller for spill space: the event once (R160). -/
def State.spillHold (s : State) (id key tenant : Nat) (causal : DWord) : State :=
  if s.spillWait.any fun x => x.id == id then s
  else { s with spillWait := s.spillWait ++ [(⟨id, key, tenant, causal, s.gtc⟩ : SpillWait)] }.emit (srcOf 5 (mcOf key)) 0x090 tenant causal (BitVec.ofNat 64 (mcOf key))
def State.spillFree (s : State) (id : Nat) : State := { s with spillWait := s.spillWait.filter fun x => x.id != id }

/-- The values that the lanes of a run find, and the value that they leave (R70, R200). -/
def atomRun (minor : Nat) (old : DWord) (ops : List (DWord × Word)) : List DWord × DWord :=
  ops.foldl (fun acc x => (acc.1 ++ [acc.2], atomicNew minor acc.2 x.1 x.2)) ([], old)

/-- The operands of an atomic. -/
def AccessKind.operands (k : AccessKind) : DWord × Word := match k with | .atomic _ b b2 _ => (b, b2) | _ => (0#64, 0#32)

/-- Apply the lanes of an atomic that share a local word as one indivisible run (R200, R204). -/
def State.applyGroup (s : State) (a : Access) (ms : List Access) (key : Nat) : State :=
  match a.kind with
  | .atomic minor _ _ dests =>
    let n := a.kind.bytes
    let s := s.findErrors key n a.tenant a.causal
    match s.readError key n with
    | some c => ms.foldl (fun s b => if dests.isEmpty then (s.dropAccess b.id).deferTrap b c
                                     else s.setAccess b.id fun x => { x with st := .failed c }) s
    | none =>
      let r := atomRun minor (BitVec.ofNat 64 (bytesToNat (memGets s.mem key n))) (ms.map fun b => b.kind.operands)
      let new := natToBytes n r.2.toNat
      if s.needsSpill key new then s.spillHold a.id key a.tenant a.causal
      else
        let s := s.storeInWindows key n (engOf a)
        let s := ((s.homeWrite key new (engOf a)).nearForget a.core a.place).spillFree a.id
        if dests.isEmpty then ms.foldl (fun s b => s.dropAccess b.id) s
        else (ms.zip r.1).foldl (fun s b => s.setAccess b.1.id fun x => { x with st := .performed (natToBytes n b.2.toNat) }) s
  | _ => s

/-- Apply a local access (R204). (DESIGN CHOICE, unsafe: notes/assumptions/86.md) -/
def State.applyAccess (s : State) (a : Access) (key : Nat) : State :=
  match a.kind with
  | .load n _ _ =>
    let s := s.findErrors key n a.tenant a.causal
    if a.disc then s.setAccess a.id fun x => { x with st := .performed (List.replicate n 0#8) }
    else match s.readError key n with
      | some c => s.setAccess a.id fun x => { x with st := .failed c }
      | none =>
        let r := s.loadValue a key n
        r.2.setAccess a.id fun x => { x with st := .performed r.1 }
  | .store data _ =>
    let s := s.findPart key data.length a.tenant a.causal
    match s.writeError key data.length with
    | some c => (s.dropAccess a.id).deferTrap a c
    | none =>
      if s.needsSpill key data then s.spillHold a.id key a.tenant a.causal
      else
        let s := s.storeInWindows key data.length (engOf a)
        let t := ((s.plainWrite key data (engOf a)).dropAccess a.id).spillFree a.id
        if (s.barSpoil key data).isEmpty then t.nearStore a.core a.place data else t.nearForget a.core a.place
  | .atomic _ _ _ _ => s.applyGroup a [a] key

/-- What waits for accesses to be performed: a FENCE.OPND completes (R124), and an entry whose replayed accesses have all been performed frees
(R343). -/
def State.heldPrune (s : State) : State :=
  let s := s.opndSettle
  { s with held := s.held.filter fun h => h.replaying.isEmpty || !(heldAccesses h).isEmpty || h.replaying.any fun i => s.unperformed i }

/-- The operands of an atomic's lane in a packet that carries a group: its operand, and of CAS the new value after it; 8 bytes for ADD.i64. -/
def atomData (minor : Nat) (b : DWord) (b2 : Word) : List Byte :=
  if minor = 11 then natToBytes 8 b.toNat else natToBytes 4 (b.toNat % 2 ^ 32) ++ (if minor = 10 then natToBytes 4 b2.toNat else [])

/-- The request packet of a remote or Avenue access (R423, R428). One that fills a near-cache line asks for the whole line (R155). -/
def Access.packet (a : Access) (dst addr : Nat) : Packet :=
  let op : PktOp := match a.kind with
    | .load _ _ _ => .read
    | .store _ _ => .write
    | .atomic m _ _ ds => if ds.isEmpty && m != descMinor then .red else .atom
  let data : List Byte := match a.kind with
    | .store d _ => d
    | .atomic 10 _ b2 _ => natToBytes 4 b2.toNat
    | _ => []
  let line := a.fill == 1 || a.fill == 2
  { dst := dst, srcDev := 0, src := srcCore a.core, xtag := 0, op := op, scope := a.scope,
    release := (match a.kind with | .store _ r => r | _ => false), retry := false, unlocked := false, tenant := a.tenant,
    minor := (match a.kind with | .atomic m _ _ _ => m | _ => 0),
    len := (match a.kind with | .load n _ _ => if line then 128 else n | _ => data.length), addr := if line then addr / 128 * 128 else addr,
    causal := a.causal, sent := 0#64, opnd := (match a.kind with | .atomic _ b _ _ => b | _ => 0#64), data := data }

/-- One packet for the lanes of an atomic that share a word, in ascending lane order (R200, R204): all their operands. (DESIGN CHOICE, unsafe: notes/assumptions/22.md) -/
def groupPacket (a : Access) (mates : List Access) (dst addr : Nat) : Packet :=
  let p := a.packet dst addr
  if mates.length ≤ 1 then p
  else
    let data := mates.flatMap fun b => match b.kind with | .atomic m x y _ => atomData m x y | _ => []
    { p with data := data, len := data.length }

/-- The lanes of an atomic that share a word with `a` and have not been performed or sent, in ascending lane order (R200); of another access, itself. -/
def State.mates (s : State) (a : Access) : List Access :=
  match a.kind with
  | .atomic _ _ _ _ =>
    if a.traps = 0#32 then [a]
    else (List.range 32).filterMap fun l =>
      s.flight.find? fun b => b.wave == a.wave && b.op == a.op && b.place == a.place && b.lane == l && b.st == .waiting && b.sent.isNone
  | _ => [a]

/-- Send the access, with its mates, to its home on another module or in a switch (R423). -/
def State.sendAccess (s : State) (a : Access) : State :=
  let ms := s.mates a
  let go (plane dst addr : Nat) : State :=
    match s.newTxn true plane 0 (groupPacket a ms dst addr) (.access (ms.map fun b => b.id)) with
    | some s' => { s' with flight := s'.flight.map fun b => if ms.any fun m => m.id == b.id then { b with sent := some s.nextId } else b }
    | none => s
  match a.place with
  | .remote d pa => go (planeOfPa pa) d pa
  | .avenue va =>
    match s.avHome va a.tenant with
    | .ok plane pa => go plane 0xFFF pa
    | .lost => ms.foldl (fun s b => s.setAccess b.id fun x => { x with st := .failed cAvenueLost }) s
    | .none => ms.foldl (fun s b => s.setAccess b.id fun x => { x with st := .failed cPermission }) s
  | .mem _ => s

/-- A load of another module's memory that the near cache or a discarded page answers, or that asks for its line (R155, R344). -/
def State.remoteLoad (s : State) (a : Access) (n : Nat) : State :=
  if a.disc then s.setAccess a.id fun x => { x with st := .performed (List.replicate n 0#8) }
  else if !byEngine a.wave && s.drainsAt a.place n then s.setAccess a.id fun x => { x with st := .performed (s.drainedBytes n) }
  else match (if nearable a.place a.pageKind && !byEngine a.wave then nearKey a.place else none) with
    | none => (if byEngine a.wave then s else s.nearForget a.core a.place).sendAccess a
    | some key =>
      let s := s.nearCheck a.core key
      match s.nearLine a.core key with
      | some l => (s.count (srcCore a.core) 0x104).setAccess a.id fun x => { x with st := .performed (overlayed a.overlay ((l.drop (key % 128)).take n)) }
      | none =>
        if a.fill = 3 then s.sendAccess a
        else
          let s := s.setAccess a.id fun x => { x with fill := 1 }
          (s.count (srcCore a.core) 0x105).sendAccess { a with fill := 1 }

/-- Perform an access if every access that it must follow has been performed, and, of a release, none before it has failed (R185); the lanes of an atomic
that share a word go as one run, in ascending lane order (R200). Of several writes of one cycle the lowest source goes first (R172).
(DESIGN CHOICE, unsafe: notes/assumptions/6.md) -/
def State.perform (s : State) (id : Nat) : State :=
  match s.flight.find? fun a => a.id == id with
  | none => s
  | some a =>
    let ms := s.mates a
    let released := match a.kind with | .store _ true => true | _ => false
    if a.st != .waiting || a.sent.isSome || ms.any (fun b => b.after.any fun i => s.unperformed i) || (released && s.barred a.wave a.op) then s
    else match a.place with
      | .mem key =>
        match a.kind with
        | .load _ _ _ => (s.applyAccess a key).heldPrune
        | _ => if s.writeLateIn key (srcCore a.core) then s
               else ((match a.kind with
                 | .atomic _ _ _ _ => s.applyGroup a ms key
                 | _ => s.applyAccess a key).writeServed key (srcCore a.core)).heldPrune
      | _ => match a.kind with
        | .load n _ _ => (s.remoteLoad a n).heldPrune
        | _ => s.sendAccess a

/-- HOME_UNIT_REQUEST (R204). (DESIGN CHOICE, unsafe: notes/assumptions/6.md) -/
def execHomeUnitRequest (id : Nat) (s : State) : Out := .next (s.perform id)

/-- SPILL_FREED (R160): writes that wait at a memory controller for spill space are tried again. -/
def execSpillFreed (mc : Nat) (s : State) : Out :=
  .next (s.spillWait.foldl (fun s x => if mcOf x.key = mc then s.perform x.id else s) s)

/-! ## Landing (R195 to R197) -/

/-- The words that a load or atomic writes to its destinations. -/
def landWords (k : AccessKind) (v : List Byte) : List Word :=
  match k with
  | .load 1 true _ => [sext8w (BitVec.ofNat 32 (bytesToNat v))]
  | .load 2 true _ => [sext16w (BitVec.ofNat 32 (bytesToNat v))]
  | _ => (List.range ((v.length + 3) / 4)).map fun i => BitVec.ofNat 32 (bytesToNat ((v.drop (4 * i)).take 4))
where
  sext8w (x : Word) : Word := (x.extractLsb' 0 8).signExtend 32
  sext16w (x : Word) : Word := (x.extractLsb' 0 16).signExtend 32

/-- The crossed elements without these lanes of a place. -/
def Wave.uncross (w : Wave) (p : Nat) (m : Word) : List (Nat × Word) :=
  if w.crossed.isEmpty then [] else w.crossed.filterMap fun c =>
    if c.1 = p then (if c.2 &&& ~~~m = 0#32 then none else some (p, c.2 &&& ~~~m)) else some c

/-- The counter on which an instruction is counted. -/
def Wave.counterOf (w : Wave) (op : Nat) : Option Nat := (List.range 16).find? fun c => (w.cnt.getD c []).any fun a => a.op == op

/-- The landed elements that the C-stream may still miss: of one load and place, one note. (DEDUCED, unsafe: notes/assumptions/71.md) -/
def Wave.landed (w : Wave) (free cycle op p : Nat) (m : Word) (old : Lanes) : List Recent :=
  match w.counterOf op with
  | none => w.recent
  | some c =>
    let key : Option (Nat × Nat) := some (op, c)
    if w.recent.any fun x => x.reg == p && x.load == key then
      w.recent.map fun x => if x.reg == p && x.load == key then { x with lanes := x.lanes ||| m, old := x.old.write m old.lane } else x
    else w.recent ++ [⟨false, p, m, old, false, cycle, free, key⟩]

/-- Write a landed lane. Of an element that the C-stream has written meanwhile, either value remains (R196); the C-stream may miss a landed element
until its own WAITA (R79, R196). -/
def Wave.landLane (w : Wave) (free cycle op lane : Nat) (ds : List LateDest) (xs : List Word) : Wave :=
  let m : Word := BitVec.ofNat 32 (2 ^ lane)
  (ds.zip xs).foldl (fun w x =>
    match x.1 with
    | .scalar cs r => w.putScalar cs r x.2
    | .vec p =>
      if p / 16 ≥ w.blocks.length then w
      else
        let crossed := w.crossed.any fun c => c.1 == p && laneIn c.2 lane
        let w := { w with crossed := w.uncross p m }
        if crossed && Config.freeBit free (60000 + 32 * p + lane) then w
        else
          let old := (tabGetD w.vregs p Lanes.zero)
          let w' := w.putVec p m fun _ => x.2
          if w.single then w' else { w' with recent := w'.landed free cycle op p m old }) w

/-- Lanes of an element whose landing is settled are no longer crossed (R196). -/
def Wave.endCross (w : Wave) (lane : Nat) (ds : List LateDest) : Wave :=
  ds.foldl (fun w d => match d with | .vec p => { w with crossed := w.uncross p (BitVec.ofNat 32 (2 ^ lane)) } | .scalar _ _ => w) w

def AccessKind.dests (k : AccessKind) : List LateDest :=
  match k with
  | .load _ _ ds => ds
  | .atomic _ _ _ ds => ds
  | .store _ _ => []

/-- LOAD_LAND (R195): a performed lane's value is written, and the instruction lands with its last lane. (DESIGN CHOICE, safe: notes/assumptions/16.md) -/
def execLoadLand (id : Nat) (s : State) : Out :=
  match s.flight.find? fun a => a.id == id with
  | none => .next s
  | some a =>
    match a.st with
    | .performed v =>
      -- an engine entry's own read is taken by the entry (R139, R146)
      if byEngine a.wave then .next s else
      let ds := a.kind.dests
      let s := match s.wave? a.wave with
        | some w => ds.foldl (fun (s : State) (d : LateDest) => match d with
            | .vec p => s.wroteVec a.core w p (BitVec.ofNat 32 (2 ^ a.lane))
            | .scalar _ _ => s) s
        | none => s
      let s := (s.dropAccess id).updWave a.wave fun w => w.landLane s.free s.cycle a.op a.lane ds (landWords a.kind v)
      .next ((s.landCheck a.wave a.op).reap a.wave)
    | _ => .next s

/-- LOAD_ERROR (R197): an error has come back for a lane, which ends; the wave takes a deferred trap. In a combiner wave it is the batch's
fault (R232). -/
def execLoadError (id : Nat) (s : State) : Out :=
  match s.flight.find? fun a => a.id == id with
  | none => .next s
  | some a =>
    match a.st with
    | .failed c =>
      if byEngine a.wave then .next s else
      let s := ((s.dropAccess id).deferTrap a c).updWave a.wave fun w => w.endCross a.lane a.kind.dests
      .next (match s.wave? a.wave with
        | some w => (match w.batch with
          | some b => s.faultBatch a.wave w b c
          | none => s.reap a.wave)
        | none => s)
    | _ => .next s

end Sys2Proof.Machine
end

