-- ==== Sys2Proof/Machine/LaneMem.lean ====
section
/-!
DEFINITION. The checks of lane and scalar memory accesses (spec/08_memory_instructions.md, R191, R192), holding faulted lanes
in the operand log (spec/07_ordering_rules.md, R185; 14_translation.md, R339 to R341, R474), and starting the accesses.
-/
namespace Sys2Proof.Machine

/-- A lane that passed its checks. -/
structure LaneOk where
  lane : Nat
  va : Nat
  place : Place
  kind : Nat
  disc : Bool
  /-- it joins the log behind these held accesses of its page (R185): each entry's order, and the page -/
  joins : List (Nat × Nat × Nat)
  deriving DecidableEq, Repr

/-- A lane with a replayable fault. -/
structure LaneFault where
  lane : Nat
  va : Nat
  code : Nat
  span : Nat
  flags : Nat
  deriving DecidableEq, Repr

/-- The mask and the lowest address of some lanes. -/
def lanesMask (ls : List (Nat × Nat)) : Word := maskOf fun i => ls.any fun x => x.1 == i
/-- The lanes that a trap of `ls` names: of a scalar access, the split's exec (R192, R416). -/
def Env.named (e : Env) (one : Bool) (ls : List (Nat × Nat)) : Word := if one then e.exec else lanesMask ls
def lowestVa (ls : List (Nat × Nat)) : DWord := BitVec.ofNat 64 ((ls.head?.map Prod.snd).getD 0)

/-- Resolve the lanes in order. -/
def State.resolveLanes (s : State) (w : Asker) (d : Dir) (scope : Nat) (ls : List (Nat × Nat)) :
    List (Nat × Nat × Resolved) × State :=
  ls.foldl (fun (acc : List (Nat × Nat × Resolved) × State) x =>
    let r := acc.2.resolve w d scope x.2
    (acc.1 ++ [(x.1, x.2, r.1)], r.2)) ([], s)

/-- ACCESS of a fault record (R339). -/
def Dir.record (d : Dir) : Nat :=
  match d with
  | .load => 0
  | .store => 1
  | .atomic => 2
  | .fetch => 3

/-- Records for the distinct pages among faulting lanes, each with its lowest lane's address (R339). -/
def State.pageRecords (s : State) (causal : DWord) (src tenant access final token : Nat) (fs : List LaneFault) : State :=
  (fs.foldl (fun (acc : List (Nat × Nat) × State) f =>
    let page := (f.va / 65536 / spanGranules f.span, f.span)
    if acc.1.contains page then acc
    else (acc.1 ++ [page],
          acc.2.faultRecord (BitVec.ofNat 64 f.va) causal src tenant f.code (walkAccess f.span access) (f.flags + final) token)) ([], s)).2

/-- A commit task waits for a page's shadow; a cycle of such waits, or every live commit task waiting for an empty pool, aborts the task
that started last (R327). -/
def State.shadowBlocked (s : State) (task holder : Nat) : State :=
  let ws := (task, holder) :: s.lch.shadowWaits.filter fun x => x.1 != task
  let s := { s with lch := { s.lch with shadowWaits := ws } }
  let next (t : Nat) : Option Nat := (ws.find? fun x => x.1 == t).map Prod.snd
  let path := (List.range ws.length).foldl (fun (p : List Nat) _ => match p with
    | t :: _ => (match next t with | some n => if n = t then p else n :: p | none => p)
    | [] => p) [task]
  let commits := s.lch.tasks.filter fun t => t.2.commit && t.2.started && !t.2.retired
  let cyc := decide (holder ≠ task) && (path.dropLast).contains task
  let all := commits.all fun t => ws.any fun x => x.1 == t.1
  let cands := if cyc then commits.filter fun t => path.contains t.1 else commits
  let last := cands.foldl (fun (m : Option (Nat × Task)) t => match m with
    | some x => if x.2.order < t.2.order then some t else m
    | none => some t) none
  if cyc || all then (match last with | some t => s.abortTask t.1 0 | none => s) else s

/-- The lowest free entry of a holder. -/
def State.freeEntry (s : State) (cls owner n : Nat) : Option Nat :=
  (List.range n).find? fun i => !s.held.any fun h => h.cls == cls && h.owner == owner && h.entry == i

/-- TOKEN of a record (R339). -/
def tokenOf (cls owner entry : Nat) : Nat := cls * 2 ^ 30 + owner * 2 ^ 21 + entry

/-- Does the wave hold an access, in the log or at a walker? -/
def State.holdsAny (s : State) (k : Nat) : Bool := s.held.any fun h => h.wave == k && !(heldAccesses h).isEmpty

/-- The checks of R192 over the lanes `ls` (lane, address), ascending, or of the one address of a scalar form;
`go` gets the lanes that pass and those with a replayable fault. Lanes are compared with the first lane whose page's kind is known.
(DESIGN CHOICE, unsafe: notes/assumptions/70.md) -/
def Env.checkLanes (e : Env) (d : Dir) (scope size : Nat) (release one : Bool) (ls : List (Nat × Nat))
    (go : Env → List LaneOk → List LaneFault → Out) : Out :=
  let bad1 := ls.filter fun x => x.2 % size != 0
  if !bad1.isEmpty then e.trapWith cMisaligned (lowestVa bad1) (e.named one bad1)
  else
    let bad2 := ls.filter fun x => vaBad x.2 || (isAvenueVa x.2 && decide (scope < 4))
    if !bad2.isEmpty then e.trapWith cPermission (lowestVa bad2) (e.named one bad2)
    else
      let asker := e.s.waveAsker e.key e.cs e.w
      let r := e.s.resolveLanes asker d scope ls
      match r.1.findSome? fun x => match x.2.2 with | .miss v => some v | _ => none with
      | some v =>
        let wk := (e.s.count (srcCore e.core) 0x106).startWalk asker v
        .next ({ e with s := wk.2 }.await (.walk wk.1))
      | none =>
      match r.1.findSome? fun x => match x.2.2 with | .shadowWait t => some t | _ => none with
      | some t => { e with s := e.s.shadowBlocked e.w.task t }.hold 15 4
      | none =>
        let bad3 := r.1.filter fun x => match x.2.2 with | .refused _ => true | .walkError _ _ => true | _ => false
        match bad3 with
        | b :: _ =>
          let code := match b.2.2 with
            | .refused c => c
            | .walkError c _ => c
            | _ => cPermission
          let errs := bad3.filterMap fun x => match x.2.2 with
            | .walkError c sp => some ⟨x.1, x.2.1, c, sp, 0⟩
            | _ => none
          let s := e.s.pageRecords e.w.causal (srcCore e.core) e.w.tenant d.record 1 0 errs
          let ps := bad3.map fun x => (x.1, x.2.1)
          { e with s := s }.trapWith code (lowestVa ps) (e.named one ps)
        | [] =>
          let kinds := r.1.map fun x => (x.1, x.2.1, match x.2.2 with
            | .ok _ k _ => some k
            | .faults _ _ _ k => k
            | _ => none)
          let un := kinds.filter fun x => x.2.2 == some 2
          let first := kinds.findSome? fun x => x.2.2
          let other := kinds.filter fun x => x.2.2.isSome && x.2.2 != first
          let mixed := kinds.any fun x => x.2.2 == some 1
          let pr (l : List (Nat × Nat × Option Nat)) : List (Nat × Nat) := l.map fun x => (x.1, x.2.1)
          if release && !un.isEmpty then e.trapWith cKindConflict (lowestVa (pr un)) (e.named one (pr un))
          else if mixed && !other.isEmpty then e.trapWith cKindConflict (lowestVa (pr other)) (e.named one (pr other))
          else if mixed && e.s.holdsAny e.key then e.hold 15 4
          else
            let oks := r.1.filterMap fun x => match x.2.2 with
              | .ok p k ds => some (⟨x.1, x.2.1, p, k, ds, e.s.heldPages e.key (x.2.1 / 65536)⟩ : LaneOk)
              | .faults _ _ _ _ =>
                if (e.s.heldPages e.key (x.2.1 / 65536)).isEmpty then none
                else some (⟨x.1, x.2.1, .mem 0, 0, false, e.s.heldPages e.key (x.2.1 / 65536)⟩ : LaneOk)
              | _ => none
            let lf := r.1.filterMap fun x => match x.2.2 with
              | .faults c sp fl _ => if (e.s.heldPages e.key (x.2.1 / 65536)).isEmpty then some (⟨x.1, x.2.1, c, sp, fl⟩ : LaneFault) else none
              | _ => none
            let stops := !lf.isEmpty || oks.any fun o => !o.joins.isEmpty
            if stops && e.s.logFull e.core then e.hold 10 e.core
            else
              let s := { r.2 with walkRes := r.2.walkRes.filter fun x => x.asker != asker.id,
                                  lch := { r.2.lch with shadowWaits := r.2.lch.shadowWaits.filter fun x => x.1 != e.w.task } }
              go { e with s := s } oks lf

/-- Is the access a posted write: a store to the pool or a host (R189)? -/
def AccessKind.posts (k : AccessKind) (p : Place) : Bool :=
  match k, p with
  | .store _ _, .mem key => isPostedKey key
  | _, _ => false

/-- A new access of a lane; it has no number yet. -/
def Env.newAccess (e : Env) (one : Bool) (op lane va : Nat) (kind : AccessKind) (place : Place) (pk scope : Nat) (disc : Bool) : Access :=
  { id := 0, op := op, wave := e.key, core := e.core, tenant := e.w.tenant, lane := lane, traps := e.named one [(lane, va)], kind := kind,
    addr := BitVec.ofNat 64 va, place := place, pageKind := pk,
    posted := kind.posts place, scope := scope, pc := e.pc,
    slot := e.cl.slot, causal := e.w.causal, disc := disc, st := .waiting, after := [], overlay := [], page := (0, 0),
    sent := none }

/-- Hold accesses of one instruction in the core's log (class 0), or at their page walkers (class 3), with their records (R185, R339, R341, R348).
(DEDUCED, unsafe: notes/assumptions/26.md) -/
def State.holdAccesses (s : State) (cls k pc : Nat) (w : Wave) (d : Dir) (as : List Access) (fs : List LaneFault) : State :=
  if as.isEmpty then s
  else match s.freeEntry cls (coreOf k) (if cls = 0 then 256 else s.held.length + 1) with
    | none => s
    | some n =>
      let h : Held :=
        { cls := cls, owner := coreOf k, entry := n, tenant := w.tenant, vpn := (as.head?.map fun a => a.page.1).getD 0,
          span := (as.head?.map fun a => a.page.2).getD 0, va := 0, what := .lanes as,
          joined := if fs.isEmpty then ((as.flatMap fun a => a.behind).map Prod.fst).dedup else [], order := s.heldNext, wave := k,
          pc := BitVec.ofNat 64 pc, replaying := [], again := false }
      let s := { s with held := s.held ++ [h], heldNext := s.heldNext + 1 }
      let s := if cls = 0 then s.injectAt 4 (coreOf k) (queueLoc 3 0 n) (logMark h.order) else s
      s.pageRecords w.causal (srcCore (coreOf k)) w.tenant d.record 0 (tokenOf cls (coreOf k) n) fs

/-- Does a page walker hold what takes a fault with these flags, in hardware mode: a write to a snapshot-protected page (R348)? -/
def State.walkerHolds (s : State) (flags : Nat) : Bool := s.dpr.getLsbD 6 && flags / 8 % 2 == 1
def State.atWalker (s : State) (f : LaneFault) : Bool := s.walkerHolds f.flags

/-- The class and the number of a holder entry: in the log or list `cls` of `n` entries, or, where a walker holds the access, at the walker (class 3). -/
def State.holderFor (s : State) (cls owner n flags : Nat) (what : HeldWhat) : Option (Nat × Nat) :=
  let c := if s.walkerHolds flags then 3 else cls
  match s.held.find? fun h => h.what == what && h.cls == c with
  | some h => some (c, h.entry)
  | none => (s.freeEntry c owner (if c = 3 then s.held.length + 1 else n)).map fun i => (c, i)

/-- Start an instruction's accesses: those that passed go in flight, the others are held. `det` is the key of a deterministic task's REDs (R203). -/
def Env.start (e : Env) (one : Bool) (d : Dir) (scope : Nat) (op : Nat) (oks : List LaneOk) (fs : List LaneFault)
    (kind : Nat → AccessKind) (overlay : Nat → List (Nat × Byte)) (det : Option (Nat × Nat × Nat) := none) : Env :=
  let go (s : State) (o : LaneOk) : State :=
    let r := s.newId
    let a := { e.newAccess one op o.lane o.va (kind o.lane) o.place o.kind scope o.disc with
               id := r.1, overlay := overlay o.lane, page := s.pageOf false e.core e.w.tenant (s.waveAsker e.key e.cs e.w).tag o.va }
    let s := if o.disc && d == .load then r.2.discServed e.core e.w.tenant (s.waveAsker e.key e.cs e.w).tag o.va else r.2
    s.launch a
  let hold (acc : List Access × State) (lane va : Nat) (page : Nat × Nat) (behind : List (Nat × Nat × Nat)) : List Access × State :=
    let r := acc.2.newId
    (acc.1 ++ [{ e.newAccess one op lane va (kind lane) (.mem 0) 0 scope false with
                 id := r.1, overlay := overlay lane, page := page, behind := behind, det := det }], r.2)
  let s := (oks.filter fun o => o.joins.isEmpty).foldl go e.s
  let js := (oks.filter fun o => !o.joins.isEmpty).foldl (fun acc o =>
    hold acc o.lane o.va ((o.joins.head?.map Prod.snd).getD (o.va / 65536, 0)) o.joins) (([], s) : List Access × State)
  let far := fs.filter e.s.atWalker
  let near := fs.filter fun f => !e.s.atWalker f
  let hs := near.foldl (fun acc f => hold acc f.lane f.va (f.va / 65536, f.span) []) js
  let ws := far.foldl (fun acc f => hold acc f.lane f.va (f.va / 65536, f.span) []) (([], hs.2) : List Access × State)
  let s := ws.2.holdAccesses 0 e.key e.pc.toNat e.w d hs.1 near
  { e with s := s.holdAccesses 3 e.key e.pc.toNat e.w d ws.1 far }

/-! ## Loads (R193 to R196) -/

/-- The bytes of the commit buffer that lie in [va, va + n), by offset (R233). -/
def Batch.overlay (b : Batch) (va n : Nat) : List (Nat × Byte) :=
  (b.commit.filter fun c => decide (va ≤ c.1) && decide (c.1 < va + n)).map fun c => (c.1 - va, c.2)

/-- A load of the lanes `ls` on counter `k` (R193 to R195). -/
def Env.load (e : Env) (one : Bool) (k size : Nat) (signed : Bool) (ls : List (Nat × Nat)) (dests : Nat → List LateDest) : Out :=
  e.memGate .load false fun e =>
    if (e.w.cnt.getD k []).length ≥ 63 then e.hold 8 k
    else e.checkLanes .load 99 size false one ls fun e oks fs =>
      let r := e.s.newId
      let ov (lane : Nat) : List (Nat × Byte) := match e.w.batch with
        | some b => b.overlay (((ls.find? fun x => x.1 == lane).map Prod.snd).getD 0) size
        | none => []
      let e := { e with s := r.2 }.start one .load 0 r.1 oks fs (fun l => .load size signed (dests l)) ov
      .next { e with w := e.w.count1 k r.1 }.done

/-- The lane addresses of a vector pair plus OFF × size (R193). -/
def Env.laneAddrs (e : Env) (a : BitVec 7) (off : BitVec 7) (size : Nat) : List (Nat × Nat) :=
  (lanesOf e.exec).map fun l => (l, (memAddr (e.v64 a l) off size).toNat)

/-- LDV of any size (R193): nothing happens under an all-zero exec (R192). -/
def Env.ldv (e : Env) (d a : BitVec 7) (k : BitVec 4) (o : BitVec 7) (size : Nat) (signed : Bool) : Out :=
  if e.exec = 0#32 then .next e.done
  else
    let n := (size + 3) / 4
    let ds := (List.range n).filterMap fun i => (e.place? (d.toNat + i)).map LateDest.vec
    e.load false k.toNat size signed (e.laneAddrs a o size) fun _ => ds

/-- LDS (R194): wave-level; sz discards the value. (DEDUCED, unsafe: notes/assumptions/26.md) -/
def Env.lds (e : Env) (d a : BitVec 7) (k : BitVec 4) (o : BitVec 7) (size : Nat) : Out :=
  let ds := if d.toNat ≥ 64 then [] else (List.range (size / 4)).map fun i => LateDest.scalar false (d.toNat + i)
  e.load true k.toNat size false [(0, (memAddr (e.s64 a) o size).toNat)] fun _ => ds

/-! ## Stores (R198) -/

/-- Add a store's bytes to the commit buffer of a combiner wave (R233): ascending lanes, at most 128 entries of 32 B. -/
def Batch.buffer (b : Batch) (ls : List (Nat × Nat)) (data : Nat → List Byte) : Batch :=
  { b with commit := ls.foldl (fun t x =>
      (data x.1).zipIdx.foldl (fun t y => tabPut t (x.2 + y.2) y.1) t) b.commit }
def Batch.entries (b : Batch) : Nat := ((b.commit.map fun c => c.1 / 32).dedup).length

/-- A store of a combiner wave (R232, R233). -/
def Env.batchStore (e : Env) (b : Batch) (size : Nat) (ls : List (Nat × Nat)) (data : Nat → List Byte) : Out :=
  if ls.any fun x => x.2 % size != 0 then e.trap cMisaligned 0#64
  else if ls.any fun x => decide (x.2 < b.stateVa.toNat) || decide (x.2 + size > b.stateVa.toNat + b.ssize) then
    e.batchFault cCombForbidden
  else
    let b' := b.buffer ls data
    if b'.entries > 128 then e.batchFault cCombBuffer
    else .next { e with w := { e.w with batch := some b' } }.done

/-- A store of the lanes `ls` with order code `k` (R198). -/
def Env.store (e : Env) (one : Bool) (k : BitVec 4) (size : Nat) (ls : List (Nat × Nat)) (data : Nat → List Byte) : Out :=
  let scope := k.toNat % 8
  let release := k.getLsbD 3
  match e.w.batch with
  | some b => e.batchStore b size ls data
  | none =>
    e.memGate .held release fun e =>
      e.checkLanes .store scope size release one ls fun e oks fs =>
        let r := e.s.newId
        .next ({ e with s := r.2 }.start one .store scope r.1 oks fs (fun l => .store (data l) release) fun _ => []).done

/-- STV of any size (R198). -/
def Env.stv (e : Env) (d a : BitVec 7) (k : BitVec 4) (o : BitVec 7) (size : Nat) : Out :=
  if e.exec = 0#32 then .next e.done
  else
    let n := (size + 3) / 4
    e.store false k size (e.laneAddrs a o size) fun l =>
      ((List.range n).flatMap fun i => natToBytes 4 (e.v32i d i l).toNat).take size

/-- STS (R198): sz stores zero. (DEDUCED, unsafe: notes/assumptions/26.md) -/
def Env.sts (e : Env) (d a : BitVec 7) (k : BitVec 4) (o : BitVec 7) (size : Nat) : Out :=
  let x : Nat := if size = 8 then (e.s64 d).toNat else (e.s32 d).toNat
  e.store true k size [(0, (memAddr (e.s64 a) o size).toNat)] fun _ => natToBytes size x

/-! ## Atomics (R199 to R203) -/

/-- The operands of a lane: b, and the new value of CAS. -/
def Env.atomOps (e : Env) (minor : Nat) (b : BitVec 7) (l : Nat) : DWord × Word :=
  if minor = 11 then (e.v64 b l, 0#32)
  else if minor = 10 then ((e.v32 b l).zeroExtend 64, e.v32i b 1 l)
  else ((e.v32 b l).zeroExtend 64, 0#32)

/-- ATOM (R199, R201): gang, chip, pod or system by the major. -/
def Env.atom (e : Env) (minor : Nat) (sc : BitVec 2) (d a b : BitVec 7) : Out :=
  if e.exec = 0#32 then .next e.done
  else
    let scope := sc.toNat + 2
    let size := if minor = 11 then 8 else 4
    let ds := (List.range (size / 4)).filterMap fun i => (e.place? (d.toNat + i)).map LateDest.vec
    e.memGate .held false fun e =>
      if (e.w.cnt.getD 15 []).length ≥ 63 then e.hold 8 15
      else e.checkLanes .atomic scope size false false (e.laneAddrs a 0#7 size) fun e oks fs =>
        let r := e.s.newId
        let e := { e with s := r.2 }.start false .atomic scope r.1 oks fs
          (fun l => .atomic minor (e.atomOps minor b l).1 (e.atomOps minor b l).2 ds) fun _ => []
        .next { e with w := e.w.count1 15 r.1 }.done

/-- Is the wave's task deterministic (R325)? -/
def Env.det (e : Env) : Bool := ((tabGet? e.s.lch.tasks e.w.task).map fun t => t.det).getD false

/-- The flush epoch of a wave's block (R326). -/
def Env.epoch (e : Env) : Nat := e.w.flushes + ((tabGet? e.s.lch.blocks e.w.block).map fun x => x.epoch0).getD 0

/-- Held REDs of deterministic tasks that a core's buffer must still take. -/
def State.heldDet (s : State) (core : Nat) : Nat :=
  ((s.held.flatMap heldAccesses).filter fun a => a.core == core && a.det.isSome).length

/-- RED in a deterministic task: its lanes go to the core's buffer, a held one when it is replayed (R203). -/
def Env.bufferRed (e : Env) (minor size : Nat) (a b : BitVec 7) (scope : Nat) : Out :=
  e.checkLanes .atomic scope size false false (e.laneAddrs a 0#7 size) fun e oks fs =>
    let c := e.s.core e.core
    if c.det.length + e.s.heldDet e.core + oks.length + fs.length > 4096 then e.trap cDetOverflow 0#64
    else
      let r := e.s.newId
      let new := (oks.filter fun o => o.joins.isEmpty).map fun o =>
        ({ logical := e.w.logical, waveIx := e.w.waveId, lane := o.lane, flush := e.epoch, minor := minor,
           b := (e.atomOps minor b o.lane).1, b2 := (e.atomOps minor b o.lane).2, place := o.place,
           addr := BitVec.ofNat 64 o.va, tenant := e.w.tenant, task := e.w.task, causal := e.w.causal, order := r.1 } : DetRed)
      let e := { e with s := r.2.setCore e.core { c with det := c.det ++ new } }
      .next (e.start false .atomic scope r.1 (oks.filter fun o => !o.joins.isEmpty) fs
        (fun l => .atomic minor (e.atomOps minor b l).1 (e.atomOps minor b l).2 []) (fun _ => []) (some (e.w.logical, e.w.waveId, e.epoch))).done

/-- RED (R202): scope 0 acts as block. -/
def Env.red (e : Env) (minor : Nat) (sc : BitVec 3) (a b : BitVec 7) : Out :=
  if e.exec = 0#32 then .next e.done
  else
    let scope := max 1 sc.toNat
    let size := if minor = 11 then 8 else 4
    e.memGate .held false fun e =>
      if e.det then e.bufferRed minor size a b scope
      else e.checkLanes .atomic scope size false false (e.laneAddrs a 0#7 size) fun e oks fs =>
        let r := e.s.newId
        .next ({ e with s := r.2 }.start false .atomic scope r.1 oks fs
          (fun l => .atomic minor (e.atomOps minor b l).1 (e.atomOps minor b l).2 []) fun _ => []).done

/-! ## Fences (R206, R207) -/

/-- The numbers of the wave's accesses that `p` picks, in flight or held. -/
def State.accessIds (s : State) (k : Nat) (p : Access → Bool) : List Nat :=
  ((s.flight ++ s.held.flatMap heldAccesses).filter fun a => a.wave == k && p a).map fun a => a.id

/-- The fence record of a kind at a scope (R180, R207). -/
def Env.fenceOf (e : Env) (kind scope : Nat) : FenceSt :=
  let flush := kind = 5 || scope = 5
  let loads := e.s.accessIds e.key fun a => isLoadKind a.kind && (match a.kind with | .atomic _ _ _ [] => false | _ => true)
  let all := e.s.accessIds e.key fun a => a.st.open_ && (scope == 5 || (a.pageKind != 2 && !a.posted))
  let stores := e.s.accessIds e.key fun a => isStoreKind a.kind && a.st.open_ && (kind == 4 || scope == 5 || (a.pageKind != 2 && !a.posted))
  -- FLUSH waits for UN stores (R190), and at system scope for every posted write too (R189)
  let un := e.s.accessIds e.key fun a => (a.pageKind == 2 || (scope == 5 && a.posted)) && isStoreKind a.kind && a.st.open_
  let perform := (if kind = 1 || kind = 2 || kind = 3 then all else []) ++ (if kind = 3 || kind = 4 then stores else []) ++
    (if flush && kind ≠ 4 && kind ≠ 6 then un else [])
  let land := (if kind = 0 || kind = 2 || kind = 3 then loads else []) ++
    (if flush && kind ≠ 4 && kind ≠ 6 then e.s.accessIds e.key fun a => a.pageKind == 2 && isLoadKind a.kind else [])
  let cmds := if kind = 6 then (e.s.cmds.filter fun c => c.2.wave == e.key).map Prod.fst else []
  { op := e.s.nextId, wave := e.key, kind := kind, scope := scope, perform := perform, land := land, cmds := cmds, at_ := e.s.free }

/-- FENCE (R206, R207): it issues at once; the ACQ to SC kinds at wave scope complete at issue. -/
def Env.fence (e : Env) (kind : Nat) (sc : BitVec 3) : Out :=
  e.memGate .load true fun e =>
    if sc.toNat = 0 && (kind < 4) then .next e.done
    else .next (({ e with s := { e.s with fences := e.s.fences ++ [e.fenceOf kind sc.toNat], nextId := e.s.nextId + 1 } }.done).fenceSettle e.key)

/-! ## PFT (R208) -/

/-- Prefetches of lines of other modules are numbered as accesses of a wave that no core has (M): they trap nothing and write no register. -/
def pftWave : Nat := 2000000000000000

/-- Ask another module for a line that the near cache does not hold. -/
def Env.prefetchLine (e : Env) (s : State) (va dev pa : Nat) : State :=
  let r := s.newId
  let a := { e.newAccess true r.1 0 va (.load 1 false []) (.remote dev pa) 0 0 false with id := r.1, wave := pftWave, fill := 1 }
  r.2.launch a

/-- One lane of PFT: it does nothing where a check fails or the translation is not in the TLB. -/
def Env.prefetch (e : Env) (hint va : Nat) : State :=
  if vaBad va || isPlazaVa va || isAvenueVa va then e.s
  else
    let r := e.s.resolve (e.s.waveAsker e.key e.cs e.w) .load 99 va
    match r.1 with
    | .ok p kind false =>
      (match (if nearable p kind then nearKey p else none), p, hint with
       | some key, .remote dev pa, 0 => if (r.2.nearLine e.core key).isSome then r.2 else e.prefetchLine r.2 va dev pa
       | some key, _, 0 => if (r.2.nearLine e.core key).isSome then r.2 else r.2.nearFill e.core key
       | some key, _, 3 => r.2.nearDrop e.core (key / 128)
       | _, _, _ => e.s)
    | .miss v => if hint = 2 then ((e.s.startWalk { e.s.waveAsker e.key e.cs e.w with id := 0x40000000 } v).2) else e.s
    | _ => e.s

end Sys2Proof.Machine
end

