-- ==== Sys2Proof/Machine/Record.lean ====
section
/-!
DEFINITION. Reading bytes at a virtual address outside the data path: records at issue or acceptance, code, jump tables
(spec/14_translation.md, R334, R339, R341, R474, R477). Lines of another module come by a READ over the fabric.
-/
namespace Sys2Proof.Machine

/-- What such a read finds. -/
inductive VaRead where
  | bytes (b : List Byte)
  | miss (vpn : Nat)
  | remote (dev pa : Nat)
  /-- an access of the wave to these bytes has not been performed (R171, R190) -/
  | behind
  | faults (code span flags va : Nat)
  /-- a commit task waits for the page's shadow (R327) -/
  | shadow (holder : Nat)
  /-- a non-replayable fault; a walk error has a span -/
  | refused (code : Nat) (span : Option Nat) (va : Nat)
  deriving DecidableEq, Repr

/-- A read that fails: a walk error, and a replay of the access `what` that fails, write a record with FINAL set (R339, R343). -/
def State.finalRecord (s : State) (what : HeldWhat) (span : Option Nat) (va : Nat) (causal : DWord) (source tenant code access : Nat) (tag : Nat := 0) : State :=
  if span.isSome || s.held.any (fun h => h.what == what) then
    s.faultRecord (BitVec.ofNat 64 va) causal source tenant code (walkAccess (span.getD 0) access) (1 + s.shadowFlag tenant tag (va / 65536)) 0
  else s

/-- The line of another module that has come back. -/
def State.lineOf (s : State) (asker dev line : Nat) : Option RemoteLine :=
  s.lines.find? fun r => r.asker == asker && r.dev == dev && r.line == line && r.data.isSome

/-- The bytes that a fetch finds: of a word that has been stored to, each time the new one or an old one (R28). (DESIGN CHOICE, unsafe: notes/assumptions/76.md) -/
def State.codeBytes (s : State) (key n : Nat) : List Byte :=
  let now := memGets s.mem key n
  if s.lch.codeLog.isEmpty then now
  else now.zipIdx.map fun x =>
    let w := (key + x.2) / 4 * 4
    let olds := (s.lch.codeLog.filter fun l => l.1 == w).map Prod.snd
    if olds.isEmpty then x.1
    else match olds[Config.freeNat s.free w % (olds.length + 1)]? with
      | some b => b.getD ((key + x.2) % 4) x.1
      | none => x.1

/-- Read `n` bytes at `va`, in pieces that end at 128-B boundaries. Fuel counts the pieces. -/
def State.readVa : Nat → State → Asker → Dir → Nat → Nat → List Byte → VaRead × State
  | 0, s, _, _, _, _, acc => (.bytes acc, s)
  | fuel + 1, s, w, d, va, n, acc =>
    if n = 0 then (.bytes acc, s)
    else
      let m := min n (128 - va % 128)
      let r := s.resolve w d w.scope va
      let wave := !w.tte && d != .fetch && decide (w.id < 0x40000000)
      match (match r.1 with | .ok p _ _ => if wave && r.2.behind (w.id / 2) p m then some p else none | _ => none) with
      | some _ => (.behind, r.2)
      | none =>
      let r : Resolved × State := match r.1 with | .ok p k ds => (.ok p k ds, if wave then r.2.nearForget w.unit p else r.2) | x => (x, r.2)
      match r.1 with
      | .ok (.mem key) _ disc =>
        if disc then State.readVa fuel (if d == .fetch then r.2 else r.2.discRead w va) w d (va + m) (n - m) (acc ++ List.replicate m 0#8)
        else match r.2.readError key m with
          | some c => (.refused c none va, r.2.findErrors key m w.tenant 0#64)
          | none => State.readVa fuel (r.2.findErrors key m w.tenant 0#64) w d (va + m) (n - m) (acc ++ if d == .fetch then r.2.codeBytes key m else memGets r.2.mem key m)
      | .ok (.remote dev pa) _ disc =>
        if disc then State.readVa fuel (if d == .fetch then r.2 else r.2.discRead w va) w d (va + m) (n - m) (acc ++ List.replicate m 0#8)
        else match r.2.lineOf w.id dev (pa / 128) with
          | some x =>
            if x.code ≠ 0 then (.refused x.code none va, r.2)
            else State.readVa fuel r.2 w d (va + m) (n - m) (acc ++ (((x.data.getD []).drop (pa % 128)).take m))
          | none => (.remote dev pa, r.2)
      | .ok (.avenue a) _ _ =>
        -- only an engine reads the Avenue by lines
        if !w.tte then (.refused cPermission none va, r.2)
        else match r.2.avHome a w.tenant with
          | .lost => (.refused cAvenueLost none va, r.2)
          | .none => (.refused cPermission none va, r.2)
          | .ok _ pa =>
            match r.2.lineOf w.id 0xFFF (pa / 128) with
            | some x =>
              if x.code ≠ 0 then (.refused x.code none va, r.2)
              else State.readVa fuel r.2 w d (va + m) (n - m) (acc ++ (((x.data.getD []).drop (pa % 128)).take m))
            | none => (.remote 0xFFF pa, r.2)
      | .refused c => (.refused c none va, r.2)
      | .walkError c sp => (.refused c (some sp) va, r.2)
      | .faults c sp fl _ => (.faults c sp fl va, r.2)
      | .miss v => (.miss v, r.2)
      | .shadowWait t => (.shadow t, r.2)

/-- Read bytes for a party. -/
def State.vaRead (s : State) (w : Asker) (d : Dir) (va n : Nat) : VaRead × State := s.readVa (n / 128 + 2) w d va n []

/-- Ask another module for the line of `pa`; gives the transaction, none where it cannot be sent now. -/
def State.askLine (s : State) (asker src tenant : Nat) (causal : DWord) (dev pa : Nat) (scope : Nat := 3) : Option (Nat × State) :=
  match s.lines.find? fun r => r.asker == asker && r.dev == dev && r.line == pa / 128 with
  | some r => some (r.txn, s)
  | none =>
    let p : Packet := { dst := dev, srcDev := 0, src := src, xtag := 0, op := .read, scope := scope, release := false, retry := false,
                        unlocked := false, tenant := tenant, minor := 0, len := 128, addr := pa / 128 * 128, causal := causal,
                        sent := 0#64, opnd := 0#64, data := [] }
    let plane := if dev = 0xFFF then ((s.avByPa pa tenant).bind fun x => x.plane pa).getD (planeOfPa pa) else planeOfPa pa
    (s.newTxn true plane 0 p (.read asker dev (pa / 128))).map fun s' =>
      (s.nextId, { s' with lines := s'.lines ++ [⟨asker, dev, pa / 128, s.nextId, none, 0⟩] })

/-- The holder entry of a record read of this party, if it has one. -/
def State.recordEntry (s : State) (asker : Nat) : Option Held := s.held.find? fun h => h.what == .record asker

/-- Hold a record read: in its party's entry, else in a new one of the core's log; none when the log is full (R341, R474). A read that
faults again keeps its entry, and its new record the same TOKEN (R343). -/
def State.holdRecordAs (s : State) (access : Nat) (what : HeldWhat) (core wave tenant : Nat) (causal pc : DWord)
    (code span flags va : Nat) : Option ((Nat × Nat) × State) :=
  let put (n : Nat × Nat) (s : State) : (Nat × Nat) × State :=
    let h : Held := { cls := n.1, owner := core, entry := n.2, tenant := tenant, vpn := va / 65536, span := span, va := va,
                      what := what, joined := [], order := s.heldNext, wave := wave, pc := pc, replaying := [], again := false }
    let old := s.held.filter fun (x : Held) => x.what != what
    let s := { s with held := old ++ [h], heldNext := s.heldNext + 1 }
    let s := if n.1 = 0 then s.injectAt 4 core (queueLoc 3 0 n.2) (logMark h.order) else s
    (n, s.faultRecord (BitVec.ofNat 64 va) causal (srcCore core) tenant code access flags (tokenOf n.1 core n.2))
  (s.holderFor 0 core 256 flags what).map fun n => put n s

/-- Hold a record read (ACCESS 6). -/
def State.holdRecord (s : State) (asker core wave tenant : Nat) (causal pc : DWord) (code span flags va : Nat) : Option ((Nat × Nat) × State) :=
  s.holdRecordAs 6 (.record asker) core wave tenant causal pc code span flags va

/-- The asker number of the issuing stream. -/
def Env.askerId (e : Env) : Nat := 2 * e.key + (if e.cs then 1 else 0)

/-- The word has read what it needed. -/
def Env.readsDone (e : Env) : Env := { e with s := e.s.dropReads e.askerId }

/-- Read a record of `n` bytes at issue (R474): the stream waits for walks, lines and replays, and checks the word again. -/
def Env.readRecord (e : Env) (d : Dir) (va n : Nat) (k : Env → List Byte → Out) (look : Bool := false) : Out :=
  let r := e.s.vaRead { e.s.waveAsker e.key e.cs e.w with look := look } d va n
  match r.1 with
  | .bytes b => k { e with s := r.2 } b
  | .behind => { e with s := r.2 }.hold 15 (6 + 16 * va)
  | .shadow t => { e with s := r.2.shadowBlocked e.w.task t }.hold 15 4
  | .miss v =>
    let x := (r.2.count (srcCore e.core) 0x106).startWalk (e.s.waveAsker e.key e.cs e.w) v
    .next ({ e with s := x.2 }.await (.walk x.1))
  | .remote dev pa =>
    match r.2.askLine e.askerId (srcCore e.core) e.w.tenant e.w.causal dev pa with
    | some x => .next ({ e with s := x.2 }.await (.remote x.1))
    | none => e.hold 0 0
  | .faults c sp fl v =>
    match r.2.holdRecord e.askerId e.core e.key e.w.tenant e.w.causal e.pc c sp fl v with
    | some x => .next ({ e with s := x.2 }.await (.replay x.1.1 x.1.2))
    | none => e.hold 10 e.core
  | .refused c sp v =>
    { e with s := r.2.finalRecord (.record e.askerId) sp v e.w.causal (srcCore e.core) e.w.tenant c 6 (e.s.taskTag e.w.task) }.trap c (BitVec.ofNat 64 v)

/-! ## Fetching (R27, R477) -/

/-- Fetch bytes for a stream: they, or the state in which it waits or has trapped at `pc` (R477). -/
def State.fetchCode (s : State) (k : Nat) (cs : Bool) (w : Wave) (slot : Nat) (pc : DWord) (lanes : Word)
    (va n : Nat) : List Byte × State ⊕ State :=
  let asker := s.waveAsker k cs w
  let r := s.vaRead asker .fetch va n
  let wait (s : State) (x : WaitFor) : State :=
    (s.updWave k fun w => w.updStream cs fun st => { st with wait := some ⟨x, s.gtc⟩ }).enterHandler k
  match r.1 with
  | .bytes b => .inl (b, r.2)
  | .behind => .inr r.2
  | .shadow _ => .inr r.2
  | .miss v => let x := (r.2.count (srcCore (coreOf k)) 0x106).startWalk asker v; .inr (wait x.2 (.walk x.1))
  | .remote dev pa =>
    match r.2.askLine asker.id (srcCore (coreOf k)) w.tenant w.causal dev pa with
    | some x => .inr (wait x.2 (.remote x.1))
    | none => .inr r.2
  | .faults c sp fl v =>
    let n := slotOf k * 2 + (if cs then 1 else 0)
    let s := r.2
    let h : Held := { cls := 2, owner := coreOf k, entry := n, tenant := w.tenant, vpn := v / 65536, span := sp, va := v,
                      what := .fetch k cs, joined := [], order := s.heldNext, wave := k, pc := pc, replaying := [], again := false }
    let old := s.held.filter fun (x : Held) => x.what != .fetch k cs
    let s := { s with held := old ++ [h], heldNext := s.heldNext + 1 }
    let s := s.faultRecord (BitVec.ofNat 64 v) w.causal (srcCore (coreOf k)) w.tenant c 3 fl (tokenOf 2 (coreOf k) n)
    .inr (wait s (.replay 2 n))
  | .refused c sp v =>
    let s := r.2.faultRecord (BitVec.ofNat 64 v) w.causal (srcCore (coreOf k)) w.tenant c (walkAccess (sp.getD 0) 3) 1 0
    .inr (s.takeTrap k cs slot pc c (BitVec.ofNat 64 v) lanes 0)

end Sys2Proof.Machine
end

