-- ==== Sys2Proof/Machine/Clauses.lean ====
section
/-!
DEFINITION. Clauses: choosing a split, fetching and checking a clause, starting it (spec/02_instruction_words.md, R24 to R27;
11_control_and_splits.md, R269, R271; 12_waves_streams_barriers.md, R281 to R285), and JTAB (R266, R267).
-/
namespace Sys2Proof.Machine

/-! ## Words of a clause (R24 to R27) -/

/-- A header word (R24). -/
def isHeader (w : Word) : Bool := wordMajor w == 0x7F
/-- A control transfer (R26): majors 0x01 to 0x06, and the SYS minors EXIT (2) and TRET (3). -/
def isTransfer (w : Word) : Bool :=
  let m := wordMajor w
  m == 1 || m == 2 || (m == 3 && decide (w.toNat % 16 ≤ 2)) || m == 4 || m == 5 || m == 6 ||
    (m == 0 && (w.toNat % 16 == 2 || w.toNat % 16 == 3))
/-- Words whose results SETX tracks (R24): special functions, divisions, REDUCE and SCAN. -/
def tracksX (w : Word) : Bool := [0x1D, 0x39, 0x4B, 0x4C].contains (wordMajor w)

/-- Are the completion flags of a mask clear (R24)? (DEDUCED, unsafe: notes/assumptions/49.md) -/
def Wave.flagsClear (w : Wave) (m : BitVec 12) : Bool := (List.range 12).all fun i => !m.getLsbD i || w.flags.getD i 0 == 0

/-- Has the other stream's clause, which issues in this cycle, raised the flag from zero (R286)? Two clauses that issue one after the other before the
cycle ends issue in one cycle. (DEDUCED, unsafe: notes/assumptions/75.md) -/
def State.raisedNow (s : State) (w : Wave) (cs : Bool) (i : Nat) : Bool :=
  match w.raised with
  | some (c, _, n, l) => c != cs && n == s.cycle && l.contains i
  | none => false

/-- Are the completion flags of a mask clear, as they stood at the start of the cycle (R24, R286)? (DEDUCED, unsafe: notes/assumptions/75.md) -/
def State.flagsMet (s : State) (w : Wave) (cs : Bool) (m : BitVec 12) : Bool :=
  (List.range 12).all fun i => !m.getLsbD i || w.flags.getD i 0 == 0 || s.raisedNow w cs i

/-- The 32-bit words in some bytes. -/
def wordsOf : Nat → List Byte → List Word
  | 0, _ => []
  | n + 1, b => BitVec.ofNat 32 (bytesToNat (b.take 4)) :: wordsOf n (b.drop 4)

/-- The first word that breaks the form of a clause (R27), by its place: a header inside, or a transfer before the end. -/
def badWord : Nat → List Word → Option Nat
  | _, [] => none
  | i, w :: ws => if isHeader w || (isTransfer w && !ws.isEmpty) then some i else badWord (i + 1) ws

/-! ## Choosing a split (R269) -/

/-- The header word at a split's PC, where it can be read without waiting. -/
def State.peekWord (s : State) (k : Nat) (cs : Bool) (w : Wave) (pc : DWord) : Option Word :=
  match (s.vaRead (s.waveAsker k cs w) .fetch pc.toNat 4).1 with
  | .bytes b => some (BitVec.ofNat 32 (bytesToNat b))
  | _ => none

/-- Is a split ready: are the WAIT flags of its next header clear (R269)? A split whose header cannot be read is ready to fetch. (DEDUCED, unsafe: notes/assumptions/18.md) -/
def State.splitReady (s : State) (k : Nat) (cs : Bool) (w : Wave) (p : Split) : Bool :=
  match s.peekWord k cs w p.pc with
  | some h => !isHeader h || s.flagsMet w cs (h.extractLsb' 13 12)
  | none => true

/-- The slots in service order: after the one served last, from 3 to 0 (R269). -/
def SplitTab.order (t : SplitTab) : List Nat := (List.range 4).map fun i => (t.last + 1 + i) % 4

/-- The split that a stream serves next. (DEDUCED, unsafe: notes/assumptions/18.md) -/
def State.pickSplit (s : State) (k : Nat) (cs : Bool) (w : Wave) : Option Nat :=
  let t := (w.stream cs).tab
  t.order.find? fun i => match t.slot i with
    | some p => s.splitReady k cs w p
    | none => false

/-- Is a block of the wave being saved, so that its streams stop at their clause boundaries (R329)? -/
def State.isVictim (s : State) (w : Wave) : Bool := w.batch.isNone && s.lch.victims.any fun v => v.block == w.block

/-- May the stream begin a clause: it is at a clause boundary and nothing stops it there (R78, R329, R414)? -/
def State.atBoundary (s : State) (w : Wave) (cs : Bool) : Bool :=
  s.mayIssue w cs && !(w.stream cs).waiting && (w.stream cs).clause.isNone && w.trapping.isNone &&
  decide ((w.stream cs).llHold = 0) && !s.isVictim w && !(w.deferredReady && !cs) && (w.stream cs).tab.anySplit

/-! ## The branch trace at a clause boundary (R389, R391) -/

/-- The slots of a stream that hold splits, as a mask. -/
def SplitTab.mask (t : SplitTab) : Nat := (List.range 4).foldl (fun m i => if (t.slot i).isSome then m + 2 ^ i else m) 0

/-- The PC of a split's next header: of the split in the middle of a clause, that after the clause. -/
def nextHeader (c : Option Clause) (slot : Nat) (p : Split) : DWord :=
  match c with
  | some c => if c.slot = slot then p.pc + BitVec.ofNat 64 (4 * c.words.length) else p.pc
  | none => p.pc

/-- A SYNC packet (R390). -/
def syncPkt (gtc : DWord) (t : SplitTab) (c : Option Clause) : List Byte :=
  pktHead 0 0 t.mask :: (bytes8 gtc ++ (List.range 4).flatMap fun i => match t.slot i with
    | some p => bytes8 (nextHeader c i p) ++ bytes4 p.exec
    | none => [])

/-- Emit a SYNC where one is due, after a LOSS where chunks were dropped (R389, R391). -/
def State.traceBoundary (s : State) (k : Nat) (cs : Bool) : State :=
  match s.wave? k with
  | none => s
  | some w =>
    match (w.stream cs).trace with
    | none => s
    | some t =>
      let tab := (w.stream cs).tab
      let due := t.needSync || t.discard || decide (t.count ≥ 256) || decide ((s.gtc - t.lastSync).toNat ≥ 65536)
      if !due then s
      else
        let loss : List Byte := if t.discard then pktHead 8 0 0 :: natToBytes 4 t.dropped.length else []
        let t' := { t with needSync := false, synced := true, discard := false, resync := t.resync || t.discard, lastTick := s.gtc,
                           lastSync := s.gtc, count := 0, data := if t.discard then [] else t.data }
        (s.setWave k (w.updStream cs fun st => { st with trace := some t' })).traceBytes k cs (loss ++ syncPkt s.gtc tab (w.stream cs).clause)

/-! ## PC-match merging (R271) -/

/-- May two splits merge? -/
def Split.matches (p q : Split) : Bool := p.pc == q.pc && p.mstk.length == q.mstk.length && p.cstk == q.cstk

def Split.union (p q : Split) : Split :=
  { p with base := p.base ||| q.base, exec := p.exec ||| q.exec, mstk := (p.mstk.zip q.mstk).map fun x => x.1 ||| x.2 }

/-- Merge the split in slot `i` with every split that matches it. Gives the slot that holds the merge, and each (freed slot, exec). -/
def SplitTab.pcMerge (t : SplitTab) (i : Nat) : SplitTab × Nat × List (Nat × Nat × Word) :=
  (List.range 4).foldl (fun (x : SplitTab × Nat × List (Nat × Nat × Word)) j =>
    if j = x.2.1 then x
    else match x.1.slot x.2.1, x.1.slot j with
      | some p, some q =>
        if p.matches q then
          let m := p.union q
          let lo := min x.2.1 j
          let hi := max x.2.1 j
          ((x.1.setSlot hi none).setSlot lo (some m), lo, x.2.2 ++ [(lo, hi, m.exec)])
        else x
      | _, _ => x) (t, i, [])

/-! ## Starting a clause -/

/-- The port of a wave slot (R281). -/
def portOf (k : Nat) : Nat := slotOf k % 4

def State.updPort (s : State) (core pn : Nat) (f : Port → Port) : State :=
  s.setCore core { s.core core with ports := (s.core core).ports.setIfInBounds pn (f ((s.core core).ports.getD pn Port.reset)) }

/-- A stream's clause issues on its port: it is served in its rank unless it had aged, and another stream's YIELD is honoured (R282, R284,
R285). -/
def State.portServed (s : State) (k : Nat) (cs : Bool) (w : Wave) : State :=
  let st := w.stream cs
  let me : Nat × Bool := (k, cs)
  let s := s.updPort (coreOf k) (portOf k) fun p =>
    let p := { p with cur := some me, aged := p.aged.filter (· ≠ me), afterBatch := p.afterBatch.filter (· ≠ me) }
    if st.aged || w.batch.isSome then p
    else if cs then { p with lastComputer := slotOf k }
    else if st.storer then { p with lastStorer := slotOf k }
    else { p with lastLoader := slotOf k }
  (List.range 12).foldl (fun s i =>
    let k' := coreOf k * 48 + 4 * i + portOf k
    let keep (st : Stream) (me : Bool) : Stream := { st with yielded := st.yielded && (me || st.clause.isSome) }
    s.updWave k' fun w => { w with a := keep w.a (k' == k && !cs), c := keep w.c (k' == k && cs) }) s

/-- The clause begins: flags, the split served, ready ages (R24, R25, R269, R284). (DEDUCED, unsafe: notes/assumptions/23.md) (DEDUCED, unsafe: notes/assumptions/49.md) -/
def State.beginClause (s : State) (k : Nat) (cs : Bool) (slot : Nat) (hdr : DWord) (x y : Nat) (words : List Word) :
    State :=
  match s.wave? k with
  | none => s
  | some w =>
    let s := s.portServed k cs w
    match s.wave? k with
    | none => s
    | some w =>
      let up := (w.flagUp x (words.filter tracksX).length).flagUp y (words.filter tracksY).length
      let l := (List.range 12).filter fun i => w.flags.getD i 0 == 0 && up.flags.getD i 0 != 0
      let w := { up with raised := some (cs, s.free, s.cycle, l) }
      s.setWave k (w.updStream cs fun st =>
        { st with
          clause := some { hdr := hdr, slot := slot, words := words, setx := x, sety := y }, wait := none, readySince := none, aged := false, yielded := false,
          tab := { (match st.tab.slot slot with
            | some p => st.tab.setSlot slot (some { p with pc := hdr + 4#64, src := hdr })
            | none => st.tab) with last := slot } })

/-- Trap at a clause boundary of split `slot` (R20, R27, R38).
Where no word has transferred to a bad first header, the source of the split stands for it: the entry PC of a launch, 0 for a handler.
(DESIGN CHOICE, unsafe: notes/assumptions/67.md) -/
def State.fetchTrap (s : State) (k : Nat) (cs : Bool) (slot : Nat) (pc : DWord) (code : Nat) (addr : DWord) (lanes : Word) :
    State := s.takeTrap k cs slot pc code addr lanes 0

/-- Fetch the header of split `slot`: the word, or the state in which the stream waits or has trapped. (DEDUCED, unsafe: notes/assumptions/23.md)
A misaligned entry or vector has no transferring word: MISALIGNED comes at its fetch, with the split's source address as the trap's PC.
(DESIGN CHOICE, unsafe: notes/assumptions/65.md) (DEDUCED, unsafe: notes/assumptions/24.md) -/
def State.fetchHeader (s : State) (k : Nat) (cs : Bool) (w : Wave) (slot : Nat) (p : Split) : Word × State ⊕ State :=
  if p.pc.toNat % 4 ≠ 0 then .inr (s.fetchTrap k cs slot p.src cMisaligned p.pc p.exec)
  else if decide (p.pc.toNat < w.codeLo.toNat) || decide (w.codeHi.toNat ≤ p.pc.toNat) then
    .inr (s.fetchTrap k cs slot p.pc cClauseForm p.src p.exec)
  else match s.fetchCode k cs w slot p.pc p.exec p.pc.toNat 4 with
    | .inr s => .inr s
    | .inl (b, s) =>
      let h := BitVec.ofNat 32 (bytesToNat b)
      if isHeader h then .inl (h, s) else .inr (s.fetchTrap k cs slot p.pc cClauseForm p.src p.exec)

/-- Merge, trace and begin a clause that has passed its checks (R271, R391, R462). -/
def State.issueClause (s : State) (k : Nat) (cs : Bool) (slot : Nat) (hdr : DWord) (x y : Nat) (words : List Word) : State :=
  let s := s.traceBoundary k cs
  match s.wave? k with
  | none => s
  | some w =>
    let m := (w.stream cs).tab.pcMerge slot
    let r := m.1.settle
    let s := s.setWave k (w.updStream cs fun st => { st with tab := r.1, trace := st.trace.map fun t => { t with lastSlot := m.2.1 } })
    let s := m.2.2.foldl (fun s e => s.tracePkt k cs (pktHead 5 e.1 2 :: BitVec.ofNat 8 e.2.1 :: bytes4 e.2.2)) s
    ((s.traceStarts k cs r.1 r.2).beginClause k cs m.2.1 hdr x y words).dropReads (2 * k + (if cs then 1 else 0))

/-- CLAUSE_HEADER (R24, R27): the clause after this header is fetched and checked, and issues when its WAIT flags are clear. (DEDUCED, unsafe: notes/assumptions/23.md)
Where one clause both reaches past the segment's end and holds a bad word, LEN is tested first. (DESIGN CHOICE, unsafe: notes/assumptions/66.md) -/
def execClauseHeader (w : BitVec 12) (x y : BitVec 4) (l : BitVec 5) (s : State) : Out :=
  let k := s.cur.wave
  let cs := s.cur.cs
  let slot := s.cur.slot
  match s.wave? k with
  | none => .next s
  | some wv =>
    match (wv.stream cs).tab.slot slot with
    | none => .next s
    | some p =>
      if !s.atBoundary wv cs then .next s
      else
        let n := l.toNat + 1
        if p.pc.toNat + 4 + 4 * n > wv.codeHi.toNat then .next (s.fetchTrap k cs slot p.pc cClauseForm wv.codeHi p.exec)
        else match s.fetchCode k cs wv slot p.pc p.exec (p.pc.toNat + 4) (4 * n) with
          | .inr s => .next s
          | .inl (b, s) =>
            let words := wordsOf n b
            match badWord 0 words with
            | some i => .next (s.fetchTrap k cs slot p.pc cClauseForm (p.pc + BitVec.ofNat 64 (4 + 4 * i)) p.exec)
            | none =>
              let off (f : BitVec 4) : Bool := decide (12 ≤ f.toNat) && decide (f.toNat ≤ 14)
              if off x || off y then .next (s.fetchTrap k cs slot p.pc cIllegal 0#64 p.exec)
              else if !s.flagsMet wv cs w then
                -- the stream waits for flags (R308, R393)
                .next (s.updWave k fun v => v.setWait cs false (some ((WaitFor.poll 9 w.toNat s.stamp).from_ (wv.stream cs).wait s.gtc)))
              else .next (s.issueClause k cs slot p.pc x.toNat y.toNat words)

/-! ## STREAM_AGES (R284) -/

/-- A stream that is ready, and has been for 256 cycles without issuing a clause, ages (R284). -/
def State.streamAge (s : State) (wave : Nat) (cs : Bool) : State :=
  match s.wave? wave with
  | none => s
  | some w =>
    let st := w.stream cs
    match st.readySince with
    | none => s
    | some t =>
      if st.aged || decide (s.cycle < t.toNat + 256) || !s.atBoundary w cs || (s.pickSplit wave cs w).isNone then s
      else ((s.updPort (coreOf wave) (portOf wave) fun p => { p with aged := p.aged ++ [(wave, cs)] }).setWave wave
        (w.updStream cs fun st => { st with aged := true })).count (srcCore (coreOf wave)) 0x108

/-- The streams that age in a cycle, by wave and slot, A before C. (DESIGN CHOICE, unsafe: notes/assumptions/85.md) -/
def State.streamsAge (s : State) : State :=
  s.waves.foldl (fun s x => (s.streamAge x.1 false).streamAge x.1 true) s

/-- STREAM_AGES (R284): a stream ages. CORE_CYCLES makes each age in its cycle, so that nothing is left for a turn of its own. -/
def execStreamAges (wave : Nat) (cs : Bool) (s : State) : Out := .next (s.streamAge wave cs)

/-! ## JTAB (R266, R267) -/

/-- Groups of the active lanes by entry value, in the order of the lowest index that a lane of the group names: (value, lanes). -/
def jtabGroups (xs : List (Nat × Nat × DWord)) : List (DWord × Word) :=
  let vals := (xs.map fun x => x.2.2).dedup
  let gs := vals.map fun v =>
    let ls := xs.filter fun x => x.2.2 == v
    (ls.foldl (fun m x => min m x.2.1) (2 ^ 32), v, lanesMask (ls.map fun x => (x.1, 0)))
  (gs.mergeSort fun a b => decide (a.1 ≤ b.1)).map fun g => g.2

/-- Read the entries that the lanes name, in ascending order of index. -/
def Env.jtabEntries (e : Env) (base : DWord) : List (Nat × Nat) → List (Nat × Nat × DWord) → State →
    List (Nat × Nat × DWord) × State ⊕ State
  | [], acc, s => .inl (acc, s)
  | (l, i) :: rest, acc, s =>
    let va := base + BitVec.ofNat 64 (4 * i)
    let same := lanesMask (((l, i) :: rest).filter fun x => x.2 == i)
    match s.fetchCode e.key e.cs e.w e.cl.slot e.pc same va.toNat 4 with
    | .inr s => .inr s
    | .inl (b, s) =>
      let v := base + (BitVec.ofNat 32 (bytesToNat b)).signExtend 64
      e.jtabEntries base rest (acc ++ [(l, i, v)]) s

/-- Divide the split by group (R267). -/
def Env.jtabSplit (e : Env) (t : Nat) (gs : List (DWord × Word)) : Out :=
  match gs with
  | [] => .next (e.jump (e.pc + 4#64))
  | (v, m) :: rest =>
    let others := rest.foldl (fun x g => x ||| g.2) 0#32
    let pkt (g : DWord × Word) (dest : Nat) : List Byte := pktHead 4 e.cl.slot 1 :: (bytes4 g.2 ++ bytes8 g.1 ++ [BitVec.ofNat 8 dest])
    let tab := if rest.isEmpty then e.tab else e.tab.widen t e.sp
    let own := e.sp.part v e.pc (e.sp.base &&& ~~~others) m
    let r := rest.foldl (fun (x : SplitTab × List (List Byte)) g =>
      let q := x.1.place (e.sp.part g.1 e.pc g.2 g.2)
      (q.1, x.2 ++ [pkt g q.2])) (tab.setSlot e.cl.slot (some own), [pkt (v, m) 0x20])
    .next ((e.setTab r.1).readsDone.leaveWith v true fun s => r.2.foldl (fun s p => s.tracePkt e.key e.cs p) s)

/-- JTAB (R266). (DEDUCED, unsafe: notes/assumptions/24.md) -/
def execJtab (d a b : BitVec 7) (t : BitVec 3) (s : State) : Out :=
  issue (.wave [sR d, vR a, pR b]) s fun e =>
    let base := e.s64 b
    let n := (e.s32 d).toNat
    let ls := (lanesOf e.exec).map fun l => (l, (e.v32 a l).toNat)
    let out := ls.filter fun x => decide (x.2 ≥ n)
    let addr (i : Nat) : Nat := (base + BitVec.ofNat 64 (4 * i)).toNat
    let outside := ls.filter fun x => decide (addr x.2 < e.w.codeLo.toNat) || decide (addr x.2 + 4 > e.w.codeHi.toNat)
    if base.toNat % 4 ≠ 0 then e.trap cMisaligned base
    else if !out.isEmpty then e.trapWith cJtabBound base (lanesMask out)
    else if !outside.isEmpty then
      e.trapWith cPermission (BitVec.ofNat 64 ((outside.map fun x => addr x.2).foldl min (2 ^ 64 - 1))) (lanesMask outside)
    else
      let sorted := ls.mergeSort fun x y => decide (x.2 ≤ y.2)
      match e.jtabEntries base sorted [] e.s with
      | .inr s => .next s
      | .inl (xs, s) =>
        let e := { e with s := s }
        let gs := jtabGroups xs
        if gs.length > e.tab.freeCount + 1 + (16 - e.tab.pend.length) then e.trap cStackLimit base
        else e.jtabSplit t.toNat gs

end Sys2Proof.Machine
end

