-- ==== Sys2Proof/Machine/Barrier.lean ====
section
/-!
DEFINITION. Barrier words and semaphores (spec/12_waves_streams_barriers.md, R297 to R305, R478).
-/
namespace Sys2Proof.Machine

/-! ## Operations sent to a home unit (R300, R478) -/

/-- May a barrier, semaphore or join counter stand here: this module's Plaza window, or a LOC 0 page (R300)? -/
def homeable (p : Place) : Option Nat :=
  match p with
  | .mem k => if isPlazaKey k || isHbmKey k then some k else none
  | _ => none

/-- The source number of a home unit (R157, R373). -/
def srcOfKey (key : Nat) : Nat := if isPlazaKey key then srcCore ((key - plazaBase) / 0x80000) else srcOf 5 (mcOf key)

/-- The read of a home word fails: a walk error, and a replay that fails, write their record (R339, R343). -/
def Env.homeFails (e : Env) (s : State) (span : Option Nat) (va code : Nat) : Env :=
  { e with s := s.finalRecord (.record e.askerId) span va e.w.causal (srcCore e.core) e.w.tenant code 6 (s.taskTag e.w.task) }

/-- Resolve the word of a synchronisation instruction, with the checks 1 and 2 of R300: traps carry the word's address, and a
replayable fault holds the instruction. -/
def Env.homeWord (e : Env) (align : Nat) (a : DWord) (k : Env → Nat → Out) : Out :=
  let va := a.toNat
  let asker := e.s.waveAsker e.key e.cs e.w
  if va % align ≠ 0 then e.trap cMisaligned a
  else if vaBad va || isAvenueVa va then e.trap cPermission a
  else
    let r := e.s.resolve asker .store 99 va
    let e' := { e with s := r.2 }
    match r.1 with
    | .ok p _ _ =>
      (match homeable p with
       | some key => k e' key
       | none => e.trap cPermission a)
    | .refused c => (e.homeFails r.2 none va c).trap c a
    | .walkError c sp => (e.homeFails r.2 (some sp) va c).trap c a
    | .faults c sp fl _ =>
      (match r.2.holdRecord e.askerId e.core e.key e.w.tenant e.w.causal e.pc c sp fl va with
       | some x => .next ({ e with s := x.2 }.await (.replay x.1.1 x.1.2))
       | none => e.hold 10 e.core)
    | .miss v =>
      let x := (e.s.count (srcCore e.core) 0x106).startWalk asker v
      .next ({ e with s := x.2 }.await (.walk x.1))
    | .shadowWait t => { e with s := e.s.shadowBlocked e.w.task t }.hold 15 4

/-- Send the operation; the A-stream waits for the reply (R478). -/
def Env.sendHome (e : Env) (cls minor key : Nat) (a : DWord) (arg : Word) (dest : BitVec 7) : Out :=
  let op := e.s.nextId
  let h : HomeOp := { op := op, wave := e.key, cls := cls, minor := minor, key := key, addr := a, arg := arg, dest := dest,
                      causal := e.w.causal, lanes := e.exec, stuck := none, reply := none }
  let e := e.readsDone
  .next ({ e with s := { e.s with homeOps := e.s.homeOps ++ [h], nextId := op + 1 } }.await (.reply op))

/-- A BAR or SEM instruction: fences and held accesses first (R185, R207), then the checks of R300. -/
def Env.sync (e : Env) (cls minor : Nat) (ordered : Bool) (a : DWord) (arg : Word) (dest : BitVec 7) : Out :=
  e.memGate .held ordered fun e => e.homeWord 64 a fun e key => e.sendHome cls minor key a arg dest

/-! ## Fields (R297, R304) -/

/-- FIRSTW: NONE, or slot and core of a wave. -/
def firstw (w : Option Nat) : Nat :=
  match w with
  | none => 2 ^ 31
  | some k => slotOf k * 512 + coreOf k

def State.waitersOf (s : State) (key : Nat) : List Waiter := s.waiters.filter fun x => x.key == key

/-- WAITING and FIRSTW as the waiters stand. -/
def State.noteWaiters (s : State) (key wOff fOff : Nat) : State :=
  let ws := s.waitersOf key
  (s.put (key + wOff) 2 ws.length).put (key + fOff) 4 (firstw (ws.head?.map fun x => x.wave))

/-- Has phase `p` passed when the word's phase is `phase` (R301)? -/
def phasePassed (phase p : Word) : Bool := decide (1 ≤ (phase - p).toNat) && decide ((phase - p).toNat ≤ 2 ^ 31 - 1)

/-! ## Flips (R298, R302) -/

/-- One flip. (DEDUCED, unsafe: notes/assumptions/28.md) -/
def State.barFlip (s : State) (key : Nat) (addr causal : DWord) (tenant : Nat) : State :=
  let early := s.rd (key + 4) 2
  let phase := (s.rd (key + 8) 4 + 1) % 2 ^ 32
  let flags := s.rd (key + 13) 1
  let s := s.put (key + 8) 4 phase
  let s := s.put key 2 (s.rd key 2 - s.rd (key + 14) 2)
  let s := (((s.put (key + 2) 2 early).put (key + 4) 2 0).put (key + 14) 2 0).put (key + 24) 8 0
  let s := (s.put (key + 44) 8 s.gtc.toNat).put (key + 32) 8 causal.toNat
  let s := { s.put (key + 13) 1 (flags % 4 + (if early > 0 then 4 else 0)) with
    barWords := tabPut s.barWords key { BarNote.none with scope := (tabGetD s.barWords key BarNote.none).scope } }
  let cores := ((s.waitersOf key).map fun x => coreOf x.wave).dedup
  let s := { s with flips := s.flips ++ cores.map fun c => (⟨c, key, BitVec.ofNat 32 phase⟩ : Flip) }
  if flags / 2 % 2 = 1 then
    s.emit (srcOfKey key) 0x020 tenant causal (BitVec.ofNat 64 (phase + addr.toNat / 64 % 2 ^ 32 * 2 ^ 32))
  else s

/-- Is the phase complete (R298)? -/
def State.barComplete (s : State) (key : Nat) : Bool :=
  decide (s.rd (key + 2) 2 ≥ s.rd key 2) && decide (s.rd (key + 16) 8 = 0) && decide (s.rd (key + 13) 1 / 4 % 2 = 1)

/-- Test for a flip, and again after one (R298). A second flip leaves ACT at 0. -/
def State.barTest (s : State) (key : Nat) (addr causal : DWord) (tenant : Nat) : State :=
  if s.barComplete key then
    let s := s.barFlip key addr causal tenant
    if s.barComplete key then s.barFlip key addr causal tenant else s
  else s

/-- Set ACT. -/
def State.barAct (s : State) (key : Nat) : State := s.put (key + 13) 1 (s.rd (key + 13) 1 ||| 4)

/-- An engine counts bytes on the word (R213, R298); `scope` is its record's (R251). -/
def State.barAdd (s : State) (key n : Nat) (addr causal : DWord) (tenant source : Nat) (scope : Nat := 0) : State :=
  let s := (s.barAct key).put (key + 16) 8 (s.rd (key + 16) 8 + n)
  let note : BarNote := ⟨causal, source, max scope (tabGetD s.barWords key BarNote.none).scope⟩
  let s := { s.put (key + 32) 8 causal.toNat with barWords := tabPut s.barWords key note }
  s.barTest key addr causal tenant

/-- An engine subtracts performed bytes (R214, R298). -/
def State.barSub (s : State) (key n : Nat) (addr causal : DWord) (tenant : Nat) : State :=
  ((s.put (key + 16) 8 (s.rd (key + 16) 8 - n)).put (key + 32) 8 causal.toNat).barTest key addr causal tenant

/-! ## BARRIER_HOME_OP (R301) -/

/-- The bytes of INIT (R301). -/
def barInitBytes (arg : Word) (causal : DWord) : List Byte :=
  let sc := arg.toNat / 2 ^ 16 % 8
  let scope := if sc = 0 then 1 else if sc > 5 then 5 else sc
  natToBytes 2 (arg.toNat % 65536) ++ natToBytes 10 0 ++ natToBytes 1 scope ++
    natToBytes 1 (1 + 2 * (arg.toNat / 2 ^ 19 % 2)) ++ natToBytes 18 0 ++ natToBytes 8 causal.toNat ++ natToBytes 4 (2 ^ 31) ++
    natToBytes 20 0

def State.setHome (s : State) (op : Nat) (f : HomeOp → HomeOp) : State :=
  { s with homeOps := s.homeOps.map fun h => if h.op == op then f h else h }
def State.replyHome (s : State) (op : Nat) (v : Word) (code : Nat) : State :=
  s.setHome op fun h => { h with reply := some (v, code) }

/-- Does the wave wait at the word: it joins the waiters, and WAITING and FIRSTW follow (R302). -/
def State.addWaiter (s : State) (key wave : Nat) (phase : Word) (wOff fOff : Nat) : State :=
  { s with waiters := s.waiters ++ [(⟨key, wave, phase⟩ : Waiter)] }.noteWaiters key wOff fOff

/-- Count an arrival; the phase it counts for (R301). -/
def State.barArrive (s : State) (key : Nat) (addr causal : DWord) (tenant : Nat) : Word × State :=
  let phase := s.rd (key + 8) 4
  if s.rd (key + 2) 2 < s.rd key 2 then
    (BitVec.ofNat 32 phase, ((s.put (key + 2) 2 (s.rd (key + 2) 2 + 1)).barAct key).barTest key addr causal tenant)
  else
    (BitVec.ofNat 32 (phase + 1), (s.put (key + 4) 2 (s.rd (key + 4) 2 + 1)).barTest key addr causal tenant)

/-- Wait for a phase, or answer at once. -/
def State.barWait (s : State) (h : HomeOp) (p v : Word) : State :=
  if phasePassed (BitVec.ofNat 32 (s.rd (h.key + 8) 4)) p then s.replyHome h.op v 0
  else (s.addWaiter h.key h.wave p 6 40).replyHome h.op v 1

/-- Apply a BAR operation at the word (R301). -/
def State.barApply (s : State) (h : HomeOp) (tenant : Nat) : State :=
  let key := h.key
  let arrives := h.minor = 1 || h.minor = 3 || h.minor = 7
  let s := s.findErrors key 64 tenant h.causal
  match s.readError key 64 with
  | some c => s.replyHome h.op 0#32 c
  | none =>
    if h.minor = 0 then
      if s.rd (key + 6) 2 ≠ 0 || s.rd (key + 4) 2 ≠ 0 || s.rd (key + 16) 8 ≠ 0 then s.replyHome h.op 0#32 cPermission
      else
        ({ s with mem := memPuts s.mem key (barInitBytes h.arg h.causal), barWords := tabPut s.barWords key BarNote.none }.wroteMem key 64).replyHome
          h.op 0#32 0
    else if s.rd (key + 13) 1 % 2 = 0 then s.replyHome h.op 0#32 cPermission
    else if arrives && (!(s.releaseSet h.wave (s.rd (key + 12) 1 % 8)).isEmpty || s.barred h.wave h.op) then s
    else
      let phase := BitVec.ofNat 32 (s.rd (key + 8) 4)
      let full := arrives && decide (s.rd (key + 2) 2 ≥ s.rd key 2) && decide (s.rd (key + 4) 2 ≥ s.rd key 2)
      if full && (h.stuck.isNone || h.stuck == some phase) then s.setHome h.op fun h => { h with stuck := some phase }
      else
        -- a word that ordinary stores initialised counts from its first operation (R460)
        let s := { s with barWords := if (tabGet? s.barWords key).isSome then s.barWords else tabPut s.barWords key BarNote.none }
        let s := (s.put (key + 32) 8 h.causal.toNat).countSectors key 64 0x111
        match h.minor with
        | 1 => let r := s.barArrive key h.addr h.causal tenant; r.2.replyHome h.op r.1 0
        | 2 => s.barWait h h.arg 0#32
        | 3 => let r := s.barArrive key h.addr h.causal tenant; r.2.barWait h r.1 r.1
        | 4 => ((s.put key 2 (min (s.rd key 2 + h.arg.toNat % 65536) 65535)).barTest key h.addr h.causal tenant).replyHome h.op 0#32 0
        | 5 => s.replyHome h.op (if phasePassed phase h.arg then 1#32 else 0#32) 0
        | 6 => s.barWait h h.arg 0#32
        | _ =>
          let s := s.put (key + 14) 2 (s.rd (key + 14) 2 + 1)
          let r := s.barArrive key h.addr h.causal tenant
          r.2.replyHome h.op r.1 0

def State.homeOp? (s : State) (op : Nat) : Option HomeOp := s.homeOps.find? fun h => h.op == op
def State.tenantOf (s : State) (wave : Nat) : Nat := ((s.wave? wave).map fun w => w.tenant).getD 0

/-- BARRIER_HOME_OP (R298, R301): a BAR operation applies at its word, after the wave's earlier accesses of it (R171). -/
def execBarrierHomeOp (op : Nat) (s : State) : Out :=
  match s.homeOp? op with
  | none => .next s
  | some h =>
    let src := srcCore (coreOf h.wave)
    if h.cls = 0 && h.reply.isNone && !s.behind h.wave (.mem h.key) 64 && !s.writeLateIn h.key src then .next ((s.barApply h (s.tenantOf h.wave)).writeServed h.key src)
    else .next s

/-! ## Acquires, flips received, missed promises (R178, R302, R303) -/

/-- Have the wave's loads and returning atomics landed, so that an acquire can complete (R178)? -/
def State.loadsLanded (s : State) (k : Nat) : Bool :=
  !(s.accessIds k fun a => match a.kind with
    | .load _ _ _ => (match a.st with | .failed _ => false | _ => true)
    | .atomic _ _ _ ds => !ds.isEmpty && (match a.st with | .failed _ => false | _ => true)
    | .store _ _ => false).any fun _ => true

/-- The scope of the acquire of a wait at a barrier word: the word's, and the widest of the engine records that have counted bytes on it (R178, R251). -/
def State.barScope (s : State) (key : Nat) : Nat := max (s.rd (key + 12) 1 % 8) (tabGetD s.barWords key BarNote.none).scope

/-- The near cache goes with an acquire at gang scope or wider (R156). -/
def State.acquireAt (s : State) (core scope : Nat) : State := if scope ≥ 2 then s.nearClear core else s

/-- Does this wait stand at the word of a waiter? -/
def Waiter.standsAt (w : Waiter) (x : WaitFor) : Bool :=
  match x with
  | .barrier key phase _ _ => key == w.key && phase == w.phase
  | _ => false

/-- Wake a waiter of a barrier word: the wait of its A-stream ends, or its reply says so. -/
def State.wakeWaiter (s : State) (w : Waiter) : State :=
  let s := { s with waiters := s.waiters.filter fun x => x != w }.noteWaiters w.key 6 40
  match (s.wave? w.wave).bind fun x => x.whichWait false w.standsAt with
  | some inCtx =>
    if s.loadsLanded w.wave then (s.acquireAt (coreOf w.wave) (s.barScope w.key)).finishWord w.wave false inCtx id
    else
      -- its acquire completes once its loads have landed (R178)
      let x := s.newId
      let since := (((s.wave? w.wave).bind fun v => v.waitAt false inCtx).map fun y => y.since).getD s.gtc
      let h : HomeOp := { op := x.1, wave := w.wave, cls := 0, minor := 2, key := w.key, addr := 0#64, arg := w.phase, dest := 0#7, causal := 0#64,
                          lanes := 0#32, stuck := none, reply := some (0#32, 0) }
      { x.2 with homeOps := x.2.homeOps ++ [h] }.updWave w.wave fun v => v.setWait false inCtx (some ⟨.reply x.1, since⟩)
  | none =>
    { s with homeOps := s.homeOps.map fun h =>
        if h.wave == w.wave && h.cls == 0 && h.key == w.key && (if h.minor = 3 then (h.reply.map Prod.fst) == some w.phase else h.arg == w.phase)
        then { h with reply := h.reply.map fun r => (r.1, 0) } else h }

/-- FLIP_WAKE (R302): a core receives the oldest flip of the word on its way there, and its waiters whose phase has passed leave the word; a
wave whose loads have not landed completes its acquire later (R178). (DEDUCED, unsafe: notes/assumptions/28.md) -/
def execFlipWake (core : Nat) (key : Nat) (s : State) : Out :=
  match s.flips.find? fun f => f.core == core && f.key == key with
  | none => .next s
  | some f =>
    let due := (s.waitersOf key).filter fun w => coreOf w.wave == core && phasePassed f.phase w.phase
    let s := due.foldl (fun s w => s.wakeWaiter w) s
    .next { s with flips := s.flips.erase f }

/-- The promised tick of a word has passed, by tick `now`, while a WAITP waits there (R303). A flip on its way ends the wait normally, and a stream
whose wave is in its handler keeps its wait. (DEDUCED, unsafe: notes/assumptions/28.md) -/
def State.promiseTrap (s : State) (wave : Nat) (now : Nat) : State :=
  match s.wave? wave with
  | none => s
  | some w =>
    match w.a.wait with
    | some ⟨.barrier key phase true addr, _⟩ =>
      let promise := s.rd (key + 24) 8
      if w.trapping.isSome || promise = 0 || decide (now < promise) ||
         phasePassed (BitVec.ofNat 32 (s.rd (key + 8) 4)) phase then s
      else
        match s.envAt wave false with
        | none => s
        | some e =>
          let s := { s with waiters := s.waiters.filter fun x => !(x.key == key && x.wave == wave) }.noteWaiters key 6 40
          (s.wakeWord wave false false).takeTrap wave false e.cl.slot e.pc cPromiseMissed addr e.exec 0
    | _ => s

/-- The promises that have passed at the end of a cycle, after every flip of that cycle (R303). -/
def State.promisesPass (s : State) : State := s.waves.foldl (fun s x => s.promiseTrap x.1 s.gtc.toNat) s

/-- PROMISE_PASS (R303): a promise passes that a finished tick has reached. The end of each cycle does so itself (CORE_CYCLES). -/
def execPromisePass (wave : Nat) (s : State) : Out := .next (s.promiseTrap wave s.lastGtc.toNat)

/-! ## SEM (R304, R305) -/

/-- The HOLDERS entry of a wave. -/
def holderBits (wave : Nat) : Nat := 2 ^ 15 + slotOf wave * 512 + coreOf wave

def State.holderAt (s : State) (key i : Nat) : Nat := s.rd (key + 32 + 4 * i) 4

/-- A wave receives a permit. -/
def State.semReceive (s : State) (key wave : Nat) : State :=
  let s := s.put (key + 20) 4 (s.rd (key + 20) 4 + 1)
  let mine (i : Nat) : Bool := s.holderAt key i % 65536 == holderBits wave
  let free (i : Nat) : Bool := s.holderAt key i / 2 ^ 15 % 2 == 0
  match (List.range 8).find? mine with
  | some i => s.put (key + 32 + 4 * i) 4 (s.holderAt key i + 65536)
  | none =>
    match (List.range 8).find? free with
    | some i => s.put (key + 32 + 4 * i) 4 (65536 + holderBits wave)
    | none => s.put (key + 7) 1 (s.rd (key + 7) 1 ||| 2)

/-- A wave returns a permit. (DESIGN CHOICE, unsafe: notes/assumptions/92.md) -/
def State.semReturn (s : State) (key wave : Nat) : State :=
  let s := s.put (key + 20) 4 (s.rd (key + 20) 4 - 1)
  match (List.range 8).find? fun i => s.holderAt key i % 65536 == holderBits wave with
  | some i =>
    let n := s.holderAt key i / 65536 - 1
    s.put (key + 32 + 4 * i) 4 (if n = 0 then 0 else n * 65536 + holderBits wave)
  | none => s

/-- The bytes of SEM.INIT (R305). -/
def semInitBytes (arg : Word) (causal : DWord) : List Byte :=
  natToBytes 4 (arg.toNat % 2 ^ 31) ++ natToBytes 2 0 ++ natToBytes 1 (if arg.getLsbD 31 then 4 else 3) ++ natToBytes 1 1 ++
    natToBytes 8 causal.toNat ++ natToBytes 4 (2 ^ 31) ++ natToBytes 44 0

/-- Apply a SEM operation at the word (R305). -/
def State.semApply (s : State) (h : HomeOp) (tenant : Nat) : State :=
  let key := h.key
  let s := s.findErrors key 64 tenant h.causal
  match s.readError key 64 with
  | some c => s.replyHome h.op 0#32 c
  | none =>
    let count := s.rd key 4
    let ws := s.waitersOf key
    if h.minor = 0 then
      if s.rd (key + 4) 2 ≠ 0 then s.replyHome h.op 0#32 cPermission
      else ({ s with mem := memPuts s.mem key (semInitBytes h.arg 0#64) }.wroteMem key 64).replyHome h.op 0#32 0
    else if s.rd (key + 7) 1 % 2 = 0 then s.replyHome h.op 0#32 cPermission
    else if h.minor = 2 && (!(s.releaseSet h.wave (s.rd (key + 6) 1 % 8)).isEmpty || s.barred h.wave h.op) then s
    else
      let note (s : State) : State := (s.put (key + 8) 8 h.causal.toNat).countSectors key 64 0x111
      let take : Bool := decide (count > 0) && ws.isEmpty
      match h.minor with
      | 1 =>
        if take then (((note s).put key 4 (count - 1)).semReceive key h.wave).replyHome h.op 0#32 0
        else ((note s).addWaiter key h.wave 0#32 4 16).replyHome h.op 0#32 1
      | 2 =>
        let s := (note s).semReturn key h.wave
        (match ws with
         | w :: _ =>
           let s := (({ s with waiters := s.waiters.erase w }).noteWaiters key 4 16).semReceive key w.wave
           (match s.homeOps.find? fun (x : HomeOp) => x.wave == w.wave && x.cls == 1 && x.key == key && x.minor == 1 with
            | some x => s.setHome x.op fun (x : HomeOp) => { x with reply := some (0#32, 0) }
            | none => s)
         | [] =>
           if count = 2 ^ 31 - 1 then s.emit (srcOfKey key) 0x022 tenant h.causal (BitVec.ofNat 64 (h.addr.toNat % 2 ^ 56))
           else s.put key 4 (count + 1)).replyHome h.op 0#32 0
      | _ =>
        if take then (((note s).put key 4 (count - 1)).semReceive key h.wave).replyHome h.op 1#32 0
        else s.replyHome h.op 0#32 0

/-- SEM_HOME_OP (R305): a SEM operation applies at its word, after the wave's earlier accesses of it (R171); a granted waiter's reply follows (HOME_REPLY_ARRIVAL). (DEDUCED, unsafe: notes/assumptions/28.md) -/
def execSemHomeOp (op : Nat) (s : State) : Out :=
  match s.homeOp? op with
  | none => .next s
  | some h =>
    let waits := s.waiters.any fun w => w.key == h.key && w.wave == h.wave
    let src := srcCore (coreOf h.wave)
    if h.cls = 1 && h.reply.isNone && !(h.minor == 1 && waits) && !s.behind h.wave (.mem h.key) 64 && !s.writeLateIn h.key src then
      .next ((s.semApply h (s.tenantOf h.wave)).writeServed h.key src)
    else .next s

/-! ## HOME_REPLY_ARRIVAL (R478) -/

/-- Does the completed operation acquire (R178, R301, R305)? -/
def HomeOp.acquires (h : HomeOp) (v : Word) : Bool :=
  match h.cls with
  | 0 => h.minor = 2 || h.minor = 3 || h.minor = 6 || (h.minor = 5 && v = 1#32)
  | 1 => h.minor = 1 || (h.minor = 3 && v = 1#32)
  | _ => false

/-- The scope in the word. -/
def HomeOp.scope (s : State) (h : HomeOp) : Nat := if h.cls = 0 then s.barScope h.key else s.rd (h.key + 6) 1 % 8

/-- D is written: a scalar, or for TRYWAIT and TRYP a predicate in all 32 lanes. -/
def HomeOp.write (h : HomeOp) (v : Word) (w : Wave) : Wave :=
  match h.cls with
  | 0 =>
    if h.minor = 1 || h.minor = 3 || h.minor = 7 then w.putScalar false h.dest.toNat v
    else if h.minor = 5 then { w with preds := w.preds.setIfInBounds h.dest.toNat (if v = 1#32 then 0xFFFFFFFF#32 else 0#32) }
    else w
  | 1 => if h.minor = 3 then { w with preds := w.preds.setIfInBounds h.dest.toNat (if v = 1#32 then 0xFFFFFFFF#32 else 0#32) } else w
  | _ => w.putScalar false h.dest.toNat v

/-- Is this the wait of the operation: for its reply, or for the permit that its P asks for? -/
def HomeOp.standsAt (h : HomeOp) (x : WaitFor) : Bool :=
  match x with
  | .reply op => op == h.op
  | .sem key _ => h.cls == 1 && h.minor == 1 && key == h.key
  | _ => false

/-- Deliver a reply (R478). -/
def State.homeReply (s : State) (h : HomeOp) (v : Word) (code : Nat) : State :=
  let drop (s : State) : State := { s with homeOps := s.homeOps.filter fun x => x.op != h.op }.nearForget (coreOf h.wave) (.mem h.key)
  match (s.wave? h.wave).bind fun w => (w.whichWait false h.standsAt).map fun c => (w, c) with
  | none => drop s
  | some (w, inCtx) =>
    match code with
    | 0 =>
      if h.acquires v && !s.loadsLanded h.wave then s
      else
        let s := if h.acquires v then s.acquireAt (coreOf h.wave) (h.scope s) else s
        (drop s).finishWord h.wave false inCtx (h.write v)
    | 1 =>
      let dst : WaitFor := if h.cls = 0 then .barrier h.key (if h.minor = 3 then v else h.arg) (h.minor = 6) h.addr
        else .sem h.key h.addr
      let since := ((w.waitAt false inCtx).map fun x => x.since).getD s.gtc
      -- a P that waits keeps its operation, which the grant answers
      let s := if h.cls = 0 then drop s else s.setHome h.op fun h => { h with reply := none }
      s.updWave h.wave fun w =>
        (if h.cls = 0 && h.minor = 3 then w.putScalar false h.dest.toNat v else w).setWait false inCtx (some ⟨dst, since⟩)
    | c =>
      if inCtx || w.trapping.isSome then s
      else match s.envAt h.wave false with
        | none => drop s
        | some e => ((drop s).wakeWord h.wave false false).takeTrap h.wave false e.cl.slot e.pc c h.addr h.lanes 0

/-- HOME_REPLY_ARRIVAL (R478): the reply of a BAR, SEM or JDEC operation reaches its A-stream. -/
def execHomeReplyArrival (op : Nat) (s : State) : Out :=
  match s.homeOp? op with
  | none => .next s
  | some h =>
    match h.reply with
    | none => .next s
    | some (v, code) => .next (s.homeReply h v code)

end Sys2Proof.Machine
end

