-- ==== Sys2Proof/Machine/Launcher.lean ====
section
/-!
DEFINITION. What the launcher reads and checks (spec/13_tasks_and_launch.md, R310 to R320; 02_instruction_words.md, R47): reads through a
tenant's translation, queue entries, code objects, launch records, the continuation rings, join counters.
-/
namespace Sys2Proof.Machine

/-! ## Reads and writes in a tenant's space -/

/-- The launcher and the hardware duties walk a tenant's tables themselves (R355). -/
def unitAsker (tenant : Nat) : Asker := { tte := true, unit := 1000, tenant := tenant, tag := 0, id := 0x50000000, redirect := none }

/-- Resolve an address by a walk of its own. -/
def State.walkResolve (s : State) (w : Asker) (d : Dir) (va : Nat) : Resolved × State :=
  if vaBad va || isPlazaVa va || isAvenueVa va then s.resolve w d 5 va
  else match s.walkPage w.tenant (va / 65536) with
    | (.leaf e level, s) => s.resolveLeaf w d 5 va e level
    | (.missing span _, s) => (.faults cTranslation span 0 none, s)
    | (.error c span, s) => (.walkError c span, s)

/-- Read bytes in a tenant's space, in pieces that end at page boundaries; none where a page cannot be read (DESIGN CHOICE, unsafe: notes/assumptions/21.md). -/
def State.unitRead : Nat → State → Nat → Nat → Nat → List Byte → Option (List Byte) × State
  | 0, s, _, _, _, acc => (some acc, s)
  | fuel + 1, s, tenant, va, n, acc =>
    if n = 0 then (some acc, s)
    else
      let m := min n (65536 - va % 65536)
      match s.walkResolve (unitAsker tenant) .load va with
      | (.ok (.mem _) _ true, s) => State.unitRead fuel s tenant (va + m) (n - m) (acc ++ List.replicate m 0#8)
      | (.ok (.mem key) _ false, s) =>
        let s := s.findErrors key m tenant 0#64
        if (s.readError key m).isSome then (none, s)
        else State.unitRead fuel s tenant (va + m) (n - m) (acc ++ memGets s.mem key m)
      | (_, s) => (none, s)

def State.tenantRead (s : State) (tenant va n : Nat) : Option (List Byte) × State := s.unitRead (n / 65536 + 2) tenant va n []

/-- Write bytes that lie in one page; a page of another module takes a WRITE over the fabric (R423). A page that cannot be written
leaves them unwritten (DESIGN CHOICE, unsafe: notes/assumptions/21.md). -/
def State.tenantWrite (s : State) (src tenant va : Nat) (causal : DWord) (data : List Byte) : State :=
  match s.walkResolve (unitAsker tenant) .store va with
  | (.ok (.mem key) _ _, s) =>
    let s := s.findPart key data.length tenant causal
    if (s.writeError key data.length).isSome then s else s.homeWrite key data
  | (.ok (.remote dev pa) _ _, s) =>
    let p : Packet := { dst := dev, srcDev := 0, src := src, xtag := 0, op := .write, scope := 5, release := true, retry := false,
                        unlocked := false, tenant := tenant, minor := 0, len := data.length, addr := pa, causal := causal,
                        sent := 0#64, opnd := 0#64, data := data }
    (s.newTxn true (planeOfPa pa) 0 p (.access [])).getD s
  | (_, s) => s

/-- Field of `n` bytes at offset `o`. -/
def fld (b : List Byte) (o n : Nat) : Nat := bytesToNat ((b.drop o).take n)
def zeros (b : List Byte) (o n : Nat) : Bool := ((b.drop o).take n).all fun x => x == 0#8

/-! ## Queue entries (R310) -/

structure QEnt where
  ring : Nat
  log2n : Nat
  prio : Nat
  tenant : Nat
  en : Bool
  sys : Bool
  head : Nat
  tail : Nat
  lift : Nat
  refused : Bool
  deriving DecidableEq, Repr

def State.queuePa (s : State) (q : Nat) : Nat := s.lch.qtab.toNat / 4096 % 2 ^ 40 * 4096 + 32 * q

/-- Does the launcher refuse the entry: a level of 20 or above without SYS, a reserved bit, a field out of range (R310), a tenant that is not
keyed (R351)? (DESIGN CHOICE, unsafe: notes/assumptions/21.md) -/
def State.queueRefused (s : State) (b : List Byte) : Bool :=
  let prio := fld b 9 1
  let fl := fld b 12 1
  (decide (prio ≥ 20) && decide (fl / 2 % 2 = 0)) || decide (prio > 23) || decide (fld b 8 1 > 31) || decide (fld b 8 1 < 4) ||
    decide (fld b 8 1 > 16) || decide (fld b 10 2 ≥ 1024) || decide (fl ≥ 4) || !zeros b 13 3 || !zeros b 28 4 ||
    decide (fld b 0 8 % 4096 ≠ 0) || !s.isKeyed (fld b 10 2)

/-- Read a queue entry. -/
def State.queueEnt (s : State) (q : Nat) : Option (QEnt × State) :=
  match s.sysRead (s.queuePa q) 32 with
  | (.error _, _) => none
  | (.ok v, s) =>
    let b := natToBytes 32 v
    let bad := s.queueRefused b
    let x : QEnt :=
      { ring := fld b 0 8, log2n := fld b 8 1, prio := fld b 9 1, tenant := fld b 10 2, en := fld b 12 1 % 2 == 1 && !bad,
        sys := fld b 12 1 / 2 % 2 == 1, head := fld b 16 4, tail := fld b 20 4, lift := fld b 24 4, refused := bad }
    some (x, s)

/-- The launcher's source number for a queue (R310, R373). -/
def srcOfQueue (q : Nat) : Nat := srcOf 4 (q % 4)

/-! ## Code objects (R47) -/

/-- Do two byte ranges overlap? -/
def overlaps (a n b m : Nat) : Bool := decide (0 < n) && decide (0 < m) && decide (a < b + m) && decide (b < a + n)

/-- Check a code object's 128-byte header (R47). An offset or a size that is not a multiple of its unit and a misaligned entry or vector are not in
the rule's list of failures, so they do not fail the launch. (DEDUCED, unsafe: notes/assumptions/64.md) (DEDUCED, unsafe: notes/assumptions/48.md) -/
def codeHdrOf (b : List Byte) : Option CodeHdr :=
  let flags := fld b 6 2
  let co := fld b 20 4
  let cs := fld b 24 4
  let inCode (o : Nat) : Bool := decide (co ≤ o) && decide (o < co + cs)
  let single := flags / 2 % 2 = 1
  let symOff := fld b 96 4
  let symLen := 40 * fld b 100 4
  let dataOff := fld b 28 4
  let dataLen := fld b 32 4
  if fld b 0 4 ≠ 0x314F4C4E || fld b 4 2 ≠ 1 || flags ≥ 4 || !zeros b 47 17 || !zeros b 104 24 then none
  else if !inCode (fld b 8 4) || ((!single || fld b 12 4 ≠ 0) && !inCode (fld b 12 4)) || (fld b 16 4 ≠ 0 && !inCode (fld b 16 4)) then none
  else if overlaps symOff symLen 0 128 || overlaps symOff symLen co cs || overlaps symOff symLen dataOff dataLen then none
  else if fld b 36 2 < 1 || fld b 36 2 > 32 || fld b 38 1 < 1 || fld b 38 1 > 4 || fld b 39 1 < 1 || fld b 39 1 > 32 ||
      fld b 46 1 > 32 || fld b 100 4 > 65535 then none
  else
    some { single := single, aEntry := fld b 8 4, cEntry := fld b 12 4, vector := fld b 16 4, codeOff := co, codeSize := cs,
           waves := fld b 36 2, gang := fld b 38 1, blocks := fld b 39 1, plaza := fld b 40 4,
           lastLanes := if fld b 46 1 = 0 then 32 else fld b 46 1 }

/-- Does the object fit an empty core (R313)? (DEDUCED, unsafe: notes/assumptions/48.md) -/
def CodeHdr.fitsCore (h : CodeHdr) : Bool := decide (h.waves ≤ 46) && decide (h.waves * h.blocks ≤ 188) && decide (h.plaza ≤ 327680)

/-- Granules of a block (R153). -/
def CodeHdr.granules (h : CodeHdr) : Nat := (h.plaza + 4095) / 4096

/-! ## Launch records (R312) -/

def launchRecOf (b : List Byte) : LaunchRec :=
  { code := BitVec.ofNat 64 (fld b 0 8), args := BitVec.ofNat 64 (fld b 8 8), gx := fld b 16 4, gy := fld b 20 2, gz := fld b 22 2,
    taskId := BitVec.ofNat 32 (fld b 24 4), flags := fld b 28 1, retries := fld b 29 1, lcores := fld b 30 2,
    join := BitVec.ofNat 64 (fld b 32 8), doneVa := BitVec.ofNat 64 (fld b 40 8), seed := fld b 48 8, ctrBase := fld b 56 4,
    ctrCount := fld b 60 4 }

def LaunchRec.det (r : LaunchRec) : Bool := r.flags % 2 == 1
def LaunchRec.commit (r : LaunchRec) : Bool := r.flags / 2 % 2 == 1
def LaunchRec.graph (r : LaunchRec) : Bool := r.flags / 4 % 2 == 1
def LaunchRec.evt (r : LaunchRec) : Bool := r.flags / 8 % 2 == 1
def LaunchRec.rngchk (r : LaunchRec) : Bool := r.flags / 16 % 2 == 1
def LaunchRec.blocks (r : LaunchRec) : Nat := r.gx * r.gy * r.gz

/-- Are the record's fields in range (R312)? -/
def LaunchRec.ok (r : LaunchRec) : Bool :=
  decide (r.flags < 32) && decide (1 ≤ r.gx) && decide (r.gx ≤ 2 ^ 24) && decide (1 ≤ r.gy) && decide (1 ≤ r.gz) &&
    decide (r.blocks ≤ 2 ^ 24) && decide (r.doneVa.toNat % 16 = 0) &&
    (if r.det then decide (1 ≤ r.lcores) && decide (r.lcores ≤ 320) else r.lcores == 0)

/-- Block coordinates of a linear index (R312). -/
def LaunchRec.coords (r : LaunchRec) (b : Nat) : Nat × Nat × Nat := (b % r.gx, b / r.gx % r.gy, b / r.gx / r.gy)

/-! ## Continuation records and rings (R319, R457) -/

def contRecOf (b : List Byte) : ContRec :=
  let ctl := fld b 24 8
  { code := BitVec.ofNat 64 (fld b 0 8), frame := BitVec.ofNat 64 (fld b 8 8), join := BitVec.ofNat 64 (fld b 16 8),
    task := ctl / 2 ^ 48, block := ctl / 2 ^ 24 % 2 ^ 24, launcher := ctl / 2 ^ 22 % 2 == 1, level := ctl / 2 ^ 17 % 32,
    queue := ctl % 2 ^ 17 }

def ContRec.bytes (r : ContRec) : List Byte :=
  natToBytes 8 r.code.toNat ++ natToBytes 8 r.frame.toNat ++ natToBytes 8 r.join.toNat ++
    natToBytes 8 (r.queue + r.level * 2 ^ 17 + b2n r.launcher * 2 ^ 22 + r.block * 2 ^ 24 + r.task * 2 ^ 48)

/-- Records that a ring holds (R457). -/
def Launcher.ringSize (l : Launcher) : Nat := 2 ^ (max 8 (min 20 (l.cqSize.toNat % 32)))
def Launcher.ringUsed (l : Launcher) (level : Nat) : Nat := (l.ready.filter fun r => r.entry.level == level).length
def Launcher.ringFull (l : Launcher) (level : Nat) : Bool := decide (l.ringUsed level ≥ l.ringSize)

/-- The records that wait to be dispatched, with one more (R314, R323). -/
def enrol (l : Launcher) (r : Ready) : List Ready :=
  if r.front then
    -- the head of its level: behind the records of its own task that have entered there
    (l.ready.filter fun x => x.front && x.entry.task == r.entry.task) ++ [r] ++ l.ready.filter fun x => !(x.front && x.entry.task == r.entry.task)
  else l.ready ++ [r]

/-- Put a record into the ring of its level. -/
def State.ringPut (s : State) (r : Ready) : State :=
  let l := s.lch
  let n := tabGetD l.ringTail r.entry.level 0
  let pa := l.cqBase.toNat / 4096 % 2 ^ 40 * 4096 + 32 * r.entry.level * l.ringSize + 32 * (n % l.ringSize)
  let s := { s with lch := { l with ready := enrol l { r with addr := pa }, ringTail := tabPut l.ringTail r.entry.level (n + 1) } }
  s.sysWrite pa 32 (bytesToNat r.entry.bytes)

/-- A record reaches the launcher: into its ring, or behind the records that wait for room there (R320, R457). -/
def State.addRecord (s : State) (e : ContRec) (front : Bool := false) : State :=
  let r := s.newId
  let x : Ready := { id := r.1, entry := e, since := s.gtc, lifted := 0, passed := none, reserved := [], saved := [], front := front, addr := 0 }
  if s.lch.ringFull e.level || s.lch.waiting.any fun w => w.entry.level == e.level then
    { r.2 with lch := { r.2.lch with waiting := r.2.lch.waiting ++ [x] } }
  else r.2.ringPut x

/-- SPAWN_RING_COPY (R320, R457): the oldest waiting record whose ring has room is copied into it. -/
def execSpawnRingCopy (s : State) : Out :=
  match s.lch.waiting.find? fun r => !s.lch.ringFull r.entry.level with
  | none => .next s
  | some r => .next ({ s with lch := { s.lch with waiting := s.lch.waiting.filter fun x => x.id != r.id } }.ringPut r)

/-- Check 3 of R320: may a wave of this task spawn the record? (DEDUCED, unsafe: notes/assumptions/48.md) -/
def State.spawnOk (s : State) (b : List Byte) (tenant task : Nat) : Bool × State :=
  let r := contRecOf b
  let det := ((tabGet? s.lch.tasks task).map fun t => t.det).getD false
  match s.queueEnt r.queue with
  | none => (false, s)
  | some (q, s) =>
    (fld b 24 8 / 2 ^ 23 % 2 == 0 && decide (r.level ≤ 23) && q.tenant == tenant && (decide (r.level < 20) || q.sys) && !det, s)

/-- Spawn a record for a task (R320). -/
def State.spawn (s : State) (b : List Byte) (task : Nat) : State :=
  let e := { contRecOf b with task := task, launcher := false }
  let s := { s with lch := { s.lch with tasks := tabUpd s.lch.tasks task fun t => { t with spawned := t.spawned + 1 } } }
  s.addRecord e

/-! ## Join counters (R320) -/

/-- Decrement the join counter at `key`: the count after, or none where the record fails check 3. -/
def State.joinDec (s : State) (key tenant task : Nat) (addr causal : DWord) : Option Word × State :=
  let n := s.rd key 4
  if n = 0 then (some 0xFFFFFFFF#32, s.emit (srcOfKey key) 0x084 tenant causal (BitVec.ofNat 64 (addr.toNat % 2 ^ 56)))
  else if n > 1 then (some (BitVec.ofNat 32 (n - 1)), (s.put key 4 (n - 1)).countSectors key 4 0x111)
  else
    let b := memGets s.mem (key + 16) 32
    let r := s.spawnOk b tenant task
    if r.1 then (some 0#32, (r.2.put key 4 0).spawn b task) else (none, r.2)

/-- The launcher's own decrement, at retirement or when a block leaves (R319, R320). -/
def State.launcherJoin (s : State) (join : DWord) (tenant task : Nat) (causal : DWord) : State :=
  if join = 0#64 then s
  else match s.walkResolve (unitAsker tenant) .store join.toNat with
    | (.ok p _ _, s) =>
      (match homeable p with
       | some key =>
         let s := s.findErrors key 64 tenant causal
         if join.toNat % 64 = 0 && (s.readError key 64).isNone then (s.joinDec key tenant task join causal).2 else s
       | none => s)
    | (_, s) => s

/-- JDEC_HOME_OP (R320): a JDEC applies at its counter once its release set has been performed. -/
def execJdecHomeOp (op : Nat) (s : State) : Out :=
  match s.homeOp? op with
  | none => .next s
  | some h =>
    let src := srcCore (coreOf h.wave)
    if h.cls = 2 && h.reply.isNone && (s.releaseSet h.wave 3).isEmpty && !s.barred h.wave op && !s.behind h.wave (.mem h.key) 64 && !s.writeLateIn h.key src then
      let s := s.findErrors h.key 64 (s.tenantOf h.wave) h.causal
      match s.readError h.key 64, s.wave? h.wave with
      | some c, _ => .next (s.replyHome op 0#32 c)
      | none, none => .next s
      | none, some w =>
        let r := s.joinDec h.key w.tenant w.task h.addr h.causal
        .next ((match r.1 with
          | some v => r.2.replyHome op v 0
          | none => r.2.replyHome op 0#32 cPermission).writeServed h.key src)
    else .next s

/-- SPAWN (R320). -/
def execSpawn (a : BitVec 7) (s : State) : Out :=
  issue (Form.noComb (.waveA [zR a])) s fun e =>
    e.memGate .load true fun e =>
      let va := e.s64 a
      if va.toNat % 32 ≠ 0 then e.trap cMisaligned va
      else if vaBad va.toNat || isAvenueVa va.toNat then e.trap cPermission va
      else e.readRecord .store va.toNat 32 (look := true) fun e b =>
        let r := e.s.spawnOk b e.w.tenant e.w.task
        let e := { e with s := r.2 }
        if !r.1 then e.trap cPermission va
        else if e.s.lch.ringFull (contRecOf b).level then e.hold 10 (srcOfQueue (contRecOf b).queue)
        else if !(e.s.releaseSet e.key 3).isEmpty || e.s.barred e.key e.s.nextId then e.hold 15 2
        else
          let e := e.readsDone
          .next { e with s := e.s.spawn b e.w.task }.done

/-- JDEC (R320). -/
def execJdec (d a : BitVec 7) (s : State) : Out :=
  issue (Form.noComb (.waveA [sW d, zR a])) s fun e =>
    e.memGate .load true fun e => e.homeWord 64 (e.s64 a) fun e key => e.sendHome 2 1 key (e.s64 a) 0#32 d

end Sys2Proof.Machine
end

