-- ==== Sys2Proof/Machine/Launch.lean ====
section
/-!
DEFINITION. From a doorbell to eligible blocks (spec/13_tasks_and_launch.md, R311 to R318): launch records, failed launches, graphs,
completion bitmaps.
-/
namespace Sys2Proof.Machine

def State.setTask (s : State) (k : Nat) (t : Task) : State := { s with lch := { s.lch with tasks := tabPut s.lch.tasks k t } }
def State.task? (s : State) (k : Nat) : Option Task := tabGet? s.lch.tasks k

/-! ## Completion (R313) -/

/-- Write a completion word. -/
def State.completion (s : State) (src tenant : Nat) (done : DWord) (error code runs : Nat) : State :=
  if done = 0#64 then s
  else s.tenantWrite src tenant done.toNat 0#64
    (natToBytes 4 (2 ^ 31 + error % 256 * 256 + code % 256) ++ natToBytes 4 runs ++ natToBytes 8 s.gtc.toNat)

/-- A launch that fails: its completion word, and its JOIN (R313). `task` is the slot that a spawned record belongs to. -/
def State.failLaunch (s : State) (queue tenant task : Nat) (r : LaunchRec) (error : Nat) : State :=
  -- a code object that fails R47 is logged (DESIGN CHOICE, safe: notes/assumptions/58.md)
  let s := if error = 1 then { s with lch := { s.lch with recordErrs := s.lch.recordErrs ++ [(queue, r.code.toNat)] } } else s
  (s.completion (srcOfQueue queue) tenant r.doneVa error 0 0).launcherJoin r.join tenant task 0#64

/-- A node that retires without having run: its launch fails, and its event follows (R315, R322). -/
def State.failRetired (s : State) (queue tenant task : Nat) (r : LaunchRec) (error : Nat) : State :=
  let s := s.failLaunch queue tenant task r error
  if r.evt then
    s.emit (srcOfQueue queue) 0x082 tenant 0#64 (BitVec.ofNat 64 (r.taskId.toNat + (2 ^ 31 + error * 256) * 2 ^ 32))
  else s

/-! ## Graph edges (R316) -/

/-- Does edge E let consumer block `b` go: is every producer block that Map(E, b) names done (R316, R318)? -/
def Edge.satisfied (e : Edge) (prod cons : Task) (b : Nat) : Bool :=
  let isDone (q : Nat) : Bool := prod.doneBlocks.contains q
  let pr := prod.launch
  let (x, y, z) := cons.launch.coords b
  let at_ (x' y' : Nat) : Bool := isDone (x' + pr.gx * (y' + pr.gy * z))
  match e.map with
  | 0 => prod.doneBlocks.length == prod.nblocks
  | 1 => decide (b ≥ prod.nblocks) || isDone b
  | 2 => decide (z ≥ pr.gz) || (List.range e.p1).all fun i =>
      decide (e.p1 * y + i ≥ pr.gy) || (List.range pr.gx).all fun x' => at_ x' (e.p1 * y + i)
  | 3 => decide (z ≥ pr.gz) || (List.range (2 * e.p1 + 1)).all fun i => (List.range (2 * (e.p2 % 65536) + 1)).all fun j =>
      let y' := y + i
      let x' := x + j
      decide (y' < e.p1) || decide (x' < e.p2 % 65536) || decide (y' - e.p1 ≥ pr.gy) || decide (x' - e.p2 % 65536 ≥ pr.gx) ||
        at_ (x' - e.p2 % 65536) (y' - e.p1)
  | _ => (e.table.getD b []).all isDone

/-! ## Eligible blocks (R318) -/

/-- May block `b` of the task go? -/
def State.blockReady (s : State) (t : Task) (b : Nat) : Bool :=
  match t.node with
  | none => true
  | some (g, n) =>
    match tabGet? s.lch.graphs g with
    | none => false
    | some gr => (gr.edges.filter fun e => e.cons == n).all fun e =>
        match s.task? (gr.nodes.getD e.prod 0) with
        | some p => e.satisfied p t b
        | none => false

/-- Make the eligible blocks, or gangs, of a task into records (R318, R319). -/
def State.makeEligible (s : State) (slot : Nat) : State :=
  match s.task? slot with
  | none => s
  | some t =>
    if t.retired || t.dead then s
    else
      let g := t.hdr.gang
      let new := (List.range (t.nblocks / g)).filter fun k =>
        !t.eligible.contains (g * k) && (List.range g).all fun i => s.blockReady t (g * k + i)
      let s := s.setTask slot { t with eligible := t.eligible ++ new.map fun k => g * k }
      new.foldl (fun s k => s.addRecord
        { code := t.launch.code, frame := t.launch.args, join := 0#64, task := slot, block := g * k, launcher := true,
          level := t.level, queue := t.queue } t.atHead) s

/-- Evaluate the rule of R318 for the nodes of a graph. -/
def State.evalGraph (s : State) (g : Nat) : State :=
  match tabGet? s.lch.graphs g with
  | none => s
  | some gr => gr.nodes.foldl State.makeEligible s

/-! ## Tasks -/

/-- The lowest task slot that holds no task. -/
def State.freeTask (s : State) : Option Nat := (List.range 65536).find? fun i => (tabGet? s.lch.tasks i).isNone

def newTask (s : State) (q tenant level : Nat) (r : LaunchRec) (node : Option (Nat × Nat)) (h : CodeHdr) : Task :=
  { launch := r, queue := q, tenant := tenant, level := level, node := node, commit := r.commit, det := r.det, nblocks := r.blocks,
    gang := h.gang, runs := 0, started := false, doneBlocks := [], eligible := [], spawned := 0, cores := [],
    epochs := List.replicate r.lcores 0, lastRun := [], applied := 0, order := s.lch.nextTask, hdr := h, retired := false }

/-- The consumers of the blocks whose bits were set in a cycle are tested together, at its end (R318). -/
def State.graphsTested (s : State) : State := s.lch.graphs.foldl (fun s g => s.evalGraph g.1) s

/-- Check a task's record and its code object (R47, R312, R313, R325): its header, or the launch error. (DESIGN CHOICE, unsafe: notes/assumptions/93.md) -/
def State.checkTask (s : State) (tenant : Nat) (r : LaunchRec) : (Nat ⊕ CodeHdr) × State :=
  if !r.ok then (.inl 2, s)
  else match s.tenantRead tenant r.code.toNat 128 with
    | (none, s) => (.inl 1, s)
    | (some b, s) =>
      match codeHdrOf b with
      | none => (.inl 1, s)
      | some h =>
        if !h.fitsCore then (.inl 3, s)
        else if r.blocks % h.gang ≠ 0 || (r.det && decide (h.gang ≠ 1)) then (.inl 2, s)
        else (.inr h, s)

/-- What stands in the table for a code object that none of a task's blocks runs. -/
def noHdr : CodeHdr := ⟨true, 0, 0, 0, 0, 0, 1, 1, 1, 0, 32⟩

/-- Enter a task into the table, not yet eligible. None while every slot holds a task. (DESIGN CHOICE, unsafe: notes/assumptions/94.md) -/
def State.enterTask (s : State) (t : Task) : Option (Nat × State) :=
  s.freeTask.map fun k =>
    let s := s.setTask k t
    (k, { s with lch := { s.lch with nextTask := s.lch.nextTask + 1 } })

/-- A record of a queue whose launch fails (R313). A block that its JOIN spawns belongs to a task of its own, which has retired.
(DESIGN CHOICE, unsafe: notes/assumptions/59.md) -/
def State.failRecord (s : State) (q tenant level : Nat) (r : LaunchRec) (error : Nat) : State :=
  if r.join = 0#64 then s.failLaunch q tenant 0 r error
  else match s.enterTask { newTask s q tenant level r none noHdr with retired := true } with
    | none => s.failLaunch q tenant 0 r error
    | some (slot, s) =>
      let s := s.failLaunch q tenant slot r error
      if ((s.task? slot).map fun t => t.spawned).getD 0 = 0 then { s with lch := { s.lch with tasks := tabErase s.lch.tasks slot } } else s

/-! ## Graphs (R315, R317) -/

/-- An edge record (R316). -/
def edgeOf (b : List Byte) : Edge :=
  { prod := fld b 0 2, cons := fld b 2 2, map := fld b 4 1, p1 := fld b 6 2, p2 := fld b 8 8, table := [] }

def Edge.ok (e : Edge) (pad nnodes : Nat) : Bool :=
  pad == 0 && decide (e.prod < nnodes) && decide (e.cons < nnodes) &&
    (match e.map with
     | 0 => e.p2 == 0
     | 1 => e.p2 == 0
     | 2 => e.p2 == 0 && decide (1 ≤ e.p1)
     | 3 => decide (e.p2 < 65536)
     | 4 => e.p2 % 8 == 0
     | _ => false)

/-- Do the edges form a cycle? Nodes without a producer go, round by round. -/
def acyclic (n : Nat) (es : List Edge) : Bool :=
  ((List.range n).foldl (fun (left : List Nat) _ =>
    left.filter fun x => es.any fun e => e.cons == x && left.contains e.prod) (List.range n)).isEmpty

/-- Cut a byte list into records of `n` bytes. -/
def cutRecords : Nat → Nat → List Byte → List (List Byte)
  | 0, _, _ => []
  | k + 1, n, b => b.take n :: cutRecords k n (b.drop n)

/-- Read the table of a TABLE edge: the producer blocks of each consumer block; none when one lies outside the producer's grid. -/
def State.edgeTable (s : State) (tenant : Nat) (e : Edge) (consBlocks prodBlocks : Nat) : Option Edge × State :=
  if e.map ≠ 4 then (some e, s)
  else match s.tenantRead tenant e.p2 (8 * consBlocks) with
    | (none, s) => (none, s)
    | (some b, s) =>
      let spans := (cutRecords consBlocks 8 b).map fun r => (fld r 0 4, fld r 4 4)
      spans.foldl (fun (acc : Option Edge × State) sp =>
        match acc with
        | (none, s) => (none, s)
        | (some e, s) =>
          match s.tenantRead tenant (e.p2 + 8 * consBlocks + 4 * sp.1) (4 * sp.2) with
          | (none, s) => (none, s)
          | (some b, s) =>
            let bs := (cutRecords sp.2 4 b).map fun r => fld r 0 4
            (if bs.all fun x => decide (x < prodBlocks) then some { e with table := e.table ++ [bs] } else none, s)) (some e, s)

/-- Read and check a graph table (R315, R317): its node records and edges. -/
def State.readGraph (s : State) (tenant va : Nat) : Option (List LaunchRec × List Edge) × State :=
  if va % 64 ≠ 0 then (none, s)
  else match s.tenantRead tenant va 64 with
  | (none, s) => (none, s)
  | (some b, s) =>
    let nn := fld b 0 2
    let ne := fld b 4 4
    if nn < 1 || nn > 4096 || ne > 65536 || !zeros b 2 2 || !zeros b 24 40 || fld b 8 8 % 64 ≠ 0 || fld b 16 8 % 16 ≠ 0 then (none, s)
    else match s.tenantRead tenant (fld b 8 8) (64 * nn) with
    | (none, s) => (none, s)
    | (some nb, s) =>
      match s.tenantRead tenant (fld b 16 8) (16 * ne) with
      | (none, s) => (none, s)
      | (some eb, s) =>
        let recs := (cutRecords nn 64 nb).map launchRecOf
        let es := (cutRecords ne 16 eb).map fun r => (edgeOf r, fld r 5 1)
        if (recs.any fun r => r.graph) || (es.any fun e => !e.1.ok e.2 nn) || !acyclic nn (es.map fun e => e.1) then (none, s)
        else
          let r := es.foldl (fun (acc : Option (List Edge) × State) e =>
            match acc with
            | (none, s) => (none, s)
            | (some done, s) =>
              match recs[e.1.cons]?, recs[e.1.prod]? with
              | some c, some p => let x := s.edgeTable tenant e.1 c.blocks p.blocks; (x.1.map fun y => done ++ [y], x.2)
              | _, _ => (none, s)) (some [], s)
          (r.1.map fun x => (recs, x), r.2)

/-- Nodes that depend, directly or not, on node `n`. -/
def dependents (es : List Edge) (nnodes n : Nat) : List Nat :=
  ((List.range nnodes).foldl (fun (got : List Nat) _ =>
    got ++ ((es.filter fun e => got.contains e.prod && !got.contains e.cons).map fun e => e.cons).dedup) [n]).drop 1

/-- The graph ends when every node has retired: its completion word, its JOIN, its tasks leave the table (R315). (DEDUCED, unsafe: notes/assumptions/47.md) -/
def State.endGraph (s : State) (g : Nat) : State :=
  match tabGet? s.lch.graphs g with
  | none => s
  | some gr =>
    if gr.nodes.all fun n => ((s.task? n).map fun t => t.retired).getD true then
      let s := s.completion (srcOfQueue gr.queue) gr.tenant gr.launch.doneVa 0 0 1
      let s := s.launcherJoin gr.launch.join gr.tenant (gr.nodes.headD 0) 0#64
      let s := if gr.launch.evt then
          s.emit (srcOfQueue gr.queue) 0x082 gr.tenant 0#64 (BitVec.ofNat 64 (gr.launch.taskId.toNat + 2 ^ 31 * 2 ^ 32))
        else s
      let drop := gr.nodes.filter fun n => ((s.task? n).map fun t => t.spawned).getD 0 == 0
      { s with lch := { s.lch with graphs := tabErase s.lch.graphs g, tasks := s.lch.tasks.filter fun x => !drop.contains x.1 } }
    else s

/-- Node `n` of graph `g` has failed: of nodes that depend on it, one that has not started retires with launch error 2, and one that has started
starts no further block (R315). (DEDUCED, unsafe: notes/assumptions/47.md) -/
def State.failNode (s : State) (g n : Nat) : State :=
  match tabGet? s.lch.graphs g with
  | none => s
  | some gr =>
    let s := { s with lch := { s.lch with graphs := tabPut s.lch.graphs g { gr with failed := true } } }
    (dependents gr.edges gr.nodes.length n).foldl (fun s i =>
      let slot := gr.nodes.getD i 0
      match s.task? slot with
      | some t =>
        if t.retired then s
        else
          let s := { s with lch := { s.lch with ready := s.lch.ready.filter fun r => r.entry.task != slot || !r.saved.isEmpty || !r.entry.launcher,
                                                 waiting := s.lch.waiting.filter fun r => r.entry.task != slot || !r.entry.launcher } }
          if t.started then s.setTask slot { t with dead := true }
          else (s.setTask slot { t with retired := true }).failRetired t.queue t.tenant slot t.launch 2
      | none => s) s

/-- Enter the tasks of a graph's nodes; a node whose own record or code object fails is retired as failed (R313, R315). -/
def State.enterNodes (s : State) (q tenant level g : Nat) : List (Nat × LaunchRec) → State
  | [] => s
  | (i, r) :: rest =>
    let c := s.checkTask tenant r
    let (err, h) : Nat × CodeHdr := match c.1 with
      | .inl e => (e, noHdr)
      | .inr h => (0, h)
    match c.2.enterTask { newTask c.2 q tenant level r (some (g, i)) h with retired := decide (err ≠ 0) } with
    | none => c.2
    | some (slot, s) =>
      let s := match tabGet? s.lch.graphs g with
        | some gr => { s with lch := { s.lch with graphs := tabPut s.lch.graphs g { gr with nodes := gr.nodes ++ [slot] } } }
        | none => s
      let s := if err = 0 then s else s.failRetired q tenant slot r err
      s.enterNodes q tenant level g rest

/-- Launch a graph (R315, R317). -/
def State.launchGraph (s : State) (q tenant level : Nat) (r : LaunchRec) : State :=
  match s.readGraph tenant r.code.toNat with
  | (none, s) => s.failRecord q tenant level r 4
  | (some (recs, es), s) =>
    let id := s.newId
    let gr : Graph := { launch := r, queue := q, tenant := tenant, nodes := [], edges := es, failed := false }
    let s := { id.2 with lch := { id.2.lch with graphs := tabPut id.2.lch.graphs id.1 gr } }
    let s := s.enterNodes q tenant level id.1 (recs.zipIdx.map fun x => (x.2, x.1))
    let bad := (List.range recs.length).filter fun i =>
      match tabGet? s.lch.graphs id.1 with
      | some gr => ((s.task? (gr.nodes.getD i 0)).map fun t => t.retired).getD false
      | none => false
    let s := bad.foldl (fun s i => s.failNode id.1 i) s
    (s.evalGraph id.1).endGraph id.1

/-- Launch one record (R312, R313). (DESIGN CHOICE, safe: notes/assumptions/58.md) (DESIGN CHOICE, unsafe: notes/assumptions/94.md) -/
def State.launchOne (s : State) (q tenant level : Nat) (r : LaunchRec) : State :=
  if r.graph then
    if r.ok then s.launchGraph q tenant level r else s.failRecord q tenant level r 2
  else
    let c := s.checkTask tenant r
    match c.1 with
    | .inl e => c.2.failRecord q tenant level r e
    | .inr h =>
      match c.2.enterTask (newTask c.2 q tenant level r none h) with
      | none => c.2
      | some (slot, s) => s.makeEligible slot

/-! ## DOORBELL (R311) -/

/-- Read and launch the records from HEAD up (R311), advancing HEAD as each is consumed. -/
def State.consume (s : State) (q : Nat) (e : QEnt) : Nat → State
  | 0 => s
  | n + 1 =>
    match s.queueEnt q with
    | none => s
    | some (e', s) =>
      match s.tenantRead e.tenant (e.ring + 64 * (e'.head % 2 ^ e.log2n)) 64 with
      | (none, s) => s
      | (some b, s) =>
        let s := s.sysWrite (s.queuePa q + 16) 4 ((e'.head + 1) % 2 ^ 32)
        (s.launchOne q e.tenant e.prio (launchRecOf b)).consume q e n

/-- A write of LCH_DOORBELL (R311). -/
def State.doorbell (s : State) (q tail : Nat) : State :=
  match s.queueEnt q with
  | none => s
  | some (e, s) =>
    let refuse (s : State) : State := s.emit (srcOfQueue q) 0x080 0 0#64 (BitVec.ofNat 64 q)
    if e.refused then refuse s
    else if !e.en then s
    else
      let n := (tail + 2 ^ 32 - e.head) % 2 ^ 32
      let s := s.sysWrite (s.queuePa q + 20) 4 tail
      if n > 2 ^ e.log2n then refuse (s.sysWrite (s.queuePa q + 12) 1 (if e.sys then 2 else 0))
      else s.consume q e n

/-- DOORBELL (R311): a write of LCH_DOORBELL announces new launch records for a queue. Before READY it is discarded and counted (R450). -/
def execDoorbell (v : DWord) (s : State) : Out :=
  .next (if s.power.ready then s.doorbell (v.toNat % 2 ^ 17) (v.toNat / 2 ^ 32) else s.countEarly)

end Sys2Proof.Machine
end

