-- ==== Sys2Proof/Machine/Engine.lean ====
section
/-!
DEFINITION. What the matrix engine's instructions check at issue and put into the engine queue (spec/05_matrix_engine.md, R114 to R148;
28_program_gathered_matmul.md, R471, R472): descriptors, loop and drain records, the claim.
-/
namespace Sys2Proof.Machine

def cMxRecord : Nat := 0x38
def cMxAccRange : Nat := 0x39
def cMxQuad : Nat := 0x3A
def cMxContext : Nat := 0x3B

/-! ## Descriptors (R116, R117) -/

def descM (d : Word) : Nat := 16 * (d.toNat / 2 ^ 24 % 8 + 1)
def descN (d : Word) : Nat := 16 * (d.toNat / 2 ^ 20 % 16 + 1)
def descBase (d : Word) : Nat := d.toNat % 2048 * 16
def descInt (d : Word) : Bool := d.getLsbD 31

/-- Is the descriptor in range (R117)? `int` is what the operation demands of INT. -/
def descOk (d : Word) (int : Option Bool) : Bool :=
  decide (d.toNat / 2 ^ 20 % 16 ≤ 11) && decide (d.toNat / 2 ^ 27 % 16 = 0) && decide (d.toNat / 2 ^ 11 % 512 = 0) &&
    decide (descBase d + descM d * descN d ≤ 32768) && (match int with | some b => descInt d == b | none => true)

/-- Element offsets of a tile, row by row. -/
def tileElems (d : Word) : List Nat := (List.range (descM d * descN d)).map fun i => descBase d + i

/-! ## Formats (R122): 0 bf16, 1 f16, 2 e4m3, 3 e5m2, 4 i8, 5 cb4, 6 cb4bf -/

def mxSpan (f : Nat) : Nat := if f ≤ 1 then 32 else if f = 5 then 128 else 64
def mxBitsA (f : Nat) : Nat := if f ≤ 1 ∨ f = 6 then 16 else if f = 5 then 4 else 8
def mxBitsB (f : Nat) : Nat := if f ≤ 1 then 16 else if f = 5 ∨ f = 6 then 4 else 8
def mxGather (m : Nat) : Bool := m.testBit 0
def mxQuad (m : Nat) : Bool := m.testBit 1
def mxScaled (m : Nat) : Bool := m.testBit 2
def mxZeroFirst (m : Nat) : Bool := m.testBit 3

/-! ## The Plaza window -/

def plazaWin : Nat := 0xFF000000000000

/-- The 4 KiB pieces that a range touches. -/
def piecesOf (va n : Nat) : List Nat := if n = 0 then [] else (List.range ((va + n - 1) / 4096 - va / 4096 + 1)).map fun i => va / 4096 + i

/-- Does a range lie in the used 320 KiB of the strides (R123)? -/
def plazaUsed (va n : Nat) : Bool :=
  n == 0 || (decide (plazaWin ≤ va) && decide (va + n ≤ plazaWin + 0xA000000) &&
    (piecesOf va n).all fun p => decide ((p * 4096 - plazaWin) % 0x80000 < 0x50000))

/-- Does every granule of a range carry the tenant (R153)? -/
def State.plazaOwned (s : State) (redirect : Option (Nat × Nat)) (tenant va n : Nat) : Bool :=
  (piecesOf va n).all fun p => tabGet? s.granules (granuleOf (plazaOf redirect (p * 4096 - plazaWin))) == some tenant

/-- The memory ranges of a range of the window, piece by piece. -/
def plazaKeys (redirect : Option (Nat × Nat)) (va n : Nat) : List (Nat × Nat) :=
  (piecesOf va n).map fun p =>
    let lo := max va (p * 4096)
    (plazaOf redirect (lo - plazaWin), min (va + n) (p * 4096 + 4096) - lo)

/-! ## Loop records (R121 to R123, R134) -/

def LoopRec.abase (l : LoopRec) : Nat := fld l.record 0 8
def LoopRec.bbase (l : LoopRec) : Nat := fld l.record 8 8
def LoopRec.lda (l : LoopRec) : Nat := fld l.record 16 4
def LoopRec.ldb (l : LoopRec) : Nat := fld l.record 20 4
def LoopRec.k (l : LoopRec) : Nat := fld l.record 24 4
def LoopRec.cba (l : LoopRec) : Nat := fld l.record 28 1
def LoopRec.cbb (l : LoopRec) : Nat := fld l.record 29 1
def LoopRec.trows (l : LoopRec) : Nat := fld l.record 30 2
def LoopRec.idxBase (l : LoopRec) : Nat := fld l.record 32 8
def LoopRec.sa (l : LoopRec) : Nat := fld l.record 40 8
def LoopRec.sb (l : LoopRec) : Nat := fld l.record 48 8
def LoopRec.ldsa (l : LoopRec) : Nat := fld l.record 56 2
def LoopRec.ldsb (l : LoopRec) : Nat := fld l.record 58 2
def LoopRec.steps (l : LoopRec) : Nat := (l.k + mxSpan l.fmt - 1) / mxSpan l.fmt

/-- Are the record's fields in range (R121, R134)? -/
def LoopRec.fieldsOk (l : LoopRec) : Bool :=
  l.abase % 4 == 0 && l.bbase % 4 == 0 && l.lda % 4 == 0 && l.ldb % 4 == 0 && decide (1 ≤ l.k) && decide (l.k ≤ 1048576) &&
    (if l.fmt = 5 then decide (l.cba < 8) else l.cba == 0) && (if l.fmt = 5 ∨ l.fmt = 6 then decide (l.cbb < 8) else l.cbb == 0) &&
    (if mxGather l.minor then decide (1 ≤ l.trows) && l.idxBase % 4 == 0 else l.trows == 0 && l.idxBase == 0) &&
    (mxScaled l.minor || (l.sa == 0 && l.sb == 0)) && zeros l.record 60 4

/-- The first row and column of the tile on a core (R130). -/
def LoopRec.origin (l : LoopRec) (core : Nat) : Nat × Nat :=
  if mxQuad l.minor then (descM l.desc * (core % 4 / 2), descN l.desc * (core % 4 % 2)) else (0, 0)

/-- The bytes that the steps [next, stop) read, a gathered A by these rows of its table (R123, R127). -/
def LoopRec.rangesOf (l : LoopRec) (core : Nat) (table : List Nat) : List (Nat × Nat) :=
  if l.next ≥ l.stop then []
  else
    let lo := l.next * mxSpan l.fmt
    let hi := min (l.stop * mxSpan l.fmt) l.k
    let (row0, col0) := l.origin core
    let row (base bits : Nat) : Nat × Nat := (base + lo * bits / 8, (hi * bits + 7) / 8 - lo * bits / 8)
    let rows := if mxGather l.minor then table else (List.range (descM l.desc)).map fun i => row0 + i
    let cols := (List.range (descN l.desc)).map fun j => col0 + j
    let m := (List.range (descM l.desc)).map fun i => row0 + i
    let scale (base ld i : Nat) : Nat × Nat := (base + i * ld + lo / 32, (hi + 31) / 32 - lo / 32)
    rows.map (fun i => row (l.abase + i * l.lda) (mxBitsA l.fmt)) ++ cols.map (fun j => row (l.bbase + j * l.ldb) (mxBitsB l.fmt)) ++
      (if mxGather l.minor then [(l.idxBase + 4 * row0, 4 * descM l.desc)] else []) ++
      (if mxScaled l.minor then m.map (fun i => scale l.sa l.ldsa i) ++ cols.map (fun j => scale l.sb l.ldsb j) else [])

/-- The bytes that they may read, whatever the indices of a gather name (R123). -/
def LoopRec.ranges (l : LoopRec) (core : Nat) : List (Nat × Nat) := l.rangesOf core (List.range l.trows)

/-! ## The claim and the queue (R115, R118, R119) -/

def State.engine (s : State) (core : Nat) : Engine := (s.core core).engine
def State.setEngine (s : State) (core : Nat) (e : Engine) : State := s.setCore core { s.core core with engine := e }

/-- Wait for the claim (R115): the holder goes on, and so does the block whose turn it is where there is none. (DEDUCED, unsafe: notes/assumptions/29.md) -/
def Env.claimed (e : Env) (k : Env → Out) : Out :=
  let g := e.s.engine e.core
  let mine := match g.holder with
    | some b => b == e.w.block
    | none => g.claim.headD e.w.block == e.w.block
  if mine then k e
  else
    let g := if g.claim.contains e.w.block then g else { g with claim := g.claim ++ [e.w.block] }
    { e with s := e.s.setEngine e.core g }.hold 4 (g.holder.getD (g.claim.headD 0))

/-- The FENCE.OPNDs issued before this step come before what a stream issues now (R124): for the C-stream, those before the QPUSH whose entry it has
popped last. -/
def Env.opndUpto (e : Env) : Nat := if e.cs then e.w.popAt else e.s.free + 1

/-- What FENCE.OPND makes an entry wait for (R124). -/
def Env.opndAfter (e : Env) : List Nat :=
  (e.s.fences.filter fun f => f.wave == e.key && f.kind == 4 && decide (f.at_ < e.opndUpto)).flatMap fun f => f.perform

/-- The step by which stores were performed that the completed FENCE.OPNDs order for an entry (R124). -/
def Env.opndSeen (e : Env) : Nat := (((e.w.opnds.filter fun f => decide (f.1 < e.opndUpto)).getLast?).map Prod.snd).getD 0

/-- What an engine's read of the Plaza finds (R124, R125): of the stores that are not ordered for it, each is seen or missed, as a free value says.
(DESIGN CHOICE, safe: notes/assumptions/60.md) -/
def State.plazaSeen (s : State) (seen core key n salt : Nat) : List Byte :=
  let now := memGets s.mem key n
  let ps := s.opLog.filter fun p => decide (seen ≤ p.at_) && decide (p.key < key + n) && decide (key < p.key + p.new.length)
  let put (b : List Byte) (p : PlazaSt) (d : List Byte) : List Byte := b.zipIdx.map fun x =>
    let a := key + x.2
    if p.key ≤ a ∧ a < p.key + d.length then d.getD (a - p.key) 0#8 else x.1
  let base := ps.foldr (fun p b => put b p p.old) now
  ps.zipIdx.foldl (fun b p => if p.1.eng == some core || Config.freeBit s.free (salt + p.2) then put b p.1 p.1.new else b) base

/-- The memory that a loop reads (R126). Of a gathered table it is the rows that the indices name, where none of their bytes is still open: a store that
the loop may miss, an entry ahead of it that may write them. -/
def State.loopReads (s : State) (core : Nat) (redirect : Option (Nat × Nat)) (seen : Nat) (l : LoopRec) : List (Nat × Nat) :=
  let keys (rs : List (Nat × Nat)) : List (Nat × Nat) := rs.flatMap fun r => plazaKeys redirect r.1 r.2
  let idx (i : Nat) : Nat := l.idxBase + 4 * ((l.origin core).1 + i)
  let unsure := (s.engine core).queue.any (fun (x : EngineEntry) => match x.op with | .loop _ _ => false | _ => true) ||
    s.opLog.any fun p => decide (seen ≤ p.at_) && rangeHits (keys [(idx 0, 4 * descM l.desc)]) p.key p.new.length
  if !mxGather l.minor || unsure then keys (l.ranges core)
  else
    let rows := ((List.range (descM l.desc)).map fun i => bytesToNat (memGets s.mem (plazaOf redirect (idx i - plazaWin)) 4)).filter fun v => decide (v < l.trows)
    keys (l.rangesOf core rows.dedup)

/-- Enter the queue, with the entry's window (R118, R119, R126); a full queue holds the word. (DEDUCED, unsafe: notes/assumptions/29.md)
Of several streams held at a full queue, the one whose word runs first enters. (DESIGN CHOICE, unsafe: notes/assumptions/69.md) -/
def Env.enqueue (e : Env) (op : EngineOp) (held : Bool) (reads writes : List (Nat × Nat)) (elems : List Nat) (book : Option Nat)
    (k : Env → Nat → Out) (vreads vwrites : List (Nat × Nat) := []) : Out :=
  let g := e.s.engine e.core
  if g.queue.length ≥ 8 then e.hold 10 e.core
  else
    let n := e.s.newId
    let tracks : List Track := if e.cl.sety < 12 ∨ e.cl.sety = 15 then [⟨e.key, e.cs, e.cl.sety⟩] else []
    let x : EngineEntry :=
      { id := n.1, wave := e.key, block := e.w.block, task := e.w.task, tenant := e.w.tenant, causal := e.w.causal, cs := e.cs,
        tracks := tracks, pc := e.pc, slot := e.cl.slot, lanes := e.exec, op := op, started := false, phase := 0,
        redirect := e.w.redirect, places := [], after := e.opndAfter, bad := false, held := held, fenced := e.key, upto := e.opndUpto, seen := e.opndSeen }
    let win : EngineWindow :=
      { id := n.1, tracks := tracks, reads := reads, writes := writes, elems := elems, book := book, spoiled := false, tenant := e.w.tenant,
        tag := (e.s.waveAsker e.key e.cs e.w).tag, redirect := e.w.redirect, vreads := vreads, vwrites := vwrites }
    let g := { g with holder := some e.w.block, claim := g.claim.filter (· ≠ e.w.block), queue := g.queue ++ [x],
                      windows := (g.windows.filter fun y => n.2.windowOpen g y) ++ [win] }
    let s := (n.2.setEngine e.core g).injectAt 4 e.core (queueLoc 4 0 (g.queue.length - 1)) (engineMark n.1)
    let e := { e with s := s, w := if e.cl.off then e.w.flagUp e.cl.sety 1 else e.w }
    let e := if e.cl.sety = 15 then e.setSt fun st => { st with llHold := st.llHold + 1 } else e
    k e n.1

/-- The read of a record finds the errors of its words (R408). -/
def Env.mxFound (e : Env) (va : Nat) : Env :=
  { e with s := e.s.findErrors (plazaOf e.w.redirect (va - plazaWin)) 64 e.w.tenant e.w.causal }

/-- Read a 64-byte record of the Plaza (R121, R134, R141): the checks of the window and the alignment, then those that `ok` makes of its
bytes, then the tenant. A FENCE.OPND before it orders the record's stores as it orders an operand's (R124): the word holds until they have been
performed. These codes name no address (R416). (DEDUCED, unsafe: notes/assumptions/29.md)
A record in an uncorrectable Plaza word traps PLAZA_UNCORRECTABLE before the checks of its fields. (DESIGN CHOICE, unsafe: notes/assumptions/68.md) -/
def Env.mxRecord (e : Env) (va : Nat) (ok : List Byte → Bool) (ranges : List Byte → List (Nat × Nat)) (k : Env → List Byte → Out) : Out :=
  let a := BitVec.ofNat 64 va
  if !(isPlazaVa va && va % 64 == 0 && plazaUsed va 64) then e.trap cMxRecord 0#64
  else if e.opndAfter.any fun i => e.s.unperformed i then e.hold 15 1
  else
    let key := plazaOf e.w.redirect (va - plazaWin)
    let b := e.s.plazaSeen e.opndSeen e.core key 64 50000
    let e := e.mxFound va
    if (e.s.readError key 64).isSome then e.trap cPlazaUncorrectable a
    else if !ok b then e.trap cMxRecord 0#64
    else match (ranges b).find? fun r => !plazaUsed r.1 r.2 with
      | some _ => e.trap cMxRecord 0#64
      | none =>
        match ((va, 64) :: ranges b).find? fun r => !e.s.plazaOwned e.w.redirect e.w.tenant r.1 r.2 with
        | some _ => e.trap cPermission 0#64
        | none => k e b

/-- Is the wave's block one of four that occupy its quad (R130)? -/
def State.gangOfFour (s : State) (block : Nat) : Bool :=
  ((tabGet? s.lch.blocks block).map fun b => b.gang.length == 4).getD false

/-- MLOOP (R133, R134): format, minor bits, operands. -/
def Env.mloop (e : Env) (fmt minor : Nat) (d a b : BitVec 7) : Out :=
  e.claimed fun e =>
    let desc := e.s32 d
    if !descOk desc (some (fmt == 4)) then e.trap cMxAccRange 0#64
    else if mxQuad minor && !e.s.gangOfFour e.w.block then e.trap cMxQuad 0#64
    else
      let mk (r : List Byte) : LoopRec :=
        let l : LoopRec := ⟨fmt, minor, desc, r, 0, 0⟩
        if b.toNat = 127 then { l with stop := l.steps }
        else { l with next := (e.s32 b).toNat / 65536, stop := (e.s32 b).toNat / 65536 + (e.s32 b).toNat % 65536 }
      let ok (r : List Byte) : Bool := (mk r).fieldsOk && decide ((mk r).stop ≤ (mk r).steps)
      e.mxRecord (e.s64 a).toNat ok (fun r => (mk r).ranges e.core) fun e r =>
        e.enqueue (.loop (mk r) none) false (e.s.loopReads e.core e.w.redirect e.opndSeen (mk r)) [] (if (mk r).next < (mk r).stop then tileElems desc else []) none
          fun e _ => .next e.done

/-- MZERO (R138). -/
def Env.mzero (e : Env) (d : BitVec 7) : Out :=
  e.claimed fun e =>
    if !descOk (e.s32 d) none then e.trap cMxAccRange 0#64
    else e.enqueue (.zero (e.s32 d)) false [] [] (tileElems (e.s32 d)) none fun e _ => .next e.done

/-- MCB (R139): the address is translated at issue; a replayable fault holds the entry. -/
def Env.mcb (e : Env) (slot : Nat) (a : BitVec 7) : Out :=
  e.memGate .load false fun e =>
    e.claimed fun e =>
      let va := (e.s64 a).toNat
      let bad (s : State) (c : Nat) : Out := { e with s := s }.trap c (e.s64 a)
      if va % 32 ≠ 0 then e.trap cMisaligned (e.s64 a)
      else if (e.s.engine e.core).queue.length ≥ 8 then e.hold 10 e.core
      else
        let asker := e.s.waveAsker e.key e.cs e.w
        let r := e.s.resolve asker .load 99 va
        let go (s : State) (place : Place) (kind : Nat) (disc held : Bool) (k : Env → Nat → Out) : Out :=
          let reads : List (Nat × Nat) := match place with
            | .mem key => if held then [] else [(key, 32)]
            | _ => []
          { e with s := s }.readsDone.enqueue (.mcb slot (e.s64 a) place kind disc) held reads [] [] (some slot) k
            (if held then [(va, 32)] else [])
        match r.1 with
        | .ok p kind disc => go r.2 p kind disc false fun e _ => .next e.done
        | .miss v =>
          let x := (r.2.count (srcCore e.core) 0x106).startWalk asker v
          .next ({ e with s := x.2 }.await (.walk x.1))
        | .refused c => bad r.2 c
        | .walkError c sp => bad (r.2.pageRecords e.w.causal (srcCore e.core) e.w.tenant 0 1 0 [⟨0, va, c, sp, 0⟩]) c
        | .shadowWait _ => e.hold 15 4
        | .faults c sp fl _ =>
          if r.2.logFull e.core then e.hold 10 e.core
          else match r.2.freeEntry 0 e.core 256 with
            | none => e.hold 10 e.core
            | some n =>
              go r.2 (.mem 0) 0 false true fun e id =>
                let h : Held := { cls := 0, owner := e.core, entry := n, tenant := e.w.tenant, vpn := va / 65536, span := sp, va := va,
                                  what := .engine e.core id, joined := [], order := e.s.heldNext, wave := e.key, pc := e.pc,
                                  replaying := [], again := false }
                let s := ({ e.s with held := e.s.held ++ [h], heldNext := e.s.heldNext + 1 } : State).injectAt 4 e.core (queueLoc 3 0 n) (logMark h.order)
                let s := s.faultRecord (e.s64 a) e.w.causal (srcCore e.core) e.w.tenant c 0 fl (tokenOf 0 e.core n)
                .next { e with s := s }.done

/-- MSTAT (R140): the destination is undefined until the entry completes. -/
def Env.mstat (e : Env) (d : BitVec 7) (w : Nat) (clr : Bool) : Out :=
  e.claimed fun e =>
    let late := e.s.nextId
    let e' := { e with s := { e.s with nextId := late + 1 } }
    e'.enqueue (.mstat late w clr) false [] [] [] none fun e _ =>
      let dest : LateDest := .scalar e.cs d.toNat
      let l : Late := { id := late, cs := e.cs, dest := dest, mask := 1#32, vals := Lanes.zero, clob := 0#32, fp := 0#32, flag := e.cl.sety,
                        engine := true, done := false, pick := 0#32 }
      .next { e with w := { (e.w.clobber dest 1#32) with late := e.w.late ++ [l] } }.done

/-! ## MDRAIN (R141 to R144) -/

def drainSize (kind : Nat) : Nat := if kind = 1 then 2 else if kind = 2 then 1 else 4
def drainDest (r : List Byte) : Nat := fld r 0 8
def drainLdd (r : List Byte) : Nat := fld r 8 4
def drainScope (r : List Byte) : Nat := fld r 12 1
def drainTicket (r : List Byte) : Nat := fld r 16 8
def drainTval (r : List Byte) : Nat := fld r 24 4

/-- Are the drain record's fields in range (R141)? -/
def drainOk (kind : Nat) (r : List Byte) : Bool :=
  drainDest r % drainSize kind == 0 && drainLdd r % drainSize kind == 0 && decide (1 ≤ drainScope r) && decide (drainScope r ≤ 5) &&
    zeros r 13 3 && zeros r 28 36 && (if kind = 4 then drainTicket r % 8 == 0 else drainTicket r == 0 && drainTval r == 0)

/-- MDRAIN (R142). -/
def Env.mdrain (e : Env) (kind : Nat) (d a : BitVec 7) (clr : Bool) : Out :=
  e.memGate .load false fun e =>
    e.claimed fun e =>
      let desc := e.s32 d
      if !descOk desc (if kind = 1 ∨ kind = 2 then some false else none) then e.trap cMxAccRange 0#64
      else e.mxRecord (e.s64 a).toNat (drainOk kind) (fun _ => []) fun e r =>
        e.enqueue (.drain kind clr desc r) false [] [] (if clr then tileElems desc else []) none (fun e _ => .next e.done) []
          ((List.range (descM desc)).map fun m => (drainDest r + m * drainLdd r, drainSize kind * descN desc))

/-- MSAVE and MRESTORE (R146). -/
def Env.mimage (e : Env) (a : BitVec 7) (op : DWord → EngineOp) : Out :=
  e.memGate .load false fun e =>
    e.claimed fun e =>
      if (e.s64 a).toNat % 1024 ≠ 0 then e.trap cMisaligned (e.s64 a)
      else e.enqueue (op (e.s64 a)) false [] [] [] none fun e _ => .next e.done

end Sys2Proof.Machine
end

