-- ==== Sys2Proof/Machine/Scalar.lean ====
section
/-!
DEFINITION. Scalar instructions (spec/04_lane_arithmetic.md, R73, R74, R80 to R88): wave-level, on the issuing stream's scalars whatever exec holds.
-/
namespace Sys2Proof.Machine

/-- The sixteen operations of SALU and VALU (R80). -/
inductive AluOp where
  | add | sub | and | or | xor | shl | shr | sar | min | max | minn | maxn | mul | mulh | mulhn | andn
  deriving DecidableEq, Repr

/-- The operation of a minor on a and b (R80). The shift amount is b[7:0]. -/
def alu (op : AluOp) (a b : Word) : Word :=
  let n := b.toNat % 256
  match op with
  | .add => a + b
  | .sub => a - b
  | .and => a &&& b
  | .or => a ||| b
  | .xor => a ^^^ b
  | .shl => if n ≥ 32 then 0#32 else a <<< n
  | .shr => if n ≥ 32 then 0#32 else a >>> n
  | .sar => if n ≥ 32 then (if a.getLsbD 31 then 0xFFFFFFFF#32 else 0#32) else a.sshiftRight n
  | .min => if a.toInt ≤ b.toInt then a else b
  | .max => if a.toInt ≤ b.toInt then b else a
  | .minn => if a.toNat ≤ b.toNat then a else b
  | .maxn => if a.toNat ≤ b.toNat then b else a
  | .mul => a * b
  | .mulh => BitVec.ofInt 32 (a.toInt * b.toInt / 2 ^ 32)
  | .mulhn => BitVec.ofNat 32 (a.toNat * b.toNat / 2 ^ 32)
  | .andn => a &&& ~~~b

/-- Rotate left by n, 0 to 31 (R81). -/
def rotl (a : Word) (n : Nat) : Word := if n = 0 then a else (a <<< n) ||| (a >>> (32 - n))

/-- Leading zeros, 32 for 0 (R87). -/
def clz (a : Word) : Word := if a = 0#32 then 32#32 else BitVec.ofNat 32 (31 - a.toNat.log2)
/-- Number of one bits (R87). -/
def popc (a : Word) : Word := BitVec.ofNat 32 ((List.range 32).filter fun i => a.getLsbD i).length
/-- Bit i moved to bit 31 − i (R87). -/
def brev (a : Word) : Word := maskOf fun i => a.getLsbD (31 - i)
def sext8 (a : Word) : Word := (a.extractLsb' 0 8).signExtend 32
def sext16 (a : Word) : Word := (a.extractLsb' 0 16).signExtend 32
/-- |a| by SInt; −2^31 stays (R94). -/
def absW (a : Word) : Word := if a.toInt ≥ 0 then a else 0#32 - a

/-- The four divisions of R88, with the fixed results for a divisor of 0 and for −2^31 ÷ −1. -/
def sdivi (a b : Word) : Word := if b = 0#32 then 0xFFFFFFFF#32 else BitVec.ofInt 32 (a.toInt.tdiv b.toInt)
def sdivn (a b : Word) : Word := if b = 0#32 then 0xFFFFFFFF#32 else BitVec.ofNat 32 (a.toNat / b.toNat)
def sremi (a b : Word) : Word := if b = 0#32 then a else BitVec.ofInt 32 (a.toInt.tmod b.toInt)
def sremn (a b : Word) : Word := if b = 0#32 then a else BitVec.ofNat 32 (a.toNat % b.toNat)

/-- SADD (R80): Scalar add modulo 2^32. -/
def execSadd (d a b : BitVec 7) (s : State) : Out :=
  issue (.wave [sW d, sR a, sR b]) s fun e =>
    .next (e.put32 d (alu .add (e.s32 a) (e.s32 b))).done

/-- SSUB (R80): Scalar subtract modulo 2^32. -/
def execSsub (d a b : BitVec 7) (s : State) : Out :=
  issue (.wave [sW d, sR a, sR b]) s fun e =>
    .next (e.put32 d (alu .sub (e.s32 a) (e.s32 b))).done

/-- SAND (R80): Scalar bitwise AND. -/
def execSand (d a b : BitVec 7) (s : State) : Out :=
  issue (.wave [sW d, sR a, sR b]) s fun e =>
    .next (e.put32 d (alu .and (e.s32 a) (e.s32 b))).done

/-- SOR (R80): Scalar bitwise OR. -/
def execSor (d a b : BitVec 7) (s : State) : Out :=
  issue (.wave [sW d, sR a, sR b]) s fun e =>
    .next (e.put32 d (alu .or (e.s32 a) (e.s32 b))).done

/-- SXOR (R80): Scalar bitwise XOR. -/
def execSxor (d a b : BitVec 7) (s : State) : Out :=
  issue (.wave [sW d, sR a, sR b]) s fun e =>
    .next (e.put32 d (alu .xor (e.s32 a) (e.s32 b))).done

/-- SSHL (R80): Scalar shift left by a register amount. -/
def execSshl (d a b : BitVec 7) (s : State) : Out :=
  issue (.wave [sW d, sR a, sR b]) s fun e =>
    .next (e.put32 d (alu .shl (e.s32 a) (e.s32 b))).done

/-- SSHR (R80): Scalar logical shift right by a register amount. -/
def execSshr (d a b : BitVec 7) (s : State) : Out :=
  issue (.wave [sW d, sR a, sR b]) s fun e =>
    .next (e.put32 d (alu .shr (e.s32 a) (e.s32 b))).done

/-- SSAR (R80): Scalar arithmetic shift right by a register amount. -/
def execSsar (d a b : BitVec 7) (s : State) : Out :=
  issue (.wave [sW d, sR a, sR b]) s fun e =>
    .next (e.put32 d (alu .sar (e.s32 a) (e.s32 b))).done

/-- SMIN (R80): Scalar signed minimum. -/
def execSmin (d a b : BitVec 7) (s : State) : Out :=
  issue (.wave [sW d, sR a, sR b]) s fun e =>
    .next (e.put32 d (alu .min (e.s32 a) (e.s32 b))).done

/-- SMAX (R80): Scalar signed maximum. -/
def execSmax (d a b : BitVec 7) (s : State) : Out :=
  issue (.wave [sW d, sR a, sR b]) s fun e =>
    .next (e.put32 d (alu .max (e.s32 a) (e.s32 b))).done

/-- SMINN (R80): Scalar unsigned minimum. -/
def execSminn (d a b : BitVec 7) (s : State) : Out :=
  issue (.wave [sW d, sR a, sR b]) s fun e =>
    .next (e.put32 d (alu .minn (e.s32 a) (e.s32 b))).done

/-- SMAXN (R80): Scalar unsigned maximum. -/
def execSmaxn (d a b : BitVec 7) (s : State) : Out :=
  issue (.wave [sW d, sR a, sR b]) s fun e =>
    .next (e.put32 d (alu .maxn (e.s32 a) (e.s32 b))).done

/-- SMUL (R80): Scalar multiply, low 32 bits. -/
def execSmul (d a b : BitVec 7) (s : State) : Out :=
  issue (.wave [sW d, sR a, sR b]) s fun e =>
    .next (e.put32 d (alu .mul (e.s32 a) (e.s32 b))).done

/-- SMULH (R80): Scalar signed multiply, high 32 bits. -/
def execSmulh (d a b : BitVec 7) (s : State) : Out :=
  issue (.wave [sW d, sR a, sR b]) s fun e =>
    .next (e.put32 d (alu .mulh (e.s32 a) (e.s32 b))).done

/-- SMULHN (R80): Scalar unsigned multiply, high 32 bits. -/
def execSmulhn (d a b : BitVec 7) (s : State) : Out :=
  issue (.wave [sW d, sR a, sR b]) s fun e =>
    .next (e.put32 d (alu .mulhn (e.s32 a) (e.s32 b))).done

/-- SANDN (R80): Scalar a AND NOT b. -/
def execSandn (d a b : BitVec 7) (s : State) : Out :=
  issue (.wave [sW d, sR a, sR b]) s fun e =>
    .next (e.put32 d (alu .andn (e.s32 a) (e.s32 b))).done

/-- SADDI (R81): Scalar add of a sign-extended immediate. -/
def execSaddi (d a : BitVec 7) (i : BitVec 11) (s : State) : Out :=
  issue (.wave [sW d, sR a]) s fun e =>
    .next (e.put32 d (alu .add (e.s32 a) (immS i))).done

/-- SANDI (R81): Scalar AND with a zero-extended immediate. -/
def execSandi (d a : BitVec 7) (i : BitVec 11) (s : State) : Out :=
  issue (.wave [sW d, sR a]) s fun e =>
    .next (e.put32 d (alu .and (e.s32 a) (immZ i))).done

/-- SORI (R81): Scalar OR with a zero-extended immediate. -/
def execSori (d a : BitVec 7) (i : BitVec 11) (s : State) : Out :=
  issue (.wave [sW d, sR a]) s fun e =>
    .next (e.put32 d (alu .or (e.s32 a) (immZ i))).done

/-- SXORI (R81): Scalar XOR with a zero-extended immediate. -/
def execSxori (d a : BitVec 7) (i : BitVec 11) (s : State) : Out :=
  issue (.wave [sW d, sR a]) s fun e =>
    .next (e.put32 d (alu .xor (e.s32 a) (immZ i))).done

/-- SSHL_IMM (R81): Scalar shift left by an immediate amount. -/
def execSshlImm (d a : BitVec 7) (n : BitVec 5) (s : State) : Out :=
  issue (.wave [sW d, sR a]) s fun e =>
    .next (e.put32 d (alu .shl (e.s32 a) (immZ n))).done

/-- SSHR_IMM (R81): Scalar logical shift right by an immediate amount. -/
def execSshrImm (d a : BitVec 7) (n : BitVec 5) (s : State) : Out :=
  issue (.wave [sW d, sR a]) s fun e =>
    .next (e.put32 d (alu .shr (e.s32 a) (immZ n))).done

/-- SSAR_IMM (R81): Scalar arithmetic shift right by an immediate amount. -/
def execSsarImm (d a : BitVec 7) (n : BitVec 5) (s : State) : Out :=
  issue (.wave [sW d, sR a]) s fun e =>
    .next (e.put32 d (alu .sar (e.s32 a) (immZ n))).done

/-- SROT (R81): Scalar rotate left by an immediate amount. -/
def execSrot (d a : BitVec 7) (n : BitVec 5) (s : State) : Out :=
  issue (.wave [sW d, sR a]) s fun e =>
    .next (e.put32 d (rotl (e.s32 a) n.toNat)).done

/-- SMOVI (R82): Sets a scalar to a sign-extended 18-bit immediate. -/
def execSmovi (d : BitVec 7) (i : BitVec 18) (s : State) : Out :=
  issue (.wave [sW d]) s fun e =>
    .next (e.put32 d (immS i)).done

/-- SMOVHI (R82): Replaces bits 31 to 14 of a scalar with an immediate. -/
def execSmovhi (d : BitVec 7) (i : BitVec 18) (s : State) : Out :=
  issue (.wave [sX d]) s fun e =>
    .next (e.put32 d (i ++ (e.s32 d).extractLsb' 0 14)).done

/-- SCMP (R83): Signed compare of two scalars, setting the condition codes. -/
def execScmp (a b : BitVec 7) (s : State) : Out :=
  issue (.wave [sR a, sR b]) s fun e =>
    .next (e.putCodes (compareSigned (e.s32 a) (e.s32 b))).done

/-- SCMP_N (R83): Unsigned compare of two scalars, setting the condition codes. -/
def execScmpN (a b : BitVec 7) (s : State) : Out :=
  issue (.wave [sR a, sR b]) s fun e =>
    .next (e.putCodes (compareUnsigned (e.s32 a) (e.s32 b))).done

/-- SCMPI (R83): Signed compare of a scalar with an immediate. -/
def execScmpi (a : BitVec 7) (i : BitVec 11) (s : State) : Out :=
  issue (.wave [sR a]) s fun e =>
    .next (e.putCodes (compareSigned (e.s32 a) (immS i))).done

/-- SCMPI_N (R83): Unsigned compare of a scalar with an immediate. -/
def execScmpiN (a : BitVec 7) (i : BitVec 11) (s : State) : Out :=
  issue (.wave [sR a]) s fun e =>
    .next (e.putCodes (compareUnsigned (e.s32 a) (immS i))).done

/-- SADDP (R85): 64-bit scalar-pair add with a shifted scalar or pair. -/
def execSaddp (d a b : BitVec 7) (p : BitVec 1) (sh : BitVec 2) (s : State) : Out :=
  issue (.wave [pW d, pR a, (if p = 1#1 then pR b else sR b)]) s fun e =>
    let y : DWord := if p = 1#1 then e.s64 b else (e.s32 b).zeroExtend 64
    .next (e.put64 d (e.s64 a + (y <<< sh.toNat))).done

/-- SSEL (R86): Selects one of two scalars by a condition code. -/
def execSsel (d a b : BitVec 7) (c : BitVec 4) (s : State) : Out :=
  issue ((.wave [sW d, sR a, sR b] : Form).need (c.toNat < 15) .badCond) s fun e =>
    .next (e.put32 d (if e.cond c.toNat then e.s32 a else e.s32 b)).done

/-- SMOV (R87): Scalar move. -/
def execSmov (d a : BitVec 7) (s : State) : Out :=
  issue (.wave [sW d, sR a]) s fun e =>
    .next (e.put32 d (e.s32 a)).done

/-- SNOT (R87): Scalar bitwise NOT. -/
def execSnot (d a : BitVec 7) (s : State) : Out :=
  issue (.wave [sW d, sR a]) s fun e =>
    .next (e.put32 d (~~~(e.s32 a))).done

/-- SNEG (R87): Scalar negate modulo 2^32. -/
def execSneg (d a : BitVec 7) (s : State) : Out :=
  issue (.wave [sW d, sR a]) s fun e =>
    .next (e.put32 d (0#32 - e.s32 a)).done

/-- SCLZ (R87): Counts leading zero bits of a scalar. -/
def execSclz (d a : BitVec 7) (s : State) : Out :=
  issue (.wave [sW d, sR a]) s fun e =>
    .next (e.put32 d (clz (e.s32 a))).done

/-- SPOPC (R87): Counts the one bits of a scalar. -/
def execSpopc (d a : BitVec 7) (s : State) : Out :=
  issue (.wave [sW d, sR a]) s fun e =>
    .next (e.put32 d (popc (e.s32 a))).done

/-- SBREV (R87): Reverses the bit order of a scalar. -/
def execSbrev (d a : BitVec 7) (s : State) : Out :=
  issue (.wave [sW d, sR a]) s fun e =>
    .next (e.put32 d (brev (e.s32 a))).done

/-- SSEXT8 (R87): Sign-extends the low byte of a scalar. -/
def execSsext8 (d a : BitVec 7) (s : State) : Out :=
  issue (.wave [sW d, sR a]) s fun e =>
    .next (e.put32 d (sext8 (e.s32 a))).done

/-- SSEXT16 (R87): Sign-extends the low half of a scalar. -/
def execSsext16 (d a : BitVec 7) (s : State) : Out :=
  issue (.wave [sW d, sR a]) s fun e =>
    .next (e.put32 d (sext16 (e.s32 a))).done

/-- SDIVI (R88): Long-latency signed scalar divide. -/
def execSdivi (d a b : BitVec 7) (s : State) : Out :=
  issue (.wave [sW d, sR a, sR b]) s fun e =>
    .next (e.putLateS d (sdivi (e.s32 a) (e.s32 b))).done

/-- SDIVN (R88): Long-latency unsigned scalar divide. -/
def execSdivn (d a b : BitVec 7) (s : State) : Out :=
  issue (.wave [sW d, sR a, sR b]) s fun e =>
    .next (e.putLateS d (sdivn (e.s32 a) (e.s32 b))).done

/-- SREMI (R88): Long-latency signed scalar remainder. -/
def execSremi (d a b : BitVec 7) (s : State) : Out :=
  issue (.wave [sW d, sR a, sR b]) s fun e =>
    .next (e.putLateS d (sremi (e.s32 a) (e.s32 b))).done

/-- SREMN (R88): Long-latency unsigned scalar remainder. -/
def execSremn (d a b : BitVec 7) (s : State) : Out :=
  issue (.wave [sW d, sR a, sR b]) s fun e =>
    .next (e.putLateS d (sremn (e.s32 a) (e.s32 b))).done

end Sys2Proof.Machine
end

