-- ==== Sys2Proof/Machine/Vector.lean ====
section
/-!
DEFINITION. Vector integer instructions and predicates (spec/04_lane_arithmetic.md, R75, R89 to R99): lane instructions, which act in the lanes of exec.
-/
namespace Sys2Proof.Machine

/-- VBF (R95): f, and the field's place and width. -/
def bfPos (b : Word) : Nat := b.toNat % 32
def bfWidth (b : Word) : Nat := min (b.toNat / 256 % 64) 32
def bfExtract (a b : Word) : Nat := a.toNat / 2 ^ bfPos b % 2 ^ bfWidth b
def vbfeN (a b : Word) : Word := BitVec.ofNat 32 (bfExtract a b)
def vbfeI (a b : Word) : Word :=
  let w := bfWidth b
  if w = 0 then 0#32
  else if bfExtract a b / 2 ^ (w - 1) % 2 = 1 then BitVec.ofInt 32 ((bfExtract a b : Int) - 2 ^ w)
  else BitVec.ofNat 32 (bfExtract a b)
def vbfi (d a b : Word) : Word :=
  let m := BitVec.ofNat 32 ((2 ^ bfWidth b - 1) * 2 ^ bfPos b)
  (d &&& ~~~m) ||| (BitVec.ofNat 32 (a.toNat * 2 ^ bfPos b) &&& m)

/-- VMAD (R91): the exact product by signs, its low or high word added to d. -/
def madProd (signed : Bool) (a b : Word) : Int := if signed then a.toInt * b.toInt else (a.toNat : Int) * b.toNat
def madLo (signed : Bool) (a b d : Word) : Word := BitVec.ofInt 32 (madProd signed a b + d.toNat)
def madHi (signed : Bool) (a b d : Word) : Word := BitVec.ofInt 32 (madProd signed a b / 2 ^ 32 + d.toNat)

/-- The comparisons of VCMP (R92). -/
inductive CmpOp where
  | eq | ne | lt | le | gt | ge | ltn | len | gtn | gen
  deriving DecidableEq, Repr

def cmpHolds (op : CmpOp) (a b : Word) : Bool :=
  match op with
  | .eq => a == b
  | .ne => a != b
  | .lt => decide (a.toInt < b.toInt)
  | .le => decide (a.toInt ≤ b.toInt)
  | .gt => decide (a.toInt > b.toInt)
  | .ge => decide (a.toInt ≥ b.toInt)
  | .ltn => decide (a.toNat < b.toNat)
  | .len => decide (a.toNat ≤ b.toNat)
  | .gtn => decide (a.toNat > b.toNat)
  | .gen => decide (a.toNat ≥ b.toNat)

/-- One round of VRAND's function (R97). -/
def randRounds : Nat → Nat → Nat → Nat → Nat → Nat → Nat → Nat × Nat × Nat × Nat
  | 0, _, _, x0, x1, x2, x3 => (x0, x1, x2, x3)
  | n + 1, k0, k1, x0, x1, x2, x3 =>
    let m0 := x0 * 0xD2511F53
    let m1 := x2 * 0xCD9E8D57
    randRounds n ((k0 + 0x9E3779B9) % 2 ^ 32) ((k1 + 0xBB67AE85) % 2 ^ 32)
      (m1 / 2 ^ 32 ^^^ x1 ^^^ k0) (m1 % 2 ^ 32) (m0 / 2 ^ 32 ^^^ x3 ^^^ k1) (m0 % 2 ^ 32)

/-- Word w of the number of (seed, counter) (R97). -/
def vrand (seed : DWord) (b : Word) (w : Nat) : Word :=
  let r := randRounds 10 (seed.toNat % 2 ^ 32) (seed.toNat / 2 ^ 32) b.toNat 0 0 0
  BitVec.ofNat 32 (match w with
    | 0 => r.1
    | 1 => r.2.1
    | 2 => r.2.2.1
    | _ => r.2.2.2)

/-- VADD (R89): Per-lane add of two vectors. -/
def execVadd (d a b : BitVec 7) (s : State) : Out :=
  issue (.lanes [vW d, vR a, vR b]) s fun e =>
    .next (e.putV d e.exec fun l => alu .add (e.v32 a l) (e.v32 b l)).done

/-- VSUB (R89): Per-lane subtract of two vectors. -/
def execVsub (d a b : BitVec 7) (s : State) : Out :=
  issue (.lanes [vW d, vR a, vR b]) s fun e =>
    .next (e.putV d e.exec fun l => alu .sub (e.v32 a l) (e.v32 b l)).done

/-- VAND (R89): Per-lane AND of two vectors. -/
def execVand (d a b : BitVec 7) (s : State) : Out :=
  issue (.lanes [vW d, vR a, vR b]) s fun e =>
    .next (e.putV d e.exec fun l => alu .and (e.v32 a l) (e.v32 b l)).done

/-- VOR (R89): Per-lane OR of two vectors. -/
def execVor (d a b : BitVec 7) (s : State) : Out :=
  issue (.lanes [vW d, vR a, vR b]) s fun e =>
    .next (e.putV d e.exec fun l => alu .or (e.v32 a l) (e.v32 b l)).done

/-- VXOR (R89): Per-lane XOR of two vectors. -/
def execVxor (d a b : BitVec 7) (s : State) : Out :=
  issue (.lanes [vW d, vR a, vR b]) s fun e =>
    .next (e.putV d e.exec fun l => alu .xor (e.v32 a l) (e.v32 b l)).done

/-- VSHL (R89): Per-lane shift left by a vector amount. -/
def execVshl (d a b : BitVec 7) (s : State) : Out :=
  issue (.lanes [vW d, vR a, vR b]) s fun e =>
    .next (e.putV d e.exec fun l => alu .shl (e.v32 a l) (e.v32 b l)).done

/-- VSHR (R89): Per-lane logical shift right by a vector amount. -/
def execVshr (d a b : BitVec 7) (s : State) : Out :=
  issue (.lanes [vW d, vR a, vR b]) s fun e =>
    .next (e.putV d e.exec fun l => alu .shr (e.v32 a l) (e.v32 b l)).done

/-- VSAR (R89): Per-lane arithmetic shift right by a vector amount. -/
def execVsar (d a b : BitVec 7) (s : State) : Out :=
  issue (.lanes [vW d, vR a, vR b]) s fun e =>
    .next (e.putV d e.exec fun l => alu .sar (e.v32 a l) (e.v32 b l)).done

/-- VMIN (R89): Per-lane signed minimum. -/
def execVmin (d a b : BitVec 7) (s : State) : Out :=
  issue (.lanes [vW d, vR a, vR b]) s fun e =>
    .next (e.putV d e.exec fun l => alu .min (e.v32 a l) (e.v32 b l)).done

/-- VMAX (R89): Per-lane signed maximum. -/
def execVmax (d a b : BitVec 7) (s : State) : Out :=
  issue (.lanes [vW d, vR a, vR b]) s fun e =>
    .next (e.putV d e.exec fun l => alu .max (e.v32 a l) (e.v32 b l)).done

/-- VMINN (R89): Per-lane unsigned minimum. -/
def execVminn (d a b : BitVec 7) (s : State) : Out :=
  issue (.lanes [vW d, vR a, vR b]) s fun e =>
    .next (e.putV d e.exec fun l => alu .minn (e.v32 a l) (e.v32 b l)).done

/-- VMAXN (R89): Per-lane unsigned maximum. -/
def execVmaxn (d a b : BitVec 7) (s : State) : Out :=
  issue (.lanes [vW d, vR a, vR b]) s fun e =>
    .next (e.putV d e.exec fun l => alu .maxn (e.v32 a l) (e.v32 b l)).done

/-- VMUL (R89): Per-lane multiply, low 32 bits. -/
def execVmul (d a b : BitVec 7) (s : State) : Out :=
  issue (.lanes [vW d, vR a, vR b]) s fun e =>
    .next (e.putV d e.exec fun l => alu .mul (e.v32 a l) (e.v32 b l)).done

/-- VMULH (R89): Per-lane signed multiply, high 32 bits. -/
def execVmulh (d a b : BitVec 7) (s : State) : Out :=
  issue (.lanes [vW d, vR a, vR b]) s fun e =>
    .next (e.putV d e.exec fun l => alu .mulh (e.v32 a l) (e.v32 b l)).done

/-- VMULHN (R89): Per-lane unsigned multiply, high 32 bits. -/
def execVmulhn (d a b : BitVec 7) (s : State) : Out :=
  issue (.lanes [vW d, vR a, vR b]) s fun e =>
    .next (e.putV d e.exec fun l => alu .mulhn (e.v32 a l) (e.v32 b l)).done

/-- VANDN (R89): Per-lane a AND NOT b. -/
def execVandn (d a b : BitVec 7) (s : State) : Out :=
  issue (.lanes [vW d, vR a, vR b]) s fun e =>
    .next (e.putV d e.exec fun l => alu .andn (e.v32 a l) (e.v32 b l)).done

/-- VADD_S (R89): Per-lane add of a vector and a scalar. -/
def execVaddS (d a b : BitVec 7) (s : State) : Out :=
  issue (.lanes [vW d, vR a, sR b]) s fun e =>
    .next (e.putV d e.exec fun l => alu .add (e.v32 a l) (e.s32 b)).done

/-- VSUB_S (R89): Per-lane subtract of a scalar from a vector. -/
def execVsubS (d a b : BitVec 7) (s : State) : Out :=
  issue (.lanes [vW d, vR a, sR b]) s fun e =>
    .next (e.putV d e.exec fun l => alu .sub (e.v32 a l) (e.s32 b)).done

/-- VAND_S (R89): Per-lane AND with a scalar. -/
def execVandS (d a b : BitVec 7) (s : State) : Out :=
  issue (.lanes [vW d, vR a, sR b]) s fun e =>
    .next (e.putV d e.exec fun l => alu .and (e.v32 a l) (e.s32 b)).done

/-- VOR_S (R89): Per-lane OR with a scalar. -/
def execVorS (d a b : BitVec 7) (s : State) : Out :=
  issue (.lanes [vW d, vR a, sR b]) s fun e =>
    .next (e.putV d e.exec fun l => alu .or (e.v32 a l) (e.s32 b)).done

/-- VXOR_S (R89): Per-lane XOR with a scalar. -/
def execVxorS (d a b : BitVec 7) (s : State) : Out :=
  issue (.lanes [vW d, vR a, sR b]) s fun e =>
    .next (e.putV d e.exec fun l => alu .xor (e.v32 a l) (e.s32 b)).done

/-- VSHL_S (R89): Per-lane shift left by a scalar amount. -/
def execVshlS (d a b : BitVec 7) (s : State) : Out :=
  issue (.lanes [vW d, vR a, sR b]) s fun e =>
    .next (e.putV d e.exec fun l => alu .shl (e.v32 a l) (e.s32 b)).done

/-- VSHR_S (R89): Per-lane logical shift right by a scalar amount. -/
def execVshrS (d a b : BitVec 7) (s : State) : Out :=
  issue (.lanes [vW d, vR a, sR b]) s fun e =>
    .next (e.putV d e.exec fun l => alu .shr (e.v32 a l) (e.s32 b)).done

/-- VSAR_S (R89): Per-lane arithmetic shift right by a scalar amount. -/
def execVsarS (d a b : BitVec 7) (s : State) : Out :=
  issue (.lanes [vW d, vR a, sR b]) s fun e =>
    .next (e.putV d e.exec fun l => alu .sar (e.v32 a l) (e.s32 b)).done

/-- VMIN_S (R89): Per-lane signed minimum with a scalar. -/
def execVminS (d a b : BitVec 7) (s : State) : Out :=
  issue (.lanes [vW d, vR a, sR b]) s fun e =>
    .next (e.putV d e.exec fun l => alu .min (e.v32 a l) (e.s32 b)).done

/-- VMAX_S (R89): Per-lane signed maximum with a scalar. -/
def execVmaxS (d a b : BitVec 7) (s : State) : Out :=
  issue (.lanes [vW d, vR a, sR b]) s fun e =>
    .next (e.putV d e.exec fun l => alu .max (e.v32 a l) (e.s32 b)).done

/-- VMINN_S (R89): Per-lane unsigned minimum with a scalar. -/
def execVminnS (d a b : BitVec 7) (s : State) : Out :=
  issue (.lanes [vW d, vR a, sR b]) s fun e =>
    .next (e.putV d e.exec fun l => alu .minn (e.v32 a l) (e.s32 b)).done

/-- VMAXN_S (R89): Per-lane unsigned maximum with a scalar. -/
def execVmaxnS (d a b : BitVec 7) (s : State) : Out :=
  issue (.lanes [vW d, vR a, sR b]) s fun e =>
    .next (e.putV d e.exec fun l => alu .maxn (e.v32 a l) (e.s32 b)).done

/-- VMUL_S (R89): Per-lane multiply by a scalar, low 32 bits. -/
def execVmulS (d a b : BitVec 7) (s : State) : Out :=
  issue (.lanes [vW d, vR a, sR b]) s fun e =>
    .next (e.putV d e.exec fun l => alu .mul (e.v32 a l) (e.s32 b)).done

/-- VMULH_S (R89): Per-lane signed multiply by a scalar, high 32 bits. -/
def execVmulhS (d a b : BitVec 7) (s : State) : Out :=
  issue (.lanes [vW d, vR a, sR b]) s fun e =>
    .next (e.putV d e.exec fun l => alu .mulh (e.v32 a l) (e.s32 b)).done

/-- VMULHN_S (R89): Per-lane unsigned multiply by a scalar, high 32 bits. -/
def execVmulhnS (d a b : BitVec 7) (s : State) : Out :=
  issue (.lanes [vW d, vR a, sR b]) s fun e =>
    .next (e.putV d e.exec fun l => alu .mulhn (e.v32 a l) (e.s32 b)).done

/-- VANDN_S (R89): Per-lane a AND NOT scalar. -/
def execVandnS (d a b : BitVec 7) (s : State) : Out :=
  issue (.lanes [vW d, vR a, sR b]) s fun e =>
    .next (e.putV d e.exec fun l => alu .andn (e.v32 a l) (e.s32 b)).done

/-- VADDI (R90): Per-lane add of a sign-extended immediate. -/
def execVaddi (d a : BitVec 7) (i : BitVec 11) (s : State) : Out :=
  issue (.lanes [vW d, vR a]) s fun e =>
    .next (e.putV d e.exec fun l => alu .add (e.v32 a l) (immS i)).done

/-- VANDI (R90): Per-lane AND with an immediate. -/
def execVandi (d a : BitVec 7) (i : BitVec 11) (s : State) : Out :=
  issue (.lanes [vW d, vR a]) s fun e =>
    .next (e.putV d e.exec fun l => alu .and (e.v32 a l) (immZ i)).done

/-- VORI (R90): Per-lane OR with an immediate. -/
def execVori (d a : BitVec 7) (i : BitVec 11) (s : State) : Out :=
  issue (.lanes [vW d, vR a]) s fun e =>
    .next (e.putV d e.exec fun l => alu .or (e.v32 a l) (immZ i)).done

/-- VXORI (R90): Per-lane XOR with an immediate. -/
def execVxori (d a : BitVec 7) (i : BitVec 11) (s : State) : Out :=
  issue (.lanes [vW d, vR a]) s fun e =>
    .next (e.putV d e.exec fun l => alu .xor (e.v32 a l) (immZ i)).done

/-- VSHL_IMM (R90): Per-lane shift left by an immediate. -/
def execVshlImm (d a : BitVec 7) (n : BitVec 5) (s : State) : Out :=
  issue (.lanes [vW d, vR a]) s fun e =>
    .next (e.putV d e.exec fun l => alu .shl (e.v32 a l) (immZ n)).done

/-- VSHR_IMM (R90): Per-lane logical shift right by an immediate. -/
def execVshrImm (d a : BitVec 7) (n : BitVec 5) (s : State) : Out :=
  issue (.lanes [vW d, vR a]) s fun e =>
    .next (e.putV d e.exec fun l => alu .shr (e.v32 a l) (immZ n)).done

/-- VSAR_IMM (R90): Per-lane arithmetic shift right by an immediate. -/
def execVsarImm (d a : BitVec 7) (n : BitVec 5) (s : State) : Out :=
  issue (.lanes [vW d, vR a]) s fun e =>
    .next (e.putV d e.exec fun l => alu .sar (e.v32 a l) (immZ n)).done

/-- VROT (R90): Per-lane rotate left by an immediate. -/
def execVrot (d a : BitVec 7) (n : BitVec 5) (s : State) : Out :=
  issue (.lanes [vW d, vR a]) s fun e =>
    .next (e.putV d e.exec fun l => rotl (e.v32 a l) n.toNat).done

/-- VMOVI (R90): Writes a sign-extended 18-bit immediate into each active lane. -/
def execVmovi (d : BitVec 7) (i : BitVec 18) (s : State) : Out :=
  issue (.lanes [vW d]) s fun e =>
    .next (e.putV d e.exec fun _ => immS i).done

/-- MADLO_I32 (R91): Per-lane signed multiply-add, low half. -/
def execMadloI32 (d a b : BitVec 7) (s : State) : Out :=
  issue (.lanes [vX d, vR a, vR b]) s fun e =>
    .next (e.putV d e.exec fun l => madLo true (e.v32 a l) (e.v32 b l) (e.v32 d l)).done

/-- MADHI_I32 (R91): Per-lane signed multiply-add, high half. -/
def execMadhiI32 (d a b : BitVec 7) (s : State) : Out :=
  issue (.lanes [vX d, vR a, vR b]) s fun e =>
    .next (e.putV d e.exec fun l => madHi true (e.v32 a l) (e.v32 b l) (e.v32 d l)).done

/-- MADLO_N32 (R91): Per-lane unsigned multiply-add, low half. -/
def execMadloN32 (d a b : BitVec 7) (s : State) : Out :=
  issue (.lanes [vX d, vR a, vR b]) s fun e =>
    .next (e.putV d e.exec fun l => madLo false (e.v32 a l) (e.v32 b l) (e.v32 d l)).done

/-- MADHI_N32 (R91): Per-lane unsigned multiply-add, high half. -/
def execMadhiN32 (d a b : BitVec 7) (s : State) : Out :=
  issue (.lanes [vX d, vR a, vR b]) s fun e =>
    .next (e.putV d e.exec fun l => madHi false (e.v32 a l) (e.v32 b l) (e.v32 d l)).done

/-- VCMP_EQ (R92): Per-lane equality compare of two vectors into a predicate. -/
def execVcmpEq (d a b : BitVec 7) (s : State) : Out :=
  issue (.lanes [qW d, vR a, vR b]) s fun e =>
    .next (e.putP d e.exec (maskOf fun l => cmpHolds .eq (e.v32 a l) (e.v32 b l))).done

/-- VCMPS_EQ (R92): Per-lane equality compare with a scalar. -/
def execVcmpsEq (d a b : BitVec 7) (s : State) : Out :=
  issue (.lanes [qW d, vR a, sR b]) s fun e =>
    .next (e.putP d e.exec (maskOf fun l => cmpHolds .eq (e.v32 a l) (e.s32 b))).done

/-- VCMP_NE (R92): Per-lane inequality compare into a predicate. -/
def execVcmpNe (d a b : BitVec 7) (s : State) : Out :=
  issue (.lanes [qW d, vR a, vR b]) s fun e =>
    .next (e.putP d e.exec (maskOf fun l => cmpHolds .ne (e.v32 a l) (e.v32 b l))).done

/-- VCMPS_NE (R92): Per-lane inequality compare with a scalar. -/
def execVcmpsNe (d a b : BitVec 7) (s : State) : Out :=
  issue (.lanes [qW d, vR a, sR b]) s fun e =>
    .next (e.putP d e.exec (maskOf fun l => cmpHolds .ne (e.v32 a l) (e.s32 b))).done

/-- VCMP_LT (R92): Per-lane signed less-than compare. -/
def execVcmpLt (d a b : BitVec 7) (s : State) : Out :=
  issue (.lanes [qW d, vR a, vR b]) s fun e =>
    .next (e.putP d e.exec (maskOf fun l => cmpHolds .lt (e.v32 a l) (e.v32 b l))).done

/-- VCMPS_LT (R92): Per-lane signed less-than compare with a scalar. -/
def execVcmpsLt (d a b : BitVec 7) (s : State) : Out :=
  issue (.lanes [qW d, vR a, sR b]) s fun e =>
    .next (e.putP d e.exec (maskOf fun l => cmpHolds .lt (e.v32 a l) (e.s32 b))).done

/-- VCMP_LE (R92): Per-lane signed less-or-equal compare. -/
def execVcmpLe (d a b : BitVec 7) (s : State) : Out :=
  issue (.lanes [qW d, vR a, vR b]) s fun e =>
    .next (e.putP d e.exec (maskOf fun l => cmpHolds .le (e.v32 a l) (e.v32 b l))).done

/-- VCMPS_LE (R92): Per-lane signed less-or-equal compare with a scalar. -/
def execVcmpsLe (d a b : BitVec 7) (s : State) : Out :=
  issue (.lanes [qW d, vR a, sR b]) s fun e =>
    .next (e.putP d e.exec (maskOf fun l => cmpHolds .le (e.v32 a l) (e.s32 b))).done

/-- VCMP_GT (R92): Per-lane signed greater-than compare. -/
def execVcmpGt (d a b : BitVec 7) (s : State) : Out :=
  issue (.lanes [qW d, vR a, vR b]) s fun e =>
    .next (e.putP d e.exec (maskOf fun l => cmpHolds .gt (e.v32 a l) (e.v32 b l))).done

/-- VCMPS_GT (R92): Per-lane signed greater-than compare with a scalar. -/
def execVcmpsGt (d a b : BitVec 7) (s : State) : Out :=
  issue (.lanes [qW d, vR a, sR b]) s fun e =>
    .next (e.putP d e.exec (maskOf fun l => cmpHolds .gt (e.v32 a l) (e.s32 b))).done

/-- VCMP_GE (R92): Per-lane signed greater-or-equal compare. -/
def execVcmpGe (d a b : BitVec 7) (s : State) : Out :=
  issue (.lanes [qW d, vR a, vR b]) s fun e =>
    .next (e.putP d e.exec (maskOf fun l => cmpHolds .ge (e.v32 a l) (e.v32 b l))).done

/-- VCMPS_GE (R92): Per-lane signed greater-or-equal compare with a scalar. -/
def execVcmpsGe (d a b : BitVec 7) (s : State) : Out :=
  issue (.lanes [qW d, vR a, sR b]) s fun e =>
    .next (e.putP d e.exec (maskOf fun l => cmpHolds .ge (e.v32 a l) (e.s32 b))).done

/-- VCMP_LTN (R92): Per-lane unsigned less-than compare. -/
def execVcmpLtn (d a b : BitVec 7) (s : State) : Out :=
  issue (.lanes [qW d, vR a, vR b]) s fun e =>
    .next (e.putP d e.exec (maskOf fun l => cmpHolds .ltn (e.v32 a l) (e.v32 b l))).done

/-- VCMPS_LTN (R92): Per-lane unsigned less-than compare with a scalar. -/
def execVcmpsLtn (d a b : BitVec 7) (s : State) : Out :=
  issue (.lanes [qW d, vR a, sR b]) s fun e =>
    .next (e.putP d e.exec (maskOf fun l => cmpHolds .ltn (e.v32 a l) (e.s32 b))).done

/-- VCMP_LEN (R92): Per-lane unsigned less-or-equal compare. -/
def execVcmpLen (d a b : BitVec 7) (s : State) : Out :=
  issue (.lanes [qW d, vR a, vR b]) s fun e =>
    .next (e.putP d e.exec (maskOf fun l => cmpHolds .len (e.v32 a l) (e.v32 b l))).done

/-- VCMPS_LEN (R92): Per-lane unsigned less-or-equal compare with a scalar. -/
def execVcmpsLen (d a b : BitVec 7) (s : State) : Out :=
  issue (.lanes [qW d, vR a, sR b]) s fun e =>
    .next (e.putP d e.exec (maskOf fun l => cmpHolds .len (e.v32 a l) (e.s32 b))).done

/-- VCMP_GTN (R92): Per-lane unsigned greater-than compare. -/
def execVcmpGtn (d a b : BitVec 7) (s : State) : Out :=
  issue (.lanes [qW d, vR a, vR b]) s fun e =>
    .next (e.putP d e.exec (maskOf fun l => cmpHolds .gtn (e.v32 a l) (e.v32 b l))).done

/-- VCMPS_GTN (R92): Per-lane unsigned greater-than compare with a scalar. -/
def execVcmpsGtn (d a b : BitVec 7) (s : State) : Out :=
  issue (.lanes [qW d, vR a, sR b]) s fun e =>
    .next (e.putP d e.exec (maskOf fun l => cmpHolds .gtn (e.v32 a l) (e.s32 b))).done

/-- VCMP_GEN (R92): Per-lane unsigned greater-or-equal compare. -/
def execVcmpGen (d a b : BitVec 7) (s : State) : Out :=
  issue (.lanes [qW d, vR a, vR b]) s fun e =>
    .next (e.putP d e.exec (maskOf fun l => cmpHolds .gen (e.v32 a l) (e.v32 b l))).done

/-- VCMPS_GEN (R92): Per-lane unsigned greater-or-equal compare with a scalar. -/
def execVcmpsGen (d a b : BitVec 7) (s : State) : Out :=
  issue (.lanes [qW d, vR a, sR b]) s fun e =>
    .next (e.putP d e.exec (maskOf fun l => cmpHolds .gen (e.v32 a l) (e.s32 b))).done

/-- VSEL (R93): Per-lane select between two vectors under a predicate p0 to p15. -/
def execVsel (d a b : BitVec 7) (p : BitVec 4) (s : State) : Out :=
  issue (.lanes [vW d, vR a, vR b]) s fun e =>
    .next (e.putV d e.exec fun l => if laneIn (e.p32 (p.zeroExtend 7)) l then e.v32 a l else e.v32 b l).done

/-- VMOV (R94): Per-lane vector move. -/
def execVmov (d a : BitVec 7) (s : State) : Out :=
  issue (.lanes [vW d, vR a]) s fun e =>
    .next (e.putV d e.exec fun l => e.v32 a l).done

/-- VNOT (R94): Per-lane bitwise NOT. -/
def execVnot (d a : BitVec 7) (s : State) : Out :=
  issue (.lanes [vW d, vR a]) s fun e =>
    .next (e.putV d e.exec fun l => ~~~(e.v32 a l)).done

/-- VNEG (R94): Per-lane negate. -/
def execVneg (d a : BitVec 7) (s : State) : Out :=
  issue (.lanes [vW d, vR a]) s fun e =>
    .next (e.putV d e.exec fun l => 0#32 - e.v32 a l).done

/-- VABS (R94): Per-lane absolute value. -/
def execVabs (d a : BitVec 7) (s : State) : Out :=
  issue (.lanes [vW d, vR a]) s fun e =>
    .next (e.putV d e.exec fun l => absW (e.v32 a l)).done

/-- VCLZ (R94): Per-lane count of leading zeros. -/
def execVclz (d a : BitVec 7) (s : State) : Out :=
  issue (.lanes [vW d, vR a]) s fun e =>
    .next (e.putV d e.exec fun l => clz (e.v32 a l)).done

/-- VPOPC (R94): Per-lane count of one bits. -/
def execVpopc (d a : BitVec 7) (s : State) : Out :=
  issue (.lanes [vW d, vR a]) s fun e =>
    .next (e.putV d e.exec fun l => popc (e.v32 a l)).done

/-- VBREV (R94): Per-lane bit reversal. -/
def execVbrev (d a : BitVec 7) (s : State) : Out :=
  issue (.lanes [vW d, vR a]) s fun e =>
    .next (e.putV d e.exec fun l => brev (e.v32 a l)).done

/-- VSEXT8 (R94): Per-lane sign extension of the low byte. -/
def execVsext8 (d a : BitVec 7) (s : State) : Out :=
  issue (.lanes [vW d, vR a]) s fun e =>
    .next (e.putV d e.exec fun l => sext8 (e.v32 a l)).done

/-- VSEXT16 (R94): Per-lane sign extension of the low half. -/
def execVsext16 (d a : BitVec 7) (s : State) : Out :=
  issue (.lanes [vW d, vR a]) s fun e =>
    .next (e.putV d e.exec fun l => sext16 (e.v32 a l)).done

/-- VZEXT8 (R94): Per-lane zero extension of the low byte. -/
def execVzext8 (d a : BitVec 7) (s : State) : Out :=
  issue (.lanes [vW d, vR a]) s fun e =>
    .next (e.putV d e.exec fun l => e.v32 a l &&& 0xFF#32).done

/-- VZEXT16 (R94): Per-lane zero extension of the low half. -/
def execVzext16 (d a : BitVec 7) (s : State) : Out :=
  issue (.lanes [vW d, vR a]) s fun e =>
    .next (e.putV d e.exec fun l => e.v32 a l &&& 0xFFFF#32).done

/-- VLANE (R94): Writes each active lane's lane number. -/
def execVlane (d : BitVec 7) (s : State) : Out :=
  issue (.lanes [vW d]) s fun e =>
    .next (e.putV d e.exec fun l => BitVec.ofNat 32 l).done

/-- VBFE_N (R95): Per-lane unsigned bit-field extract. -/
def execVbfeN (d a b : BitVec 7) (s : State) : Out :=
  issue (.lanes [vW d, vR a, vR b]) s fun e =>
    .next (e.putV d e.exec fun l => vbfeN (e.v32 a l) (e.v32 b l)).done

/-- VBFE_I (R95): Per-lane signed bit-field extract. -/
def execVbfeI (d a b : BitVec 7) (s : State) : Out :=
  issue (.lanes [vW d, vR a, vR b]) s fun e =>
    .next (e.putV d e.exec fun l => vbfeI (e.v32 a l) (e.v32 b l)).done

/-- VBFI (R95): Per-lane bit-field insert. -/
def execVbfi (d a b : BitVec 7) (s : State) : Out :=
  issue (.lanes [vX d, vR a, vR b]) s fun e =>
    .next (e.putV d e.exec fun l => vbfi (e.v32 d l) (e.v32 a l) (e.v32 b l)).done

/-- VLEA_N (R96): Forms a 64-bit address per lane from a base and an unsigned shifted index. -/
def execVleaN (d a b : BitVec 7) (sh : BitVec 2) (s : State) : Out :=
  issue (.lanes [vpW d, pR a, vR b]) s fun e =>
    let addr (l : Nat) : DWord := e.s64 a + (((e.v32 b l).zeroExtend 64) <<< sh.toNat)
    .next ((e.putVi d 0 e.exec fun l => loHalf (addr l)).putVi d 1 e.exec fun l => hiHalf (addr l)).done

/-- VLEA_I (R96): Forms a 64-bit address per lane from a base and a signed shifted index. -/
def execVleaI (d a b : BitVec 7) (sh : BitVec 2) (s : State) : Out :=
  issue (.lanes [vpW d, pR a, vR b]) s fun e =>
    let addr (l : Nat) : DWord := e.s64 a + (((e.v32 b l).signExtend 64) <<< sh.toNat)
    .next ((e.putVi d 0 e.exec fun l => loHalf (addr l)).putVi d 1 e.exec fun l => hiHalf (addr l)).done

/-- VRAND (R97): Writes one word of a stateless 128-bit random number per lane. -/
def execVrand (d a b : BitVec 7) (w : BitVec 2) (s : State) : Out :=
  issue (.lanes [vW d, pR a, vR b]) s fun e =>
    .next (e.putV d e.exec fun l => vrand (e.s64 a) (e.v32 b l) w.toNat).done

/-- PAND (R98): Per-lane predicate AND. -/
def execPand (d a b : BitVec 7) (s : State) : Out :=
  issue (.lanes [qW d, qR a, qR b]) s fun e =>
    .next (e.putP d e.exec (e.p32 a &&& e.p32 b)).done

/-- POR (R98): Per-lane predicate OR. -/
def execPor (d a b : BitVec 7) (s : State) : Out :=
  issue (.lanes [qW d, qR a, qR b]) s fun e =>
    .next (e.putP d e.exec (e.p32 a ||| e.p32 b)).done

/-- PXOR (R98): Per-lane predicate XOR. -/
def execPxor (d a b : BitVec 7) (s : State) : Out :=
  issue (.lanes [qW d, qR a, qR b]) s fun e =>
    .next (e.putP d e.exec (e.p32 a ^^^ e.p32 b)).done

/-- PANDN (R98): Per-lane predicate a AND NOT b. -/
def execPandn (d a b : BitVec 7) (s : State) : Out :=
  issue (.lanes [qW d, qR a, qR b]) s fun e =>
    .next (e.putP d e.exec (e.p32 a &&& ~~~(e.p32 b))).done

/-- PORN (R98): Per-lane predicate a OR NOT b. -/
def execPorn (d a b : BitVec 7) (s : State) : Out :=
  issue (.lanes [qW d, qR a, qR b]) s fun e =>
    .next (e.putP d e.exec (e.p32 a ||| ~~~(e.p32 b))).done

/-- PNOT (R98): Per-lane predicate NOT. -/
def execPnot (d a : BitVec 7) (s : State) : Out :=
  issue (.lanes [qW d, qR a]) s fun e =>
    .next (e.putP d e.exec (~~~(e.p32 a))).done

/-- PMOV (R98): Per-lane predicate move. -/
def execPmov (d a : BitVec 7) (s : State) : Out :=
  issue (.lanes [qW d, qR a]) s fun e =>
    .next (e.putP d e.exec (e.p32 a)).done

/-- PSET (R98): Sets a predicate in each active lane. -/
def execPset (d : BitVec 7) (s : State) : Out :=
  issue (.lanes [qW d]) s fun e =>
    .next (e.putP d e.exec (0xFFFFFFFF#32)).done

/-- PCLR (R98): Clears a predicate in each active lane. -/
def execPclr (d : BitVec 7) (s : State) : Out :=
  issue (.lanes [qW d]) s fun e =>
    .next (e.putP d e.exec (0#32)).done

/-- PTOV (R99): Converts a predicate to 0 or 1 per lane. -/
def execPtov (d a : BitVec 7) (s : State) : Out :=
  issue (.lanes [vW d, qR a]) s fun e =>
    .next (e.putV d e.exec fun l => if laneIn (e.p32 a) l then 1#32 else 0#32).done

/-- VTOP (R99): Sets a predicate where a vector element is non-zero. -/
def execVtop (d a : BitVec 7) (s : State) : Out :=
  issue (.lanes [qW d, vR a]) s fun e =>
    .next (e.putP d e.exec (maskOf fun l => e.v32 a l != 0#32)).done

end Sys2Proof.Machine
end

