-- ==== Sys2Proof/Machine/Fp.lean ====
section
/-!
DEFINITION. Floating-point instructions (spec/04_lane_arithmetic.md, R100 to R112; 03_number_formats.md): exact results rounded once; NaN results canonical (R56).
-/
namespace Sys2Proof.Machine

/-- Lane l of a vector as an exact FP32 value. -/
def Env.f32 (e : Env) (r : BitVec 7) (l : Nat) : FVal := Fmt.f32.decode (e.v32 r l).toNat
/-- A scalar as an exact FP32 value. -/
def Env.fs32 (e : Env) (r : BitVec 7) : FVal := Fmt.f32.decode (e.s32 r).toNat

/-- FADD, FSUB and FMUL before rounding (R100); a sum's zero sign depends on the mode (R58). -/
inductive FOp where
  | add | sub | mul
  deriving DecidableEq, Repr

def fOp (op : FOp) (m : Rm) (x y : FVal) : Exact :=
  match op with
  | .add => fAdd m x y
  | .sub => fAdd m x y.negate
  | .mul => fMul x y

/-- FCOPYSIGN (R100). -/
def fCopySign (a b : Word) : Word :=
  if (Fmt.f32.decode a.toNat).isNan then BitVec.ofNat 32 Fmt.f32.nanBits
  else (a &&& 0x7FFFFFFF#32) ||| (b &&& 0x80000000#32)

/-- FP32 lanes: combine exactly, round with DRM, write, raise flags. -/
def Env.fpDrm (e : Env) (d : BitVec 7) (x : Nat → Exact) : Env :=
  e.putRounded d (roundLane Fmt.f32 e.drm e.exec x)

/-- The comparisons of FCMP (R102). -/
inductive FCmp where
  | eq | ne | lt | le | gt | ge | unord | ord
  deriving DecidableEq, Repr

def fCmpHolds (op : FCmp) (x y : FVal) : Bool :=
  match fCompare x y, op with
  | none, .ne => true
  | none, .unord => true
  | none, _ => false
  | some _, .unord => false
  | some _, .ord => true
  | some o, .eq => o == .eq
  | some o, .ne => o != .eq
  | some o, .lt => o == .lt
  | some o, .le => o != .gt
  | some o, .gt => o == .gt
  | some o, .ge => o != .lt

/-- A conversion of FP32 to a format, by a rounding code of the word (R104). -/
def Env.cvtTo (e : Env) (d a : BitVec 7) (f : Fmt) (r : BitVec 3) : Env :=
  e.putRounded d (roundLane f (Rm.ofCode r.toNat) e.exec fun l => ⟨e.f32 a l, 0#32⟩)

/-- A narrow source widened exactly (R104). -/
def Env.cvtFrom (e : Env) (d a : BitVec 7) (f : Fmt) : Env :=
  e.putRounded d fun l => roundTo Fmt.f32 .rne (f.decode ((e.v32 a l).toNat % 2 ^ f.width)) 0

/-- FP32 to a 32-bit integer (R61, R104). -/
def Env.cvtInt (e : Env) (d a : BitVec 7) (signed : Bool) (r : BitVec 3) : Env :=
  let m := Rm.ofCode r.toNat
  let lo : Int := if signed then -(2 ^ 31) else 0
  let hi : Int := if signed then 2 ^ 31 - 1 else 2 ^ 32 - 1
  let dOf (l : Nat) : Nat := srDInt (e.f32 a l) (outsideRange lo hi)
  e.putRounded d fun l => roundInt32 signed m (e.f32 a l) (if m = .sr then srNeighbours e.exec dOf l else 0)

/-- The scale exponent of lane l (R105): byte k of v[B] in lane 8 × (l ÷ 8); `none` is the NaN scale 0xFF. -/
def Env.scaleOf (e : Env) (b : BitVec 7) (k l : Nat) : Option Int :=
  let s := elemOf (e.readLane b (8 * (l / 8))) 8 k
  if s = 255 then none else some ((s : Int) - 127)

/-- The lanes that hold the scales of the active lanes (R105). -/
def scaleLanes (exec : Word) : Word := maskOf fun j => j % 8 == 0 && (List.range 8).any fun i => laneIn exec (j + i)

/-- An exact value times a scale; a NaN scale gives NaN with IV (R105). -/
def scaled (x : FVal) (s : Option Int) (inv : Bool) : Exact :=
  match s with
  | none => ⟨.nan, flagIV⟩
  | some k => ⟨x.scale (if inv then -k else k), 0#32⟩

/-- FCVTSC to FP8: byte k of d, the other bytes unchanged (R105). -/
def Env.cvtScTo (e : Env) (d a b : BitVec 7) (k : Nat) (f : Fmt) : Env :=
  let r := roundLane f e.drm e.exec fun l => scaled (e.f32 a l) (e.scaleOf b k l) true
  (e.putV d e.exec fun l => setElem (e.v32 d l) 8 k (r l).bits).orFlags (lanesFlags e.exec r)

/-- FCVTSC from FP8 (R105). -/
def Env.cvtScFrom (e : Env) (d a b : BitVec 7) (k : Nat) (f : Fmt) : Env :=
  e.fpDrm d fun l => scaled (f.decode (elemOf (e.v32 a l) 8 k)) (e.scaleOf b k l) false

/-- The format of a packed form: BF16 or FP16 (R106, R107). -/
def halfFmt (f : BitVec 1) : Fmt := if f = 1#1 then Fmt.f16 else Fmt.bf16

/-- Packed halves: each element exact, rounded with DRM, its neighbours the same element of the neighbour lanes (R106). -/
def Env.packed (e : Env) (d : BitVec 7) (f : Fmt) (x : Nat → Nat → Exact) : Env :=
  let r (i : Nat) : Nat → Rounded := roundLane f e.drm e.exec (x i)
  (e.putV d e.exec fun l => BitVec.ofNat 32 ((r 0 l).bits + 65536 * (r 1 l).bits)).orFlags
    (lanesFlags e.exec (r 0) ||| lanesFlags e.exec (r 1))

def Env.half (e : Env) (f : Fmt) (r : BitVec 7) (i l : Nat) : FVal := f.decode (elemOf (e.v32 r l) 16 i)

/-- Packed minimumNumber and maximumNumber (R106). -/
def halfMinMax (f : Fmt) (isMax : Bool) (a b : Word) : Word :=
  BitVec.ofNat 32 (fMinMax f isMax (elemOf a 16 0) (elemOf b 16 0) + 65536 * fMinMax f isMax (elemOf a 16 1) (elemOf b 16 1))

/-- A floating dot product of n elements of width w (R70, R108). -/
def Env.dot (e : Env) (d a b : BitVec 7) (n w : Nat) (fa fb : Nat → FVal) : Env :=
  e.fpDrm d fun l => fDot e.drm
    ((List.range n).map fun i => (fa (elemOf (e.v32 a l) w i), fb (elemOf (e.v32 b l) w i))) (e.f32 d l)

/-- DOT4.i8 and DOT4.n8 (R108). -/
def dotInt (signed : Bool) (d a b : Word) : Word :=
  let el (x : Word) (i : Nat) : Int :=
    let v := elemOf x 8 i
    if signed && decide (v ≥ 128) then (v : Int) - 256 else v
  BitVec.ofInt 32 ((List.range 4).foldl (fun t i => t + el a i * el b i) (d.toNat : Int))

/-- Entry c of a codebook slot of a core; an unloaded slot holds +0 (R54, R108). -/
def CoreSt.book (c : CoreSt) (slot i : Nat) : FVal :=
  Fmt.bf16.decode (((tabGetD c.engine.books slot []).getD i 0#16).toNat)

/-- FRND lanes (R110); SR takes a grid spacing of 1. -/
def Env.frnd (e : Env) (d a : BitVec 7) (m : Rm) : Env :=
  let dOf (l : Nat) : Nat := srDInt (e.f32 a l) fun _ _ _ => false
  e.putRounded d fun l => roundIntegral m (e.v32 a l).toNat (if m = .sr then srNeighbours e.exec dOf l else 0)

/-- A special function over the active lanes: its results and flags are written later (R66, R78, R103). -/
def Env.sfu (e : Env) (d : BitVec 7) (g : Nat → Rounded) : Env :=
  e.putLateV d (fun l => BitVec.ofNat 32 (g l).bits) (lanesFlags e.exec g)

/-- FADD (R100): Per-lane FP32 add rounded under DRM. -/
def execFadd (d a b : BitVec 7) (s : State) : Out :=
  issue (.lanes [vW d, vR a, vR b]) s fun e =>
    .next (e.fpDrm d fun l => fOp .add e.drm (e.f32 a l) (e.f32 b l)).done

/-- FSUB (R100): Per-lane FP32 subtract rounded under DRM. -/
def execFsub (d a b : BitVec 7) (s : State) : Out :=
  issue (.lanes [vW d, vR a, vR b]) s fun e =>
    .next (e.fpDrm d fun l => fOp .sub e.drm (e.f32 a l) (e.f32 b l)).done

/-- FMUL (R100): Per-lane FP32 multiply rounded under DRM. -/
def execFmul (d a b : BitVec 7) (s : State) : Out :=
  issue (.lanes [vW d, vR a, vR b]) s fun e =>
    .next (e.fpDrm d fun l => fOp .mul e.drm (e.f32 a l) (e.f32 b l)).done

/-- FMIN (R100): Per-lane FP32 minimumNumber. -/
def execFmin (d a b : BitVec 7) (s : State) : Out :=
  issue (.lanes [vW d, vR a, vR b]) s fun e =>
    .next (e.putV d e.exec fun l => BitVec.ofNat 32 (fMinMax Fmt.f32 false (e.v32 a l).toNat (e.v32 b l).toNat)).done

/-- FMAX (R100): Per-lane FP32 maximumNumber. -/
def execFmax (d a b : BitVec 7) (s : State) : Out :=
  issue (.lanes [vW d, vR a, vR b]) s fun e =>
    .next (e.putV d e.exec fun l => BitVec.ofNat 32 (fMinMax Fmt.f32 true (e.v32 a l).toNat (e.v32 b l).toNat)).done

/-- FCOPYSIGN (R100): Per-lane magnitude of a with the sign of b. -/
def execFcopysign (d a b : BitVec 7) (s : State) : Out :=
  issue (.lanes [vW d, vR a, vR b]) s fun e =>
    .next (e.putV d e.exec fun l => fCopySign (e.v32 a l) (e.v32 b l)).done

/-- FADD_S (R100): Per-lane FP32 add of a scalar. -/
def execFaddS (d a b : BitVec 7) (s : State) : Out :=
  issue (.lanes [vW d, vR a, sR b]) s fun e =>
    .next (e.fpDrm d fun l => fOp .add e.drm (e.f32 a l) (e.fs32 b)).done

/-- FSUB_S (R100): Per-lane FP32 subtract of a scalar. -/
def execFsubS (d a b : BitVec 7) (s : State) : Out :=
  issue (.lanes [vW d, vR a, sR b]) s fun e =>
    .next (e.fpDrm d fun l => fOp .sub e.drm (e.f32 a l) (e.fs32 b)).done

/-- FMUL_S (R100): Per-lane FP32 multiply by a scalar. -/
def execFmulS (d a b : BitVec 7) (s : State) : Out :=
  issue (.lanes [vW d, vR a, sR b]) s fun e =>
    .next (e.fpDrm d fun l => fOp .mul e.drm (e.f32 a l) (e.fs32 b)).done

/-- FMIN_S (R100): Per-lane FP32 minimumNumber with a scalar. -/
def execFminS (d a b : BitVec 7) (s : State) : Out :=
  issue (.lanes [vW d, vR a, sR b]) s fun e =>
    .next (e.putV d e.exec fun l => BitVec.ofNat 32 (fMinMax Fmt.f32 false (e.v32 a l).toNat (e.s32 b).toNat)).done

/-- FMAX_S (R100): Per-lane FP32 maximumNumber with a scalar. -/
def execFmaxS (d a b : BitVec 7) (s : State) : Out :=
  issue (.lanes [vW d, vR a, sR b]) s fun e =>
    .next (e.putV d e.exec fun l => BitVec.ofNat 32 (fMinMax Fmt.f32 true (e.v32 a l).toNat (e.s32 b).toNat)).done

/-- FCOPYSIGN_S (R100): Per-lane magnitude of a with the sign of a scalar. -/
def execFcopysignS (d a b : BitVec 7) (s : State) : Out :=
  issue (.lanes [vW d, vR a, sR b]) s fun e =>
    .next (e.putV d e.exec fun l => fCopySign (e.v32 a l) (e.s32 b)).done

/-- FFMA (R101): Per-lane fused a*b+d with one rounding. -/
def execFfma (d a b : BitVec 7) (r : BitVec 2) (s : State) : Out :=
  issue (.lanes [vX d, vR a, vR b]) s fun e =>
    let m := Rm.ofCode r.toNat
    .next (e.putRounded d (roundLane Fmt.f32 m e.exec fun l => fFma m false false (e.f32 a l) (e.f32 b l) (e.f32 d l))).done

/-- FFMA_NEG (R101): Per-lane fused -a*b+d with one rounding. -/
def execFfmaNeg (d a b : BitVec 7) (r : BitVec 2) (s : State) : Out :=
  issue (.lanes [vX d, vR a, vR b]) s fun e =>
    let m := Rm.ofCode r.toNat
    .next (e.putRounded d (roundLane Fmt.f32 m e.exec fun l => fFma m true false (e.f32 a l) (e.f32 b l) (e.f32 d l))).done

/-- FFMA_SUB (R101): Per-lane fused a*b-d with one rounding. -/
def execFfmaSub (d a b : BitVec 7) (r : BitVec 2) (s : State) : Out :=
  issue (.lanes [vX d, vR a, vR b]) s fun e =>
    let m := Rm.ofCode r.toNat
    .next (e.putRounded d (roundLane Fmt.f32 m e.exec fun l => fFma m false true (e.f32 a l) (e.f32 b l) (e.f32 d l))).done

/-- FFMA_NEGSUB (R101): Per-lane fused -a*b-d with one rounding. -/
def execFfmaNegsub (d a b : BitVec 7) (r : BitVec 2) (s : State) : Out :=
  issue (.lanes [vX d, vR a, vR b]) s fun e =>
    let m := Rm.ofCode r.toNat
    .next (e.putRounded d (roundLane Fmt.f32 m e.exec fun l => fFma m true true (e.f32 a l) (e.f32 b l) (e.f32 d l))).done

/-- FFMAS (R101): Per-lane fused a*s+d with a scalar factor. -/
def execFfmas (d a b : BitVec 7) (r : BitVec 2) (s : State) : Out :=
  issue (.lanes [vX d, vR a, sR b]) s fun e =>
    let m := Rm.ofCode r.toNat
    .next (e.putRounded d (roundLane Fmt.f32 m e.exec fun l => fFma m false false (e.f32 a l) (e.fs32 b) (e.f32 d l))).done

/-- FFMAS_NEG (R101): Per-lane fused -a*s+d with a scalar factor. -/
def execFfmasNeg (d a b : BitVec 7) (r : BitVec 2) (s : State) : Out :=
  issue (.lanes [vX d, vR a, sR b]) s fun e =>
    let m := Rm.ofCode r.toNat
    .next (e.putRounded d (roundLane Fmt.f32 m e.exec fun l => fFma m true false (e.f32 a l) (e.fs32 b) (e.f32 d l))).done

/-- FFMAS_SUB (R101): Per-lane fused a*s-d with a scalar factor. -/
def execFfmasSub (d a b : BitVec 7) (r : BitVec 2) (s : State) : Out :=
  issue (.lanes [vX d, vR a, sR b]) s fun e =>
    let m := Rm.ofCode r.toNat
    .next (e.putRounded d (roundLane Fmt.f32 m e.exec fun l => fFma m false true (e.f32 a l) (e.fs32 b) (e.f32 d l))).done

/-- FFMAS_NEGSUB (R101): Per-lane fused -a*s-d with a scalar factor. -/
def execFfmasNegsub (d a b : BitVec 7) (r : BitVec 2) (s : State) : Out :=
  issue (.lanes [vX d, vR a, sR b]) s fun e =>
    let m := Rm.ofCode r.toNat
    .next (e.putRounded d (roundLane Fmt.f32 m e.exec fun l => fFma m true true (e.f32 a l) (e.fs32 b) (e.f32 d l))).done

/-- FCMP_EQ (R102): Per-lane FP32 equal compare into a predicate. -/
def execFcmpEq (d a b : BitVec 7) (s : State) : Out :=
  issue (.lanes [qW d, vR a, vR b]) s fun e =>
    .next (e.putP d e.exec (maskOf fun l => fCmpHolds .eq (e.f32 a l) (e.f32 b l))).done

/-- FCMP_NE (R102): Per-lane FP32 not-equal compare. -/
def execFcmpNe (d a b : BitVec 7) (s : State) : Out :=
  issue (.lanes [qW d, vR a, vR b]) s fun e =>
    .next (e.putP d e.exec (maskOf fun l => fCmpHolds .ne (e.f32 a l) (e.f32 b l))).done

/-- FCMP_LT (R102): Per-lane FP32 less-than compare. -/
def execFcmpLt (d a b : BitVec 7) (s : State) : Out :=
  issue (.lanes [qW d, vR a, vR b]) s fun e =>
    .next (e.putP d e.exec (maskOf fun l => fCmpHolds .lt (e.f32 a l) (e.f32 b l))).done

/-- FCMP_LE (R102): Per-lane FP32 less-or-equal compare. -/
def execFcmpLe (d a b : BitVec 7) (s : State) : Out :=
  issue (.lanes [qW d, vR a, vR b]) s fun e =>
    .next (e.putP d e.exec (maskOf fun l => fCmpHolds .le (e.f32 a l) (e.f32 b l))).done

/-- FCMP_GT (R102): Per-lane FP32 greater-than compare. -/
def execFcmpGt (d a b : BitVec 7) (s : State) : Out :=
  issue (.lanes [qW d, vR a, vR b]) s fun e =>
    .next (e.putP d e.exec (maskOf fun l => fCmpHolds .gt (e.f32 a l) (e.f32 b l))).done

/-- FCMP_GE (R102): Per-lane FP32 greater-or-equal compare. -/
def execFcmpGe (d a b : BitVec 7) (s : State) : Out :=
  issue (.lanes [qW d, vR a, vR b]) s fun e =>
    .next (e.putP d e.exec (maskOf fun l => fCmpHolds .ge (e.f32 a l) (e.f32 b l))).done

/-- FCMP_UNORD (R102): Per-lane test that either operand is NaN. -/
def execFcmpUnord (d a b : BitVec 7) (s : State) : Out :=
  issue (.lanes [qW d, vR a, vR b]) s fun e =>
    .next (e.putP d e.exec (maskOf fun l => fCmpHolds .unord (e.f32 a l) (e.f32 b l))).done

/-- FCMP_ORD (R102): Per-lane test that neither operand is NaN. -/
def execFcmpOrd (d a b : BitVec 7) (s : State) : Out :=
  issue (.lanes [qW d, vR a, vR b]) s fun e =>
    .next (e.putP d e.exec (maskOf fun l => fCmpHolds .ord (e.f32 a l) (e.f32 b l))).done

/-- FRCP (R103): Long-latency correctly rounded reciprocal. -/
def execFrcp (d a : BitVec 7) (s : State) : Out :=
  issue (.lanes [vW d, vR a]) s fun e =>
    .next (e.sfu d fun l => fRcpEval (e.v32 a l).toNat).done

/-- FRSQ (R103): Long-latency correctly rounded reciprocal square root. -/
def execFrsq (d a : BitVec 7) (s : State) : Out :=
  issue (.lanes [vW d, vR a]) s fun e =>
    .next (e.sfu d fun l => fRsqEval (e.v32 a l).toNat).done

/-- FSQRT (R103): Long-latency correctly rounded square root. -/
def execFsqrt (d a : BitVec 7) (s : State) : Out :=
  issue (.lanes [vW d, vR a]) s fun e =>
    .next (e.sfu d fun l => fSqrtEval (e.v32 a l).toNat).done

/-- FEXP2 (R103): Long-latency correctly rounded base-2 exponential. -/
def execFexp2 (d a : BitVec 7) (s : State) : Out :=
  issue (.lanes [vW d, vR a]) s fun e =>
    .next (e.sfu d fun l => sfuEval .exp2 (e.v32 a l).toNat).done

/-- FLOG2 (R103): Long-latency correctly rounded base-2 logarithm. -/
def execFlog2 (d a : BitVec 7) (s : State) : Out :=
  issue (.lanes [vW d, vR a]) s fun e =>
    .next (e.sfu d fun l => sfuEval .log2 (e.v32 a l).toNat).done

/-- FSIN (R103): Long-latency correctly rounded sine. -/
def execFsin (d a : BitVec 7) (s : State) : Out :=
  issue (.lanes [vW d, vR a]) s fun e =>
    .next (e.sfu d fun l => sfuEval .sin (e.v32 a l).toNat).done

/-- FCOS (R103): Long-latency correctly rounded cosine. -/
def execFcos (d a : BitVec 7) (s : State) : Out :=
  issue (.lanes [vW d, vR a]) s fun e =>
    .next (e.sfu d fun l => sfuEval .cos (e.v32 a l).toNat).done

/-- FTANH (R103): Long-latency correctly rounded hyperbolic tangent. -/
def execFtanh (d a : BitVec 7) (s : State) : Out :=
  issue (.lanes [vW d, vR a]) s fun e =>
    .next (e.sfu d fun l => sfuEval .tanh (e.v32 a l).toNat).done

/-- FDIV (R103): Long-latency correctly rounded division. -/
def execFdiv (d a b : BitVec 7) (s : State) : Out :=
  issue (.lanes [vW d, vR a, vR b]) s fun e =>
    .next (e.sfu d fun l => fDivEval (e.v32 a l).toNat (e.v32 b l).toNat).done

/-- FCVT_BF16_F32 (R104): Converts FP32 to BF16 under a rounding code. -/
def execFcvtBf16F32 (d a : BitVec 7) (r : BitVec 3) (s : State) : Out :=
  issue ((.lanes [vW d, vR a] : Form).need (r.toNat < 5) .badRounding) s fun e =>
    .next (e.cvtTo d a Fmt.bf16 r).done

/-- FCVT_F32_BF16 (R104): Converts BF16 to FP32 exactly. -/
def execFcvtF32Bf16 (d a : BitVec 7) (r : BitVec 3) (s : State) : Out :=
  issue ((.lanes [vW d, vR a] : Form).need (r.toNat < 5) .badRounding) s fun e =>
    .next (e.cvtFrom d a Fmt.bf16).done

/-- FCVT_F16_F32 (R104): Converts FP32 to FP16 under a rounding code. -/
def execFcvtF16F32 (d a : BitVec 7) (r : BitVec 3) (s : State) : Out :=
  issue ((.lanes [vW d, vR a] : Form).need (r.toNat < 5) .badRounding) s fun e =>
    .next (e.cvtTo d a Fmt.f16 r).done

/-- FCVT_F32_F16 (R104): Converts FP16 to FP32 exactly. -/
def execFcvtF32F16 (d a : BitVec 7) (r : BitVec 3) (s : State) : Out :=
  issue ((.lanes [vW d, vR a] : Form).need (r.toNat < 5) .badRounding) s fun e =>
    .next (e.cvtFrom d a Fmt.f16).done

/-- FCVT_E4M3_F32 (R104): Converts FP32 to E4M3 with saturation. -/
def execFcvtE4m3F32 (d a : BitVec 7) (r : BitVec 3) (s : State) : Out :=
  issue ((.lanes [vW d, vR a] : Form).need (r.toNat < 5) .badRounding) s fun e =>
    .next (e.cvtTo d a Fmt.e4m3 r).done

/-- FCVT_F32_E4M3 (R104): Converts E4M3 to FP32 exactly. -/
def execFcvtF32E4m3 (d a : BitVec 7) (r : BitVec 3) (s : State) : Out :=
  issue ((.lanes [vW d, vR a] : Form).need (r.toNat < 5) .badRounding) s fun e =>
    .next (e.cvtFrom d a Fmt.e4m3).done

/-- FCVT_E5M2_F32 (R104): Converts FP32 to E5M2. -/
def execFcvtE5m2F32 (d a : BitVec 7) (r : BitVec 3) (s : State) : Out :=
  issue ((.lanes [vW d, vR a] : Form).need (r.toNat < 5) .badRounding) s fun e =>
    .next (e.cvtTo d a Fmt.e5m2 r).done

/-- FCVT_F32_E5M2 (R104): Converts E5M2 to FP32 exactly. -/
def execFcvtF32E5m2 (d a : BitVec 7) (r : BitVec 3) (s : State) : Out :=
  issue ((.lanes [vW d, vR a] : Form).need (r.toNat < 5) .badRounding) s fun e =>
    .next (e.cvtFrom d a Fmt.e5m2).done

/-- FCVT_I32_F32 (R104): Converts FP32 to a signed 32-bit integer. -/
def execFcvtI32F32 (d a : BitVec 7) (r : BitVec 3) (s : State) : Out :=
  issue ((.lanes [vW d, vR a] : Form).need (r.toNat < 5) .badRounding) s fun e =>
    .next (e.cvtInt d a true r).done

/-- FCVT_N32_F32 (R104): Converts FP32 to an unsigned 32-bit integer. -/
def execFcvtN32F32 (d a : BitVec 7) (r : BitVec 3) (s : State) : Out :=
  issue ((.lanes [vW d, vR a] : Form).need (r.toNat < 5) .badRounding) s fun e =>
    .next (e.cvtInt d a false r).done

/-- FCVT_F32_I32 (R104): Converts a signed 32-bit integer to FP32. -/
def execFcvtF32I32 (d a : BitVec 7) (r : BitVec 3) (s : State) : Out :=
  issue ((.lanes [vW d, vR a] : Form).need (r.toNat < 5) .badRounding) s fun e =>
    .next (e.putRounded d (roundLane Fmt.f32 (Rm.ofCode r.toNat) e.exec fun l => ⟨FVal.ofInt (e.v32 a l).toInt, 0#32⟩)).done

/-- FCVT_F32_N32 (R104): Converts an unsigned 32-bit integer to FP32. -/
def execFcvtF32N32 (d a : BitVec 7) (r : BitVec 3) (s : State) : Out :=
  issue ((.lanes [vW d, vR a] : Form).need (r.toNat < 5) .badRounding) s fun e =>
    .next (e.putRounded d (roundLane Fmt.f32 (Rm.ofCode r.toNat) e.exec fun l => ⟨FVal.ofNat (e.v32 a l).toNat, 0#32⟩)).done

/-- FCVTSC_E4M3_F32 (R105): Converts FP32 to E4M3 byte k under a block scale. -/
def execFcvtscE4m3F32 (d a b : BitVec 7) (k : BitVec 2) (s : State) : Out :=
  issue (.lanes [vX d, vR a, vN b]) s fun e =>
    e.crossRead b (scaleLanes e.exec) fun e => .next (e.cvtScTo d a b k.toNat Fmt.e4m3).done

/-- FCVTSC_F32_E4M3 (R105): Converts E4M3 byte k to FP32 under a block scale. -/
def execFcvtscF32E4m3 (d a b : BitVec 7) (k : BitVec 2) (s : State) : Out :=
  issue (.lanes [vW d, vR a, vN b]) s fun e =>
    e.crossRead b (scaleLanes e.exec) fun e => .next (e.cvtScFrom d a b k.toNat Fmt.e4m3).done

/-- FCVTSC_E5M2_F32 (R105): Converts FP32 to E5M2 byte k under a block scale. -/
def execFcvtscE5m2F32 (d a b : BitVec 7) (k : BitVec 2) (s : State) : Out :=
  issue (.lanes [vX d, vR a, vN b]) s fun e =>
    e.crossRead b (scaleLanes e.exec) fun e => .next (e.cvtScTo d a b k.toNat Fmt.e5m2).done

/-- FCVTSC_F32_E5M2 (R105): Converts E5M2 byte k to FP32 under a block scale. -/
def execFcvtscF32E5m2 (d a b : BitVec 7) (k : BitVec 2) (s : State) : Out :=
  issue (.lanes [vW d, vR a, vN b]) s fun e =>
    e.crossRead b (scaleLanes e.exec) fun e => .next (e.cvtScFrom d a b k.toNat Fmt.e5m2).done

/-- HADD2 (R106): Packed add of two BF16 or FP16 elements. -/
def execHadd2 (d a b : BitVec 7) (f : BitVec 1) (s : State) : Out :=
  issue (.lanes [vW d, vR a, vR b]) s fun e =>
    let t := halfFmt f
    .next (e.packed d t fun i l => fOp .add e.drm (e.half t a i l) (e.half t b i l)).done

/-- HSUB2 (R106): Packed subtract of two 16-bit elements. -/
def execHsub2 (d a b : BitVec 7) (f : BitVec 1) (s : State) : Out :=
  issue (.lanes [vW d, vR a, vR b]) s fun e =>
    let t := halfFmt f
    .next (e.packed d t fun i l => fOp .sub e.drm (e.half t a i l) (e.half t b i l)).done

/-- HMUL2 (R106): Packed multiply of two 16-bit elements. -/
def execHmul2 (d a b : BitVec 7) (f : BitVec 1) (s : State) : Out :=
  issue (.lanes [vW d, vR a, vR b]) s fun e =>
    let t := halfFmt f
    .next (e.packed d t fun i l => fOp .mul e.drm (e.half t a i l) (e.half t b i l)).done

/-- HMIN2 (R106): Packed minimumNumber of two 16-bit elements. -/
def execHmin2 (d a b : BitVec 7) (f : BitVec 1) (s : State) : Out :=
  issue (.lanes [vW d, vR a, vR b]) s fun e =>
    .next (e.putV d e.exec fun l => halfMinMax (halfFmt f) false (e.v32 a l) (e.v32 b l)).done

/-- HMAX2 (R106): Packed maximumNumber of two 16-bit elements. -/
def execHmax2 (d a b : BitVec 7) (f : BitVec 1) (s : State) : Out :=
  issue (.lanes [vW d, vR a, vR b]) s fun e =>
    .next (e.putV d e.exec fun l => halfMinMax (halfFmt f) true (e.v32 a l) (e.v32 b l)).done

/-- HFMA2 (R107): Packed fused a*b+d of two 16-bit elements. -/
def execHfma2 (d a b : BitVec 7) (f : BitVec 1) (s : State) : Out :=
  issue (.lanes [vX d, vR a, vR b]) s fun e =>
    let t := halfFmt f
    .next (e.packed d t fun i l => fFma e.drm false false (e.half t a i l) (e.half t b i l) (e.half t d i l)).done

/-- HFMA2_NEG (R107): Packed fused -a*b+d. -/
def execHfma2Neg (d a b : BitVec 7) (f : BitVec 1) (s : State) : Out :=
  issue (.lanes [vX d, vR a, vR b]) s fun e =>
    let t := halfFmt f
    .next (e.packed d t fun i l => fFma e.drm true false (e.half t a i l) (e.half t b i l) (e.half t d i l)).done

/-- HFMA2_SUB (R107): Packed fused a*b-d. -/
def execHfma2Sub (d a b : BitVec 7) (f : BitVec 1) (s : State) : Out :=
  issue (.lanes [vX d, vR a, vR b]) s fun e =>
    let t := halfFmt f
    .next (e.packed d t fun i l => fFma e.drm false true (e.half t a i l) (e.half t b i l) (e.half t d i l)).done

/-- HFMA2_NEGSUB (R107): Packed fused -a*b-d. -/
def execHfma2Negsub (d a b : BitVec 7) (f : BitVec 1) (s : State) : Out :=
  issue (.lanes [vX d, vR a, vR b]) s fun e =>
    let t := halfFmt f
    .next (e.packed d t fun i l => fFma e.drm true true (e.half t a i l) (e.half t b i l) (e.half t d i l)).done

/-- DOT2_BF16 (R108): Adds a two-element BF16 dot product into FP32 with one rounding. -/
def execDot2Bf16 (d a b : BitVec 7) (s : State) : Out :=
  issue (.lanes [vX d, vR a, vR b]) s fun e =>
    .next (e.dot d a b 2 16 Fmt.bf16.decode Fmt.bf16.decode).done

/-- DOT2_F16 (R108): Adds a two-element FP16 dot product into FP32. -/
def execDot2F16 (d a b : BitVec 7) (s : State) : Out :=
  issue (.lanes [vX d, vR a, vR b]) s fun e =>
    .next (e.dot d a b 2 16 Fmt.f16.decode Fmt.f16.decode).done

/-- DOT4_E4M3 (R108): Adds a four-element E4M3 dot product into FP32. -/
def execDot4E4m3 (d a b : BitVec 7) (s : State) : Out :=
  issue (.lanes [vX d, vR a, vR b]) s fun e =>
    .next (e.dot d a b 4 8 Fmt.e4m3.decode Fmt.e4m3.decode).done

/-- DOT4_E5M2 (R108): Adds a four-element E5M2 dot product into FP32. -/
def execDot4E5m2 (d a b : BitVec 7) (s : State) : Out :=
  issue (.lanes [vX d, vR a, vR b]) s fun e =>
    .next (e.dot d a b 4 8 Fmt.e5m2.decode Fmt.e5m2.decode).done

/-- DOT4_I8 (R108): Adds a four-element signed 8-bit dot product into INT32. -/
def execDot4I8 (d a b : BitVec 7) (s : State) : Out :=
  issue (.lanes [vX d, vR a, vR b]) s fun e =>
    .next (e.putV d e.exec fun l => dotInt true (e.v32 d l) (e.v32 a l) (e.v32 b l)).done

/-- DOT4_N8 (R108): Adds a four-element unsigned 8-bit dot product into INT32. -/
def execDot4N8 (d a b : BitVec 7) (s : State) : Out :=
  issue (.lanes [vX d, vR a, vR b]) s fun e =>
    .next (e.putV d e.exec fun l => dotInt false (e.v32 d l) (e.v32 a l) (e.v32 b l)).done

/-- Entry c of a codebook slot as a wave sees it: +0 for a block that does not hold the engine (R115). -/
def Env.book (e : Env) (slot i : Nat) : FVal :=
  let c := e.s.core e.core
  if c.engine.holder == some e.w.block then c.book slot i else .zero false

/-- DOT8_CB4 (R108): Adds an eight-element CB4 dot product through codebook slots 0 and 1. -/
def execDot8Cb4 (d a b : BitVec 7) (s : State) : Out :=
  issue (.lanes [vX d, vR a, vR b]) s fun e =>
    .next (e.dot d a b 8 4 (e.book 0) (e.book 1)).done

/-- FCLASS (R109): Writes a one-hot class mask of an FP32 value. -/
def execFclass (d a : BitVec 7) (s : State) : Out :=
  issue (.lanes [vW d, vR a]) s fun e =>
    .next (e.putV d e.exec fun l => BitVec.ofNat 32 (fClass (e.v32 a l).toNat)).done

/-- FRND (R110): Rounds FP32 to an integral value under a rounding code. -/
def execFrnd (d a : BitVec 7) (r : BitVec 3) (s : State) : Out :=
  issue ((.lanes [vW d, vR a] : Form).need (r.toNat < 5) .badRounding) s fun e =>
    .next (e.frnd d a (Rm.ofCode r.toNat)).done

/-- FMOVI (R111): Writes an immediate shifted left by 14 into each active lane. -/
def execFmovi (d : BitVec 7) (i : BitVec 18) (s : State) : Out :=
  issue (.lanes [vW d]) s fun e =>
    .next (e.putV d e.exec fun _ => immHi i).done

/-- FSCALEB (R112): Multiplies by a power of two and rounds under DRM. -/
def execFscaleb (d a b : BitVec 7) (s : State) : Out :=
  issue (.lanes [vW d, vR a, vR b]) s fun e =>
    .next (e.fpDrm d fun l => ⟨(e.f32 a l).scale (e.v32 b l).toInt, 0#32⟩).done

/-- FGETEXP (R112): Returns the exponent as an FP32 value. -/
def execFgetexp (d a : BitVec 7) (s : State) : Out :=
  issue (.lanes [vW d, vR a]) s fun e =>
    .next (e.putRounded d fun l => fGetExp (e.v32 a l).toNat).done

/-- FGETMANT (R112): Returns the significand in [1, 2) with the sign. -/
def execFgetmant (d a : BitVec 7) (s : State) : Out :=
  issue (.lanes [vW d, vR a]) s fun e =>
    .next (e.putRounded d fun l => fGetMant (e.v32 a l).toNat).done

end Sys2Proof.Machine
end

