-- ==== Sys2Proof/Machine/Kstep.lean ====
section
/-!
DEFINITION. What the matrix engine reads, adds and writes (spec/05_matrix_engine.md, R127 to R132, R135, R140, R145; 03_number_formats.md,
R71): operand elements, accumulator elements, one K-step, the context image.
-/
namespace Sys2Proof.Machine

/-! ## MSTAT (R140) -/

def State.setStat (s : State) (core i : Nat) (v : Word) : State :=
  let e := s.engine core
  s.setEngine core { e with mstat := e.mstat.setIfInBounds i v }
def State.stat (s : State) (core i : Nat) : Word := (s.engine core).mstat.getD i 0#32

/-- An operand element is replaced (R131): OPND_UNCORR or OPND_REFUSED, the count; the coordinates, of an uncorrectable one where OPND_UNCORR was
clear, of a refused one where neither was set. -/
def State.replaced (s : State) (core : Nat) (isB : Bool) (coord k : Nat) (refused : Bool) : State :=
  let w := s.stat core 0
  let n := min 255 (w.toNat / 65536 % 256 + 1)
  let w' := (w &&& 0xFF00FFFF#32) ||| BitVec.ofNat 32 (n * 65536) ||| (if refused then 32#32 else 1#32)
  let s := s.setStat core 0 w'
  if (if refused then w &&& 33#32 else w &&& 1#32) = 0#32 then
    s.setStat core 1 (BitVec.ofNat 32 ((if isB then 2 ^ 31 else 0) + coord % 512 * 2 ^ 20 + k % 2 ^ 20))
  else s

/-! ## Operand elements (R122, R131, R153) -/

/-- Read element `k`, of `w` bits, of a row at `base`; none where it is replaced. (DESIGN CHOICE, safe: notes/assumptions/60.md) -/
def State.mxRead (s : State) (core : Nat) (x : EngineEntry) (base k w : Nat) (isB : Bool) (coord kc : Nat) (what : Nat := 0) : Option Nat × State :=
  let va := base + k * w / 8
  let n := (w + 7) / 8
  let key := plazaOf x.redirect (va - plazaWin)
  if !s.plazaOwned x.redirect x.tenant va n then (none, s.replaced core isB coord kc true)
  else
    let err := (s.readError key n).isSome
    let s := s.findErrors key n x.tenant x.causal
    if err then (none, s.replaced core isB coord kc false)
    else
      let v := bytesToNat (s.plazaSeen x.seen core key n (10 ^ 12 + (((what * 2 + b2n isB) * 512 + coord) * 2 ^ 20 + k) * 2 ^ 20))
      (some (if w = 4 then v / 16 ^ (k % 2) % 16 else v), s)

/-- Read some elements of a row. -/
def State.mxRow (s : State) (core : Nat) (x : EngineEntry) (base w : Nat) (isB : Bool) (coord : Nat) (ks : List Nat) :
    List (Option Nat) × State :=
  ks.foldl (fun (acc : List (Option Nat) × State) k =>
    let r := acc.2.mxRead core x base k w isB coord k
    (acc.1 ++ [r.1], r.2)) ([], s)

/-- The coordinates that a scale or an index reports have no k of their own: a free value. -/
def State.freeK (s : State) : Nat := (Config.freeWord s.free 6001).toNat % 2 ^ 20

/-- Read scale bytes; a replaced one is 127 (R131). -/
def State.mxScales (s : State) (core : Nat) (x : EngineEntry) (isB : Bool) (base : Nat) (coord : Nat) (kbs : List Nat) : List Nat × State :=
  kbs.foldl (fun (acc : List Nat × State) kb =>
    let r := acc.2.mxRead core x base kb 8 false coord acc.2.freeK (if isB then 2 else 1)
    (acc.1 ++ [r.1.getD 127], r.2)) ([], s)

/-- Read the gather indices (R127): an uncorrectable or refused one is TROWS; an index out of range sets IDX_RANGE and is reported once. -/
def State.mxIndices (s : State) (core : Nat) (x : EngineEntry) (l : LoopRec) : List Nat × State :=
  let (row0, _) := l.origin core
  let r := (List.range (descM l.desc)).foldl (fun (acc : List Nat × State) i =>
    let v := acc.2.mxRead core x l.idxBase (row0 + i) 32 false (row0 + i) acc.2.freeK 3
    (acc.1 ++ [v.1.getD l.trows], v.2)) (([], s) : List Nat × State)
  match (r.1.zipIdx.find? fun v => decide (v.1 ≥ l.trows)) with
  | none => r
  | some (v, i) =>
    let s := r.2
    let w := s.stat core 0
    let s := if w.getLsbD 1 then s else (s.setStat core 2 (BitVec.ofNat 32 (row0 + i))).setStat core 3 (BitVec.ofNat 32 v)
    let s := s.setStat core 0 (w ||| 2#32)
    (r.1, s.emit (srcCore core) 0x032 x.tenant x.causal (BitVec.ofNat 64 (row0 + i + v * 2 ^ 32)))

/-! ## Accumulator elements (R114, R132) -/

/-- Read an element; an uncorrectable one reads as `bad`. -/
def State.accRead (s : State) (core : Nat) (x : EngineEntry) (off : Nat) (bad : Word) : Word × State :=
  match tabGet? s.marks (accMark core off) with
  | none => (tabGetD (s.engine core).acc off 0#32, s)
  | some m =>
    let s := s.report 2 core off m.uncorr m.injected false x.tenant x.causal
    if !m.uncorr then (tabGetD (s.engine core).acc off 0#32, { s with marks := tabErase s.marks (accMark core off) })
    else
      let w := s.stat core 0
      let s := if w.getLsbD 2 then s else s.setStat core 4 (BitVec.ofNat 32 off)
      (bad, s.setStat core 0 (w ||| 4#32))

/-- What an uncorrectable element of an INT or a floating-point tile reads as (R132). -/
def accBad (int : Bool) : Word := if int then 0#32 else BitVec.ofNat 32 Fmt.f32.nanBits

/-- Write an element, with fresh check bits; zero is not listed. -/
def State.accWrite (s : State) (core off : Nat) (v : Word) : State :=
  let e := s.engine core
  let s := s.setEngine core { e with acc := if v = 0#32 then tabErase e.acc off else tabPut e.acc off v }
  if s.marks.isEmpty && !s.inj.arm then s
  else { s with marks := tabErase s.marks (accMark core off) }.injectAt 2 core off (accMark core off)

/-- Set a tile to zero (R138). -/
def State.accZero (s : State) (core : Nat) (d : Word) : State := (tileElems d).foldl (fun s i => s.accWrite core i 0#32) s

/-! ## One K-step (R71, R128, R129, R135) -/

/-- The values of an operand row: CB4 codes through a slot; a replaced element is +0. -/
def mxDecode (c : CoreSt) (bits fmt slot : Nat) (v : Option Nat) : FVal :=
  match v with
  | none => .zero false
  | some v =>
    if bits = 4 then c.book slot v
    else if bits = 16 then (if fmt = 1 then Fmt.f16 else Fmt.bf16).decode v
    else (if fmt = 3 then Fmt.e5m2 else Fmt.e4m3).decode v

/-- A product times an E8M0 scale (R53, R71). -/
def mxScale (x : FVal) (e : Nat) : FVal := if e = 255 then .nan else x.scale ((e : Int) - 127)

/-- The value of an element of an INT loop. -/
def mxInt (v : Option Nat) : Int :=
  match v with
  | none => 0
  | some v => if v ≥ 128 then (v : Int) - 256 else v

/-- Operand rows, read once for the step: their elements and their scales. -/
structure MxRow where
  elems : List (Option Nat)
  scales : List Nat
  deriving DecidableEq, Repr

/-- Read the rows of A, or the columns of B. `rows` gives each one's address and its coordinate; none is a row of +0 (R127). -/
def State.mxRows (s : State) (core : Nat) (x : EngineEntry) (w : Nat) (isB scaled : Bool) (sbase sld : Nat) (ks kbs : List Nat)
    (rows : List (Option Nat × Nat)) : List MxRow × State :=
  rows.foldl (fun (acc : List MxRow × State) r =>
    let e := match r.1 with
      | some base => acc.2.mxRow core x base w isB r.2 ks
      | none => (ks.map fun _ => none, acc.2)
    let sc := if scaled then e.2.mxScales core x isB (sbase + r.2 * sld) r.2 kbs else (kbs.map fun _ => 127, e.2)
    (acc.1 ++ [⟨e.1, sc.1⟩], sc.2)) ([], s)

/-- The new value of one element (R71). -/
def mxElem (c : CoreSt) (l : LoopRec) (lo : Nat) (a b : MxRow) (old : Word) : Word :=
  if l.fmt = 4 then
    BitVec.ofInt 32 ((a.elems.zip b.elems).foldl (fun t p => t + mxInt p.1 * mxInt p.2) (old.toNat : Int))
  else
    let terms := (a.elems.zip b.elems).zipIdx.map fun p =>
      let i := (lo + p.2) / 32 - lo / 32
      let v := (fMul (mxDecode c (mxBitsA l.fmt) l.fmt l.cba p.1.1) (mxDecode c (mxBitsB l.fmt) l.fmt l.cbb p.1.2)).val
      mxScale (mxScale v (a.scales.getD i 127)) (b.scales.getD i 127)
    let sum := (fSum .rne terms).val
    BitVec.ofNat 32 (roundTo Fmt.f32 .rne (fSum .rne [Fmt.f32.decode old.toNat, sum]).val 0).bits

/-- Replace the head entry's operation. -/
def State.setHead (s : State) (core : Nat) (f : EngineEntry → EngineEntry) : State :=
  let e := s.engine core
  s.setEngine core { e with queue := match e.queue with | [] => [] | x :: xs => f x :: xs }

/-- Run one K-step of the head loop of a core (R135). -/
def State.mxStep (s : State) (core : Nat) : State :=
  match (s.engine core).queue with
  | [] => s
  | x :: _ =>
    match x.op with
    | .loop l idx =>
      if !x.started || decide (l.next ≥ l.stop) then s
      else
        let (row0, col0) := l.origin core
        let lo := l.next * mxSpan l.fmt
        let ks := (List.range (min (lo + mxSpan l.fmt) l.k - lo)).map fun i => lo + i
        let kbs := (List.range ((min (lo + mxSpan l.fmt) l.k + 31) / 32 - lo / 32)).map fun i => lo / 32 + i
        let ix := match mxGather l.minor, idx with
          | true, none => let r := s.mxIndices core x l; (some r.1, r.2)
          | _, i => (i, s)
        let s := ix.2
        let s := if mxZeroFirst l.minor then s.accZero core l.desc else s
        let rowVa (i : Nat) : Option Nat :=
          if mxGather l.minor then
            let t := (ix.1.getD []).getD i l.trows
            if t ≥ l.trows then none else some (l.abase + t * l.lda)
          else some (l.abase + (row0 + i) * l.lda)
        let ra := s.mxRows core x (mxBitsA l.fmt) false (mxScaled l.minor) l.sa l.ldsa ks kbs
          ((List.range (descM l.desc)).map fun i => (rowVa i, row0 + i))
        let rb := ra.2.mxRows core x (mxBitsB l.fmt) true (mxScaled l.minor) l.sb l.ldsb ks kbs
          ((List.range (descN l.desc)).map fun j => (some (l.bbase + (col0 + j) * l.ldb), col0 + j))
        let n := descN l.desc
        let c := rb.2.core core
        let blank : MxRow := ⟨[], []⟩
        let s := (tileElems l.desc).zipIdx.foldl (fun s t =>
          let old := s.accRead core x t.1 (accBad (descInt l.desc))
          old.2.accWrite core t.1 (mxElem c l lo (ra.1.getD (t.2 / n) blank) (rb.1.getD (t.2 % n) blank) old.1)) rb.2
        let l' := { l with next := l.next + 1, minor := l.minor % 8 }
        let s := (s.setHead core fun x => { x with op := .loop l' ix.1 }).count (srcCore core) 0x107
        let e := s.engine core
        match e.windows.find? fun w => w.id == x.id && w.spoiled with
        | some w => s.setEngine core (e.spoil s.free w)
        | none => s
    | _ => s

/-- The cores whose loops run with this core's (R130). -/
def State.mxPartners (s : State) (core : Nat) : List Nat :=
  match (s.engine core).queue.head?.map fun (x : EngineEntry) => x.op with
  | some (.loop l _) => if mxQuad l.minor then (List.range 4).map fun i => core / 4 * 4 + i else [core]
  | _ => [core]

/-! ## Stopping loops for a save (R147) -/

/-- The entries ahead of the first save of a queue, and the save. -/
def savePoint : List EngineEntry → Option (List EngineEntry × EngineEntry)
  | [] => none
  | x :: xs =>
    match x.op with
    | .save _ none => some ([], x)
    | .loop _ _ => (savePoint xs).map fun r => (x :: r.1, r.2)
    | _ => none

def loopOf (x : EngineEntry) : Option LoopRec := match x.op with | .loop l _ => some l | _ => none

/-- Is this a running loop whose last step has run? -/
def endedLoop (x : EngineEntry) : Bool := x.started && ((loopOf x).map fun l => decide (l.next ≥ l.stop)).getD false

/-- Is this a running QUAD loop? -/
def runningQuad (x : EngineEntry) : Bool := x.started && (match x.op with | .loop l _ => mxQuad l.minor | _ => false)

/-- May the save of this core stop the loops ahead of it: its fences have completed, no running loop ends now, and the partners of a paired loop each
have a save behind it? -/
def State.mayStop (s : State) (core : Nat) : Bool :=
  match savePoint (s.engine core).queue with
  | none => false
  | some (ahead, sv) =>
    !sv.bad && sv.after.all (fun i => !s.unperformed i) &&
    (match ahead with
     | [] => true
     | x :: _ =>
       !endedLoop x &&
       (!runningQuad x || (List.range 4).all fun i => (savePoint (s.engine (core / 4 * 4 + i)).queue).isSome))

/-- Take the loops ahead of the save out of the queue and into the save (R147). A loop whose last step has run completes instead: nothing of it is
recorded. -/
def State.stopLoops (s : State) (core : Nat) : State :=
  let g := s.engine core
  match savePoint g.queue with
  | none => s
  | some (ahead, x) =>
    if (ahead.head?.map endedLoop).getD false then s else
    let loops := ahead.filterMap fun y => (loopOf y).map fun l =>
      (⟨l, y.tracks, y.wave, y.cs, y.causal, y.pc, y.slot, y.lanes, y.after, y.fenced, y.upto, y.seen⟩ : StoppedLoop)
    let rest := g.queue.filter fun (y : EngineEntry) => !(ahead.any fun a => a.id == y.id)
    let q := rest.map fun (y : EngineEntry) =>
      if y.id = x.id then { y with op := (match y.op with | .save a _ => .save a (some loops) | o => o) } else y
    s.setEngine core { g with queue := q }

/-- A K-step boundary at which a save may stop the loops ahead of it: it does, and with a running paired loop so do the three partners (R147). -/
def State.stopHere (s : State) (core : Nat) : State :=
  if !s.mayStop core then s
  else if ((s.engine core).queue.head?.map runningQuad).getD false then
    (List.range 4).foldl (fun s i => s.stopLoops (core / 4 * 4 + i)) s
  else s.stopLoops core

/-- MLOOP_KSTEP_END (R71, R135): a K-step of the running loop ends; paired loops go in lock step. A save that waits for the boundary stops the loop
here (R147). -/
def execMloopKstepEnd (core : Nat) (s : State) : Out :=
  .next (((s.mxPartners core).foldl (fun s c =>
    match (s.engine c).queue.head?.map fun (x : EngineEntry) => x.op with
    | some (.loop l _) => if c = core || mxQuad l.minor then s.mxStep c else s
    | _ => s) s).stopHere core)

/-! ## The context image (R145, R148) -/

def imageBytes : Nat := 132096

/-- A pending entry (R145). -/
def LoopRec.bytes (l : LoopRec) : List Byte :=
  natToBytes 1 (0x70 + l.fmt) ++ natToBytes 1 l.minor ++ natToBytes 2 0 ++ natToBytes 4 l.desc.toNat ++ natToBytes 4 l.next ++
    natToBytes 4 l.stop ++ l.record

/-- Read every accumulator element; there is no INT here, so what an uncorrectable one reads as is a free value. -/
def State.accAll (s : State) (core : Nat) (x : EngineEntry) : List Word × State :=
  (List.range 32768).foldl (fun (acc : List Word × State) i =>
    let r := acc.2.accRead core x i (Config.freeWord acc.2.free (2000000 + i))
    (acc.1 ++ [r.1], r.2)) ([], s)

/-- The image of a core's engine with the loops that were stopped (R147). -/
def State.mxImage (s : State) (core : Nat) (x : EngineEntry) (loops : List LoopRec) : List Byte × State :=
  let r := s.accAll core x
  let e := r.2.engine core
  let quad := loops.any fun l => mxQuad l.minor
  let head := natToBytes 4 0x58434D4E ++ natToBytes 2 1 ++ natToBytes 1 loops.length ++ natToBytes 1 (b2n quad) ++
    natToBytes 2 core ++ natToBytes 6 0 ++ (List.range 7).flatMap (fun i => bytes4 (e.mstat.getD i 0#32)) ++ natToBytes 20 0
  let books := (List.range 8).flatMap fun b => (List.range 16).flatMap fun i => natToBytes 2 ((tabGetD e.books b []).getD i 0#16).toNat
  let ents := loops.flatMap LoopRec.bytes
  (head ++ books ++ ents ++ List.replicate (704 - ents.length) 0#8 ++ r.1.flatMap bytes4, r.2)

/-- Move a Plaza address of the origin core's quad to the restoring core's (R148). -/
def rebaseVa (origin core va : Nat) : Nat :=
  let c := (va - plazaWin) / 0x80000
  if isPlazaVa va && decide (c / 4 = origin / 4) then plazaWin + (core / 4 * 4 + c % 4) * 0x80000 + (va - plazaWin) % 0x80000 else va

def LoopRec.rebase (l : LoopRec) (origin core : Nat) : LoopRec :=
  let f (o : Nat) : List Byte := natToBytes 8 (rebaseVa origin core (fld l.record o 8))
  let mid (o n : Nat) : List Byte := (l.record.drop o).take n
  { l with record := f 0 ++ f 8 ++ mid 16 16 ++ f 32 ++ f 40 ++ f 48 ++ mid 56 8 }

/-- A pending entry of an image, and whether its form is legal (R38, R122, R148). -/
def pendingOf (b : List Byte) : Option LoopRec :=
  let maj := fld b 0 1
  let l : LoopRec := ⟨maj - 0x70, fld b 1 1, BitVec.ofNat 32 (fld b 4 4), b.drop 16, fld b 8 4, fld b 12 4⟩
  let plain := l.fmt = 0 ∨ l.fmt = 1 ∨ l.fmt = 4
  if maj < 0x70 || maj > 0x76 || l.minor ≥ 16 || (decide plain && mxScaled l.minor) || !zeros b 2 2 then none
  else if !descOk l.desc (some (l.fmt == 4)) || !l.fieldsOk || l.next ≥ l.stop || l.stop > l.steps then none
  else some l

/-- The pending entries of an image, rebased; none where the image is bad (R148). -/
def State.imageLoops (s : State) (core : Nat) (x : EngineEntry) (b : List Byte) : Option (List LoopRec) :=
  let n := fld b 6 1
  if fld b 0 4 ≠ 0x58434D4E || fld b 4 2 ≠ 1 || n > 7 || fld b 7 1 ≥ 2 || !zeros b 10 6 || !zeros b 44 20 || !zeros b 880 144 then none
  else
    (List.range n).foldl (fun (acc : Option (List LoopRec)) i =>
      match acc, pendingOf ((b.drop (320 + 80 * i)).take 80) with
      | some ls, some l =>
        let l := l.rebase (fld b 8 2) core
        let rs := l.ranges core
        if (mxQuad l.minor && !s.gangOfFour x.block) ||
            rs.any fun r => !plazaUsed r.1 r.2 || !s.plazaOwned x.redirect x.tenant r.1 r.2 then none
        else some (ls ++ [l])
      | _, _ => none) (some [])

/-- Load the accumulator, the codebooks and the status of an image (R148). -/
def State.loadImage (s : State) (core : Nat) (b : List Byte) : State :=
  let e := s.engine core
  let w (o : Nat) : Word := BitVec.ofNat 32 (fld b o 4)
  let books : Tab (List (BitVec 16)) := (List.range 8).map fun k =>
    (k, (List.range 16).map fun i => BitVec.ofNat 16 (fld b (64 + 32 * k + 2 * i) 2))
  let s := s.setEngine core { e with books := books, mstat := Vector.ofFn fun i : Fin 7 => w (16 + 4 * i.val), acc := [] }
  (wordsOf 32768 (b.drop 1024)).zipIdx.foldl (fun s x => s.accWrite core x.2 x.1) s

/-- The engine's cleared state (R115, R148). -/
def Engine.cleared (e : Engine) : Engine := { e with acc := [], books := [], mstat := Vector.replicate 7 0#32 }

/-- The engine is cleared, with fresh check bits. -/
def State.clearEngine (s : State) (core : Nat) : State :=
  { s with marks := s.marks.filter fun m => !(decide (accMark core 0 ≤ m.1) && decide (m.1 < accMark core 32768)) }.setEngine core
    (s.engine core).cleared

end Sys2Proof.Machine
end

