-- ==== Sys2Proof/Machine/Matrix.lean ====
section
/-!
DEFINITION. The matrix engine at work (spec/05_matrix_engine.md, R115, R118, R119, R130, R138 to R148): passing the claim, starting and
completing entries, drains, tickets, saving and restoring, and the issue of its instructions.
-/
namespace Sys2Proof.Machine

/-! ## Issue (R133, R137, R142, R146) -/

def minorOf (z s q g : BitVec 1) : Nat := 8 * z.toNat + 4 * s.toNat + 2 * q.toNat + g.toNat

/-- MLOOP.bf16 (R133): BF16 rows by BF16 columns into FP32. -/
def execMloopBf16 (d a b : BitVec 7) (z q g : BitVec 1) (s : State) : Out :=
  issue (Form.noComb (.wave [sR d, pR a, sR b])) s fun e => e.mloop 0 (minorOf z 0#1 q g) d a b

/-- MLOOP.f16 (R133): FP16 rows by FP16 columns into FP32. -/
def execMloopF16 (d a b : BitVec 7) (z q g : BitVec 1) (s : State) : Out :=
  issue (Form.noComb (.wave [sR d, pR a, sR b])) s fun e => e.mloop 1 (minorOf z 0#1 q g) d a b

/-- MLOOP.e4m3 (R133): E4M3 rows by E4M3 columns into FP32. -/
def execMloopE4m3 (d a b : BitVec 7) (z c q g : BitVec 1) (s : State) : Out :=
  issue (Form.noComb (.wave [sR d, pR a, sR b])) s fun e => e.mloop 2 (minorOf z c q g) d a b

/-- MLOOP.e5m2 (R133): E5M2 rows by E5M2 columns into FP32. -/
def execMloopE5m2 (d a b : BitVec 7) (z c q g : BitVec 1) (s : State) : Out :=
  issue (Form.noComb (.wave [sR d, pR a, sR b])) s fun e => e.mloop 3 (minorOf z c q g) d a b

/-- MLOOP.i8 (R133): INT8 rows by INT8 columns into INT32. -/
def execMloopI8 (d a b : BitVec 7) (z q g : BitVec 1) (s : State) : Out :=
  issue (Form.noComb (.wave [sR d, pR a, sR b])) s fun e => e.mloop 4 (minorOf z 0#1 q g) d a b

/-- MLOOP.cb4 (R129, R133): CB4 rows by CB4 columns, each through its slot, into FP32. -/
def execMloopCb4 (d a b : BitVec 7) (z c q g : BitVec 1) (s : State) : Out :=
  issue (Form.noComb (.wave [sR d, pR a, sR b])) s fun e => e.mloop 5 (minorOf z c q g) d a b

/-- MLOOP.cb4bf (R129, R133): BF16 rows by CB4 columns into FP32. -/
def execMloopCb4bf (d a b : BitVec 7) (z c q g : BitVec 1) (s : State) : Out :=
  issue (Form.noComb (.wave [sR d, pR a, sR b])) s fun e => e.mloop 6 (minorOf z c q g) d a b

/-- MZERO (R138). -/
def execMzero (d : BitVec 7) (s : State) : Out := issue (Form.noComb (.wave [sR d])) s fun e => e.mzero d

/-- MCB (R139). -/
def execMcb (n : BitVec 3) (a : BitVec 7) (s : State) : Out := issue (Form.noComb (.waveA [pR a])) s fun e => e.mcb n.toNat a

/-- MSTAT (R140). -/
def execMstat (d : BitVec 7) (w : BitVec 3) (c : BitVec 1) (s : State) : Out :=
  issue (((.wave [sW d] : Form).need (w.toNat < 7) .badWord : Form).noComb) s fun e => e.mstat d w.toNat (c == 1#1)

/-- MDRAIN.STORE.f32 (R142). -/
def execMdrainStoreF32 (d a : BitVec 7) (c : BitVec 1) (s : State) : Out :=
  issue (Form.noComb (.waveA [sR d, pR a])) s fun e => e.mdrain 0 d a (c == 1#1)

/-- MDRAIN.STORE.bf16 (R142). -/
def execMdrainStoreBf16 (d a : BitVec 7) (c : BitVec 1) (s : State) : Out :=
  issue (Form.noComb (.waveA [sR d, pR a])) s fun e => e.mdrain 1 d a (c == 1#1)

/-- MDRAIN.STORE.e4m3 (R142). -/
def execMdrainStoreE4m3 (d a : BitVec 7) (c : BitVec 1) (s : State) : Out :=
  issue (Form.noComb (.waveA [sR d, pR a])) s fun e => e.mdrain 2 d a (c == 1#1)

/-- MDRAIN.ADD.f32 (R142). -/
def execMdrainAddF32 (d a : BitVec 7) (c : BitVec 1) (s : State) : Out :=
  issue (Form.noComb (.waveA [sR d, pR a])) s fun e => e.mdrain 3 d a (c == 1#1)

/-- MDRAIN.ADD.ordered (R143). -/
def execMdrainAddOrdered (d a : BitVec 7) (c : BitVec 1) (s : State) : Out :=
  issue (Form.noComb (.waveA [sR d, pR a])) s fun e => e.mdrain 4 d a (c == 1#1)

/-- MSAVE (R146, R147). -/
def execMsave (a : BitVec 7) (s : State) : Out :=
  issue (Form.noComb (.waveA [pR a])) s fun e => e.mimage a fun va => .save va none

/-- MRESTORE (R146, R148). -/
def execMrestore (a : BitVec 7) (s : State) : Out :=
  issue (Form.noComb (.waveA [pR a])) s fun e => e.mimage a .restore

/-! ## The claim (R115) -/

/-- MATRIX_CLAIM_PASS (R115): a free engine goes to the block that has waited longest. (DESIGN CHOICE, safe: notes/assumptions/16.md) -/
def execMatrixClaimPass (core : Nat) (s : State) : Out :=
  let g := s.engine core
  match g.holder, g.claim with
  | none, b :: rest => .next (s.setEngine core { g with holder := some b, claim := rest })
  | _, _ => .next s

/-! ## Ending an entry -/

/-- An entry's flag loses it (R25, R119). -/
def State.trackDown (s : State) (t : Track) : State :=
  s.updWave t.wave fun w =>
    if t.flag = 15 then w.updStream t.cs fun st => { st with llHold := st.llHold - 1 } else w.flagDown t.flag

/-- The entry leaves the queue and its flags lose it. -/
def State.popEntry (s : State) (core : Nat) (x : EngineEntry) : State :=
  let g := s.engine core
  let s := s.setEngine core { g with queue := g.queue.filter fun q => q.id != x.id }
  x.tracks.foldl State.trackDown (s.dropHeld (.engine core x.id))

/-- Loops that a save has stopped go back in front (R146: it completes without its effect). -/
def State.unstop (s : State) (core : Nat) (x : EngineEntry) : State :=
  match x.op with
  | .save _ (some loops) =>
    let g := s.engine core
    let back := loops.zipIdx.map fun l =>
      { x with id := s.nextId + l.2, op := .loop l.1.loop none, tracks := l.1.tracks, started := false, held := false, after := l.1.after,
               wave := l.1.wave, cs := l.1.cs, causal := l.1.causal, pc := l.1.pc, slot := l.1.slot, lanes := l.1.lanes, fenced := l.1.fenced,
               upto := l.1.upto, seen := l.1.seen }
    { s with nextId := s.nextId + loops.length }.setEngine core { g with queue := back ++ g.queue }
  | _ => s

/-- The entry completes without its effect: DRAIN_ERR (R139, R144, R146). -/
def State.failEntry (s : State) (core : Nat) (x : EngineEntry) (code addr : Nat) : State :=
  let s := s.unstop core x
  ({ s with flight := s.flight.filter fun a => a.wave != engineWave x.id }.drainErr core x.tenant x.causal code addr).popEntry core x

/-! ## The entry's accesses -/

/-- An access of an engine entry: performed at its home like any other, outside its wave's release set until the flag clears (R187). -/
def engineAccess (core : Nat) (x : EngineEntry) (id : Nat) (kind : AccessKind) (va : Nat) (place : Place × Nat × Bool) (scope : Nat) :
    Access :=
  { id := id, op := id, wave := engineWave x.id, core := core, tenant := x.tenant, lane := 0, traps := 0#32, kind := kind,
    addr := BitVec.ofNat 64 va, place := place.1, pageKind := place.2.1,
    posted := (match place.1 with | .mem k => isPostedKey k | _ => false), scope := scope, pc := x.pc,
    slot := x.slot, causal := x.causal, disc := place.2.2, st := .waiting, after := [], overlay := [], page := (0, 0), sent := none }

def State.engineSend (s : State) (core : Nat) (x : EngineEntry) (kind : AccessKind) (va : Nat) (place : Place × Nat × Bool) (scope : Nat) :
    State :=
  let n := s.newId
  let tag := match s.task? x.task with | some t => if t.commit then x.task + 1 else 0 | none => 0
  n.2.launch { engineAccess core x n.1 kind va place scope with page := s.pageOf true (quadOf core) x.tenant tag va }

/-- The entry's accesses in flight. -/
def State.engineFlight (s : State) (x : EngineEntry) : List Access := s.flight.filter fun a => a.wave == engineWave x.id

/-! ## Translation by the quad's engine (R144, R336) -/

def ttePartyId (x : EngineEntry) : Nat := engineWave x.id

def tteAsker (s : State) (core : Nat) (x : EngineEntry) : Asker :=
  { tte := true, unit := quadOf core, tenant := x.tenant,
    tag := (match s.task? x.task with | some t => if t.commit then x.task + 1 else 0 | none => 0), id := ttePartyId x,
    redirect := x.redirect }

/-- Is the held list of a quad's translation engine full: it accepts no new line until an entry frees (R336)? -/
def State.tteFull (s : State) (quad : Nat) : Bool := decide ((s.held.filter fun h => h.cls == 1 && h.owner == quad).length ≥ 64)

/-- Walk ahead along addresses that an engine has still to reach, for at most 32 pages (R336): as far as a free value says, up to the first page
that fails, without a report. (DESIGN CHOICE, safe: notes/assumptions/63.md) -/
def State.walkAhead (s : State) (a : Asker) (vas : List Nat) : State :=
  (((vas.filter pagedVa).map fun v => v / 65536).dedup.take 32).zipIdx.foldl (fun (acc : Bool × State) x =>
    if !acc.1 || (tlbFind (acc.2.tlb true a.unit) a.tenant a.tag x.1).isSome then acc
    else if !Config.freeBit acc.2.free (9200 + x.2) then (false, acc.2)
    else match acc.2.walkPage a.tenant x.1 with
      | (.leaf e level, s) => (true, s.tlbFill true a.unit ⟨e, level, a.tenant, if pteVers e then a.tag else 0, x.1, 0⟩)
      | _ => (false, acc.2)) (true, s) |>.2

/-- Hold a party at the quad's translation engine with a record (R336, R474); a full list of 64 holds nothing. -/
def State.tteHold (s : State) (quad tenant vpn span wave : Nat) (pc causal : DWord) (what : HeldWhat)
    (code flags access va : Nat) : Option State :=
  (s.holderFor 1 quad 64 flags what).map fun n =>
    let h : Held := { cls := n.1, owner := quad, entry := n.2, tenant := tenant, vpn := vpn, span := span, va := va, what := what,
                      joined := [], order := s.heldNext, wave := wave, pc := pc, replaying := [], again := false }
    let old := s.held.filter fun (x : Held) => x.what != what
    let s := { s with held := old ++ [h], heldNext := s.heldNext + 1 }
    s.faultRecord (BitVec.ofNat 64 va) causal (srcOf 8 quad) tenant code access flags (tokenOf n.1 quad n.2)

/-- What translating an entry's whole range gave. -/
inductive EngXlat where
  | ok (places : List (Place × Nat × Bool))
  | wait
  | refused (code va : Nat)
  deriving DecidableEq, Repr

/-- An entry's translation fails: a walk error, and a replay that fails, write their record (R339, R343). -/
def State.engineFails (s : State) (core : Nat) (x : EngineEntry) (d : Dir) (va code : Nat) (span : Option Nat) : State :=
  if span.isSome || s.held.any (fun h => h.what == .engine core x.id) then
    s.faultRecord (BitVec.ofNat 64 va) x.causal (srcOf 8 (quadOf core)) x.tenant code (walkAccess (span.getD 0) (if d == .load then 4 else 5))
      (1 + s.shadowFlag x.tenant (s.taskTag x.task) (va / 65536)) 0
  else s

/-- Translate addresses for an entry; a replayable fault holds the entry, a missing translation starts a walk. -/
def State.engineTranslate (s : State) (core : Nat) (x : EngineEntry) (d : Dir) (scope : Nat) : List Nat → List (Place × Nat × Bool) →
    EngXlat × State
  | [], acc => (.ok acc, { s with walkRes := s.walkRes.filter fun r => r.asker != ttePartyId x }.dropHeld (.engine core x.id))
  | va :: rest, acc =>
    if s.tteFull (quadOf core) && !s.held.any (fun h => h.what == .engine core x.id) then (.wait, s) else
    let w := tteAsker s core x
    let r := s.resolve w d scope va
    match r.1 with
    | .ok p kind disc => r.2.engineTranslate core x d scope rest (acc ++ [(p, kind, disc)])
    | .miss v => (.wait, ((r.2.count (srcOf 8 (quadOf core)) 0x106).startWalk w v).2)
    | .refused c => (.refused c va, r.2.engineFails core x d va c none)
    | .walkError c sp => (.refused c va, r.2.engineFails core x d va c (some sp))
    | .shadowWait t => (.wait, r.2.shadowBlocked x.task t)
    | .faults c sp fl _ =>
      match r.2.tteHold (quadOf core) x.tenant (va / 65536) sp x.wave x.pc x.causal (.engine core x.id) c fl
          (if d == .load then 4 else 5) va with
      | some s =>
        let g := s.engine core
        let q := g.queue.map fun (y : EngineEntry) => if y.id = x.id then { y with held := true } else y
        (.wait, s.setEngine core { g with queue := q })
      | none => (.wait, r.2)

/-! ## Drains (R142, R143) -/

/-- The addresses of a drain's elements, row by row. -/
def drainVas (kind : Nat) (d : Word) (r : List Byte) : List Nat :=
  (List.range (descM d)).flatMap fun m => (List.range (descN d)).map fun n => drainDest r + m * drainLdd r + drainSize kind * n

/-- What a drain stores of an element. -/
def drainKind (kind : Nat) (int : Bool) (v : Word) : AccessKind :=
  match kind with
  | 0 => .store (bytes4 v) false
  | 1 => .store (natToBytes 2 (roundTo Fmt.bf16 .rne (Fmt.f32.decode v.toNat) 0).bits) false
  | 2 => .store (natToBytes 1 (roundTo Fmt.e4m3 .rne (Fmt.f32.decode v.toNat) 0).bits) false
  | _ => .atomic (if int then 0 else 1) (v.zeroExtend 64) 0#32 []

/-- Read the tile and send its elements; with CLEAR the tile is zero once it has been read. -/
def State.drainElems (s : State) (core : Nat) (x : EngineEntry) (kind : Nat) (clr : Bool) (d : Word) (r : List Byte) : State :=
  let vas := drainVas kind d r
  let s := (((tileElems d).zip vas).zip x.places).foldl (fun s t =>
    let v := s.accRead core x t.1.1 (accBad (descInt d))
    v.2.engineSend core x (drainKind kind (descInt d) v.1) t.1.2 t.2 (drainScope r)) s
  let s := if clr then s.accZero core d else s
  let keys := (vas.zip x.places).filterMap fun p => match p.2.1 with | .mem k => some (k, drainSize kind) | _ => none
  let away := (vas.zip x.places).filterMap fun p => match p.2.1 with | .mem _ => none | _ => some (p.1, drainSize kind)
  let g := s.engine core
  let ws := g.windows.map fun w => if w.id = x.id then { w with writes := keys, vwrites := away } else w
  (s.setEngine core { g with windows := ws }).setHead core fun x => { x with phase := 1 }

/-! ## Saving (R145, R147) -/

/-- Lines of an image. -/
def imageVas (va : DWord) : List Nat := (List.range 1032).map fun i => va.toNat + 128 * i

/-- A save that has stopped the loops ahead of it translates its image and sends it, at chip scope (R145, R147).
(DESIGN CHOICE, unsafe: notes/assumptions/61.md) -/
def State.startSave (s : State) (core : Nat) (x : EngineEntry) (va : DWord) (loops : List StoppedLoop) : State :=
  if imageVas va |>.any fun v => isAvenueVa v then s.failEntry core x cPermission va.toNat
  else match s.engineTranslate core x .store 3 (imageVas va) [] with
  | (.wait, s) => s
  | (.refused c a, s) => s.failEntry core x c a
  | (.ok ps, s) =>
    let r := s.mxImage core x (loops.map fun l => l.loop)
    let s := r.2.setHead core fun y => { y with started := true }
    ((imageVas va).zip ps).zipIdx.foldl (fun s t =>
      s.engineSend core x (.store ((r.1.drop (128 * t.2)).take 128) false) t.1.1 t.1.2 3) s

/-! ## ENGINE_ENTRY_START (R118, R130) -/

/-- Is the head of a core's queue a QUAD loop that is ready to start (R130)? -/
def State.quadReady (s : State) (core : Nat) : Bool :=
  match (s.engine core).queue with
  | x :: _ => !x.started && !x.bad && x.after.all (fun i => !s.unperformed i) &&
      (match x.op with | .loop l _ => mxQuad l.minor | _ => false)
  | [] => false

def State.startHead (s : State) (core : Nat) : State := s.setHead core fun x => { x with started := true }

/-- The error check of a head that is about to start (R412): an uncorrectable entry does not run, and its wave takes POISON. The answer says whether
there was one. -/
def State.headFound (s : State) (core : Nat) : Bool × State :=
  match (s.engine core).queue with
  | [] => (false, s)
  | x :: _ =>
    let f := if x.started then (false, s) else s.foundAt 4 core (queueLoc 4 0 0) (engineMark x.id) x.tenant x.causal
    if x.bad || f.1 then
      let s := f.2
      let d : Deferred := { op := s.nextId, code := cPoison, pc := x.pc, addr := 0#64, lanes := x.lanes, slot := x.slot, cs := x.cs }
      let s := { s with nextId := s.nextId + 1 }
      (true, (s.popEntry core x).updWave x.wave fun w => if w.ended then w else { w with deferred := w.deferred ++ [d] })
    else (false, f.2)

/-- Start the head entry, whose turn it is. -/
def State.startEntry (s : State) (core : Nat) (x : EngineEntry) : State :=
  match x.op with
  | .loop l _ =>
    if mxQuad l.minor then
      let four := (List.range 4).map fun i => core / 4 * 4 + i
      if four.all s.quadReady then
        let f := four.foldl (fun (x : Bool × State) c => let f := x.2.headFound c; (x.1 || f.1, f.2)) (false, s)
        if f.1 then f.2 else four.foldl State.startHead f.2
      else s
    else s.startHead core
  | .zero _ => s.startHead core
  | .mstat _ _ _ => s.startHead core
  | .mcb _ va place kind disc => (s.startHead core).engineSend core x (.load 32 false []) va.toNat (place, kind, disc) 3
  | .drain kind clr d r =>
    let dir : Dir := if kind ≥ 3 then .atomic else .store
    let s := s.walkAhead (tteAsker s core x) ((drainVas kind d r).drop 1)
    match s.engineTranslate core x dir (drainScope r) (drainVas kind d r) [] with
    | (.wait, s) => s
    | (.refused c a, s) => s.failEntry core x c a
    | (.ok ps, s) =>
      if kind = 4 then
        match s.engineTranslate core x .store (drainScope r) [drainTicket r] [] with
        | (.wait, s) => s
        | (.refused c a, s) => s.failEntry core x c a
        | (.ok t, s) => s.setHead core fun y => { y with started := true, places := ps ++ t }
      else
        let x' := { x with started := true, places := ps }
        (s.setHead core fun _ => x').drainElems core x' kind clr d r
  | .save _ none => s.stopHere core
  | .save va (some loops) => s.startSave core x va loops
  | .restore va =>
    if imageVas va |>.any fun v => isAvenueVa v then s.failEntry core x cPermission va.toNat
    else match s.engineTranslate core x .load 3 (imageVas va) [] with
    | (.wait, s) => s
    | (.refused c a, s) => s.failEntry core x c a
    | (.ok ps, s) =>
      ((imageVas va).zip ps).foldl (fun s t => s.engineSend core x (.load 128 false []) t.1 t.2 3) (s.startHead core)

/-- ENGINE_ENTRY_START (R118): the head entry starts; a save behind loops stops them (R147); an uncorrectable entry does not run (R412). -/
def execEngineEntryStart (core : Nat) (s : State) : Out :=
  match (s.engine core).queue with
  | [] => .next s
  | x :: _ =>
    let f := s.headFound core
    let s := f.2
    if f.1 then .next s
    else match savePoint (s.engine core).queue with
      | some (_ :: _, _) =>
        if s.mayStop core then .next (s.stopHere core)
        else if x.started || x.held || x.after.any (fun i => s.unperformed i) then .next s
        else .next (s.startEntry core x)
      | _ =>
        if x.started || x.held || x.after.any (fun i => s.unperformed i) then .next s
        else .next (s.startEntry core x)

/-! ## DRAIN_TICKET_READ (R143) -/

/-- DRAIN_TICKET_READ (R143): a drain in ticket order reads its ticket word again until it holds TVAL, then adds its elements. -/
def execDrainTicketRead (core : Nat) (s : State) : Out :=
  match (s.engine core).queue with
  | [] => .next s
  | x :: _ =>
    match x.op with
    | .drain 4 clr d r =>
      if !x.started || x.phase ≠ 0 then .next s
      else
        let ask (s : State) : State :=
          match x.places.getLast? with
          | some p => s.engineSend core x (.load 8 false []) (drainTicket r) p (drainScope r)
          | none => s
        match s.engineFlight x with
        | [] => .next (ask s)
        | a :: _ =>
          match a.st with
          | .waiting => .next s
          | .failed c => .next (s.failEntry core x c (drainTicket r))
          | .performed v =>
            let s := s.dropAccess a.id
            if bytesToNat v = drainTval r then .next (s.drainElems core x 4 clr d r) else .next (ask s)
    | _ => .next s

/-! ## ENGINE_ENTRY_COMPLETE (R119) -/

/-- Resume the loops of an image that has been read (R148). -/
def State.restoreImage (s : State) (core : Nat) (x : EngineEntry) (va : DWord) (b : List Byte) : State :=
  match s.imageLoops core x b with
  | none =>
    let s := s.clearEngine core
    (s.setStat core 0 (BitVec.ofNat 32 (16 + cMxContext * 256))).popEntry core x
  | some loops =>
    let s := s.loadImage core b
    let saved := ((s.savedFlags.find? fun f => f.1 == (x.tenant, va.toNat)).map Prod.snd).getD []
    let s := { s with savedFlags := s.savedFlags.filter fun f => f.1 != (x.tenant, va.toNat) }
    let g := s.engine core
    let n := loops.length
    let new := loops.zipIdx.map fun l =>
      -- the FENCE.OPNDs before the loop that was stopped, and those before the MRESTORE, come before it (R124)
      let y := { x with id := s.nextId + l.2, op := .loop l.1 none, started := false, phase := 0, places := [],
                        tracks := ((saved[l.2]?).map fun o => o.tracks).getD [] ++ (if l.2 + 1 = n then x.tracks else []) }
      match saved[l.2]? with
      | some o => { y with after := x.after ++ o.after, fenced := o.fenced, upto := o.upto, seen := max x.seen o.seen }
      | none => y
    let wins : List EngineWindow := new.map fun y =>
      { id := y.id, tracks := y.tracks, reads := ((loopOf y).map (s.loopReads core x.redirect y.seen)).getD [],
        writes := [], elems := ((loopOf y).map fun l => tileElems l.desc).getD [], book := none, spoiled := false }
    let rest := g.queue.filter fun (q : EngineEntry) => q.id != x.id
    let s := { s with nextId := s.nextId + n }
    let s := s.setEngine core { g with queue := new ++ rest, windows := g.windows ++ wins }
    if n = 0 then x.tracks.foldl State.trackDown s else s

/-- Complete the started head entry where its work is done. -/
def State.completeEntry (s : State) (core : Nat) (x : EngineEntry) : State :=
  let fl := s.engineFlight x
  match x.op with
  | .loop l _ => if l.next ≥ l.stop then s.popEntry core x else s
  | .zero d => (s.accZero core d).popEntry core x
  | .mstat late w clr =>
    let v := s.stat core w
    let s := if clr then s.setEngine core { s.engine core with mstat := Vector.replicate 7 0#32 } else s
    let s := match s.wave? x.wave with
      | some wv =>
        (match wv.late.find? fun (y : Late) => y.id == late with
         | some l => s.writeLate x.wave wv { l with vals := Lanes.zero.write 1#32 fun _ => v }
         | none => s)
      | none => s
    s.popEntry core x
  | .mcb slot va _ _ _ =>
    (match fl with
     | a :: _ =>
       (match a.st with
        | .waiting => s
        | .failed c => s.failEntry core x c va.toNat
        | .performed v =>
          let g := s.engine core
          let book := (List.range 16).map fun i => BitVec.ofNat 16 (fld v (2 * i) 2)
          let g := { g with books := tabPut g.books slot book }
          let g := match g.windows.find? fun w => w.id == x.id && w.spoiled with
            | some w => g.spoil s.free w
            | none => g
          ((s.dropAccess a.id).setEngine core g).popEntry core x)
     | [] => s)
  | .drain kind _ _ r =>
    if x.phase = 0 || !fl.isEmpty then s
    else if kind = 4 && x.phase = 1 then
      let s := s.setHead core fun y => { y with phase := 2 }
      match x.places.getLast? with
      | some p => s.engineSend core x (.store (natToBytes 8 (drainTval r + 1)) true) (drainTicket r) p (drainScope r)
      | none => s
    else s.popEntry core x
  | .save va loops =>
    if !fl.isEmpty then s
    else
      let key := (x.tenant, va.toNat)
      let fs := loops.getD []
      let old := s.savedFlags.filter fun f => f.1 != key
      { s with savedFlags := if fs.isEmpty then old else old ++ [(key, fs)] }.popEntry core x
  | .restore va =>
    if fl.any fun a => a.st == .waiting then s
    else match fl.findSome? fun a => match a.st with | .failed c => some (c, a.addr.toNat) | _ => none with
      | some (c, a) => s.failEntry core x c a
      | none =>
        let b := fl.flatMap fun a => match a.st with | .performed v => v | _ => []
        { s with flight := s.flight.filter fun a => a.wave != engineWave x.id }.restoreImage core x va b

/-- ENGINE_ENTRY_COMPLETE (R119): the head entry completes, and its flag loses it. -/
def execEngineEntryComplete (core : Nat) (s : State) : Out :=
  match (s.engine core).queue with
  | [] => .next s
  | x :: _ => if x.started then .next (s.completeEntry core x) else .next s

end Sys2Proof.Machine
end

