-- ==== Sys2Proof/Machine/Blocks.lean ====
section
/-!
DEFINITION. Blocks on cores (spec/13_tasks_and_launch.md, R314, R318, R319, R321 to R327; 18_errors_and_traps.md, R422;
22_program_spgemm.md, R459): dispatch, lifting and reservation, leaving, epochs, retirement, abort.
-/
namespace Sys2Proof.Machine

/-! ## What fits (R314, R325) -/

def Ready.level (r : Ready) : Nat := r.entry.level + r.lifted

/-- The producer that a record counts with in its level's round (R314, R319): its queue, or the continuations spawned on it. (DESIGN CHOICE, unsafe: notes/assumptions/95.md) -/
def Ready.producer (r : Ready) : Nat := 2 * r.entry.queue + (if r.entry.launcher then 0 else 1)

/-- Records in the order of service: level, head of the level, round-robin among producers, then their order. -/
def State.dispatchOrder (s : State) : List Ready :=
  let rank (r : Ready) : Nat :=
    if r.front then 0 else 1 + (r.producer + 2 ^ 19 - (tabGetD s.lch.served r.level (2 ^ 18 - 1) + 1)) % 2 ^ 19
  let le (a b : Ready) : Bool := decide (a.level > b.level) || (a.level == b.level && decide (rank a ≤ rank b))
  s.lch.ready.mergeSort le

/-- General wave slots of a core without a wave (R17, R231). -/
def State.freeSlots (s : State) (c : Nat) : List Nat := (List.range 46).filter fun i => (s.wave? (48 * c + i)).isNone

/-- The lowest run of `n` free granules of a core. -/
def State.granuleRun (s : State) (c n : Nat) : Option Nat :=
  (List.range (81 - n)).find? fun g => (List.range n).all fun i => (tabGet? s.granules (80 * c + g + i)).isNone

/-- Does a block of this code object fit the core (R314)? -/
def State.fitsCore (s : State) (c : Nat) (h : CodeHdr) : Bool :=
  decide (h.waves ≤ (s.freeSlots c).length) && decide (h.waves * h.blocks ≤ (s.core c).freeBlocks.length) &&
    (s.granuleRun c h.granules).isSome

/-- Is the core kept for another record (R314)? -/
def State.reservedFor (s : State) (c : Nat) (r : Ready) : Bool := s.lch.ready.any fun x => x.id != r.id && x.reserved.contains c

/-- A deterministic task: the core of a logical core, once the first dispatch has chosen them; the first one chosen fixes the rest. -/
def Task.coreFor (t : Task) (lc c : Nat) : Nat := if t.cores.isEmpty then c else t.cores.getD lc c
def Task.chooseCores (t : Task) (lc c : Nat) : List Nat :=
  if t.cores.isEmpty then (List.range t.launch.lcores).map fun i => (c + 320 - lc + i) % 320 else t.cores

/-- May a deterministic block start: it is the next of its logical core, which runs no block (R325)? -/
def State.detTurn (s : State) (slot : Nat) (t : Task) (b : Nat) : Bool :=
  let l := max 1 t.launch.lcores
  ((List.range b).all fun i => i % l != b % l || t.doneBlocks.contains i) &&
    !(s.lch.blocks.any fun x => x.2.task == slot && x.2.index % l == b % l && !x.2.waves.isEmpty)

/-- Does a saved block fit a core (R329, R472)? -/
def State.fitsSaved (s : State) (c : Nat) (x : Saved) : Bool :=
  c % 4 == x.block.core % 4 && decide (x.waves.length ≤ (s.freeSlots c).length) &&
    decide ((x.waves.map fun w => w.2.blocks.length).sum ≤ (s.core c).freeBlocks.length) &&
    (x.block.granules.all fun g => (tabGet? s.granules (80 * c + g % 80)).isNone) &&
    (x.engine.isNone || ((s.engine c).holder.isNone && (s.engine c).claim.isEmpty))

/-- Where a record could go if it is offered this core. -/
inductive Fit where
  | no
  | bad
  | cores (cs : List Nat) (h : CodeHdr)
  | restore
  deriving DecidableEq, Repr

/-- Where saved blocks of a record would go. -/
def State.savedCores (s : State) (r : Ready) (core : Nat) : List (Nat × Saved) :=
  r.saved.filterMap fun i => (tabGet? s.lch.saved i).map fun x =>
    (if r.saved.length = 1 then core else core / 4 * 4 + x.block.core % 4, x)

/-- Offer a core to a record (R314, R325). -/
def State.fit (s : State) (r : Ready) (core : Nat) : Fit × State :=
  match s.task? r.entry.task with
  | none => (.no, s)
  | some t =>
    if (tabGet? s.aborts r.entry.task).isSome then (.no, s)
    else if !r.saved.isEmpty then
      let xs := s.savedCores r core
      -- a deterministic block returns to the core of its logical core (R325)
      let det := !t.det || t.coreFor (r.entry.block % max 1 t.launch.lcores) core == core
      (if det && !xs.isEmpty && xs.all fun x => s.fitsSaved x.1 x.2 && !s.reservedFor x.1 r then .restore else .no, s)
    else if r.entry.launcher then
      let l := max 1 t.launch.lcores
      let cs := if t.gang = 1 then [core] else (List.range t.gang).map fun i => core / 4 * 4 + i
      let det := !t.det || (s.detTurn r.entry.task t r.entry.block && t.coreFor (r.entry.block % l) core == core)
      if det && cs.all fun c => s.fitsCore c t.hdr && !s.reservedFor c r then (.cores cs t.hdr, s) else (.no, s)
    else
      match s.tenantRead t.tenant r.entry.code.toNat 128 with
      | (none, s) => (.bad, s)
      | (some b, s) =>
        match codeHdrOf b with
        | none => (.bad, s)
        | some h =>
          if !h.fitsCore || h.gang ≠ 1 then (.bad, s)
          else if s.fitsCore core h && !s.reservedFor core r then (.cores [core] h, s) else (.no, s)

/-! ## Launching a block (R47, R255, R459) -/

/-- A stream at launch (R255). -/
def launchStream (pc : DWord) (lanes : Word) : Stream :=
  { Stream.empty with
    tab := SplitTab.empty.setSlot 0 (some ⟨pc, pc, lanes, lanes, [], []⟩), launched := lanes, exited := decide (lanes = 0#32) }

/-- Start one wave of a block in the lowest free slot. -/
def State.launchWave (s : State) (core block : Nat) (t : Task) (r : ContRec) (h : CodeHdr) (index i : Nat) (plaza : DWord) : State :=
  match s.freeSlots core with
  | [] => s
  | slot :: _ =>
    let id := s.freshId (srcCore core)
    let s := id.2
    let c := s.core core
    let lanes : Word := if i + 1 = h.waves then maskOf fun l => decide (l < h.lastLanes) else 0xFFFFFFFF#32
    let at_ (o : Nat) : DWord := r.code + BitVec.ofNat 64 o
    let (x, y, z) := if r.launcher then t.launch.coords index else (index, 0, 0)
    let regs : Vector Word 64 := ((Vector.replicate 64 0#32).setIfInBounds 0 (loHalf plaza)).setIfInBounds 1 (hiHalf plaza)
    let w : Wave :=
      { Wave.empty with
        a := { launchStream (at_ h.aEntry) lanes with regs := regs },
        c := if h.single then Stream.empty else launchStream (at_ h.cEntry) lanes,
        single := h.single, blocks := c.freeBlocks.take h.blocks,
        trapVector := if h.vector = 0 then 0#64 else at_ h.vector,
        causal := id.1, frame := r.frame, waveId := i, blockX := BitVec.ofNat 32 x, blockY := BitVec.ofNat 32 y,
        blockZ := BitVec.ofNat 32 z, taskId := t.launch.taskId, tenant := t.tenant, block := block, task := r.task,
        logical := index, codeLo := at_ h.codeOff, codeHi := at_ (h.codeOff + h.codeSize) }
    let s := s.setCore core { c with freeBlocks := c.freeBlocks.drop h.blocks }
    let s := (s.setWave (48 * core + slot) w).wroteElems core w 0 (16 * h.blocks)
    { s with lch := { s.lch with blocks := tabUpd s.lch.blocks block fun b => { b with waves := b.waves ++ [48 * core + slot] } } }

/-- Granules are zero-filled (R153): fresh check bits, and no barrier word that has been initialised there remains one. -/
def State.zeroGranules (s : State) (core g n : Nat) : State :=
  let lo := plazaKey core (g * 4096)
  ({ s with opLog := s.opLog.filter fun x => !(decide (lo ≤ x.key) && decide (x.key < lo + n * 4096)) } : State).zeroMem lo (n * 4096)

/-- A kernel is resident from now on: the pages of its code segment, which lies from `lo` to `hi` (R28). (DESIGN CHOICE, unsafe: notes/assumptions/76.md) -/
def State.codeIn (s : State) (tenant code lo hi : Nat) : State :=
  if s.lch.codePages.any fun x => x.tenant == tenant && x.code == code then s
  else
    let ps := (List.range ((hi + 65535) / 65536 - lo / 65536)).map fun i => (⟨tenant, code, lo / 65536 + i, none⟩ : CodePage)
    ({ s with lch := { s.lch with codePages := s.lch.codePages ++ ps } } : State).codeFind

/-- Once no block of a kernel is resident, its pages are ordinary memory. (DESIGN CHOICE, unsafe: notes/assumptions/76.md) -/
def State.codeOut (s : State) : State :=
  if s.lch.codePages.isEmpty then s
  else
    let used (x : CodePage) : Bool := s.lch.blocks.any fun b => b.2.entry.code.toNat == x.code && ((s.task? b.2.task).map fun t => t.tenant == x.tenant).getD false
    let ps := s.lch.codePages.filter used
    { s with lch := { s.lch with codePages := ps, codeLog := s.lch.codeLog.filter fun l => ps.any fun x => x.frame == some (l.1 / 65536) } }

/-- Start one block on a core: granules, zero-filled; its waves; an acquire (R153, R318, R459). -/
def State.launchBlock (s : State) (core key : Nat) (r : ContRec) (t : Task) (h : CodeHdr) (index : Nat) (gang : List Nat) : State :=
  let g := (s.granuleRun core h.granules).getD 0
  let gs := (List.range h.granules).map fun i => 80 * core + g + i
  let plaza := if h.granules = 0 then 0#64 else BitVec.ofNat 64 (plazaWin + core * 0x80000 + g * 4096)
  let s := ({ s with granules := gs.foldl (fun m i => tabPut m i t.tenant) s.granules }).zeroGranules core g h.granules
  let b : Block :=
    { task := r.task, index := index, core := core, waves := [], granules := gs, entry := r, started := s.gtc, gang := gang,
      flushed := 0, epoch0 := t.epochs.getD (index % max 1 t.launch.lcores) 0, order := key }
  let s := { s with lch := { s.lch with blocks := tabPut s.lch.blocks key b } }
  let s := (List.range h.waves).foldl (fun s i => s.launchWave core key t r h index i plaza) s
  (s.codeIn t.tenant r.code.toNat (r.code.toNat + h.codeOff) (r.code.toNat + h.codeOff + h.codeSize)).nearClear core

/-! ## Starting a task (R324) -/

/-- Do two counter ranges share a counter (R324)? -/
def rngOverlap (b1 n1 b2 n2 : Nat) : Bool :=
  decide ((b2 + 2 ^ 32 - b1) % 2 ^ 32 < n1) || decide ((b1 + 2 ^ 32 - b2) % 2 ^ 32 < n2)

/-- A task retires without more ado: its completion word, its JOIN, its event, its graph (R313, R315, R322). -/
def State.finishTask (s : State) (slot : Nat) (error code : Nat) : State :=
  match s.task? slot with
  | none => s
  | some t =>
    let s := s.setTask slot { t with retired := true }
    let s := { s with lch := { s.lch with rng := s.lch.rng.filter fun r => r.task != slot,
                                           ready := s.lch.ready.filter fun r => r.entry.task != slot,
                                           waiting := s.lch.waiting.filter fun r => r.entry.task != slot } }
    let status := 2 ^ 31 + error * 256 + code
    let s := s.completion (srcOfQueue t.queue) t.tenant t.launch.doneVa error code t.runs
    let s := s.launcherJoin t.launch.join t.tenant slot 0#64
    let s := if t.launch.evt then
        s.emit (srcOfQueue t.queue) 0x082 t.tenant 0#64 (BitVec.ofNat 64 (t.launch.taskId.toNat + status * 2 ^ 32))
      else s
    match t.node with
    | some (g, n) =>
      let s := if error = 0 ∧ code = 0 then s else s.failNode g n
      (s.evalGraph g).endGraph g
    | none =>
      if ((s.task? slot).map fun t => t.spawned).getD 0 = 0 then { s with lch := { s.lch with tasks := tabErase s.lch.tasks slot } }
      else s

/-- The range check of a task that starts (R324): does it start? -/
def State.startTask (s : State) (slot : Nat) (t : Task) : Bool × State :=
  if t.started then (true, s)
  else
    let src := srcOfQueue t.queue
    let go (s : State) : Bool × State := (true, s.setTask slot { t with started := true, runs := t.runs + 1, order := s.free })
    let l := t.launch
    if l.ctrCount = 0 then go s
    else if s.lch.rng.length ≥ 256 then
      go (s.emit src 0x085 t.tenant 0#64 (BitVec.ofNat 64 l.taskId.toNat))
    else
      let hits := s.lch.rng.filter fun r => r.seed == l.seed && rngOverlap r.base r.count l.ctrBase l.ctrCount
      let s := hits.foldl (fun s r =>
        let other := ((s.task? r.task).map fun t => t.launch.taskId.toNat).getD 0
        s.emit src 0x081 t.tenant 0#64 (BitVec.ofNat 64 (l.taskId.toNat + other * 2 ^ 32))) s
      if !hits.isEmpty && l.rngchk then (false, s.finishTask slot 0 0x27)
      else
        let x : RngRange := ⟨slot, l.seed, l.ctrBase, l.ctrCount⟩
        go { s with lch := { s.lch with rng := s.lch.rng ++ [x] } }

/-! ## BLOCK_DISPATCH (R314) -/

/-- A spawned record that fails its checks is discarded (R319). -/
def State.discardRecord (s : State) (r : Ready) : State :=
  let s := { s with lch := { s.lch with ready := s.lch.ready.filter fun x => x.id != r.id } }
  match s.task? r.entry.task with
  | none => s
  | some t =>
    let s := s.emit (srcOfQueue r.entry.queue) 0x083 t.tenant 0#64 (BitVec.ofNat 64 r.addr)
    let s := s.launcherJoin r.entry.join t.tenant r.entry.task 0#64
    { s with lch := { s.lch with tasks := tabUpd s.lch.tasks r.entry.task fun t => { t with spawned := t.spawned - 1 } } }

/-- Start a record's blocks on its cores. -/
def State.launchRecord (s : State) (r : Ready) (cs : List Nat) (h : CodeHdr) : State :=
  match s.task? r.entry.task with
  | none => s
  | some t =>
    -- of two tasks that start in one cycle the one of the lower queue is checked first (R324)
    let checks := r.entry.launcher && !t.started && decide (t.launch.ctrCount ≠ 0)
    if checks && s.tooLate 2 0 t.queue then s else
    let s := if checks then s.serve 2 0 t.queue else s
    let x := if r.entry.launcher then s.startTask r.entry.task t else (true, s)
    if !x.1 then x.2
    else
      let s := x.2
      let t := (s.task? r.entry.task).getD t
      let t := if t.det then { t with cores := t.chooseCores (r.entry.block % max 1 t.launch.lcores) (cs.headD 0) } else t
      let s := s.setTask r.entry.task t
      let l := s.lch
      let s := { s with lch := { l with ready := l.ready.filter fun y => y.id != r.id,
                                        served := if r.front then l.served else tabPut l.served r.level r.producer } }
      let keys := (List.range cs.length).map fun i => s.nextId + i
      let s := { s with nextId := s.nextId + cs.length }
      (cs.zip keys).zipIdx.foldl (fun s c => s.launchBlock c.1.1 c.1.2 r.entry t h (r.entry.block + c.2) keys) s

/-- Give a core to the first record that fits it; records of higher levels before it have been passed over. -/
def State.dispatchFrom (s : State) (core : Nat) : List Ready → List Ready → State
  | [], _ => s
  | r :: rest, skipped =>
    match s.fit r core with
    | (.no, s) => s.dispatchFrom core rest (skipped ++ [r])
    | (.bad, s) => s.discardRecord r
    | (.restore, s) => s
    | (.cores cs h, s) =>
      let above := (skipped.filter fun x => decide (x.level > r.level)).map fun x => x.id
      let note (x : Ready) : Ready := if above.contains x.id && x.passed.isNone then { x with passed := some s.gtc } else x
      ({ s with lch := { s.lch with ready := s.lch.ready.map note } }).launchRecord r cs h

/-- BLOCK_DISPATCH (R314): the launcher gives a core to the highest eligible record that fits it. -/
def execBlockDispatch (core : Nat) (s : State) : Out :=
  if core < 320 then .next (s.dispatchFrom core s.dispatchOrder []) else .next s

/-- RECORD_LIFT (R314): a record that has waited LIFT units rises by one level, up to level 19. -/
def execRecordLift (id : Nat) (s : State) : Out :=
  match s.lch.ready.find? fun r => r.id == id with
  | none => .next s
  | some r =>
    match s.queueEnt r.entry.queue with
    | none => .next s
    | some (q, s) =>
      if q.lift = 0 || r.level ≥ 19 || decide ((s.gtc - r.since).toNat < (r.lifted + 1) * q.lift * 1024) then .next s
      else
        let rise (x : Ready) : Ready := if x.id = id then { x with lifted := x.lifted + 1 } else x
        .next { s with lch := { s.lch with ready := s.lch.ready.map rise } }

/-- Units of 1,024 ticks that a record waits before it reserves or pre-empts (R328). -/
def State.waitTicks (s : State) : Nat := s.lch.preempt.toNat % 65536 * 1024

/-- RESERVATION_WAIT (R314): a record that has been passed over for WAIT units reserves the first cores on which it would fit once they
are empty. -/
def execReservationWait (id : Nat) (s : State) : Out :=
  match s.lch.ready.find? fun r => r.id == id with
  | none => .next s
  | some r =>
    match r.passed, s.task? r.entry.task with
    | some t0, some t =>
      if !r.reserved.isEmpty || decide ((s.gtc - t0).toNat < s.waitTicks) then .next s
      else
        let n := if r.saved.isEmpty then (if r.entry.launcher then t.gang else 1) else r.saved.length
        let home := r.saved.filterMap fun i => (tabGet? s.lch.saved i).map fun x => x.block.core % 4
        let pos := home.head?
        let l := max 1 t.launch.lcores
        let ok (c : Nat) : Bool := !s.reservedFor c r && (match pos with | some p => c % 4 == p | none => true) &&
          (!t.det || t.coreFor (r.entry.block % l) c == c)
        let cs := if n > 1 then
            (((List.range 80).map fun q => (if home.isEmpty then List.range n else home).map fun i => 4 * q + i).find? fun q =>
              q.all fun c => !s.reservedFor c r).getD []
          else (((List.range 320).find? ok).map fun c => [c]).getD []
        let keep (x : Ready) : Ready := if x.id = id then { x with reserved := cs } else x
        .next { s with lch := { s.lch with ready := s.lch.ready.map keep } }
    | _, _ => .next s

/-! ## Leaving a core (R309, R318) -/

/-- Does anything of the wave still run: an access, a command, a buffered word? -/
def State.waveBusy (s : State) (k : Nat) : Bool :=
  s.flight.any (fun a => a.wave == k) || s.held.any (fun h => h.wave == k && (match h.what with | .lanes _ => true | _ => false)) ||
    s.cmds.any (fun c => c.2.wave == k)

/-- Entries of a block in its core's engine queue. -/
def State.blockEntries (s : State) (b : Block) (key : Nat) : List EngineEntry :=
  (s.engine b.core).queue.filter fun x => x.block == key

/-- An unstarted QUAD loop. -/
def EngineEntry.quadWaits (x : EngineEntry) : Bool := !x.started && (match x.op with | .loop l _ => mxQuad l.minor | _ => false)

/-- Can the block issue no further entry: its waves have exited, or its task is aborting? -/
def State.issuesNoMore (s : State) (p : Block) : Bool := (s.blockWaves p).all (fun w => w.ended) || (tabGet? s.aborts p.task).isSome

/-- Can an unstarted QUAD entry of a block no longer pair: a partner's block has gone, or issues nothing more, without its part (R115)? The entries
of the four cores pair in their order. -/
def State.unpairable (s : State) (b : Block) (key : Nat) (x : EngineEntry) : Bool :=
  let mine := (s.blockEntries b key).filter EngineEntry.quadWaits
  x.quadWaits && b.gang.any fun k => match tabGet? s.lch.blocks k with
    | none => true
    | some p => s.issuesNoMore p && decide (((s.blockEntries p k).filter EngineEntry.quadWaits).length ≤ mine.findIdx fun y => y.id == x.id)

/-- Entries that can no longer pair leave the queue. -/
def State.dropUnpairable (s : State) (b : Block) (key : Nat) : State :=
  ((s.blockEntries b key).filter fun x => s.unpairable b key x).foldl (fun s x => s.popEntry b.core x) s

/-- The engine's claim ends: everything in it is zero (R115). -/
def State.releaseEngine (s : State) (core key : Nat) : State :=
  let g := s.engine core
  let g := { g with claim := g.claim.filter (· ≠ key) }
  if g.holder = some key then
    (s.setEngine core { g with holder := none, windows := [] }).clearEngine core
  else s.setEngine core g

/-- What a wave leaves behind in the tables goes with it. -/
def State.forgetWave (s : State) (k : Nat) : State :=
  let asks (a : Nat) : Bool := a == 2 * k || a == 2 * k + 1
  { s with waves := tabErase s.waves k,
           fences := s.fences.filter fun f => f.wave != k,
           walkRes := s.walkRes.filter fun r => !asks r.asker,
           lines := s.lines.filter fun r => !asks r.asker,
           homeOps := s.homeOps.filter fun h => h.wave != k,
           waiters := s.waiters.filter fun w => w.wave != k,
           held := s.held.filter fun h => h.wave != k || (match h.what with | .engine _ _ => true | _ => false),
           flight := s.flight.filter fun a => a.wave != k }

/-- The number that stands for a wave that has left its slot (M). -/
def goneWave : Nat := 100000000

/-- Free a block's slots and vector blocks: its last wave has left the core (R309). What its engine entries do no longer concerns its waves. -/
def State.releaseSlots (s : State) (key : Nat) (b : Block) : State :=
  let s := b.waves.foldl (fun s k =>
    let bs := ((s.wave? k).map fun w => w.blocks).getD []
    let c := (s.core b.core).giveBlocks bs
    (s.setCore b.core { c with vacq := c.vacq.filter fun r => r.wave != k }).forgetWave k) s
  let g := s.engine b.core
  let mine := (s.blockEntries b key).map fun x => x.id
  let s := if mine.isEmpty then s else s.setEngine b.core { g with
    queue := g.queue.map fun x => if x.block = key then { x with wave := goneWave, tracks := [] } else x,
    windows := g.windows.map fun w => if mine.contains w.id then { w with tracks := [] } else w }
  { s with lch := { s.lch with blocks := tabUpd s.lch.blocks key fun b => { b with waves := [] } } }

/-- Free a block's slots, vector blocks, granules and claim (R309). -/
def State.releaseBlock (s : State) (key : Nat) (b : Block) : State :=
  let s := s.releaseSlots key b
  let s := s.releaseEngine b.core key
  { s with granules := s.granules.filter fun g => !b.granules.contains g.1,
           lch := { s.lch with blocks := tabErase s.lch.blocks key, victims := s.lch.victims.filter fun v => v.block != key } }.codeOut

/-- A logical core that has run its last block has passed every epoch: what its core still buffers moves to the flush area (R326). -/
def State.lastBlockDone (s : State) (slot : Nat) (core lc : Nat) : State :=
  match s.task? slot with
  | none => s
  | some t =>
    let l := max 1 t.launch.lcores
    if t.det && (List.range t.nblocks).all fun b => b % l != lc || t.doneBlocks.contains b then
      let es := (((s.core core).det.filter fun d => d.task == slot).map fun d => d.flush).dedup
      let s := es.foldl (fun s e => s.moveFlush core slot e) s
      s.setTask slot { t with lastRun := t.lastRun ++ [lc] }
    else s

/-- A task that has retired leaves the table with its last spawned block, where no graph keeps it. -/
def State.endTask (s : State) (slot : Nat) : State :=
  match s.task? slot with
  | some t => if t.retired && t.spawned == 0 && t.node.isNone then { s with lch := { s.lch with tasks := tabErase s.lch.tasks slot } } else s
  | none => s

/-- The last wave of a block has left its core (R318, R319): its completion bit, its JOIN, its graph. -/
def State.blockLeft (s : State) (b : Block) (causal : DWord) : State :=
  match s.task? b.task with
  | none => s
  | some t =>
    let t := if b.entry.launcher then { t with doneBlocks := t.doneBlocks ++ [b.index] } else { t with spawned := t.spawned - 1 }
    let s := s.setTask b.task t
    let s := if b.entry.launcher then s.lastBlockDone b.task b.core (b.index % max 1 t.launch.lcores) else s
    -- the consumers of the bit are tested at the end of the cycle (R318)
    (s.launcherJoin b.entry.join t.tenant b.task causal).endTask b.task

/-- BLOCK_LEAVE (R309, R318): once the last wave of a block has left its core, its slots are free, its completion bit is set and its JOIN counts down; its
granules and its claim follow when no entry of it remains in the engine queue. -/
def execBlockLeave (block : Nat) (s : State) : Out :=
  match tabGet? s.lch.blocks block with
  | none => .next s
  | some b =>
    let ws := s.blockWaves b
    let last (s : State) : State :=
      let s := s.dropUnpairable b block
      if (s.blockEntries b block).isEmpty then s.releaseBlock block { b with waves := [] } else s
    if b.waves.isEmpty then .next (last s)
    else if ws.any (fun w => !w.ended || !w.blocks.isEmpty) || b.waves.any s.waveBusy then .next s
    else
      let causal := (ws.getLast?.map fun w => w.causal).getD 0#64
      .next ((last ((s.dropUnpairable b block).releaseSlots block b)).blockLeft b causal)

/-! ## Epochs (R203, R326) -/

/-- Apply one buffered RED at its word's home unit (R70, R204); behind one that is still on its way to another module, and where it finds no spill space,
it goes as an access of the flush area. -/
def State.applyDet (s : State) (d : DetRed) : State :=
  let n := if d.minor = 11 then 8 else 4
  let before := (s.flight.filter fun a => a.wave == detWave d.task).map fun a => a.id
  let send : State :=
    let r := s.newId
    let a : Access :=
      { id := r.1, op := r.1, wave := detWave d.task, core := 0, tenant := d.tenant, lane := d.lane, traps := 0#32,
        kind := .atomic d.minor d.b d.b2 [], addr := d.addr, place := d.place, pageKind := 3, posted := false, scope := 5, pc := 0#64, slot := 0,
        causal := d.causal, disc := false, st := .waiting, after := before, overlay := [], page := (0, 0), sent := none }
    { r.2 with flight := r.2.flight ++ [a] }
  match d.place with
  | .mem key =>
    let old := BitVec.ofNat 64 (bytesToNat (memGets s.mem key n))
    let new := natToBytes n (atomicNew d.minor old d.b d.b2).toNat
    if !before.isEmpty || s.needsSpill key new then send
    else
      let s := s.findErrors key n d.tenant d.causal
      if (s.readError key n).isSome then s else (s.storeInWindows key n).homeWrite key new
  | _ => send

/-- The order of R326: logical block, wave, lane; entries of one lane keep theirs. -/
def detLe (a b : DetRed) : Bool :=
  decide (a.logical < b.logical) || (a.logical == b.logical && (decide (a.waveIx < b.waveIx) ||
    (a.waveIx == b.waveIx && (decide (a.lane < b.lane) || (a.lane == b.lane && decide (a.order ≤ b.order))))))

/-- Apply an epoch of a task. -/
def State.applyEpoch (s : State) (slot e : Nat) : State :=
  let mine (x : Nat × DetRed) : Bool := x.1 == e && x.2.task == slot
  let ds := ((s.lch.flushArea.filter mine).map Prod.snd).mergeSort detLe
  let s := { s with lch := { s.lch with flushArea := s.lch.flushArea.filter fun x => !mine x } }
  ds.foldl State.applyDet s

/-- Has every logical core passed epoch `e`? -/
def Task.passed (t : Task) (e : Nat) : Bool :=
  -- a logical core to which no block belongs has passed every epoch
  (List.range t.launch.lcores).all fun i => t.lastRun.contains i || decide (t.nblocks ≤ i) || decide (t.epochs.getD i 0 > e)

/-- Is a RED of the epoch still held for a replay (R185, R203), or its page's migration under way (R346)? -/
def State.detHeldIn (s : State) (task e : Nat) : Bool :=
  let moving (d : DetRed) : Bool := pagedVa d.addr.toNat && (match (s.walkPage d.tenant (d.addr.toNat / 65536)).1 with | .leaf x _ => pteMoving x | _ => false)
  s.lch.flushArea.any (fun x => x.1 == e && x.2.task == task && moving x.2) ||
  (s.held.flatMap heldAccesses).any fun a => (a.det.map fun x => x.2.2 == e).getD false && ((s.wave? a.wave).map fun w => w.task == task).getD false

/-- DET_EPOCH_APPLY (R326): once every logical core has passed an epoch, its buffered REDs are applied in order. -/
def execDetEpochApply (task : Nat) (s : State) : Out :=
  match s.task? task with
  | none => .next s
  | some t =>
    if !t.det || !t.passed t.applied || s.detHeldIn task t.applied then .next s
    else .next ((s.applyEpoch task t.applied).setTask task { t with applied := t.applied + 1 })

/-! ## TASK_RETIRE (R322) -/

/-- The accesses that have used a translation which publishing a task's shadows makes old, and have not been performed (R347). -/
def State.publishUses (s : State) (slot : Nat) : List Nat :=
  let fs := (s.lch.shadows.filter fun x => x.task == slot).map fun x => (tabGetD s.pvt x.entry PvtEntry.free).redir.getD x.entry
  if fs.isEmpty then []
  else
    let old (p : Place) : Bool := match p with | .mem k => isHbmKey k && fs.contains (k / 65536) | _ => false
    ((s.flight.filter fun a => a.st == .waiting && old a.place).map fun a => a.id) ++
    (s.cores.flatMap fun c => (c.2.engine.queue.filter fun x => x.started && x.places.any fun p => old p.1).map fun x => x.id) ++
    ((s.homeOps.filter fun h => h.reply.isNone && h.stuck.isNone && old (.mem h.key)).map fun h => h.op) ++
    (s.bufferedReds.filter fun d => old d.place).map fun d => d.order

/-- Drop the translations of VERS pages from every TLB, with the events of R344. -/
def State.dropVers (s : State) (entries : List Nat) : State :=
  let hit (t : TlbEntry) : Bool := pteVers t.leaf && entries.contains (pteFrame t.leaf)
  let s := s.cores.foldl (fun (s : State) c =>
    if c.2.tlb.any hit then ((c.2.tlb.filter hit).foldl (fun (s : State) t => s.tlbReport c.1 t) s).setTlb false c.1 (c.2.tlb.filter fun t => !hit t)
    else s) s
  { s with tteTlb := s.tteTlb.map fun x => (x.1, x.2.filter fun t => !hit t) }

/-- Publish the shadows of a commit task, and invalidate its pages (R327, R347). -/
def State.publish (s : State) (slot : Nat) : State :=
  let mine := s.lch.shadows.filter fun x => x.task == slot
  let s := if mine.isEmpty then s else s.dropVers (mine.map fun x => x.entry)
  let s := s.poolFree (mine.filterMap fun x => (tabGetD s.pvt x.entry PvtEntry.free).redir)
  let s := mine.foldl (fun s x =>
    { s with pvt := tabPut s.pvt x.entry { tabGetD s.pvt x.entry PvtEntry.free with redir := some x.frame } }) s
  { s with lch := { s.lch with shadows := s.lch.shadows.filter fun x => x.task != slot,
                               shadowWaits := s.lch.shadowWaits.filter fun x => x.1 != slot } }

/-- TASK_RETIRE (R322). -/
def execTaskRetire (task : Nat) (s : State) : Out :=
  match s.task? task with
  | none => .next s
  | some t =>
    let rest := if t.dead then (s.lch.ready ++ s.lch.waiting).any fun r => r.entry.task == task else decide (t.doneBlocks.length < t.nblocks)
    if t.retired || (tabGet? s.aborts task).isSome || rest || t.spawned ≠ 0 ||
       s.lch.blocks.any (fun b => b.2.task == task) || s.cmds.any (fun c => c.2.task == task) then .next s
    else
      let es := ((s.lch.flushArea.filter fun x => x.2.task == task).map Prod.fst).dedup.mergeSort fun a b => decide (a ≤ b)
      if es.any fun e => s.detHeldIn task e then .next s else
      let s := es.foldl (fun s e => s.applyEpoch task e) s
      -- the last flush is applied before the shadows are published (R322)
      if s.flight.any fun a => a.wave == detWave task then .next s
      else match t.pubWaits with
        | some ws => if ws.any s.usedBy then .next s else .next (s.finishTask task (if t.dead then 2 else 0) 0)
        | none =>
          let ws := s.publishUses task
          if ws.isEmpty then .next ((s.publish task).finishTask task (if t.dead then 2 else 0) 0)
          else .next ((s.publish task).setTask task { t with pubWaits := some ws })

/-! ## TASK_ABORT (R422) -/

/-- The waits of a wave are cancelled: it leaves the waiters of its barrier word or semaphore (R422). -/
def State.leaveWaiters (s : State) (k : Nat) : State :=
  (s.waiters.filter fun w => w.wave == k).foldl (fun s w =>
    let sem := s.homeOps.any fun h => h.wave == k && h.cls == 1 && h.key == w.key
    let s := { s with waiters := s.waiters.filter fun x => x != w }
    if sem then s.noteWaiters w.key 4 16 else s.noteWaiters w.key 6 40) s

/-- The first step of an abort (R422): the waits of a wave are cancelled, with the requests that would give it a permit, a phase or blocks, and its
pending traps are discarded. -/
def State.cancelWaits (s : State) (k : Nat) : State :=
  let asksFor (h : HomeOp) : Bool := h.wave == k && ((h.cls == 0 && (h.minor == 2 || h.minor == 6)) || (h.cls == 1 && h.minor == 1))
  let s := s.leaveWaiters k
  let c := s.core (coreOf k)
  let s := { s with homeOps := s.homeOps.filter fun h => !asksFor h }
  let s := if c.vacq.any (fun r => r.wave == k) then s.setCore (coreOf k) { c with vacq := c.vacq.filter fun r => r.wave != k } else s
  s.updWave k fun w => { ((w.setWait false false none).setWait true false none).setWait false true none with deferred := [], trapping := none }

/-- A task that aborts has its waves' waits cancelled in the same step (R422). -/
def State.abortSettle (s : State) : State :=
  s.aborts.foldl (fun s a => (s.lch.blocks.filter fun b => b.2.task == a.1).foldl (fun s b => b.2.waves.foldl State.cancelWaits s) s) s

/-- Start a commit task again (R323): nothing of its last run remains. -/
def State.rerun (s : State) (slot : Nat) (t : Task) : State :=
  let t := { t with started := false, doneBlocks := [], eligible := [], spawned := 0, epochs := t.epochs.map fun _ => 0, lastRun := [],
                    applied := 0, cores := [], dead := false, atHead := true }
  (s.setTask slot t).makeEligible slot

end Sys2Proof.Machine
end

