-- ==== Sys2Proof/Machine/Combine.lean ====
section
/-!
DEFINITION. Combining objects and the Roundabout (spec/09_combining_objects.md, R222 to R241, R475; 27_program_hot_rows.md, R470): CALLO,
the home queue, batches, CREPLY, CDONE, CABORT. `State.faultBatch` (R238) stands in Ops.lean, for a trap of a method ends its batch.
-/
namespace Sys2Proof.Machine

/-! ## Descriptors (R222) -/

structure CombDesc where
  method : Nat
  state : Nat
  ssize : Nat
  homeDev : Nat
  homeCore : Nat
  scope : Nat
  maxb : Nat
  det : Bool
  poisoned : Bool
  tenant : Nat
  /-- every field of bytes 0 to 31 in range, every reserved bit 0 -/
  ok : Bool
  deriving DecidableEq, Repr

def combDescOf (b : List Byte) : CombDesc :=
  let method := fld b 0 8
  let st := fld b 8 8
  let ss := fld b 16 4
  { method := method, state := st, ssize := ss, homeDev := fld b 20 2 % 4096, homeCore := fld b 22 2 % 512, scope := fld b 24 1 % 8,
    maxb := fld b 25 1, det := (fld b 26 1).testBit 0, poisoned := (fld b 26 1).testBit 1, tenant := fld b 28 2 % 1024,
    ok := method % 4 == 0 && st % 4 == 0 && decide (4 ≤ ss) && decide (ss ≤ 2 ^ 30) && ss % 4 == 0 && decide (fld b 20 2 < 4096) &&
      decide (fld b 22 2 < 320) && decide (1 ≤ fld b 24 1) && decide (fld b 24 1 ≤ 5) && decide (1 ≤ fld b 25 1) &&
      decide (fld b 25 1 ≤ 32) && decide (fld b 26 1 < 4) && decide (fld b 27 1 ≤ 3) && decide (fld b 28 2 < 1024) && zeros b 30 2 }

/-- Does a caller lie within the object's scope (R224)? -/
def CombDesc.admits (d : CombDesc) (device core : Nat) : Bool :=
  match d.scope with
  | 1 => d.homeDev == device && d.homeCore == core
  | 2 => d.homeDev == device && quadOf d.homeCore == quadOf core
  | 3 => d.homeDev == device
  | _ => true

/-! ## CALLO (R225 to R227) -/

/-- The requests of a CALLO, one per active lane, in ascending lane order. -/
def Env.callReqs (e : Env) (op : Nat) (handle : DWord) (b : BitVec 7) (det : Bool) : List CallReq :=
  (lanesOf e.exec).map fun l =>
    { op := op, dev := e.s.device, core := e.core, slot := slotOf e.key, lane := l, handle := handle, arg := e.v32 b l,
      blockNo := e.w.logical, tenant := e.w.tenant, causal := e.w.causal, logical := e.w.logical, waveIx := e.w.waveId, det := det,
      task := e.w.task, epoch := e.epoch, since := 0#64, bad := false }

/-- CALLO (R225 to R227): the checks of R226, then one request per active lane, a release at the object's scope (R188). -/
def execCallo (d a b : BitVec 7) (s : State) : Out :=
  issue (Form.lanesA [vpW d, pR a, vR b]) s fun e =>
    if e.exec = 0#32 then (if e.w.batch.isSome then e.batchFault cNestedCallo else .next e.done)
    else e.memGate .held true fun e =>
      let h := e.s64 a
      if h.toNat % 64 ≠ 0 then e.trap cMisaligned h
      else e.readRecord .load h.toNat 32 fun e r =>
        let c := combDescOf r
        let det := !c.det || (e.det && c.homeDev == e.s.device)
        if !c.ok then e.trap cCombDesc h
        else if c.tenant ≠ e.w.tenant || !c.admits e.s.device e.core || isAvenueVa c.state || !det then e.trap cPermission h
        else if e.w.batch.isSome then e.batchFault cNestedCallo
        else if (e.w.cnt.getD 14 []).length ≥ 63 then e.hold 8 14
        else
          let e := e.readsDone
          let op := e.s.newId
          let x : CallSend := { op := op.1, dev := c.homeDev, home := c.homeCore, scope := c.scope, wave := e.key,
                                after := e.s.releaseSet e.key c.scope, arrived := false, reqs := e.callReqs op.1 h b c.det }
          let p : CallPend := { op := op.1, handle := h, dev := c.homeDev, home := c.homeCore, dest := (e.place? d.toNat).getD 0,
                                status := (e.place? (d.toNat + 1)).getD 0, lanes := e.exec, pc := e.pc, slot := e.cl.slot, det := c.det }
          let w := e.w.count1 14 op.1
          .next { e with s := { op.2 with callSends := op.2.callSends ++ [x] }, w := { w with callo := w.callo ++ [p] } }.done

/-! ## The home queue (R228) -/

/-- Put requests into a home queue; an armed injection may alter an entry's check bits (R413). -/
def State.takeIn (s : State) (home : Nat) (rs : List CallReq) : State :=
  rs.foldl (fun s r =>
    let c := s.core home
    let s := s.injectAt 4 home (queueLoc 2 0 c.calls.length) (callMark r.op r.lane)
    s.setCore home { s.core home with calls := c.calls ++ [{ r with bad := false, since := s.gtc }] }) s

def State.callRoom (s : State) (home n : Nat) : Bool := decide ((s.core home).calls.length + n ≤ 256)

/-- Requests that wait for room enter in the order in which they arrived. Fuel bounds their number. -/
def State.admitWaiting : Nat → State → Nat → State
  | 0, s, _ => s
  | n + 1, s, home =>
    match s.callSends.find? fun x => x.arrived && x.home == home && x.dev == s.device with
    | none => s
    | some x =>
      if s.callRoom home x.reqs.length then
        ({ s with callSends := s.callSends.filter fun y => y.op != x.op }.takeIn home x.reqs).admitWaiting n home
      else s

/-- The data of a CALLO packet (R428, R475): the arguments, ascending; then lane mask, wave slot, block number and home core
(DESIGN CHOICE, unsafe: notes/assumptions/22.md). -/
def CallSend.packet (x : CallSend) (r : CallReq) : Packet :=
  let data := x.reqs.flatMap (fun q => bytes4 q.arg) ++ bytes4 (maskOf fun l => x.reqs.any fun q => q.lane == l) ++
    natToBytes 4 r.slot ++ natToBytes 4 r.blockNo ++ natToBytes 4 x.home
  { dst := x.dev, srcDev := 0, src := srcCore r.core, xtag := 0, op := .callo, scope := x.scope, release := true, retry := false,
    unlocked := false, tenant := r.tenant, minor := 0, len := data.length, addr := r.handle.toNat % 2 ^ 56, causal := r.causal,
    sent := 0#64, opnd := 0#64, data := data }

/-- CALLO_REQUEST_ARRIVAL (R228): the requests of one CALLO, all its release set performed (R185, R188), reach the home queue, or set out for another
module (R475). Those that reach a queue in one cycle enter it by device and source. -/
def execCalloRequestArrival (op : Nat) (s : State) : Out :=
  match s.callSends.find? fun x => x.op == op && !x.arrived with
  | none => .next s
  | some x =>
    let r := x.reqs.head?
    let rank := (r.map fun r => r.dev * 65536 + srcCore r.core).getD 0
    if x.after.any s.unperformed || ((r.map fun r => r.dev == s.device).getD false && s.barred x.wave op) then .next s
    else if x.dev = s.device && s.tooLate 1 x.home rank then .next s
    else
      let s := if x.dev = s.device then s.serve 1 x.home rank else s
      let rest := s.callSends.filter fun y => y.op != op
      if x.dev = s.device then
        let waits := s.callSends.any fun y => y.arrived && y.home == x.home && y.dev == s.device
        if !waits && s.callRoom x.home x.reqs.length then .next ({ s with callSends := rest }.takeIn x.home x.reqs)
        else .next { s with callSends := rest ++ [{ x with arrived := true }] }
      else match x.reqs with
        | [] => .next { s with callSends := rest }
        | r :: _ =>
          let mask := maskOf fun l => x.reqs.any fun q => q.lane == l
          .next ((({ s with callSends := rest }).newTxn false (planeOfDev x.dev) (parityOf 12 x.dev) (x.packet r)
            (.callo x.wave op mask)).getD s)

/-- The requests that a CALLO packet of another module carries, on their way to their home queue here; no wave of this module is theirs. -/
def State.recvCallo (s : State) (p : Packet) : State :=
  let n := (p.data.length - 16) / 4
  let mask := BitVec.ofNat 32 (fld p.data (4 * n) 4)
  let id := s.newId
  let reqs := (lanesOf mask).zipIdx.map fun l =>
    ({ op := id.1, dev := p.srcDev, core := p.src % 4096, slot := fld p.data (4 * n + 4) 4, lane := l.1, handle := BitVec.ofNat 64 p.addr,
       arg := BitVec.ofNat 32 (fld p.data (4 * l.2) 4), blockNo := fld p.data (4 * n + 8) 4, tenant := p.tenant, causal := p.causal,
       logical := fld p.data (4 * n + 8) 4, waveIx := 0, det := false, task := 0, epoch := 0, since := 0#64, bad := false } : CallReq)
  let x : CallSend := { op := id.1, dev := s.device, home := fld p.data (4 * n + 12) 4, scope := p.scope, wave := 10 ^ 9, after := [],
                        arrived := false, reqs := reqs }
  let s := id.2
  { s with callSends := s.callSends ++ [x], fab := { s.fab with callFrom := tabPut s.fab.callFrom id.1 p } }

/-! ## Replies (R227, R475) -/

/-- The data of a REPLY to a CALLO: lane, value and status of each lane that it covers (DESIGN CHOICE, unsafe: notes/assumptions/22.md). -/
def replyData (rs : List CallReply) : List Byte :=
  rs.flatMap fun r => natToBytes 4 r.lane ++ bytes4 r.val ++ bytes4 r.status

/-- Send the replies that wait for callers on other modules: one REPLY packet for each transaction (R475), which the filter keeps (R433). -/
def State.flushReplies (s : State) : State :=
  let all := s.remoteReplies
  ((all.map fun r => r.op).dedup).foldl (fun s op =>
    match tabGet? s.fab.callFrom op with
    | none => s
    | some q =>
      let mine := all.filter fun r => r.op == op
      let data := replyData mine
      let p : Packet :=
        { dst := q.srcDev, srcDev := s.device, src := q.src, xtag := q.xtag, op := .reply, scope := q.scope, release := false, retry := false,
          unlocked := !s.locked, tenant := q.tenant, minor := 0, len := data.length, addr := 0, causal := q.causal, sent := q.sent,
          opnd := 0#64, data := data }
      let f := s.fab
      let link := f.orderedLink (planeOfDev q.srcDev) (parityOf 12 q.srcDev)
      let key := (q.srcDev, q.src, q.xtag, q.sent.toNat)
      -- the key is done with the REPLY that covers the last lane
      let lanes (ps : List Packet) : Nat := (ps.map fun x => x.data.length / 12).sum
      let filt := f.filter.map fun (x : (Nat × Nat × Nat × Nat) × Bool × List Packet) =>
        if x.1 == key then (x.1, decide ((q.data.length - 16) / 4 ≤ lanes (x.2.2 ++ [p])), x.2.2 ++ [p]) else x
      { s with fab := { f with filter := filt }.send link p })
    { s with remoteReplies := [] }

/-- Have the wave's loads and returning atomics before `op` landed, so that an acquire at it can complete (R178)? -/
def State.loadsLandedTo (s : State) (k op : Nat) : Bool :=
  !(s.accessIds k fun a => decide (a.op < op) && (match a.kind with
    | .load _ _ _ => (match a.st with | .failed _ => false | _ => true)
    | .atomic _ _ _ ds => !ds.isEmpty && (match a.st with | .failed _ => false | _ => true)
    | .store _ _ => false)).any fun _ => true

/-- CALLO_REPLY_LAND (R227): a reply lands in a caller's lane, an acquire at the object's scope (R188), for which it waits until the wave's earlier
loads have landed (R178); with the last lane a14 drops. The reply of a wave that has exited is discarded. -/
def execCalloReplyLand (op : Nat) (s : State) : Out :=
  match s.callReplies.find? fun r => r.op == op with
  | none => .next s
  | some r =>
    let k := 48 * r.core + r.slot
    if ((s.wave? k).map fun w => !w.ended && w.callo.any fun c => c.op == op).getD false && !s.loadsLandedTo k op then .next s else
    let s := { s with callReplies := s.callReplies.erase r }
    match s.wave? k with
    | none => .next s
    | some w =>
      match w.callo.find? fun c => c.op == op with
      | none => .next s
      | some c =>
        if !laneIn c.lanes r.lane then .next s
        else
          let m : Word := BitVec.ofNat 32 (2 ^ r.lane)
          let left := c.lanes &&& ~~~m
          let w' := if w.ended then w else (w.putVec c.dest m fun _ => r.val).putVec c.status m fun _ => r.status
          let s := if w.ended then s else (s.wroteVec r.core w c.dest m).wroteVec r.core w c.status m
          let pend := w'.callo.filterMap fun (x : CallPend) =>
            if x.op = op then (if left = 0#32 then none else some { x with lanes := left }) else some x
          let w' := { w' with callo := pend }
          -- a CALLO of which a lane has failed stays counted (R197)
          let w' := if left = 0#32 && !w.failed.contains op then w'.landOp op else w'
          .next (((s.acquireAt r.core r.scope).setWave k w').reap k)

/-! ## BATCH_FORM (R229 to R231, R239, R241, R470) -/

/-- Has every logical core of the request's task passed its epoch, and has every request of the epoch reached the queue (R241)? A task that has retired
has passed all. -/
def State.callDue (s : State) (r : CallReq) : Bool :=
  !r.det ||
  ((match s.task? r.task with
    | some t => t.retired || t.passed r.epoch
    | none => true) &&
   !s.callSends.any fun x => !x.arrived && x.reqs.any fun q => q.det && q.task == r.task && q.handle == r.handle && decide (q.epoch ≤ r.epoch))

/-- The key of an object: tenant and handle. -/
def CallReq.object (r : CallReq) : Nat × Nat := (r.tenant, r.handle.toNat)

/-- Has the object a batch running on this core, or a formation held? -/
def State.objectBusy (s : State) (core : Nat) (o : Nat × Nat) : Bool :=
  ([46, 47].any fun i => match s.wave? (48 * core + i) with
    | some w => (match w.batch with | some b => b.descTenant == o.1 && b.handle.toNat == o.2 | none => false)
    | none => false) ||
  s.held.any fun h => h.what == .batch core o.2 && h.tenant == o.1 && !h.again

/-- The order of R241 among held requests that are due; other requests keep the order of the queue. -/
def callLe (a b : CallReq) : Bool :=
  decide (a.epoch < b.epoch) || (a.epoch == b.epoch && (decide (a.logical < b.logical) || (a.logical == b.logical &&
    (decide (a.waveIx < b.waveIx) || (a.waveIx == b.waveIx && decide (a.lane ≤ b.lane))))))

/-- The requests of an object that are not held for their epoch (R241). -/
def State.dueReqs (s : State) (core : Nat) (o : Nat × Nat) : List CallReq := (s.core core).calls.filter fun r => r.object == o && s.callDue r

/-- The requests of an object that a formation may take, in their order: of a deterministic object those of one epoch, the lowest that the oldest
request's task has (R241). Of several tasks the oldest request's goes first. (DESIGN CHOICE, unsafe: notes/assumptions/82.md) -/
def State.objectReqs (s : State) (core : Nat) (o : Nat × Nat) : List CallReq :=
  let rs := s.dueReqs core o
  match rs with
  | r :: _ =>
    if r.det then
      let mine := rs.filter fun x => x.task == r.task
      let low := mine.foldl (fun n x => min n x.epoch) r.epoch
      (mine.filter fun x => x.epoch == low).mergeSort callLe
    else rs
  | [] => []

/-- Requests leave the queue, as it stands at the end of the cycle: none enters it later in that cycle (R470). -/
def State.takeCalls (s : State) (core : Nat) (rs : List CallReq) : State :=
  ((s.serve 1 core (2 ^ 40)).setCore core { s.core core with calls := (s.core core).calls.filter fun r => !rs.contains r }).admitWaiting 512 core

/-- Answer requests without a batch. -/
def State.answer (s : State) (rs : List CallReq) (scope : Nat) (status : Nat → Word) : State :=
  rs.zipIdx.foldl (fun s r => s.sendReply r.1 scope 0#32 (status r.2)) s

/-- A COMB_FAULT event. -/
def State.combFault (s : State) (core code n : Nat) (handle causal : DWord) (tenant : Nat) : State :=
  s.emit (srcOf 9 core) 0x040 tenant causal (BitVec.ofNat 64 (code % 256 + n * 256 + handle.toNat / 64 % 2 ^ 48 * 65536))

/-- The descriptor cannot be read: every queued request of the object is answered with the fault's code (R229); those held for their epoch stay (R241). -/
def State.descFault (s : State) (core : Nat) (o : Nat × Nat) (r : CallReq) (code : Nat) : State :=
  let rs := s.dueReqs core o
  let s := s.dropHeld (.batch core o.2)
  let s := (s.takeCalls core rs).answer rs 5 fun i => callStatus i code cCombinerFault
  (s.combFault core code rs.length r.handle r.causal r.tenant)

/-- Does every page of STATE lie in the home's LOC 0 pages or Plaza window (R238)? A page that has no translation yet passes: the method's own
access faults. -/
def State.stateHome (s : State) (d : CombDesc) : Bool :=
  let first := d.state / 65536
  let last := (d.state + d.ssize - 1) / 65536
  (List.range (last - first + 1)).all fun i =>
    let va := max d.state ((first + i) * 65536)
    match (s.walkResolve (unitAsker d.tenant) .load va).1 with
    | .ok (.mem k) _ _ => isPlazaKey k || isHbmKey k
    | .ok _ _ _ => false
    | .refused _ => false
    | _ => true

/-- The combiner wave at launch (R231). -/
def batchWave (slot : Nat) (d : CombDesc) (causal : DWord) (rs : List CallReq) (key : Nat) (at_ : Option (Nat × Nat)) : Wave :=
  let n := rs.length
  let m : Word := maskOf fun l => decide (l < n)
  let vec (f : CallReq → Word) : Lanes := Lanes.zero.write m fun l => match rs[l]? with | some r => f r | none => 0#32
  let who (r : CallReq) : Word := BitVec.ofNat 32 (r.dev % 4096 + r.core % 512 * 4096 + r.slot % 64 * 2 ^ 21 + r.lane % 32 * 2 ^ 27)
  let handle := (rs.head?.map fun r => r.handle).getD 0#64
  let st := BitVec.ofNat 64 d.state
  let regs : Vector Word 64 := (((((Vector.replicate 64 0#32).setIfInBounds 0 (loHalf st)).setIfInBounds 1 (hiHalf st)).setIfInBounds 2
    (BitVec.ofNat 32 n)).setIfInBounds 4 (loHalf handle)).setIfInBounds 5 (hiHalf handle)
  let b : Batch := { handle := handle, method := BitVec.ofNat 64 d.method, stateVa := st, ssize := d.ssize, scope := d.scope, reqs := rs,
                     replies := List.replicate n 0#32, commit := [], issued := 0, descKey := key, descTenant := d.tenant, descAt := at_ }
  { Wave.empty with
    a := { launchStream (BitVec.ofNat 64 d.method) m with regs := regs },
    vregs := [(0, vec fun r => r.arg), (1, vec who), (2, vec fun r => BitVec.ofNat 32 r.blockNo)],
    blocks := [188 + 2 * (slot - 46), 189 + 2 * (slot - 46)], preds := (Vector.replicate 48 0#32).setIfInBounds 0 m,
    causal := causal, tenant := d.tenant, codeLo := 0#64, codeHi := BitVec.ofNat 64 (2 ^ 56), batch := some b }

/-- Form a batch of an object on a free reserved slot. -/
def State.formBatch (s : State) (core slot : Nat) (d : CombDesc) (key : Nat) (o : Nat × Nat) (at_ : Option (Nat × Nat)) : State :=
  let s := s.dropHeld (.batch core o.2)
  let rs := (s.objectReqs core o).take d.maxb
  let found := rs.foldl (fun (x : Bool × State) (r : CallReq) =>
    let f := x.2.foundAt 4 core (queueLoc 2 0 0) (callMark r.op r.lane) r.tenant r.causal
    (x.1 || f.1, f.2)) (false, s)
  let bad := found.1 || rs.any fun r => r.bad
  let s := found.2
  let s := s.takeCalls core rs
  let id := s.freshId (srcOf 9 core)
  let s := id.2.nearClear core
  let k := 48 * core + slot
  let w := batchWave slot d id.1 rs key at_
  let s := (s.setWave k w).setCore core { s.core core with running := (s.core core).running ++ [key] }
  let s := s.wroteElems core w 0 32
  match w.batch with
  | none => s
  | some b =>
    if bad then s.faultBatch k w b cPoison
    else if !s.stateHome d then s.faultBatch k w b cCombDesc
    else s

/-- Hold a formation for a replayable fault on its descriptor (R229, R474). -/
def State.holdBatch (s : State) (core : Nat) (r : CallReq) (span code flags : Nat) : State :=
  let old := s.held.find? fun (x : Held) => x.what == .batch core r.handle.toNat
  let s := s.dropHeld (.batch core r.handle.toNat)
  match (match old with
    | some x => some x.entry
    | none => if s.logFull core then none else s.freeEntry 0 core 256) with
  | none => s
  | some n =>
    let h : Held := { cls := 0, owner := core, entry := n, tenant := r.tenant, vpn := r.handle.toNat / 65536, span := span, va := r.handle.toNat,
                      what := .batch core r.handle.toNat, joined := [], order := s.heldNext, wave := 48 * core + 46, pc := 0#64,
                      replaying := [], again := false }
    { s with held := s.held ++ [h], heldNext := s.heldNext + 1 }.faultRecord r.handle r.causal (srcCore core) r.tenant code 6 flags
      (tokenOf 0 core n)

/-- What a formation does with the descriptor that it has read: it answers for a poisoned object (R239), else forms a batch. -/
def State.withDesc (s : State) (core slot key : Nat) (o : Nat × Nat) (b : List Byte) (at_ : Option (Nat × Nat)) : State :=
  let d := combDescOf b
  if d.poisoned then
    let rs := s.dueReqs core o
    ((s.dropHeld (.batch core o.2)).takeCalls core rs).answer rs d.scope fun _ => callStatus 0 0 cObjectPoisoned
  else s.formBatch core slot d key o at_

/-- The asker of a core's formations, for lines of other modules. -/
def batchAsker (core tenant : Nat) : Asker := { unitAsker tenant with id := 0x70000000 + core }

/-- Read a descriptor that lies on another module, line by line (R223), after the home's own updates of it. (DESIGN CHOICE, unsafe: notes/assumptions/56.md) -/
def State.remoteDesc (s : State) (core slot : Nat) (r : CallReq) (dev pa : Nat) : State :=
  let a := batchAsker core r.tenant
  if s.flight.any fun x => x.wave == descWave core then s
  else match s.lineOf a.id dev (pa / 128) with
    | none => ((s.askLine a.id (srcOf 9 core) r.tenant r.causal dev pa).map Prod.snd).getD s
    | some x =>
      let s := { s with lines := s.lines.filter fun y => y.asker != a.id }
      if x.code ≠ 0 then s.descFault core r.object r x.code
      else s.withDesc core slot (2 ^ 70 + dev * 2 ^ 47 + pa) r.object (((x.data.getD []).drop (pa % 128)).take 64) (some (dev, pa))

/-- BATCH_FORM (R229): a free reserved slot takes the object of the oldest request that has no batch running. -/
def execBatchForm (core : Nat) (s : State) : Out :=
  if core ≥ 320 then .next s
  else
    let free := [46, 47].find? fun i => (s.wave? (48 * core + i)).isNone
    let first := (s.core core).calls.find? fun r => s.callDue r && !s.objectBusy core r.object
    match free, first with
    | some slot, some r =>
      let o := r.object
      if vaBad r.handle.toNat || isAvenueVa r.handle.toNat then .next (s.descFault core o r cPermission).flushReplies
      else match s.walkResolve (unitAsker r.tenant) .load r.handle.toNat with
        | (.ok (.mem key) _ disc, s) =>
          (match (if disc then none else s.readError key 64) with
           | some c => .next ((s.findErrors key 64 r.tenant r.causal).descFault core o r c).flushReplies
           | none => .next (s.withDesc core slot key o (if disc then List.replicate 64 0#8 else memGets s.mem key 64) none).flushReplies)
        | (.ok (.remote dev pa) _ disc, s) =>
          if disc then .next (s.withDesc core slot 0 o (List.replicate 64 0#8) (some (dev, pa))).flushReplies
          else .next (s.remoteDesc core slot r dev pa).flushReplies
        | (.ok _ _ _, s) => .next (s.descFault core o r cPermission).flushReplies
        | (.refused c, s) =>
          .next ((s.finalRecord (.batch core r.handle.toNat) none r.handle.toNat r.causal (srcCore core) r.tenant c 6).descFault core o r c).flushReplies
        | (.walkError c sp, s) =>
          .next ((s.finalRecord (.batch core r.handle.toNat) (some sp) r.handle.toNat r.causal (srcCore core) r.tenant c 6).descFault core o r c).flushReplies
        | (.faults c sp fl _, s) => .next (s.holdBatch core r sp c fl)
        | (.miss _, s) => .next s
        | (.shadowWait _, s) => .next s
    | _, _ => .next s

/-! ## COMB (R234 to R237) -/

/-- A COMB instruction of a combiner wave; elsewhere it is ILLEGAL_ENCODING (R234). -/
def Env.inBatch (e : Env) (k : Env → Batch → Out) : Out :=
  match e.w.batch with
  | some b => e.memGate .load false fun e => k e b
  | none => e.trap cIllegal 0#64

/-- CREPLY (R235). -/
def execCreply (b : BitVec 7) (s : State) : Out :=
  issue (Form.waveA [vN b]).onlyComb s fun e => e.inBatch fun e x =>
    let p0 := e.w.preds.getD 0 0#32
    e.crossRead b p0 fun e =>
      let rs := x.replies.zipIdx.map fun r => if laneIn p0 r.2 then e.v32 b r.2 else r.1
      .next { e with w := { e.w with batch := some { x with replies := rs } } }.done

/-- Where the buffered bytes lead (R236): their keys and bytes, or why the commit stops now. -/
inductive CommitXlat where
  | ok (keys : List (Nat × Byte))
  | walk (vpn : Nat)
  | faults (code span flags va : Nat)
  | refused (code : Nat) (span : Option Nat) (va : Nat)
  | wait
  deriving DecidableEq, Repr

/-- Translate the buffered bytes, in ascending order of address. -/
def State.commitXlat (s : State) (a : Asker) (scope : Nat) : Tab Byte → List (Nat × Byte) → CommitXlat × State
  | [], acc => (.ok acc, s)
  | (va, b) :: rest, acc =>
    match s.resolve a .store scope va with
    | (.ok (.mem key) _ disc, s) => s.commitXlat a scope rest (if disc then acc else acc ++ [(key, b)])
    | (.ok _ _ _, s) => (.refused cPermission none va, s)
    | (.refused c, s) => (.refused c none va, s)
    | (.walkError c sp, s) => (.refused c (some sp) va, s)
    | (.faults c sp fl _, s) => (.faults c sp fl va, s)
    | (.miss v, s) => (.walk v, s)
    | (.shadowWait _, s) => (.wait, s)

/-- Write the translated bytes; a sector whose check bits a partial write cannot compute ends the batch (R158). A write of this cycle with a lower source
number comes first (R172); one that finds no spill space waits at its memory controller (R160). -/
def Env.commitWrite (e : Env) (b : Batch) (ks : List (Nat × Byte)) : Out :=
  let e := { e with s := ks.foldl (fun (s : State) (k : Nat × Byte) => s.findPart k.1 1 e.w.tenant e.w.causal) e.s }
  match ks.findSome? fun (k : Nat × Byte) => e.s.writeError k.1 1 with
  | some c => e.batchFault c
  | none =>
    if ks.any fun k => e.s.writeLateIn k.1 (srcCore e.core) then e.hold 0 0
    else match ks.find? fun k => e.s.needsSpill k.1 [k.2] with
      | some k => { e with s := e.s.spillHold (commitSpill e.key) k.1 e.w.tenant e.w.causal }.hold 0 0
      | none =>
        let s := ks.foldl (fun (s : State) (k : Nat × Byte) => ((((s.storeInWindows k.1 1).plainWrite k.1 [k.2]).writeServed k.1 (srcCore e.core)).nearStore e.core (.mem k.1) [k.2])) e.s
        let s := s.descEnd e.core b e.w.causal none
        let s := b.reqs.zipIdx.foldl (fun (s : State) (r : CallReq × Nat) => s.sendReply r.1 b.scope (b.replies.getD r.2 0#32) (callStatus r.2 0 0)) s
        .next (s.freeBatch e.key b.descKey).flushReplies

/-- CDONE (R236). -/
def execCdone (s : State) : Out :=
  issue (Form.waveA []).onlyComb s fun e => e.inBatch fun e b =>
    let a := e.s.waveAsker e.key e.cs e.w
    match e.s.commitXlat a b.scope b.commit [] with
    | (.ok ks, s) => { e with s := s }.commitWrite b ks
    | (.walk v, s) =>
      let x := (s.count (srcCore e.core) 0x106).startWalk a v
      .next ({ e with s := x.2 }.await (.walk x.1))
    | (.faults c sp fl va, s) =>
      (match s.holdRecordAs 1 (.record e.askerId) e.core e.key e.w.tenant e.w.causal e.pc c sp fl va with
       | some x => .next ({ e with s := x.2 }.await (.replay x.1.1 x.1.2))
       | none => e.hold 10 e.core)
    | (.wait, s) => { e with s := s }.hold 15 4
    | (.refused c sp va, s) =>
      { e with s := s.finalRecord (.record e.askerId) sp va e.w.causal (srcCore e.core) e.w.tenant c 1 }.batchFault c

/-- CABORT (R237): the batch faults with the code in s[A]. -/
def execCabort (a : BitVec 7) (s : State) : Out :=
  issue (Form.waveA [sR a]).onlyComb s fun e => e.inBatch fun e _ => e.batchFault ((e.s32 a).toNat % 256)

end Sys2Proof.Machine
end

