-- ==== Sys2Proof/Machine/Avenue.lean ====
section
/-!
DEFINITION. Avenue allocations (spec/08_memory_instructions.md, R218 to R221; 06_memory_tiers.md, R165, R167; 19_fabric_links.md, R424):
FALLOC, FFREE and FQUOTA ask a switch and wait for its reply.
-/
namespace Sys2Proof.Machine

/-- The data of an AVCTL request: the pair A and what is asked: 0 FALLOC, 1 FFREE, 2 FQUOTA of an allocation, 3 FQUOTA of the tenant
(DESIGN CHOICE, unsafe: notes/assumptions/22.md). -/
def avPacket (core tenant : Nat) (causal a : DWord) (what : Nat) : Packet :=
  { dst := 0xFFF, srcDev := 0, src := srcCore core, xtag := 0, op := .avctl, scope := 4, release := what == 1, retry := false,
    unlocked := false, tenant := tenant, minor := 0, len := 12, addr := 0, causal := causal, sent := 0#64, opnd := 0#64,
    data := bytes8 a ++ natToBytes 4 what }

/-- Ask the control agent of the tenant's plane; the A-stream waits for the reply (R218). -/
def Env.avAsk (e : Env) (a : DWord) (what : Nat) (dest pred : BitVec 7) (trapq : Bool) : Out :=
  let t := e.w.tenant
  match e.s.newTxn false (planeOfTenant t) (parityOf 10 t) (avPacket e.core t e.w.causal a what)
      (.avctl e.key what dest.toNat pred.toNat trapq) with
  | some s => .next ({ e with s := s }.await (.reply e.s.nextId))
  | none => e.hold 0 0

/-- FALLOC (R219). A SIZE above the field's range traps as SIZE 0 does. (DESIGN CHOICE, unsafe: notes/assumptions/62.md) -/
def execFalloc (d a b : BitVec 7) (s : State) : Out :=
  issue (Form.noComb (.waveA [pW d, pR a, qW b])) s fun e =>
    e.memGate .load false fun e =>
      let x := e.s64 a
      let n := x.toNat
      if n % 2 ^ 48 = 0 || n % 2 ^ 48 > 2 ^ 48 - 2 ^ 16 || n / 2 ^ 48 % 256 ≠ 0 || n / 2 ^ 62 ≠ 0 then e.trap cAvRequest 0#64
      else e.avAsk x 0 d b (n.testBit 61)

/-- FFREE (R220): a release at pod scope first. -/
def execFfree (a : BitVec 7) (s : State) : Out :=
  issue (Form.noComb (.waveA [pR a])) s fun e =>
    e.memGate .held true fun e =>
      if !(e.s.releaseSet e.key 4).isEmpty || e.s.barred e.key e.s.nextId then e.hold 15 2 else e.avAsk (e.s64 a) 1 0#7 0#7 false

/-- FQUOTA (R221). -/
def execFquota (d a : BitVec 7) (s : State) : Out :=
  issue (Form.noComb (.waveA [pW d, pR a])) s fun e =>
    e.memGate .load false fun e => e.avAsk (e.s64 a) (if a.toNat = 127 then 3 else 2) d 0#7 false

/-! ## The switch's reply -/

/-- What a granted, freed or reported allocation does to the fabric window table (R165, R221): the reply to FALLOC gives the allocation's window address
`v` and its switch address `pa`. -/
def Fabric.avReplied (f : Fabric) (tenant what : Nat) (a v : DWord) (pa : Nat) : Fabric :=
  match what with
  | 0 =>
    let n := (a.toNat % 2 ^ 48 + 65535) / 65536 * 65536
    let al : AvAlloc := { pa := pa, size := n, tenant := tenant, mirrored := a.toNat.testBit 56,
                          pinned := if a.toNat.testBit 57 then some (a.toNat / 2 ^ 58 % 8) else none, generation := 0, degraded := false,
                          lost := [] }
    { f with window := tabPut f.window v.toNat al }
  | 1 => { f with window := tabErase f.window a.toNat }
  | 2 => { f with window := tabUpd f.window a.toNat fun x => { x with generation := v.toNat % 2 ^ 32, degraded := v.getLsbD 32 } }
  | _ => f

/-- What FQUOTA of an allocation reports (R221): the switch's generation number and whether it is degraded; MIRROR, PIN and the plane as the window table
has them; zero above. (DESIGN CHOICE, unsafe: notes/assumptions/74.md) -/
def Fabric.avReport (f : Fabric) (a v : DWord) : DWord :=
  let home := match tabGet? f.window a.toNat with
    | some x => (if x.mirrored then 2 ^ 33 else 0) + (match x.pinned with | some h => 2 ^ 34 + h * 2 ^ 35 | none => 0)
    | none => v.toNat / 2 ^ 33 % 2 ^ 5 * 2 ^ 33
  BitVec.ofNat 64 (v.toNat % 2 ^ 33 + home)

/-- The wave's registers after a reply: D, and for FALLOC p[B] in all 32 lanes (R219, R221). -/
def Wave.avWrite (w : Wave) (what dest pred : Nat) (v : DWord) (refused : Bool) : Wave :=
  let w := if what = 1 || dest ≥ 64 then w else (w.putScalar false dest (loHalf v)).putScalar false (dest + 1) (hiHalf v)
  if what = 0 then { w with preds := w.preds.setIfInBounds pred (if refused then 0xFFFFFFFF#32 else 0#32) } else w

/-- The wait of an AVENUE instruction for its transaction. -/
def avWaits (txn : Nat) (x : WaitFor) : Bool := match x with | .reply op => op == txn | _ => false

/-- A reply reaches its wave: status 0, or the code of the refusal; it traps, or D is 0 and p[B] set. A trap waits while the wave's handler
runs on the front end. -/
def State.avReply (s : State) (t : Txn) (status : Nat) (v : DWord) (pa : Nat) : State :=
  match t.what with
  | .avctl wave what dest pred trapq =>
    (match (s.wave? wave).bind fun w => (w.whichWait false (avWaits t.id)).map fun c => (w, c) with
     | none => s
     | some (w, inCtx) =>
       let a := BitVec.ofNat 64 (fld t.pkt.data 0 8)
       if status = 0 then
         let d := if what = 2 then s.fab.avReport a v else v
         { s with fab := s.fab.avReplied w.tenant what a v pa }.finishWord wave false inCtx fun w => w.avWrite what dest pred d false
       else if status = cAvenueQuota && what = 0 && !trapq then
         s.finishWord wave false inCtx fun w => w.avWrite what dest pred 0#64 true
       else if inCtx || w.trapping.isSome then s
       else match s.envAt wave false with
         | none => s
         | some e => (s.wakeWord wave false false).takeTrap wave false e.cl.slot e.pc status 0#64 e.exec 0)
  | _ => s

end Sys2Proof.Machine
end

