-- ==== Sys2Proof/Machine/Copy.lean ====
section
/-!
DEFINITION. The copy and gather-pool engines (spec/08_memory_instructions.md, R209 to R217; 07_ordering_rules.md, R186; R465, R473): a
command waits for its acceptance, then its destination lines are performed one by one.
-/
namespace Sys2Proof.Machine

def cCeRecord : Nat := 0x30
def cCeTensor : Nat := 0x31
def cCeBarrier : Nat := 0x32
def cGpRecord : Nat := 0x33

/-! ## Tensor records (R209, R210) -/

/-- Bytes of an element of format FMT. -/
def fmtBytes (f : Nat) : Nat :=
  match f with
  | 0 => 1
  | 1 => 2
  | 2 => 4
  | 3 => 8
  | 4 => 4
  | 5 => 2
  | 6 => 2
  | 9 => 4
  | _ => 1

def tensorOf (b : List Byte) : Tensor :=
  { base := BitVec.ofNat 64 (fld b 0 8), fmt := fld b 8 1, rank := fld b 9 1, size := (List.range 4).map fun i => fld b (12 + 4 * i) 4,
    stride := (List.range 3).map fun i => fld b (32 + 8 * i) 8, box := (List.range 4).map fun i => fld b (56 + 2 * i) 2 }

def Tensor.es (t : Tensor) : Nat := fmtBytes t.fmt
def Tensor.sz (t : Tensor) (d : Nat) : Nat := t.size.getD d 1
def Tensor.bx (t : Tensor) (d : Nat) : Nat := t.box.getD d 1

/-- FMT, RANK, SIZE, STRIDE, BOX and BASE in range. (DEDUCED, unsafe: notes/assumptions/33.md) -/
def Tensor.dimsOk (t : Tensor) : Bool :=
  decide (t.fmt ≤ 10) && decide (1 ≤ t.rank) && decide (t.rank ≤ 4) && t.base.toNat % t.es == 0 &&
    (List.range 4).all fun d => decide (1 ≤ t.sz d) && (decide (d < t.rank) || t.sz d == 1) &&
      (d == 0 || (t.stride.getD (d - 1) 0 % t.es == 0 && (decide (d < t.rank) || t.stride.getD (d - 1) 0 == 0)))

/-- Its BOX extents lie in range. -/
def Tensor.boxOk (t : Tensor) : Bool := (List.range 4).all fun d => decide (1 ≤ t.bx d) && (decide (d < t.rank) || t.bx d == 1)

/-- A tensor record whose fields lie in range (R209). -/
def Tensor.ok (t : Tensor) : Bool := t.dimsOk && t.boxOk

/-- Zero fields of a tensor record. -/
def tensorZeros (b : List Byte) : Bool := zeros b 10 2 && zeros b 28 4

/-- Address of an element. -/
def Tensor.addr (t : Tensor) (i : List Nat) : Nat :=
  (t.base.toNat + t.es * i.getD 0 0 + t.stride.getD 0 0 * i.getD 1 0 + t.stride.getD 1 0 * i.getD 2 0 +
    t.stride.getD 2 0 * i.getD 3 0) % 2 ^ 64

def Tensor.inside (t : Tensor) (i : List Nat) : Bool := (List.range 4).all fun d => decide (i.getD d 0 < t.sz d)

/-- The indices of a box, dimension 0 fastest. -/
def boxIndices (t : Tensor) : List (List Nat) :=
  (List.range (t.bx 3)).flatMap fun a => (List.range (t.bx 2)).flatMap fun b => (List.range (t.bx 1)).flatMap fun c =>
    (List.range (t.bx 0)).map fun d => [d, c, b, a]

def addIdx (i o : List Nat) : List Nat := (List.range 4).map fun d => i.getD d 0 + o.getD d 0

/-- Extent of the part of dimension d of a box at an origin that lies inside the tensor. -/
def Tensor.part (t : Tensor) (box d origin : Nat) : Nat := min box (t.sz d - origin)

/-! ## Commands -/

/-- The copy engine of a core (R212), the gather-pool engine of a core (R217). -/
def ceOf (core : Nat) : Nat := 16 * (core / 80) + core % 16
def gpeOf (core : Nat) : Nat := 8 * (core / 80) + core % 8

def Cmd.source (c : Cmd) : Nat := if c.kind ≤ 1 then srcOf 1 c.engine else if c.kind = 2 then srcOf 2 c.engine else srcOf 3 c.engine
def Cmd.core (c : Cmd) : Nat := coreOf c.wave
def State.cmd? (s : State) (id : Nat) : Option Cmd := tabGet? s.cmds id
def State.setCmd (s : State) (id : Nat) (c : Cmd) : State := { s with cmds := tabPut s.cmds id c }
def State.dropCmd (s : State) (id : Nat) : State := { s with cmds := tabErase s.cmds id }

/-- Commands in an engine's queue. -/
def State.queued (s : State) (source : Nat) : Nat := (s.cmds.filter fun c => c.2.source == source).length

/-- A command at issue: D, the record, the barrier word. -/
def Env.newCmd (e : Env) (kind engine : Nat) (d : BitVec 7) (recordVa bar : DWord) : Cmd :=
  { kind := kind, engine := engine, wave := e.key, task := e.w.task, block := e.w.block, tenant := e.w.tenant, causal := e.w.causal,
    record := recordVa, bar := bar, dest := d, pc := e.pc, slot := e.cl.slot, st := .issued, scope := 0, evt := false, after := [], src := none,
    dst := none, sorg := [], dorg := [], extra := [], barKey := 0, counted := 0, left := 0, pieces := [], skipped := 0,
    estimate := 0#64, status := 0, order := e.s.nextId, redirect := e.w.redirect }

/-- Issue a command: wait for room in the queue (R212), then for its acceptance. -/
def Env.sendCmd (e : Env) (c : Cmd) (room : Nat) : Out :=
  if e.s.queued c.source ≥ room then e.hold 10 c.source
  else
    let id := e.s.newId
    .next ({ e with s := id.2.setCmd id.1 c }.await (.accept id.1))

/-- COPY and COPY.NP (R212). -/
def Env.copy (e : Env) (kind : Nat) (d a b : BitVec 7) : Out :=
  e.memGate .held true fun e => e.sendCmd (e.newCmd kind (ceOf e.core) d (e.s64 a) (e.s64 b)) 64

/-- COPY (R212). -/
def execCopy (d a b : BitVec 7) (s : State) : Out := issue (Form.noComb (.waveA [pW d, pR a, pR b])) s fun e => e.copy 0 d a b
/-- COPY.NP (R212). -/
def execCopyNp (d a b : BitVec 7) (s : State) : Out := issue (Form.noComb (.waveA [pW d, pR a, pR b])) s fun e => e.copy 1 d a b
/-- GPOOL (R217). -/
def execGpool (d a b : BitVec 7) (s : State) : Out :=
  issue (Form.noComb (.waveA [pW d, pR a, pR b])) s fun e =>
    e.memGate .held true fun e => e.sendCmd (e.newCmd 2 (gpeOf e.core) d (e.s64 a) (e.s64 b)) 32

/-! ## Acceptance (R212) -/

/-- What a read at acceptance gives: bytes, a trap, or nothing yet. -/
inductive AccRead where
  | ok (b : List Byte)
  | trap (code : Nat)
  | wait
  deriving DecidableEq, Repr

/-- Read a record for a command at acceptance, through the issuing core's TLB; `code` is what an unreadable one traps with. (DESIGN CHOICE, unsafe: notes/assumptions/88.md) -/
def State.acceptRead (s : State) (id : Nat) (c : Cmd) (w : Wave) (va n code : Nat) : AccRead × State :=
  if va % 64 ≠ 0 then (.trap code, s)
  else
    let a := s.waveAsker c.wave false w
    let r := s.vaRead a .load va n
    match r.1 with
    | .bytes b => (.ok b, r.2)
    | .miss v => (.wait, ((r.2.count (srcCore c.core) 0x106).startWalk a v).2)
    | .behind => (.wait, r.2)
    | .shadow t => (.wait, r.2.shadowBlocked c.task t)
    | .remote dev pa => (.wait, ((r.2.askLine a.id (srcCore c.core) c.tenant c.causal dev pa).map Prod.snd).getD r.2)
    | .faults f sp fl v =>
      (.wait, ((r.2.holdRecordAs 6 (.command id) c.core c.wave c.tenant c.causal c.pc f sp fl v).map Prod.snd).getD r.2)
    | .refused f sp v => (.trap code, r.2.finalRecord (.command id) sp v c.causal (srcCore c.core) c.tenant f 6 (s.taskTag c.task))

/-- Is this the wait for a command's acceptance? -/
def acceptWaits (id : Nat) (x : WaitFor) : Bool := match x with | .accept i => i == id | _ => false

/-- The command traps at its word with no effect. (DEDUCED, unsafe: notes/assumptions/33.md) -/
def State.acceptTrap (s : State) (id : Nat) (c : Cmd) (code : Nat) : State :=
  match (s.wave? c.wave).bind fun w => (w.whichWait false (acceptWaits id)).map fun x => (w, x) with
  | none => s.dropCmd id
  | some (w, inCtx) =>
    if inCtx || w.trapping.isSome then s
    else match s.envAt c.wave false with
      | none => s.dropCmd id
      | some e => (((s.dropHeld (.command id)).dropCmd id).wakeWord c.wave false false).takeTrap c.wave false c.slot c.pc code 0#64 e.exec 0

/-- The command has been accepted: D receives `v`, and the A-stream goes on (R212). -/
def State.acceptDone (s : State) (c : Cmd) (id : Nat) (v : DWord) : State :=
  let s := (s.dropReads (2 * c.wave)).dropHeld (.command id)
  match (s.wave? c.wave).bind fun w => w.whichWait false (acceptWaits id) with
  | none => s
  | some inCtx => s.finishWord c.wave false inCtx fun w =>
      if c.dest.toNat ≥ 64 then w
      else (w.putScalar false c.dest.toNat (loHalf v)).putScalar false (c.dest.toNat + 1) (hiHalf v)

/-- The barrier word of a command: its key, or nothing where it lies outside the Plaza window and local HBM (R212). -/
def State.cmdBarrier (s : State) (c : Cmd) (w : Wave) : Option Nat × State :=
  match s.resolve (s.waveAsker c.wave false w) .load 99 c.bar.toNat with
  | (.ok p _ _, s) => (homeable p, s)
  | (_, s) => (none, s)

/-- Where STATUS lies (R211, R216). -/
def Cmd.statusVa (c : Cmd) : Nat := c.record.toNat + (match c.kind with | 2 => 48 | 3 => 44 | _ => 52)

/-- The numbers of a command's two STATUS writes among its pieces (M). -/
def statusPiece : Nat := 1000000000
def zeroPiece : Nat := 1000000001

/-- An estimate, never earlier than now (R473). (DESIGN CHOICE, safe: notes/assumptions/12.md) -/
def State.estimate (s : State) : DWord := BitVec.ofNat 64 (min (s.gtc.toNat + Config.freeNat s.free 7000) (2 ^ 64 - 1))

/-! ## The lines of a copy (R210, R211, R214) -/

/-- The elements of a copy that are written: where each comes from (nothing for zero) and goes to, in box order. -/
def Cmd.elems (c : Cmd) : List (Option Nat × Nat) :=
  match c.src, c.dst with
  | some a, some b =>
    (boxIndices a).filterMap fun i =>
      let di := addIdx i c.dorg
      let si := addIdx i c.sorg
      if b.inside di then some (if a.inside si then some (a.addr si) else none, b.addr di) else none
  | _, _ => []

/-- The destination lines, in the order in which the box first reaches them. -/
def Cmd.lines (c : Cmd) : List Nat :=
  if c.kind = 2 then
    (match c.dst with
     | some o => (((List.range (c.extra.getD 3 0)).flatMap fun b => (List.range (o.sz 0)).map fun e => o.addr [e, b]).map fun a => a / 128).dedup
     | none => [])
  else (c.elems.map fun x => x.2 / 128).dedup

/-- Issuing a command is a release at the record's scope toward the engine's reads (R186): must they still wait? -/
def State.unreleased (s : State) (c : Cmd) (scope : Nat) : Bool :=
  decide (1 ≤ scope) && decide (scope ≤ 5) && (!(s.releaseSet c.wave scope).isEmpty || s.barred c.wave c.order)

/-- Check a copy's records, in the order of R212: the command ready to be accepted, or a trap. (DEDUCED, unsafe: notes/assumptions/33.md) -/
def State.checkCopy (s : State) (id : Nat) (c : Cmd) (w : Wave) : (Cmd ⊕ AccRead) × State :=
  match s.acceptRead id c w c.record.toNat 64 cCeRecord with
  | (.ok r, s) =>
    if s.unreleased c (fld r 48 1) then (.inr .wait, s) else
    (match s.acceptRead id c w (fld r 0 8) 64 cCeTensor with
     | (.ok a, s) =>
       (match s.acceptRead id c w (fld r 8 8) 64 cCeTensor with
        | (.ok b, s) =>
          (match s.acceptRead id c w c.bar.toNat 64 cCeBarrier with
           | (.ok _, s) =>
             let ta := tensorOf a
             let tb := tensorOf b
             let causal := fld r 56 8
             let sorg := (List.range 4).map fun i => fld r (16 + 4 * i) 4
             let dorg := (List.range 4).map fun i => fld r (32 + 4 * i) 4
             let boxBytes := ta.bx 0 * ta.bx 1 * ta.bx 2 * ta.bx 3 * ta.es
             let n := (((List.range 4).map fun d => tb.part (ta.bx d) d (dorg.getD d 0)).foldl (· * ·) 1) * ta.es
             let (key, s) := s.cmdBarrier c w
             let scope := fld r 48 1
             if !zeros r 50 2 || !tensorZeros a || !tensorZeros b || fld r 49 1 > 1 || scope < 1 || scope > 5 ||
                (causal ≠ 0 && causal / 2 ^ 52 ≠ s.device) then (.inr (.trap cCeRecord), s)
             else if !ta.ok || !tb.ok || ta.es ≠ tb.es || ta.box ≠ tb.box then (.inr (.trap cCeTensor), s)
             else if boxBytes > 2 ^ 32 - 1 then (.inr (.trap cCeRecord), s)
             else match key with
               | none => (.inr (.trap cCeBarrier), s)
               | some key =>
                 if scope < 4 && (isAvenueVa ta.base.toNat || isAvenueVa tb.base.toNat) then (.inr (.trap cPermission), s)
                 else
                   let c := { c with scope := scope, evt := fld r 49 1 == 1, src := some ta, dst := some tb, sorg := sorg, dorg := dorg,
                                     causal := if causal = 0 then c.causal else BitVec.ofNat 64 causal, barKey := key, counted := n, left := n,
                                     after := s.releaseSet c.wave scope }
                   (.inl { c with pieces := List.range c.lines.length }, s)
           | (x, s) => (.inr x, s))
        | (x, s) => (.inr x, s))
     | (x, s) => (.inr x, s))
  | (x, s) => (.inr x, s)

/-- Formats of a gather-pool table and of its output (R216). -/
def poolTableFmt (f : Nat) : Bool := decide (4 ≤ f) && decide (f ≤ 8)
def poolOutFmt (f : Nat) : Bool := decide (4 ≤ f) && decide (f ≤ 6)

/-- Check a gather-pool record (R216, R217). (DEDUCED, unsafe: notes/assumptions/33.md) -/
def State.checkPool (s : State) (id : Nat) (c : Cmd) (w : Wave) : (Cmd ⊕ AccRead) × State :=
  match s.acceptRead id c w c.record.toNat 64 cCeRecord with
  | (.ok r, s) =>
    if s.unreleased c (fld r 45 1) then (.inr .wait, s) else
    (match s.acceptRead id c w (fld r 0 8) 64 cCeTensor with
     | (.ok a, s) =>
       (match s.acceptRead id c w (fld r 32 8) 64 cCeTensor with
        | (.ok b, s) =>
          (match s.acceptRead id c w c.bar.toNat 64 cCeBarrier with
           | (.ok _, s) =>
             let ta := tensorOf a
             let tb := tensorOf b
             let causal := fld r 56 8
             let nb := fld r 40 4
             let op := fld r 44 1
             let n := nb * ta.sz 0 * tb.es
             let (key, s) := s.cmdBarrier c w
             let scope := fld r 45 1
             if !zeros r 47 1 || !zeros r 52 4 || !tensorZeros a || !tensorZeros b || fld r 46 1 > 1 || scope < 1 || scope > 5 ||
                (causal ≠ 0 && causal / 2 ^ 52 ≠ s.device) || fld r 8 8 % 4 ≠ 0 || fld r 16 8 % 4 ≠ 0 || fld r 24 8 % 4 ≠ 0 ||
                nb < 1 || nb > 16777216 || op > 2 || (op = 2 && fld r 24 8 ≠ 0) then (.inr (.trap cGpRecord), s)
             else if !ta.ok || !tb.ok || ta.rank ≠ 2 || tb.rank ≠ 2 || !poolTableFmt ta.fmt || !poolOutFmt tb.fmt || tb.sz 0 ≠ ta.sz 0 ||
                tb.sz 1 < nb then (.inr (.trap cCeTensor), s)
             else if n > 2 ^ 32 - 1 then (.inr (.trap cGpRecord), s)
             else match key with
               | none => (.inr (.trap cCeBarrier), s)
               | some key =>
                 if scope < 4 && ([ta.base.toNat, tb.base.toNat, fld r 8 8, fld r 16 8, fld r 24 8].any isAvenueVa) then (.inr (.trap cPermission), s)
                 else
                   let c := { c with scope := scope, evt := fld r 46 1 == 1, src := some ta, dst := some tb,
                                     causal := if causal = 0 then c.causal else BitVec.ofNat 64 causal, barKey := key, counted := n, left := n,
                                     extra := [fld r 8 8, fld r 16 8, fld r 24 8, nb, op], after := s.releaseSet c.wave scope }
                   (.inl { c with pieces := List.range c.lines.length }, s)
           | (x, s) => (.inr x, s))
        | (x, s) => (.inr x, s))
     | (x, s) => (.inr x, s))
  | (x, s) => (.inr x, s)

/-! ## Reads and writes of an engine's lines (R174, R214, R336) -/

/-- What a line needs before it can be performed. -/
inductive LineGot (α : Type) where
  | ok (x : α)
  | wait
  | stop (code va : Nat)
  deriving Repr

def State.cmdAsker (s : State) (id : Nat) (c : Cmd) : Asker :=
  { tte := true, unit := quadOf c.core, tenant := c.tenant,
    tag := (match s.task? c.task with | some t => if t.commit then c.task + 1 else 0 | none => 0), id := engineWave id,
    redirect := c.redirect, scope := c.scope }

/-- Hold a line at the quad's translation engine. -/
def State.lineHold (s : State) (id piece : Nat) (c : Cmd) (code sp fl access va : Nat) : State :=
  (s.tteHold (quadOf c.core) c.tenant (va / 65536) sp c.wave c.pc c.causal (.line id piece) code fl access va).getD s

/-- Read bytes for a line. -/
def State.lineRead (s : State) (id piece : Nat) (c : Cmd) (va n : Nat) : LineGot (List Byte) × State :=
  let a := s.cmdAsker id c
  match s.vaRead a .load va n with
  | (.bytes b, s) => (.ok b, s)
  | (.miss v, s) => (.wait, ((s.count (srcOf 8 (quadOf c.core)) 0x106).startWalk a v).2)
  | (.remote dev pa, s) => (.wait, ((s.askLine a.id c.source c.tenant c.causal dev pa c.scope).map Prod.snd).getD s)
  | (.behind, s) => (.wait, s)
  | (.shadow t, s) => (.wait, s.shadowBlocked c.task t)
  | (.faults f sp fl v, s) => (.wait, s.lineHold id piece c f sp fl 4 v)
  | (.refused f sp v, s) => (.stop f v, s.finalRecord (.line id piece) sp v c.causal (srcOf 8 (quadOf c.core)) c.tenant f 4 (s.taskTag c.task))

/-- Go on with what a line got. -/
def LineGot.andThen {α β : Type} (x : LineGot α × State) (f : α → State → LineGot β × State) : LineGot β × State :=
  match x with
  | (.ok a, s) => f a s
  | (.wait, s) => (.wait, s)
  | (.stop c v, s) => (.stop c v, s)

/-- Read many pieces of memory. -/
def State.lineReads (s : State) (id piece : Nat) (c : Cmd) : List (Option Nat) → Nat → List (List Byte) → LineGot (List (List Byte)) × State
  | [], _, acc => (.ok acc, s)
  | none :: rest, n, acc => s.lineReads id piece c rest n (acc ++ [List.replicate n 0#8])
  | some va :: rest, n, acc =>
    match s.lineRead id piece c va n with
    | (.ok b, s) => s.lineReads id piece c rest n (acc ++ [b])
    | (.wait, s) => (.wait, s)
    | (.stop k v, s) => (.stop k v, s)

/-- Runs of bytes that lie one after another: (address, bytes). -/
def byteRuns : List (Nat × List Byte) → List (Nat × List Byte)
  | [] => []
  | (a, b) :: rest =>
    match byteRuns rest with
    | (a', b') :: more => if a + b.length = a' then (a, b ++ b') :: more else (a, b) :: (a', b') :: more
    | [] => [(a, b)]

/-- WRITE packets, one for each run of a line (R423). -/
def State.sendRuns (s : State) (id piece : Nat) (c : Cmd) (dev plane : Nat) (elems : List (Nat × List Byte)) : LineGot Bool × State :=
  let r := (byteRuns elems).foldl (fun (acc : Option State) x =>
    acc.bind fun s =>
      let p : Packet := { dst := dev, srcDev := 0, src := c.source, xtag := 0, op := .write, scope := c.scope, release := decide (statusPiece ≤ piece), retry := false,
                          unlocked := false, tenant := c.tenant, minor := 0, len := x.2.length, addr := x.1, causal := c.causal,
                          sent := 0#64, opnd := 0#64, data := x.2 }
      s.newTxn true plane 0 p (.line id piece)) (some s)
  match r with
  | some s => (.ok false, s)
  | none => (.wait, s)

/-- The number of a line's write among those that wait for spill space (M). -/
def lineSpill (id piece : Nat) : Nat := (40000000000 + id) * 100000 + piece % 100000

/-- Put the elements of a line into this module's memory, as writes of the engine: of several writes of one cycle the lowest source goes first (R172). -/
def State.lineStore (s : State) (id piece : Nat) (c : Cmd) (va : Nat) (keyed : List (Nat × List Byte)) : LineGot Bool × State :=
  if keyed.any fun x => s.writeLateIn x.1 c.source then (.wait, s)
  else
    let s := keyed.foldl (fun s x => s.findPart x.1 x.2.length c.tenant c.causal) s
    match keyed.findSome? fun x => s.writeError x.1 x.2.length with
    | some k => (.stop k va, s)
    | none =>
      match keyed.find? fun x => s.needsSpill x.1 x.2 with
      | some x => (.wait, s.spillHold (lineSpill id piece) x.1 c.tenant c.causal)
      | none => (.ok true, (keyed.foldl (fun s x =>
          ((s.storeInWindows x.1 x.2.length).plainWrite x.1 x.2).writeServed x.1 c.source) s).spillFree (lineSpill id piece))

/-- The addresses past a line that an engine has still to reach, for each of its tensors. -/
def Cmd.aheadOf (c : Cmd) (piece : Nat) : List (List Nat) :=
  let later := c.lines.drop (piece + 1)
  if c.kind = 2 then [later.map fun l => l * 128]
  else
    let es := c.elems.filter fun x => later.contains (x.2 / 128)
    [es.filterMap Prod.fst, later.map fun l => l * 128]

/-- Put the elements of a line into memory or send them: whether the line is performed now. -/
def State.lineWrite (s : State) (id piece : Nat) (c : Cmd) (elems : List (Nat × List Byte)) : LineGot Bool × State :=
  match elems with
  | [] => (.ok true, s)
  | (va, _) :: _ =>
    let a := s.cmdAsker id c
    match s.resolve a .store c.scope va with
    | (.ok p _ _, s) =>
      (match p with
       | .mem key =>
         s.lineStore id piece c va (elems.map fun x => (key + x.1 - va, x.2))
       | .remote dev pa => s.sendRuns id piece c dev (planeOfPa pa) (elems.map fun x => (pa + x.1 - va, x.2))
       | .avenue v =>
         (match s.avHome v c.tenant with
          | .ok plane pa => s.sendRuns id piece c 0xFFF plane (elems.map fun x => (pa + x.1 - va, x.2))
          | .lost => (.stop cAvenueLost va, s)
          | .none => (.stop cPermission va, s)))
    | (.miss v, s) => (.wait, ((s.count (srcOf 8 (quadOf c.core)) 0x106).startWalk a v).2)
    | (.faults f sp fl _, s) => (.wait, s.lineHold id piece c f sp fl 5 va)
    | (.refused f, s) => (.stop f va, s.finalRecord (.line id piece) none va c.causal (srcOf 8 (quadOf c.core)) c.tenant f 5 (s.taskTag c.task))
    | (.walkError f sp, s) => (.stop f va, s.finalRecord (.line id piece) (some sp) va c.causal (srcOf 8 (quadOf c.core)) c.tenant f 5 (s.taskTag c.task))
    | (.shadowWait t, s) => (.wait, s.shadowBlocked c.task t)

/-! ## The barrier word and STATUS of a command (R186, R213, R214) -/

/-- The number of the promise's write among a command's pieces (M). -/
def promisePiece : Nat := 1000000002

/-- The command's barrier word for an update of the engine: its place now. A replayable fault on its page holds the update (R346), and of the updates of one
cycle the lowest source goes first (R172). A word whose page has meanwhile been refused to the tenant keeps the place that acceptance found.
(DESIGN CHOICE, unsafe: notes/assumptions/77.md) -/
def State.barReady (s : State) (id piece : Nat) (c : Cmd) : LineGot Nat × State :=
  let go (s : State) (key : Nat) : LineGot Nat × State :=
    if s.writeLateIn key c.source then (.wait, s) else (.ok key, s.dropHeld (.line id piece))
  if !pagedVa c.bar.toNat then go s c.barKey
  else
    let a := s.cmdAsker id c
    match s.resolve a .store 99 c.bar.toNat with
    | (.ok (.mem key) _ _, s) => go s key
    | (.miss v, s) => (.wait, ((s.count (srcOf 8 (quadOf c.core)) 0x106).startWalk a v).2)
    | (.faults f sp fl _, s) => (.wait, s.lineHold id piece c f sp fl 5 c.bar.toNat)
    | (.shadowWait t, s) => (.wait, s.shadowBlocked c.task t)
    | (_, s) => go s c.barKey

/-- Subtract `n` bytes of a command from its barrier word at `key`. -/
def State.cmdSub (s : State) (c : Cmd) (key n : Nat) : State := (s.barSub key n c.bar c.causal c.tenant).writeServed key c.source

/-- Write STATUS as a write of the engine to the record's page (R213, R214): performed now, sent to another module, or it waits. A STATUS that its page
refuses is not written. (DESIGN CHOICE, unsafe: notes/assumptions/77.md) -/
def State.writeStatus (s : State) (id : Nat) (c : Cmd) (v piece : Nat) : LineGot Bool × State :=
  match s.lineWrite id piece c [(c.statusVa, natToBytes 4 v)] with
  | (.stop _ _, s) => (.ok true, s.dropHeld (.line id piece))
  | (.ok b, s) => (.ok b, s.dropHeld (.line id piece))
  | x => x

/-- STATUS has been performed: the last subtraction, then the event (R214). -/
def State.endCmd (s : State) (id : Nat) (c : Cmd) (code addr : Nat) : State :=
  match s.barReady id statusPiece c with
  | (.ok key, s) =>
    let s := s.cmdSub c key c.left
    let s := if code ≠ 0 then s.emit c.source 0x031 c.tenant c.causal (BitVec.ofNat 64 (code + addr % 2 ^ 56 * 256))
      else if c.evt then
        s.emit c.source 0x030 c.tenant c.causal (BitVec.ofNat 64 (2 ^ 31 + min c.skipped 65535 * 256 + code + c.counted % 2 ^ 32 * 2 ^ 32))
      else s
    let s := { s with held := s.held.filter fun h => match h.what with | .line i _ => i != id | _ => true,
                      spillWait := s.spillWait.filter fun x => x.id / 100000 != 40000000000 + id }
    (s.dropReads (engineWave id)).dropCmd id
  | (_, s) => s

/-- A command that has ended writes STATUS once its lines that are on their way have been performed (R186); it ends once that has been performed. -/
def State.tryFinish (s : State) (id : Nat) : State :=
  match s.cmd? id with
  | none => s
  | some c =>
    match c.fin with
    | none => s
    | some (code, addr) =>
      if s.fab.txns.any fun t => match t.what with | .line i _ => i == id | _ => false then s
      else if c.stat then s.endCmd id c code addr
      else if s.heldFor (.line id statusPiece) then s
      else match s.writeStatus id c (2 ^ 31 + min c.skipped 65535 * 256 + code) statusPiece with
        | (.ok true, s) => (s.setCmd id { c with stat := true }).endCmd id { c with stat := true } code addr
        | (_, s) => s

/-- Complete a command (R214): STATUS is performed before the last subtraction. -/
def State.finishCmd (s : State) (id : Nat) (c : Cmd) (code addr : Nat) : State :=
  (s.setCmd id { c with fin := some (code, addr), pieces := [] }).tryFinish id

/-- Acceptance (R213): STATUS, the bytes on the barrier word, the promise, D. -/
def State.acceptCmd (s : State) (id : Nat) (c : Cmd) : State :=
  if s.heldFor (.line id zeroPiece) then s else
  match s.barReady id zeroPiece c with
  | (.ok key, s) =>
    (match s.writeStatus id c 0 zeroPiece with
     | (.ok _, s) =>
       let est := s.estimate
       let c := { c with st := .running, estimate := est, barKey := key }
       let s := (s.setCmd id c).barAdd key c.counted c.bar c.causal c.tenant c.source c.scope
       let s := if c.kind = 1 then s else s.wr (key + 24) 8 (max (s.rd (key + 24) 8) est.toNat)
       let s := (s.writeServed key c.source).acceptDone c id (if c.kind = 1 then 0#64 else est)
       if c.counted = 0 then s.finishCmd id c 0 0 else s
     | (_, s) => s)
  | (_, s) => s

/-- Accept a command that waits, unless it is held for replay. -/
def State.tryAccept (s : State) (cmd : Nat) (kinds : Nat → Bool)
    (check : State → Nat → Cmd → Wave → (Cmd ⊕ AccRead) × State) : State :=
  match s.cmd? cmd with
  | none => s
  | some c =>
    if c.st != .issued || !kinds c.kind || s.heldFor (.command cmd) then s
    else match s.wave? c.wave with
      | none => s.dropCmd cmd
      | some w =>
        match check s cmd c w with
        | (.inl c', s) => s.acceptCmd cmd c'
        | (.inr (.trap code), s) => s.acceptTrap cmd c code
        | (.inr _, s) => s

/-- COPY_ACCEPT (R212, R213). (DESIGN CHOICE, safe: notes/assumptions/16.md) -/
def execCopyAccept (cmd : Nat) (s : State) : Out := .next (s.tryAccept cmd (fun k => decide (k ≤ 1)) State.checkCopy)
/-- GPOOL_ACCEPT (R217). -/
def execGpoolAccept (cmd : Nat) (s : State) : Out := .next (s.tryAccept cmd (fun k => k == 2) State.checkPool)

/-! ## ENGINE_LINE_PERFORMED (R214, R217) -/

/-- The elements of a copy that lie in a line, with what is written: bytes that overlap the copy's own source, and bytes that an earlier element of
the copy also writes, hold one of the values written, as a free value says (R215). (DESIGN CHOICE, safe: notes/assumptions/14.md) -/
def Cmd.copyLine (c : Cmd) (s : State) (elems : List (Option Nat × Nat)) (datas : List (List Byte)) : List (Nat × List Byte) :=
  let es := (c.src.map Tensor.es).getD 1
  let srcs := c.elems.filterMap Prod.fst
  let xs := elems.zip datas
  xs.zipIdx.map fun x =>
    let va := x.1.1.2
    let lies := srcs.any fun a => decide (a < va + es) && decide (va < a + es)
    let rivals := (xs.filter fun y => y.1.2 == va).map fun y => y.2
    let data := rivals.getD (Config.freeNat s.free (8000 + va) % rivals.length) x.1.2
    (va, if lies then data.zipIdx.map fun y => BitVec.ofNat 8 (Config.freeWord s.free (8000 + 32 * x.2 + y.2)).toNat else data)

/-- FP32 encoding of an element of a table (R217). -/
def poolF32 (fmt : Nat) (b : List Byte) : Nat :=
  let v := bytesToNat b
  let f : Fmt := match fmt with | 5 => Fmt.bf16 | 6 => Fmt.f16 | 7 => Fmt.e4m3 | 8 => Fmt.e5m2 | _ => Fmt.f32
  (roundTo Fmt.f32 .rne (f.decode v) 0).bits

/-- s ÷ n, rounded once (R217). -/
def poolDiv (x n : Nat) : Nat :=
  match Fmt.f32.decode x with
  | .fin neg m e => if m = 0 then x else let q := dyadicRat m e; (roundRat Fmt.f32 .rne neg q.1 (q.2 * n) 0).bits
  | v => (roundTo Fmt.f32 .rne v 0).bits

/-- One term of a bag: the running value, the terms so far, indices skipped. -/
structure PoolSum where
  val : Option Nat
  n : Nat
  skipped : Nat
  deriving DecidableEq, Repr

/-- Add index position `j` of a bag for column `e`. -/
def State.poolTerm (s : State) (id piece : Nat) (c : Cmd) (t : Tensor) (e j : Nat) (x : PoolSum) : LineGot PoolSum × State :=
  LineGot.andThen (s.lineRead id piece c (c.extra.getD 0 0 + 4 * j) 4) fun ib s =>
    let r := bytesToNat ib
    if r ≥ t.sz 1 then (.ok { x with skipped := x.skipped + 1 }, s)
    else LineGot.andThen (s.lineRead id piece c (t.addr [e, r]) t.es) fun eb s =>
      let v := poolF32 t.fmt eb
      let add (t : Nat) : PoolSum :=
        { x with n := x.n + 1, val := some (match x.val with
            | none => t
            | some y => if c.extra.getD 4 0 = 2 then fMinMax Fmt.f32 true y t else (addRne Fmt.f32 y t).bits) }
      if c.extra.getD 2 0 = 0 then (.ok (add v), s)
      else LineGot.andThen (s.lineRead id piece c (c.extra.getD 2 0 + 4 * j) 4) fun wb s =>
        (.ok (add (roundTo Fmt.f32 .rne (fMul (Fmt.f32.decode (bytesToNat wb)) (Fmt.f32.decode v)).val 0).bits), s)

/-- The index positions of a bag, one after another. -/
def State.poolBag (s : State) (id piece : Nat) (c : Cmd) (t : Tensor) (e : Nat) : List Nat → PoolSum → LineGot PoolSum × State
  | [], x => (.ok x, s)
  | j :: js, x =>
    match s.poolTerm id piece c t e j x with
    | (.ok y, s) => s.poolBag id piece c t e js y
    | (.wait, s) => (.wait, s)
    | (.stop k v, s) => (.stop k v, s)

/-- OUT[b][e] (R217), and how many indices it skipped. -/
def State.poolElem (s : State) (id piece : Nat) (c : Cmd) (t o : Tensor) (b e : Nat) : LineGot (List Byte × Nat) × State :=
  LineGot.andThen (s.lineRead id piece c (c.extra.getD 1 0 + 4 * b) 4) fun lo s =>
    LineGot.andThen (s.lineRead id piece c (c.extra.getD 1 0 + 4 * b + 4) 4) fun hi s =>
      let from_ := bytesToNat lo
      let js := (List.range (bytesToNat hi - from_)).map fun i => from_ + i
      LineGot.andThen (s.poolBag id piece c t e js ⟨none, 0, 0⟩) fun x s =>
        let v := x.val.getD 0
        let v := if c.extra.getD 4 0 = 1 && x.n > 0 then poolDiv v x.n else v
        let f : Fmt := if o.fmt = 5 then Fmt.bf16 else if o.fmt = 6 then Fmt.f16 else Fmt.f32
        (.ok (natToBytes o.es (roundTo f .rne (Fmt.f32.decode v) 0).bits, x.skipped), s)

/-- The elements of OUT in a line: (bag, column, address). -/
def Cmd.poolElems (c : Cmd) (line : Nat) : List (Nat × Nat × Nat) :=
  match c.dst with
  | some o =>
    (List.range (c.extra.getD 3 0)).flatMap fun b => (List.range (o.sz 0)).filterMap fun e =>
      if o.addr [e, b] / 128 = line then some (b, e, o.addr [e, b]) else none
  | none => []

/-- Compute the elements of a line of OUT. Skipped indices count once for each bag, with its first column. (DESIGN CHOICE, safe: notes/assumptions/14.md) -/
def State.poolLine (s : State) (id piece : Nat) (c : Cmd) (t o : Tensor) : List (Nat × Nat × Nat) → List (Nat × List Byte) → Nat →
    LineGot (List (Nat × List Byte) × Nat) × State
  | [], acc, sk => (.ok (acc, sk), s)
  | (b, e, va) :: rest, acc, sk =>
    match s.poolElem id piece c t o b e with
    | (.ok x, s) => s.poolLine id piece c t o rest (acc ++ [(va, x.1)]) (if e = 0 then sk + x.2 else sk)
    | (.wait, s) => (.wait, s)
    | (.stop k v, s) => (.stop k v, s)

/-- What a line of a command holds: its elements and their bytes; indices skipped. -/
def State.lineData (s : State) (id piece : Nat) (c : Cmd) (line : Nat) : LineGot (List (Nat × List Byte) × Nat) × State :=
  match c.src, c.dst with
  | some t, some o =>
    if c.kind = 2 then s.poolLine id piece c t o (c.poolElems line) [] 0
    else
      let es := c.elems.filter fun x => x.2 / 128 == line
      LineGot.andThen (s.lineReads id piece c (es.map Prod.fst) t.es []) fun ds s => (.ok (c.copyLine s es ds, 0), s)
  | _, _ => (.ok ([], 0), s)

/-- Bytes that a line counts. -/
def Cmd.lineBytes (c : Cmd) (line : Nat) : Nat :=
  match c.dst with
  | some o => (if c.kind = 2 then (c.poolElems line).length else (c.elems.filter fun x => x.2 / 128 == line).length) * o.es
  | none => 0

/-- A write of a command that has ended has been performed. -/
def State.statusDone (s : State) (id : Nat) (c : Cmd) (piece : Nat) : State :=
  (s.setCmd id { c with stat := c.stat || piece == statusPiece }).tryFinish id

/-- A line has been performed: its bytes leave the barrier word, now or once its update may be made; the last line completes the command. -/
def State.lineDone (s : State) (id piece : Nat) : State :=
  match s.cmd? id with
  | none => s
  | some c =>
    if c.fin.isSome then s.statusDone id c piece
    else if !c.pieces.contains piece then s
    else
      let left := c.pieces.filter (· ≠ piece)
      let n := c.lineBytes (c.lines.getD piece 0)
      if left.isEmpty then s.finishCmd id c 0 0
      else match s.barReady id piece c with
        | (.ok key, s) => (s.setCmd id { c with pieces := left, left := c.left - n, barKey := key, owed := c.owed.filter (· ≠ piece) }).cmdSub c key n
        | (_, s) => s.setCmd id { c with owed := c.owed.filter (· ≠ piece) ++ [piece] }

/-- Write a promise into a command's barrier word, with its event. -/
def State.promisePut (s : State) (c : Cmd) (key t : Nat) : State :=
  ((s.put (key + 24) 8 t).writeServed key c.source).emit c.source 0x021 c.tenant c.causal (BitVec.ofNat 64 t)

/-- The tick to which a promise that has passed is put off (R465). -/
def State.putOff (s : State) : Nat := min (s.gtc.toNat + 25000) (2 ^ 64 - 1)

/-- Has the promise of a word passed before this tick? -/
def State.promiseGone (s : State) (key : Nat) : Bool := decide (s.rd (key + 24) 8 ≠ 0) && decide (s.rd (key + 24) 8 < s.gtc.toNat)

/-- May a command revise the promise of its word: it runs, and bytes of it are outstanding? -/
def State.revises (s : State) (id : Nat) (c : Cmd) : Bool :=
  c.st == .running && decide (c.left ≠ 0) && decide (c.kind ≤ 2) && !s.heldFor (.line id promisePiece)

/-- In the tick after a promise has passed, the engine of a copy on its word puts it off (R465). -/
def State.promisesRenew (s : State) : State :=
  s.cmds.foldl (fun s x =>
    if !s.revises x.1 x.2 || !s.promiseGone x.2.barKey then s
    else match s.barReady x.1 promisePiece x.2 with
      | (.ok key, s) => if s.promiseGone key then s.promisePut x.2 key s.putOff else s
      | (_, s) => s) s

/-- PROMISE_REVISE (R213, R465): a promise that has passed with bytes outstanding is put off; an estimate that has moved later than the promise
is written. (DESIGN CHOICE, safe: notes/assumptions/12.md) -/
def execPromiseRevise (cmd : Nat) (s : State) : Out :=
  match s.cmd? cmd with
  | none => .next s
  | some c =>
    if !s.revises cmd c then .next s
    else match s.barReady cmd promisePiece c with
    | (.ok key, s) =>
      if c.kind = 1 && s.rd (key + 24) 8 = 0 then .next s
      else if s.promiseGone key then .next (s.promisePut c key s.putOff)
      else if Config.freeBit s.free 7001 && decide (s.estimate.toNat > s.rd (key + 24) 8) then .next (s.promisePut c key s.estimate.toNat)
      else .next s
    | (_, s) => .next s

end Sys2Proof.Machine
end

