-- ==== Sys2Proof/Machine/Collective.lean ====
section
/-!
DEFINITION. The collective engines (spec/10_collectives.md, R242 to R253; R466, R467): the group table, acceptance, the messages between
ranks, the lines of SEND and RECV, completion and abnormal ends.
-/
namespace Sys2Proof.Machine

def cCollRecord : Nat := 0x3E
def cCollGroup : Nat := 0x3F

/-- The collective engine of a core (R245). -/
def cleOf (core : Nat) : Nat := 4 * (core / 80) + core % 4

/-! ## The group table (R242, R243) -/

/-- A rank list of `n` words at a physical address; none when a word cannot be read. (DEDUCED, unsafe: notes/assumptions/34.md) -/
def State.readRanks : Nat → State → Nat → Option (List (Nat × Nat) × State)
  | 0, s, _ => some ([], s)
  | n + 1, s, pa =>
    match s.sysRead pa 4 with
    | (.error _, _) => none
    | (.ok v, s) => (State.readRanks n s (pa + 4)).map fun r => ((v % 4096, v / 4096 % 16) :: r.1, r.2)

/-- Entry g as the engines read it. (DEDUCED, unsafe: notes/assumptions/34.md) -/
def State.readGroup (s : State) (g : Nat) : Group × State :=
  match s.sysRead (s.grpBase.toNat / 2 ^ 21 % 2 ^ 31 * 2 ^ 21 + 32 * g) 32 with
  | (.error _, s) => (Group.unused, s)
  | (.ok v, s) =>
    let b := natToBytes 32 v
    let n := fld b 4 2
    let pa := fld b 8 8
    let e : Group := { version := fld b 0 4, tenant := fld b 6 2 % 1024, timeout := fld b 16 4, valid := false, cfault := (fld b 20 1).testBit 1, ranks := [],
                       nranks := n, ranksPa := pa }
    if n = 0 || n > 4096 || pa % 64 ≠ 0 then (e, s)
    else match State.readRanks n s pa with
      | none => (e, s)
      | some (rs, s) => ({ e with valid := (fld b 20 1).testBit 0 && rs.dedup.length == rs.length, ranks := rs }, s)

def State.groupOf (s : State) (g : Nat) : Group := tabGetD s.groups g Group.unused
def State.groupAtOf (s : State) (cle g : Nat) : GroupAt := tabGetD s.groupAt (cle * 65536 + g) GroupAt.fresh
def State.setGroupAt (s : State) (cle g : Nat) (x : GroupAt) : State := { s with groupAt := tabPut s.groupAt (cle * 65536 + g) x }

/-! ## Messages -/

/-- The data of a COLL packet: the message's fields, 64 bytes, and its bytes (DESIGN CHOICE, unsafe: notes/assumptions/22.md). -/
def CollMsg.bytes (m : CollMsg) : List Byte :=
  natToBytes 1 m.kind ++ natToBytes 1 m.cle ++ natToBytes 2 m.rank ++ natToBytes 4 m.group ++ natToBytes 4 m.version ++ natToBytes 4 m.seq ++
  natToBytes 1 (m.key.getD 0 0) ++ natToBytes 1 (m.key.getD 1 0) ++ natToBytes 1 (m.key.getD 2 0) ++ natToBytes 1 m.code ++
  natToBytes 4 (m.key.getD 3 0) ++ natToBytes 8 (m.key.getD 4 0) ++ natToBytes 8 m.off ++ natToBytes 8 m.piece ++ natToBytes 16 0 ++ m.data

/-- The message that a COLL packet carries. -/
def collOfPacket (p : Packet) : CollMsg :=
  let b := p.data
  { id := 0, kind := fld b 0 1, cle := fld b 1 1 % 16, group := fld b 4 4 % 65536, version := fld b 8 4, seq := fld b 12 4, rank := fld b 2 2,
    key := [fld b 16 1, fld b 17 1, fld b 18 1, fld b 20 4, fld b 24 8], off := fld b 32 8, piece := fld b 40 8, code := fld b 19 1,
    tenant := p.tenant, causal := p.causal, data := b.drop 64 }

/-- A message reaches an engine of this module. -/
def State.collArrive (s : State) (m : CollMsg) : State :=
  let r := s.newId
  { r.2 with collIn := r.2.collIn ++ [{ m with id := r.1 }] }

/-- Send what waits for tags, in order (R424, R432). -/
def State.flushColl : Nat → State → State
  | 0, s => s
  | n + 1, s =>
    match s.collOut with
    | [] => s
    | (dev, m) :: rest =>
      let p : Packet := { dst := dev, srcDev := 0, src := srcOf 3 m.cle, xtag := 0, op := .coll, scope := 4, release := false, retry := false,
                          unlocked := false, tenant := m.tenant, minor := 0, len := m.bytes.length, addr := 0, causal := m.causal,
                          sent := 0#64, opnd := 0#64, data := m.bytes }
      match s.newTxn false (planeOfDev dev) (parityOf 12 dev) p (.coll m.id) with
      | none => s
      | some s => State.flushColl n { s with collOut := rest }

/-- Send a message to a rank: over the die mesh on this module, else over the fabric (R245). -/
def State.tell (s : State) (to_ : Nat × Nat) (m : CollMsg) : State :=
  if to_.1 = s.device then s.collArrive { m with cle := to_.2 }
  else
    let s := { s with collOut := s.collOut ++ [(to_.1, { m with cle := to_.2 })] }
    s.flushColl s.collOut.length

/-- A message of an instance. -/
def Coll.msg (x : Coll) (c : Cmd) (kind : Nat) : CollMsg :=
  { id := 0, kind := kind, cle := c.engine, group := x.group, version := x.version, seq := x.seq, rank := x.rank, key := x.key, off := 0,
    piece := 0, code := 0, tenant := c.tenant, causal := c.causal, data := [] }

/-- Ranks other than the instance's own, with their numbers. -/
def Coll.others (x : Coll) : List (Nat × (Nat × Nat)) := (x.ranks.zipIdx.map fun r => (r.2, r.1)).filter fun r => r.1 != x.rank

def State.tellOthers (s : State) (x : Coll) (m : CollMsg) : State := x.others.foldl (fun s r => s.tell r.2 m) s

/-! ## What an instance moves (R244, R249) -/

def Coll.op (x : Coll) : Nat := x.key.getD 0 0
def Coll.red (x : Coll) : Nat := x.key.getD 1 0
def Coll.ty (x : Coll) : Nat := x.key.getD 2 0
def Coll.root (x : Coll) : Nat := x.key.getD 3 0
def Coll.count (x : Coll) : Nat := x.key.getD 4 0
/-- Bytes of an element of TYPE. -/
def collBytes (ty : Nat) : Nat := if ty = 1 || ty = 2 then 2 else 4
/-- Bytes of c elements. -/
def Coll.part (x : Coll) : Nat := x.count * collBytes x.ty
/-- Is RECV n × c elements? -/
def Coll.wide (x : Coll) : Bool := x.op == 2 || x.op == 4
def Coll.recvBytes (x : Coll) : Nat := (if x.wide then x.ranks.length else 1) * x.part
/-- Is SEND n × c elements? -/
def Coll.sendsParts (x : Coll) : Bool := x.op == 1 || x.op == 4
def Coll.sends (x : Coll) : Bool := x.op != 3 || x.rank == x.root
def Coll.sendBytes (x : Coll) : Nat := if x.sends then (if x.sendsParts then x.ranks.length else 1) * x.part else 0

/-- Byte ranges [from, to) of [a, a + n) by 128-B lines. -/
def lineParts (a n : Nat) : List (Nat × Nat) :=
  if n = 0 then []
  else (List.range ((a + n - 1) / 128 - a / 128 + 1)).map fun k => (max a ((a / 128 + k) * 128), min (a + n) ((a / 128 + k + 1) * 128))

/-- The ranks whose parts of RECV the instance needs (R249, R251). -/
def Coll.sources (x : Coll) : List Nat := if x.op = 3 then [x.root] else List.range x.ranks.length

/-- SEND for a destination rank: its address. -/
def Coll.sendAddr (x : Coll) (c : Cmd) (dst : Nat) : Nat :=
  ((c.src.map fun t => t.base.toNat).getD 0) + (if x.sendsParts then dst * x.part else 0)

/-- Pieces: RECV line k is piece 2k; part k of SEND for rank d is piece 2 (d × K + k) + 1, K the lines that a part can touch. -/
def Coll.stride (x : Coll) : Nat := x.part / 128 + 2
def Coll.recvParts (x : Coll) (c : Cmd) : List (Nat × Nat) := lineParts ((c.dst.map fun t => t.base.toNat).getD 0) x.recvBytes
def Coll.sendParts (x : Coll) (c : Cmd) (dst : Nat) : List (Nat × Nat) := lineParts (x.sendAddr c dst) x.part
def Coll.allPieces (x : Coll) (c : Cmd) : List Nat :=
  ((List.range (x.recvParts c).length).map fun k => 2 * k) ++
  (if x.sends then (List.range x.ranks.length).flatMap fun d => (List.range (x.sendParts c d).length).map fun k => 2 * (d * x.stride + k) + 1
   else [])

/-- A byte of a rank's data at an offset of its part, if it has arrived. -/
def Coll.byteOf (x : Coll) (rank off : Nat) : Option Byte :=
  (x.got.find? fun g => g.1 == rank && decide (g.2.1 ≤ off) && decide (off < g.2.1 + g.2.2.length)).map fun g => g.2.2.getD (off - g.2.1) 0#8

/-- Bytes of a rank's data, if all of them have arrived. -/
def Coll.bytesOf (x : Coll) (rank off n : Nat) : Option (List Byte) := (List.range n).mapM fun i => x.byteOf rank (off + i)

/-- Has a rank's data arrived whole? -/
def Coll.hasAll (x : Coll) (rank : Nat) : Bool :=
  decide (((x.got.filter fun g => g.1 == rank).map fun g => g.2.2.length).sum ≥ x.part)

/-- Ranks still awaited (R405): their data, or their acknowledgement of SEND bytes, sent or still to be sent (R250). -/
def Coll.awaited (x : Coll) (c : Cmd) : List Nat :=
  (List.range x.ranks.length).filter fun k => k != x.rank &&
    ((x.sources.contains k && !x.hasAll k) || (c.pieces.filter (· % 2 == 1) ++ x.unacked).any fun p => p / 2 / x.stride == k)

/-! ## Reductions (R70, R249) -/

/-- One level of the rank-order tree: neighbours combine, an odd one is passed on as beside Absent. -/
def collLevel (f : Nat → Nat → Nat) : List Nat → List Nat
  | a :: b :: t => f a b :: collLevel f t
  | [a] => [a]
  | [] => []

/-- The tree over leaves in rank order; fuel bounds its height. -/
def collTree (f : Nat → Nat → Nat) : Nat → List Nat → Nat
  | _, [] => 0
  | _, [a] => a
  | 0, a :: _ => a
  | n + 1, xs => collTree f n (collLevel f xs)

/-- The format of a floating TYPE. -/
def collFmt (ty : Nat) : Option Fmt := match ty with | 0 => some Fmt.f32 | 1 => some Fmt.bf16 | 2 => some Fmt.f16 | _ => none

/-- Combine two values: a node of the tree. -/
def collNode (ty red x y : Nat) : Nat :=
  match collFmt ty with
  | some _ =>
    (match red with
     | 0 => (addRne Fmt.f32 x y).bits
     | 1 => fMinMax Fmt.f32 false x y
     | _ => fMinMax Fmt.f32 true x y)
  | none =>
    let less := if ty = 3 then (BitVec.ofNat 32 x).slt (BitVec.ofNat 32 y) else decide (x < y)
    (match red with
     | 0 => (x + y) % 2 ^ 32
     | 1 => if less then x else y
     | _ => if less then y else x)

/-- Tree of the leaves of an element, as TYPE: leaves widen to FP32, the root rounds once (R249). -/
def collReduce (ty red : Nat) (leaves : List Nat) : Nat :=
  match collFmt ty with
  | some f =>
    let wide := leaves.map fun v => (roundTo Fmt.f32 .rne (f.decode v) 0).bits
    (roundTo f .rne (Fmt.f32.decode (collTree (collNode ty red) wide.length wide)) 0).bits
  | none => collTree (collNode ty red) leaves.length leaves

/-- The bytes of [off, off + n) of RECV, once every leaf is here (R466). Data-moving operations copy bits. -/
def Coll.recvData (x : Coll) (off n : Nat) : Option (List Byte) :=
  match x.op with
  | 2 => (List.range n).mapM fun i => x.byteOf ((off + i) / x.part) ((off + i) % x.part)
  | 3 => x.bytesOf x.root off n
  | 4 => (List.range n).mapM fun i => x.byteOf ((off + i) / x.part) ((off + i) % x.part)
  | _ =>
    let es := collBytes x.ty
    ((List.range (n / es)).mapM fun e =>
      ((List.range x.ranks.length).mapM fun k => (x.bytesOf k (off + es * e) es).map bytesToNat).map fun ls =>
        natToBytes es (collReduce x.ty x.red ls)).map List.flatten

/-! ## Ends (R250, R252) -/

/-- Live instances of a group at an engine: command, instance. -/
def State.liveColls (s : State) (cle g : Nat) : List (Nat × Coll) :=
  s.colls.filter fun x => x.2.group == g && ((s.cmd? x.1).map fun c => c.engine == cle).getD false

def State.liveColl (s : State) (cle g seq : Nat) : Option (Nat × Coll) := (s.liveColls cle g).find? fun x => x.2.seq == seq

/-- The instance of a group accepted first, at an engine: the lowest sequence number (R248), counted back from the next one. -/
def State.firstColl (s : State) (cle g : Nat) : Option (Nat × Coll) :=
  let age (x : Coll) : Nat := ((s.groupAtOf cle g).next + 2 ^ 32 - x.seq) % 2 ^ 32
  (s.liveColls cle g).foldl (fun (o : Option (Nat × Coll)) x => match o with
    | some y => if age y.2 < age x.2 then some x else some y
    | none => some x) none

/-- Has every other rank's matched instance been accepted (R249)? -/
def Coll.matched (x : Coll) : Bool := (List.range x.ranks.length).all fun k => k == x.rank || x.heard.contains k

/-- Complete every instance that may complete: in sequence order, matched at every rank, with every line performed, every byte of SEND read and
acknowledged (R248 to R250). -/
def State.collFinish : Nat → State → Nat → Nat → State
  | 0, s, _, _ => s
  | n + 1, s, cle, g =>
    match s.firstColl cle g with
    | none => s
    | some (id, x) =>
      match s.cmd? id with
      | none => s
      | some c =>
        if c.pieces.isEmpty && x.unacked.isEmpty && x.matched then
          State.collFinish n { s.finishCmd id c 0 0 with colls := tabErase s.colls id } cle g
        else s

def State.collSettle (s : State) (cle g : Nat) : State := State.collFinish 16 s cle g

/-- End a live instance abnormally, and those behind it that may now complete (R252). -/
def State.collEnd (s : State) (id code addr : Nat) : State :=
  match s.cmd? id, tabGet? s.colls id with
  | some c, some x => ({ s.finishCmd id c code addr with colls := tabErase s.colls id } : State).collSettle c.engine x.group
  | _, _ => s

/-- Causes that reach an engine in one cycle (R252): the row of the table that is higher goes first. Rows: 0 a new version, 1 disagreement, 2 a fault on a
line, 3 the Curfew. -/
def State.collLate (s : State) (cle g row : Nat) : Bool := s.tooLate 3 (cle * 65536 + g) row
def State.collServe (s : State) (cle g row : Nat) : State := s.serve 3 (cle * 65536 + g) row

/-- End it, and send the end to the other ranks. -/
def State.collEndAll (s : State) (id code addr elsewhere : Nat) : State :=
  match s.cmd? id, tabGet? s.colls id with
  | some c, some x => (s.collEnd id code addr).tellOthers x { x.msg c 3 with code := elsewhere }
  | _, _ => s

/-- A group's entry has another version (R248, R252, R467): the live instances of the group end with GROUP_STALE, its sequences restart, messages for older versions
go. -/
def State.groupStale (s : State) (g version : Nat) : State :=
  let live := (s.colls.filter fun x => x.2.group == g).filterMap fun x => (s.cmd? x.1).map fun c => (x.1, c, x.2)
  let s := { s with colls := s.colls.filter fun x => x.2.group != g }
  let s := live.foldl (fun s x =>
    (((s.finishCmd x.1 x.2.1 cGroupStale 0).tellOthers x.2.2 { x.2.2.msg x.2.1 3 with code := cGroupStale }).collServe x.2.1.engine g 0)) s
  { s with groupAt := s.groupAt.map (fun x => if x.1 % 65536 = g then (x.1, { x.2 with next := 0, kept := [] }) else x),
           collIn := s.collIn.filter fun m => m.group != g || decide (m.version ≥ version) }

/-- GROUP_RELOAD (R243): every engine reads the entry and its rank list. A new version ends the live instances (`State.groupStale`). (DEDUCED, unsafe: notes/assumptions/34.md) -/
def execGroupReload (group : Nat) (s : State) : Out :=
  let g := group % 65536
  let old := s.groupOf g
  let r := s.readGroup g
  if r.1.version ≠ old.version && (List.range 16).any fun cle => s.collLate cle g 0 then .next s else
  let s := { r.2 with groups := tabPut r.2.groups g r.1 }
  if r.1.version = old.version then .next s
  else .next (s.groupStale g r.1.version)

/-! ## COLL and its acceptance (R245 to R247) -/

/-- COLL (R245). -/
def execColl (d a b : BitVec 7) (s : State) : Out :=
  issue (Form.noComb (.waveA [pW d, zR a, zR b])) s fun e =>
    e.memGate .held true fun e => e.sendCmd (e.newCmd 3 (cleOf e.core) d (e.s64 a) (e.s64 b)) 16

/-- Read a tensor record of a collective: present, absent (address 0 where SEND is not needed). -/
def State.collTensor (s : State) (id : Nat) (c : Cmd) (w : Wave) (va : Nat) (needed : Bool) : AccRead × State :=
  if va = 0 && !needed then (.ok [], s) else s.acceptRead id c w va 64 cCollRecord

/-- Does a tensor record suit TYPE (R244), with at least `n` elements? -/
def collTensorOk (b : List Byte) (ty n : Nat) : Bool :=
  b.isEmpty ||
  (let t := tensorOf b
   tensorZeros b && t.dimsOk && t.rank == 1 && decide (t.sz 0 ≥ n) && !isAvenueVa t.base.toNat &&
   !isAvenueVa (t.base.toNat + t.sz 0 * t.es - 1) &&
   (match ty with
    | 0 => t.fmt == 2 || t.fmt == 4
    | 1 => t.fmt == 5
    | 2 => t.fmt == 6
    | _ => t.fmt == 2 || t.fmt == 9))

/-- Are the record's own fields in range (R244)? `n` is NRANKS, 0 when the entry is not usable. -/
def collRecordOk (r : List Byte) (device n : Nat) : Bool :=
  let op := fld r 0 1
  let sums := op == 0 || op == 1
  decide (op ≤ 4) && decide (fld r 1 1 ≤ (if sums then 2 else 0)) && decide (fld r 2 1 ≤ 4) && decide (3 ≤ fld r 3 1) && decide (fld r 3 1 ≤ 5) &&
  (if op = 3 then n == 0 || decide (fld r 4 2 < n) else fld r 4 2 == 0) && zeros r 6 2 && zeros r 10 2 && zeros r 37 3 && zeros r 48 8 &&
  decide (1 ≤ fld r 32 4) && decide (fld r 32 4 ≤ 2 ^ 28) && decide (fld r 36 1 ≤ 7) &&
  (fld r 56 8 == 0 || fld r 56 8 / 2 ^ 52 == device)

/-- The instance that a record describes, at the rank of this engine. -/
def State.collOf (s : State) (c : Cmd) (r : List Byte) (g : Group) (rank : Nat) : Coll :=
  let t := if fld r 40 4 = 0 then (if g.timeout = 0 then 65536 else g.timeout) else fld r 40 4
  { group := fld r 8 2, version := fld r 12 4, seq := (s.groupAtOf c.engine (fld r 8 2)).next, rank := rank, ranks := g.ranks,
    key := [fld r 0 1, fld r 1 1, fld r 2 1, fld r 4 2, fld r 32 4],
    cfault := if (fld r 36 1).testBit 2 then g.cfault else (fld r 36 1).testBit 1, armed := s.gtc,
    deadline := s.gtc.toNat + t * 1024, reported := false, got := [], unacked := [] }

/-- The checks of R246, in order: the command and its instance, or a trap. (DESIGN CHOICE, unsafe: notes/assumptions/89.md) -/
def State.checkColl (s : State) (id : Nat) (c : Cmd) (w : Wave) : ((Cmd × Coll) ⊕ AccRead) × State :=
  match s.acceptRead id c w c.record.toNat 64 cCollRecord with
  | (.ok r, s) =>
    if s.unreleased c (fld r 3 1) then (.inr .wait, s) else
    let g := s.groupOf (fld r 8 2)
    let rank := if g.valid then g.ranks.idxOf? (s.device, c.engine) else none
    let op := fld r 0 1
    let sends := op ≠ 3 || rank == some (fld r 4 2)
    (match s.collTensor id c w (fld r 16 8) sends with
     | (.ok a, s) =>
       (match s.collTensor id c w (fld r 24 8) true with
        | (.ok b, s) =>
          (match s.acceptRead id c w c.bar.toNat 64 cCollRecord with
           | (.ok _, s) =>
             let n := if g.valid then g.ranks.length else 0
             let cnt := fld r 32 4
             let ty := fld r 2 1
             let needS := if !sends then 0 else if op = 1 || op = 4 then n * cnt else cnt
             let needR := if op = 2 || op = 4 then n * cnt else cnt
             let (key, s) := s.cmdBarrier c w
             if !collRecordOk r s.device n || !collTensorOk a ty needS || !collTensorOk b ty needR then (.inr (.trap cCollRecord), s)
             else match key with
               | none => (.inr (.trap cCollRecord), s)
               | some key =>
                 (match rank with
                  | none => (.inr (.trap cCollGroup), s)
                  | some rank =>
                    if s.grpBase.getLsbD 0 = false || g.tenant ≠ c.tenant || (fld r 3 1 = 3 && g.ranks.any fun x => x.1 != s.device) then
                      (.inr (.trap cCollGroup), s)
                    else if fld r 12 4 ≠ g.version then (.inr (.trap cGroupStale), s)
                    else
                      let x := s.collOf c r g rank
                      let c := { c with scope := fld r 3 1, evt := (fld r 36 1).testBit 0, src := if a.isEmpty then none else some (tensorOf a),
                                        dst := some (tensorOf b), barKey := key, counted := x.recvBytes, left := x.recvBytes,
                                        after := s.releaseSet c.wave (fld r 3 1) }
                      (.inl ({ c with pieces := x.allPieces c }, x), s))
           | (y, s) => (.inr y, s))
        | (y, s) => (.inr y, s))
     | (y, s) => (.inr y, s))
  | (y, s) => (.inr y, s)

/-- Accept an instance (R247), or end it at once with the code kept for it (R467). (DESIGN CHOICE, unsafe: notes/assumptions/90.md) -/
def State.acceptColl (s : State) (id : Nat) (c : Cmd) (x : Coll) : State :=
  if s.heldFor (.line id zeroPiece) then s else
  match s.barReady id zeroPiece c with
  | (.ok key, s) =>
  (match s.writeStatus id c 0 zeroPiece with
  | (.ok _, s) =>
  let h := s.freshId c.source
  let s := h.2
  let c := { c with causal := h.1, st := .running, barKey := key }
  let ga := s.groupAtOf c.engine x.group
  let s := s.setGroupAt c.engine x.group
    { ga with next := (ga.next + 1) % 2 ^ 32, total := (ga.total + 1) % 2 ^ 32, wave := c.wave, causal := h.1, tenant := c.tenant, since := s.gtc, order := s.free,
              kept := ga.kept.filter fun k => k.1 != x.seq }
  (match ga.kept.find? fun k => k.1 == x.seq with
  | some k =>
    let c := { c with counted := 0, left := 0, pieces := [] }
    ((s.setCmd id c).acceptDone c id h.1).finishCmd id c k.2 0
  | none =>
    let s := ((s.setCmd id c).barAdd key c.counted c.bar c.causal c.tenant c.source c.scope).writeServed key c.source
    let s := { s with colls := tabPut s.colls id x }
    (s.tellOthers x (x.msg c 0)).acceptDone c id h.1)
  | (_, s) => s)
  | (_, s) => s

/-- COLL_ACCEPT (R246, R247). -/
def execCollAccept (cmd : Nat) (s : State) : Out :=
  match s.cmd? cmd with
  | none => .next s
  | some c =>
    if c.st != .issued || c.kind ≠ 3 || s.heldFor (.command cmd) then .next s
    else match s.wave? c.wave with
      | none => .next (s.dropCmd cmd)
      | some w =>
        match s.checkColl cmd c w with
        | (.inl (c', x), s) => .next (s.acceptColl cmd c' x)
        | (.inr (.trap code), s) => .next (s.acceptTrap cmd c code)
        | (.inr _, s) => .next s

/-! ## Messages that arrive (R248 to R250, R252, R467) -/

def State.collMsg? (s : State) (id : Nat) (kinds : Nat → Bool) : Option CollMsg := s.collIn.find? fun m => m.id == id && kinds m.kind
def State.dropMsg (s : State) (id : Nat) : State := { s with collIn := s.collIn.filter fun m => m.id != id }

/-- Does a sequence number, counted modulo 2^32 (R248), come before another? -/
def seqBefore (a b : Nat) : Bool := decide ((b + 2 ^ 32 - a) % 2 ^ 32 ≠ 0) && decide ((b + 2 ^ 32 - a) % 2 ^ 32 < 2 ^ 31)

/-- Is the message for an instance that has ended, or for an earlier version? -/
def State.staleMsg (s : State) (m : CollMsg) : Bool :=
  decide (m.version < (s.groupOf m.group).version) ||
  (m.version == (s.groupOf m.group).version && seqBefore m.seq (s.groupAtOf m.cle m.group).next)

/-- COLL_DATA_ARRIVAL (R248, R249): another rank's message for a matched instance. Disagreement ends both sides; data is kept and
acknowledged. A message for an instance not yet accepted waits. -/
def execCollDataArrival (id : Nat) (s : State) : Out :=
  match s.collMsg? id fun k => decide (k ≤ 1) with
  | none => .next s
  | some m =>
    match (s.liveColl m.cle m.group m.seq).filter fun x => x.2.version == m.version with
    | none => .next (if s.staleMsg m then s.dropMsg id else s)
    | some (cid, x) =>
      if m.key ≠ x.key && s.collLate m.cle m.group 1 then .next s
      else
      let s := s.dropMsg id
      match s.cmd? cid with
      | none => .next s
      | some c =>
        let x := { x with heard := if x.heard.contains m.rank then x.heard else x.heard ++ [m.rank] }
        if m.key ≠ x.key then .next ((s.collEndAll cid cCollGroup 0 cCollGroup).collServe m.cle m.group 1)
        else if m.kind = 0 then .next ({ s with colls := tabPut s.colls cid x }.collSettle m.cle m.group)
        else
          let s := { s with colls := tabPut s.colls cid { x with got := x.got ++ [(m.rank, m.off, m.data)] } }
          .next (s.tell (x.ranks.getD m.rank (s.device, c.engine)) { x.msg c 2 with piece := m.piece })

/-- COLL_ACK (R250): a destination rank acknowledges receipt of SEND bytes. -/
def execCollAck (id : Nat) (s : State) : Out :=
  match s.collMsg? id fun k => k == 2 with
  | none => .next s
  | some m =>
    let live := (s.liveColl m.cle m.group m.seq).filter fun x => x.2.version == m.version
    let s := s.dropMsg id
    match live with
    | none => .next s
    | some (cid, x) =>
      let s := { s with colls := tabPut s.colls cid { x with unacked := x.unacked.filter (· ≠ m.piece) } }
      .next (s.collSettle m.cle m.group)

/-- The row of R252 to which an end that another rank sends belongs. -/
def endRow (code : Nat) : Nat := if code = cGroupStale then 0 else if code = cCurfew then 3 else 1

/-- COLL_END_MESSAGE (R252, R407, R467): the end of an instance ends it here, or its code is kept for an instance not yet accepted on the loaded
version. -/
def execCollEndMessage (id : Nat) (s : State) : Out :=
  match s.collMsg? id fun k => decide (k ≥ 3) with
  | none => .next s
  | some m =>
    if m.version > (s.groupOf m.group).version || s.collLate m.cle m.group (endRow m.code) then .next s
    else
      let s := s.dropMsg id
      match (s.liveColl m.cle m.group m.seq).filter fun x => x.2.version == m.version with
      | some (cid, _) => .next ((s.collEnd cid m.code 0).collServe m.cle m.group (endRow m.code))
      | none =>
        let ga := s.groupAtOf m.cle m.group
        if s.staleMsg m || ga.kept.any fun k => k.1 == m.seq then .next s
        else .next (s.setGroupAt m.cle m.group { ga with kept := ga.kept ++ [(m.seq, m.code)] })

/-! ## The lines of an instance (R249, R250, R252) -/

/-- A line fault ends the instance (R252). -/
def State.collFault (s : State) (id code va : Nat) : State :=
  match s.cmd? id, tabGet? s.colls id with
  | some c, some x =>
    if s.collLate c.engine x.group 2 then s else (s.collEndAll id code va cCollGroup).collServe c.engine x.group 2
  | _, _ => s

/-- Read a part of SEND, and send it to its rank. -/
def State.collSendPart (s : State) (id piece : Nat) (c : Cmd) (x : Coll) : State :=
  let j := piece / 2
  let dst := j / x.stride
  match (x.sendParts c dst)[j % x.stride]? with
  | none => s
  | some (a, b) =>
    match s.lineRead id piece c a (b - a) with
    | (.wait, s) => s
    | (.stop k v, s) => s.collFault id k v
    | (.ok d, s) =>
      let off := a - x.sendAddr c dst
      let s := ((s.dropReads (engineWave id)).dropHeld (.line id piece)).setCmd id { c with pieces := c.pieces.filter (· ≠ piece) }
      let s :=
        if dst = x.rank then { s with colls := tabPut s.colls id { x with got := x.got ++ [(x.rank, off, d)] } }
        else
          ({ s with colls := tabPut s.colls id { x with unacked := x.unacked ++ [piece] } } : State).tell
            (x.ranks.getD dst (s.device, c.engine)) { x.msg c 1 with off := off, piece := piece, data := d }
      s.collSettle c.engine x.group

/-- A RECV line has been performed. The bytes of the last one stay outstanding until the instance may complete (R250). -/
def State.collLineDone (s : State) (id piece : Nat) : State :=
  match s.cmd? id, tabGet? s.colls id with
  | some c, some x =>
    if !c.pieces.contains piece then s
    else
      let left := c.pieces.filter (· ≠ piece)
      let n := ((x.recvParts c)[piece / 2]?.map fun p => p.2 - p.1).getD 0
      if left.any fun p => p % 2 == 0 then
        match s.barReady id piece c with
        | (.ok key, s) => (s.setCmd id { c with pieces := left, left := c.left - n, barKey := key, owed := c.owed.filter (· ≠ piece) }).cmdSub c key n
        | (_, s) => s.setCmd id { c with owed := c.owed.filter (· ≠ piece) ++ [piece] }
      else (s.setCmd id { c with pieces := left }).collSettle c.engine x.group
  | _, _ => s

/-- Write a line of RECV once its data is here (R249, R466); bytes that overlap SEND are free values (R250). -/
def State.collRecvLine (s : State) (id piece : Nat) (c : Cmd) (x : Coll) : State :=
  match (x.recvParts c)[piece / 2]? with
  | none => s
  | some (a, b) =>
    if !x.matched then s else
    match x.recvData (a - ((c.dst.map fun t => t.base.toNat).getD 0)) (b - a) with
    | none => s
    | some d =>
      let lo := (c.src.map fun t => t.base.toNat).getD 0
      let data := d.zipIdx.map fun y =>
        if decide (lo ≤ a + y.2) && decide (a + y.2 < lo + x.sendBytes) then BitVec.ofNat 8 (Config.freeWord s.free (8000 + y.2)).toNat else y.1
      match s.lineWrite id piece c [(a, data)] with
      | (.wait, s) => s
      | (.stop k v, s) => s.collFault id k v
      | (.ok now, s) =>
        let s := (s.dropReads (engineWave id)).dropHeld (.line id piece)
        if now then s.collLineDone id piece else s

/-- A line of any engine has been performed. -/
def State.pieceDone (s : State) (id piece : Nat) : State :=
  if (tabGet? s.colls id).isSome then s.collLineDone id piece else s.lineDone id piece

/-- A line of any engine has failed with a code. -/
def State.pieceFailed (s : State) (id piece code va : Nat) : State :=
  if (tabGet? s.colls id).isSome then (if statusPiece ≤ piece then s else s.collFault id code va)
  else match s.cmd? id with
    | some c => if c.fin.isSome then s.statusDone id c piece else if statusPiece ≤ piece then s else s.finishCmd id c code va
    | none => s

/-- The address of the destination line that a piece of a command writes. -/
def State.pieceLine (s : State) (id piece : Nat) (c : Cmd) : Option Nat :=
  if statusPiece ≤ piece then some ((if piece = promisePiece then c.bar.toNat else c.statusVa) / 128 * 128)
  else match tabGet? s.colls id with
  | some x => if piece % 2 = 0 then ((x.recvParts c)[piece / 2]?).map fun r => r.1 / 128 * 128 else none
  | none => (c.lines[piece]?).map fun l => l * 128

/-- Do two lines lie at one location now? (DEDUCED, unsafe: notes/assumptions/73.md) -/
def State.sameLineNow (s : State) (c x : Cmd) (a b : Nat) : Bool :=
  let tag (c : Cmd) : Nat := match s.task? c.task with | some t => if t.commit then c.task + 1 else 0 | none => 0
  match s.whereNow c.tenant (tag c) c.redirect a, s.whereNow x.tenant (tag x) x.redirect b with
  | some p, some q => p == q
  | none, none => a == b && c.tenant == x.tenant
  | _, _ => false

/-- Does an earlier command of the same engine still have this location to write (R186), or does an earlier one of the same core wait for acceptance
(R215)? (DEDUCED, unsafe: notes/assumptions/73.md) -/
def State.lineBehind (s : State) (id : Nat) (c : Cmd) (line : Nat) : Bool :=
  s.cmds.any fun x => decide (x.1 < id) && x.2.source == c.source &&
    ((x.2.st == .issued && x.2.core == c.core && decide (c.kind ≤ 1)) ||
     x.2.st == .running && x.2.pieces.any fun p => ((s.pieceLine x.1 p x.2).map fun b => s.sameLineNow c x.2 line b).getD false)

/-- ENGINE_LINE_PERFORMED (R214): an engine reads what a destination line needs, writes it, and its bytes leave the barrier word. A line that
needs a walk, a remote line or a replay is tried again. (DESIGN CHOICE, safe: notes/assumptions/14.md) -/
def execEngineLinePerformed (cmd piece : Nat) (s : State) : Out :=
  match s.cmd? cmd with
  | none => .next s
  | some c =>
    if c.fin.isSome then .next (s.tryFinish cmd)
    else if c.owed.contains piece then .next (if s.heldFor (.line cmd piece) then s else s.pieceDone cmd piece)
    else if c.st != .running || !c.pieces.contains piece || c.after.any s.unperformed ||
       s.heldFor (.line cmd piece) || s.fab.txns.any (fun t => t.what == .line cmd piece) ||
       (s.tteFull (quadOf c.core) && !s.held.any fun h => h.what == .line cmd piece) then .next s
    else if ((s.pieceLine cmd piece c).map fun a => s.lineBehind cmd c a).getD false then .next s
    else match tabGet? s.colls cmd with
    | some x =>
      let ahead := if piece % 2 = 1 then (x.sendParts c (piece / 2 / x.stride)).drop (piece / 2 % x.stride + 1) else (x.recvParts c).drop (piece / 2 + 1)
      let s := s.walkAhead (s.cmdAsker cmd c) (ahead.map Prod.fst)
      .next (if piece % 2 = 1 then s.collSendPart cmd piece c x else s.collRecvLine cmd piece c x)
    | none =>
      let line := c.lines.getD piece 0
      let s := (c.aheadOf piece).foldl (fun s vas => s.walkAhead (s.cmdAsker cmd c) vas) s
      match s.lineData cmd piece c line with
        | (.wait, s) => .next s
        | (.stop k v, s) => .next (s.finishCmd cmd c k v)
        | (.ok x, s) =>
          match s.lineWrite cmd piece c x.1 with
          | (.wait, s) => .next s
          | (.stop k v, s) => .next (s.finishCmd cmd c k v)
          | (.ok now, s) =>
            let s := (s.dropReads (engineWave cmd)).dropHeld (.line cmd piece)
            let c' := { c with skipped := c.skipped + x.2 }
            .next (if now then (s.setCmd cmd c').lineDone cmd piece else s.setCmd cmd c')

end Sys2Proof.Machine
end

