-- ==== Sys2Proof/Machine/Waits.lean ====
section
/-!
DEFINITION. Awaited parties, wait-for graphs and the Curfew (spec/17_wait_graphs_and_curfew.md, R393 to R407; R442, R446, R468, R469): edges, their
readout, gathers, Curfew expiry, probes and reports.
-/
namespace Sys2Proof.Machine

/-- An edge (R394), as its keeper gives it. -/
structure WaitEdge where
  read : Nat
  since : Nat
  wcause : Nat
  wdev : Nat
  wsrc : Nat
  wslot : Nat
  kind : Nat
  tenant : Nat
  obj : Nat
  acause : Nat
  adev : Nat
  asrc : Nat
  detail : Nat
  aux : Nat
  deriving DecidableEq, Repr

/-- The 64 bytes of an edge. -/
def WaitEdge.bytes (e : WaitEdge) : List Byte :=
  natToBytes 8 e.read ++ natToBytes 8 e.since ++ natToBytes 8 e.wcause ++ natToBytes 2 e.wdev ++ natToBytes 2 e.wsrc ++ natToBytes 1 e.wslot ++
  natToBytes 1 e.kind ++ natToBytes 2 e.tenant ++ natToBytes 8 e.obj ++ natToBytes 8 e.acause ++ natToBytes 2 e.adev ++ natToBytes 2 e.asrc ++
  natToBytes 4 e.detail ++ natToBytes 8 e.aux

def waitEdgeOf (b : List Byte) : WaitEdge :=
  { read := fld b 0 8, since := fld b 8 8, wcause := fld b 16 8, wdev := fld b 24 2, wsrc := fld b 26 2, wslot := fld b 28 1, kind := fld b 29 1,
    tenant := fld b 30 2, obj := fld b 32 8, acause := fld b 40 8, adev := fld b 48 2, asrc := fld b 50 2, detail := fld b 52 4, aux := fld b 56 8 }

/-! ## The keepers' records (R393, R395) -/

/-- An edge of a unit of this module, before its kind's fields. -/
def State.edge (s : State) (since causal : DWord) (src slot kind tenant : Nat) : WaitEdge :=
  { read := s.gtc.toNat, since := since.toNat, wcause := causal.toNat, wdev := s.device, wsrc := src, wslot := slot, kind := kind, tenant := tenant,
    obj := 0, acause := 0, adev := s.device, asrc := 0xFFFF, detail := 0, aux := 0 }

/-- TOKEN of the oldest held access of a wave that `p` picks, or 0. -/
def State.heldToken (s : State) (p : Held → Bool) : Nat :=
  (s.held.foldl (fun (o : Option Held) h => if p h then (match o with
    | some x => if h.order < x.order then some h else some x
    | none => some h) else o) none).elim 0 fun h => tokenOf h.cls h.owner h.entry

/-- The mask of a core's wave slots that satisfy `p`. -/
def State.slotMask (s : State) (core : Nat) (p : Wave → Bool) : Nat :=
  (List.range 48).foldl (fun m i => if ((s.wave? (48 * core + i)).map p).getD false then m + 2 ^ i else m) 0

/-- KIND 1 (R395, R469). -/
def State.barEdge (s : State) (e : WaitEdge) (key : Nat) (addr : DWord) (phase : Nat) : WaitEdge :=
  let out := s.rd (key + 16) 8 % 2 ^ 48
  let note := tabGetD s.barWords key BarNote.none
  { e with kind := 1, obj := addr.toNat, detail := phase, aux := (s.rd key 2 - s.rd (key + 2) 2) + out * 65536,
           acause := if out = 0 then 0 else note.causal.toNat, asrc := if out = 0 then 0xFFFF else note.source }

/-- KIND 2 (R395): the first listed holder. -/
def State.semEdge (s : State) (e : WaitEdge) (key : Nat) (addr : DWord) : WaitEdge :=
  let h := (List.range 8).findSome? fun i => let x := s.holderAt key i; if x / 2 ^ 15 % 2 = 1 then some (x % 2 ^ 16) else none
  { e with kind := 2, obj := addr.toNat, detail := h.getD 0 + s.rd (key + 20) 4 % 2 ^ 16 * 65536, aux := s.rd key 4,
           asrc := (h.map fun x => srcCore (x % 512)).getD 0xFFFF }

/-- KIND 15 (R395). -/
def WaitEdge.order (e : WaitEdge) (cause token asrc : Nat) : WaitEdge := { e with kind := 15, detail := cause, aux := token, asrc := asrc }

/-- Is a held access of the wave one that a word of this KIND 15 cause waits for: for VREL the writes into blocks that it releases (R295), for a record
read a store to it (R171), and for a fence, a release, an SO access or a word behind held accesses every one (R185)? -/
def awaitsHeld (cause at_ : Nat) (a : Access) : Bool :=
  match cause with
  | 5 => a.kind.dests.any fun d => match d with | .vec p => decide (16 * at_ ≤ p) | .scalar _ _ => false
  | 6 => isStoreKind a.kind && decide (a.addr.toNat < at_ + 64) && decide (at_ < a.addr.toNat + a.kind.bytes)
  | _ => true

/-- The edge of a stream that holds at a word and tries it again. -/
def State.pollEdge (s : State) (e : WaitEdge) (k : Nat) (w : Wave) (kind detail : Nat) : Option WaitEdge :=
  let core := coreOf k
  let lanes (p : Access → Bool) : Nat := s.heldToken fun h => h.wave == k && (heldAccesses h).any p
  match kind with
  | 4 =>
    let g := s.engine core
    let b := g.holder.getD (g.claim.headD 0)
    some { e with kind := 4, detail := ((tabGet? s.lch.blocks b).map fun b => b.index).getD 0, aux := s.slotMask core fun x => x.block == b && !x.ended,
                  asrc := srcCore core }
  | 5 =>
    let n := (w.callo.map fun c => (lanesOf c.lanes).length).sum
    (w.callo.head?).map fun c => { e with kind := 5, obj := c.handle.toNat, detail := n, adev := c.dev, asrc := srcOf 9 c.home }
  | 6 => some { e with kind := 6, detail := detail, acause := w.causal.toNat, asrc := srcCore core }
  | 8 =>
    let cnt := w.cnt.getD (detail % 16) []
    some { e with kind := 8, detail := detail % 16 + min cnt.length 63 * 256, aux := lanes fun a => cnt.any fun x => x.op == a.op }
  | 9 => some { e with kind := 9, detail := detail % 4096, asrc := srcCore core }
  | 10 => some { e with kind := 10, asrc := detail }
  | 15 => some (e.order (detail % 16) (lanes (awaitsHeld (detail % 16) (detail / 16))) 0xFFFF)
  | _ => none

/-- The edge of one stream, if it waits (R308, R393). (DEDUCED, unsafe: notes/assumptions/35.md) -/
def State.streamEdge (s : State) (k : Nat) (w : Wave) (cs : Bool) : Option WaitEdge :=
  -- a wait of the A-stream lasts while its handler runs (R414)
  match (w.stream cs).wait.orElse fun _ => if cs then none else w.ctx.bind fun c => c.aWait with
  | none => none
  | some x =>
    let core := coreOf k
    let e := s.edge x.since w.causal (srcCore core) (slotOf k + if cs then 64 else 0) 0 w.tenant
    match x.what with
    | .poll kind detail _ => s.pollEdge e k w kind detail
    | .walk _ => some (e.order 0 0 (srcCore core))
    | .reply op =>
      (match s.homeOp? op with
       | some h =>
         (match h.stuck with
          | some p => some (s.barEdge e h.key h.addr p.toNat)
          | none => some (e.order 7 0 (srcOfKey h.key)))
       | none =>
         some (e.order 8 0 ((s.fab.txns.find? fun t => t.id == op).elim 0xFFFF fun t => srcOf 6 t.link)))
    | .barrier key phase _ addr => some (s.barEdge e key addr phase.toNat)
    | .sem key addr => some (s.semEdge e key addr)
    | .sleep tick => some { e with kind := 7, aux := tick.toNat }
    | .grant n =>
      some { e with kind := 3, detail := n % 64 + (s.core core).freeBlocks.length % 256 * 256, aux := s.slotMask core fun y => !y.blocks.isEmpty,
                    asrc := srcCore core }
    | .accept cmd =>
      let token := s.heldToken fun h => h.what == .command cmd
      some (e.order 6 token ((s.cmd? cmd).elim 0xFFFF Cmd.source))
    | .replay cls entry =>
      some (e.order (if cls = 2 then 4 else 6) (tokenOf cls core entry) (srcCore core))
    | .remote _ => some (e.order 6 0 (srcCore core))

/-- Edges of a core's wait table, by slot, A-streams first. (DEDUCED, unsafe: notes/assumptions/35.md) -/
def State.coreEdges (s : State) (core : Nat) : List WaitEdge :=
  [false, true].flatMap fun cs => (List.range 48).filterMap fun i =>
    (s.wave? (48 * core + i)).bind fun w => if w.ended then none else s.streamEdge (48 * core + i) w cs

/-- KIND 11: the 16 lowest ranks that an instance awaits. (DEDUCED, unsafe: notes/assumptions/35.md) -/
def State.rankEdges (s : State) (cle : Nat) : List WaitEdge :=
  s.colls.flatMap fun x =>
    match s.cmd? x.1 with
    | none => []
    | some c =>
      if c.engine ≠ cle then [] else
      let aw := x.2.awaited c
      (aw.take 16).map fun k =>
        { s.edge x.2.armed c.causal (srcOf 3 cle) 0x80 11 c.tenant with
          detail := k % 4096 + x.2.group * 65536, aux := x.2.seq + min aw.length 65535 * 2 ^ 48, adev := (x.2.ranks.getD k (0, 0)).1 }

/-- KIND 12: the issuer records of the 64 groups an engine accepted from most recently. -/
def State.issuerEdge (s : State) (cle g : Nat) (a : GroupAt) : WaitEdge :=
  { s.edge a.since a.causal (srcOf 3 cle) 0x80 12 a.tenant with
    detail := slotOf a.wave + coreOf a.wave % 512 * 64 + g * 65536, aux := a.total }

def State.issuers (s : State) (cle : Nat) : List (Nat × GroupAt) :=
  let all := (s.groupAt.filter fun x => x.1 / 65536 == cle && x.2.total != 0).map fun x => (x.1 % 65536, x.2)
  let recent := (all.mergeSort fun a b => decide (b.2.order ≤ a.2.order)).take 64
  all.filter fun x => recent.any fun y => y.1 == x.1

/-- KIND 13: the Roundabout's record of each object with requests queued, or held in a running batch. -/
def State.objectEdges (s : State) (core : Nat) : List WaitEdge :=
  let calls := (s.core core).calls
  let running := [46, 47].filterMap fun i => (s.wave? (48 * core + i)).bind fun w => w.batch.map fun b => (w, b)
  let objects := (calls.map CallReq.object ++ running.map fun x => (x.2.descTenant, x.2.handle.toNat)).dedup
  objects.filterMap fun o =>
    let mine := calls.filter fun r => r.object == o
    let batch := running.find? fun x => (x.2.descTenant, x.2.handle.toNat) == o
    let first := match mine with
      | r :: _ => some r
      | [] => batch.bind fun x => x.2.reqs.head?
    first.map fun r =>
      let poisoned := match (s.walkResolve (unitAsker o.1) .load o.2).1 with
        | .ok (.mem k) _ false => s.rd (k + 26) 1 / 2 % 2 == 1
        | _ => false
      let waits := mine.find? fun r => !s.callDue r
      { s.edge r.since r.causal (srcOf 9 core) 0x80 13 r.tenant with
        obj := o.2, acause := (batch.map fun x => x.1.causal.toNat).getD 0, asrc := if batch.isSome then srcCore core else 0xFFFF,
        detail := mine.length % 512 + (if batch.isSome then 512 else 0) + (if poisoned then 1024 else 0) + (if waits.isSome then 2048 else 0),
        aux := (waits.map fun r => r.epoch).getD 0 }

/-- KIND 14: a write that waits for spill space. -/
def State.spillEdges (s : State) (mc : Nat) : List WaitEdge :=
  s.spillWait.filterMap fun x =>
    if mcOf x.key = mc && (decide (x.id ≥ 4 * 10 ^ 15) || s.flight.any fun a => a.id == x.id) then
      some { s.edge x.since x.causal (srcOf 5 mc) 0x80 14 x.tenant with detail := mc }
    else none

/-- Every edge of the module, in ascending (WSRC, WSLOT) (R399). -/
def State.edges (s : State) : List WaitEdge :=
  let cores := (s.waves.map fun w => coreOf w.1).dedup
  cores.flatMap s.coreEdges ++
  ((List.range 16).flatMap fun c => s.rankEdges c ++ (s.issuers c).map fun x => s.issuerEdge c x.1 x.2) ++
  ((List.range 12).flatMap s.spillEdges) ++ (s.cores.map Prod.fst).flatMap s.objectEdges

/-! ## Regions (R398, R399) -/

/-- Put bytes at a physical address of a ring or region: 0 local HBM, as tenant 0 (R355), else the host's memory. -/
def State.regionPut (s : State) (where_ pa : Nat) (b : List Byte) : State :=
  if where_ = 0 then
    match s.sysCheck pa with
    | some s => { s with mem := memPuts s.mem pa b }
    | none => s
  else { s with mem := memPuts s.mem (hostBase + pa) b }

/-- Write a region: the edges that fit, then the header. -/
def State.writeRegion (s : State) (base log2n ndev : Nat) (partial_ : Bool) (es : List (List Byte)) : State :=
  let out := es.take (2 ^ log2n)
  let trunc := decide (es.length > 2 ^ log2n)
  let s := out.zipIdx.foldl (fun s e => s.regionPut 0 (base + 1024 + 64 * e.2) e.1) s
  let reads := out.map fun b => fld b 0 8
  let lo := reads.foldl min (reads.headD 0)
  let hi := reads.foldl max 0
  let hdr := natToBytes 4 out.length ++ natToBytes 2 ndev ++ natToBytes 1 (1 + (if trunc then 2 else 0) + (if partial_ then 4 else 0)) ++ natToBytes 1 0 ++
    natToBytes 8 lo ++ natToBytes 8 hi ++ natToBytes 40 0
  let s := s.regionPut 0 base hdr
  { s with waitRegs := { s.waitRegs with done := (s.waitRegs.done + 1) % 2 ^ 30, trunc := trunc } }

/-- The region of a CUR_SNAP. -/
def State.snapshot (s : State) (v : DWord) : State :=
  let n := v.toNat % 32
  if n < 6 || n > 20 then s else s.writeRegion (v.toNat / 4096 % 2 ^ 40 * 4096) n 1 false (s.edges.map WaitEdge.bytes)

/-- A readout asked for while a gather runs waits until it ends (R398). -/
def State.queueReadout (s : State) (a : ReadoutAsk) : State :=
  { s with waitRegs := { s.waitRegs with queue := s.waitRegs.queue ++ [a] } }

/-- WAIT_SNAPSHOT (R398): a write of CUR_SNAP; one that finds a gather running waits at its port. -/
def execWaitSnapshot (v : DWord) (s : State) : Out :=
  .next (if s.waitRegs.gather.isSome then s.queueReadout (.snap v) else s.snapshot v)

/-! ## Answering probes (R402, R405) -/

/-- ADDR of a probe for the first late participant: engine, group, sequence number (DESIGN CHOICE, unsafe: notes/assumptions/22.md). -/
def probeAddr (cle g seq : Nat) : Nat := cle + g * 16 + seq % 2 ^ 32 * 2 ^ 20
/-- ADDR of a gather's read of all edges, and of its read of one waiter; their n-th page is n above (DESIGN CHOICE, unsafe: notes/assumptions/22.md). -/
def gatherAddr : Nat := 2 ^ 55
def waiterAddr (wsrc wslot : Nat) : Nat := 2 ^ 55 + 2 ^ 54 + (wsrc * 256 + wslot) * 2 ^ 24

/-- The edge that answers a Curfew probe (R405): the lowest KIND 11 edge of the instance, else the edge of the wave that the issuer record names, else
that record. -/
def State.lateEdge (s : State) (cle g seq : Nat) : List Byte :=
  let a := s.groupAtOf cle g
  match (s.rankEdges cle).find? fun e => e.detail / 65536 == g && e.aux % 2 ^ 32 == seq with
  | some e => e.bytes
  | none =>
    if !(s.issuers cle).any fun x => x.1 == g then []
    else
      let own := (s.wave? a.wave).bind fun w => if w.ended then none else
        match s.streamEdge a.wave w false with
        | some e => some e
        | none => s.streamEdge a.wave w true
      (own.getD (s.issuerEdge cle g a)).bytes

/-- All edges that a gather's read with this ADDR is for: one waiter's, or every one. -/
def State.edgesAt (s : State) (addr : Nat) : List Byte :=
  let es := if addr ≥ 2 ^ 55 + 2 ^ 54 then s.edges.filter fun e => e.wsrc * 256 + e.wslot == (addr - 2 ^ 55 - 2 ^ 54) / 2 ^ 24 else s.edges
  es.flatMap WaitEdge.bytes

/-- What a probe with this ADDR returns, at most `len` bytes. The edges of a gather's read are kept as they stood when its first page was read, so that no
page misses one (R397, R402); a new first read of the module drops what it left. -/
def State.probeData (s : State) (src addr len : Nat) : List Byte × State :=
  if addr < 2 ^ 55 then (s.lateEdge (addr % 16) (addr / 16 % 65536) (addr / 2 ^ 20 % 2 ^ 32), s)
  else
    let page := addr % 2 ^ 24
    let r := s.waitRegs
    let kept (b : List Byte) : List (Nat × Nat × List Byte) :=
      (r.reads.filter fun x => !(x.1 == src && (addr == gatherAddr || x.2.1 == addr - page))) ++ [(src, addr - page, b)]
    let s := if page = 0 then { s with waitRegs := { r with reads := kept (s.edgesAt addr) } } else s
    let all := ((s.waitRegs.reads.find? fun x => x.1 == src && x.2.1 == addr - page).map fun x => x.2.2).getD []
    ((all.drop (page * len)).take len, s)

/-- Send a probe; its transaction. -/
def State.sendProbe (s : State) (src dev addr len what tenant : Nat) (causal : DWord) : Option (Nat × State) :=
  let p : Packet := { dst := dev, srcDev := 0, src := src, xtag := 0, op := .probe, scope := 4, release := false, retry := false, unlocked := false,
                      tenant := tenant, minor := 0, len := len, addr := addr, causal := causal, sent := 0#64, opnd := 0#64, data := [] }
  (s.newTxn false (planeOfDev dev) (parityOf 12 dev) p (.probe what)).map fun s' => (s.nextId, s')

/-! ## Gathers (R401 to R403) -/

/-- What identifies an edge's waiter (R400): the stream; else the keeper, with the instance's handle, the group, the object, or the write. -/
def WaitEdge.waiter (e : WaitEdge) : (Nat × Nat × Nat) × Nat × Nat :=
  ((e.wdev, e.wsrc, e.wslot), if e.wslot < 128 then (0, 0) else (e.kind, match e.kind with
    | 11 => e.wcause
    | 12 => e.detail / 65536
    | 13 => e.obj
    | _ => e.wcause + e.since * 2 ^ 64))

/-- Is an edge of a second read that of the first: the same waiter, WCAUSE, KIND, OBJ and SINCE, and, of the edges of one instance, the same rank (R403)? -/
def WaitEdge.lasts (e f : WaitEdge) : Bool :=
  e.waiter == f.waiter && e.wcause == f.wcause && e.kind == f.kind && e.obj == f.obj && e.since == f.since && (e.kind != 11 || e.detail == f.detail)

/-- Does an edge of a graph lead to the waiter of another (R395, R400)? -/
def State.leadsTo (s : State) (es : List WaitEdge) (e f : WaitEdge) : Bool :=
  let wave (core slot : Nat) : Bool := f.wdev == e.adev && f.wsrc == srcCore core && f.wslot < 128 && f.wslot % 64 == slot
  match e.kind with
  | 1 => e.aux / 65536 != 0 && e.asrc / 4096 == 3 && f.kind == 11 && f.wcause == e.acause
  | 2 => e.detail / 2 ^ 15 % 2 == 1 && wave (e.detail % 512) (e.detail / 512 % 64)
  | 3 | 4 => f.wdev == e.wdev && f.wsrc == e.wsrc && f.wslot < 128 && e.aux.testBit (f.wslot % 64) && f.wslot % 64 != e.wslot % 64
  | 5 => f.kind == 13 && f.wdev == e.adev && f.obj == e.obj
  | 6 => f.wdev == e.wdev && f.wsrc == e.wsrc && f.wslot == e.wslot % 64 + 64 * (e.detail % 2)
  | 11 =>
    -- the rank's engine where this module has the group loaded, else any engine of ADEV (R395)
    let engine := ((s.groupOf (e.detail / 65536)).ranks[e.detail % 4096]?).bind fun r => if r.1 = e.adev then some (srcOf 3 r.2) else none
    let own (x : WaitEdge) : Bool := x.wdev == e.adev && x.wsrc / 4096 == 3 && (engine.getD x.wsrc) == x.wsrc && x.detail / 65536 == e.detail / 65536
    let inst (x : WaitEdge) : Bool := own x && x.kind == 11 && x.wcause != e.wcause && x.aux % 2 ^ 32 == e.aux % 2 ^ 32
    inst f || (own f && f.kind == 12 && !es.any inst)
  | 12 => wave (e.detail / 64 % 512) (e.detail % 64)
  | 13 => e.detail / 512 % 2 == 1 && f.wcause == e.acause && f.wdev == e.wdev && f.wslot < 128
  | _ => false

/-- The cycles through edge `goal` and edges of higher number, no waiter twice, that go on from a path (last first); fuel bounds their length. -/
def State.cyclesFrom (s : State) (es : List WaitEdge) (goal : Nat) : Nat → List (Nat × WaitEdge) → List (List Nat)
  | 0, _ => []
  | _, [] => []
  | n + 1, e :: path =>
    es.zipIdx.flatMap fun f =>
      if !s.leadsTo es e.2 f.1 then []
      else if f.2 = goal then [((e :: path).map Prod.fst).reverse]
      else if f.2 < goal || (e :: path).any fun x => x.2.waiter == f.1.waiter then []
      else s.cyclesFrom es goal n ((f.2, f.1) :: e :: path)

/-- The cycles of a graph (R403): every one that meets no waiter twice. -/
def State.cyclesOf (s : State) (es : List WaitEdge) : List (List Nat) :=
  es.zipIdx.flatMap fun e => s.cyclesFrom es e.2 es.length [(e.2, e.1)]

/-- Of the edges of one waiter those read last stay, in ascending (WSRC, WSLOT) (R399, R401). -/
def latestEdges (bs : List (List Byte)) : List (List Byte) :=
  let es := bs.map fun b => (waitEdgeOf b, b)
  let last := es.filter fun x => es.all fun y => y.1.waiter != x.1.waiter || decide (y.1.read ≤ x.1.read)
  ((last.dedup).insertionSort fun x y => x.1.wsrc * 256 + x.1.wslot ≤ y.1.wsrc * 256 + y.1.wslot).map Prod.snd

def State.setGather (s : State) (g : Option Gather) : State := { s with waitRegs := { s.waitRegs with gather := g } }

/-- All edges of a gather, in list order of their devices (R402). -/
def Gather.all (g : Gather) : List (List Byte) := g.devs.flatMap fun d => latestEdges ((g.edges.filter fun e => e.1 == d).map Prod.snd)

/-- Bytes as edges of 64. -/
def edgeChunks : Nat → List Byte → List (List Byte)
  | 0, _ => []
  | n + 1, b => b.take 64 :: edgeChunks n (b.drop 64)

/-- Start reads of a gather: this module's own edges come at once, the other modules answer probes. -/
def State.gatherAsk (s : State) (g : Gather) (reqs : List (Nat × Nat)) (round : Nat) : State :=
  let g := reqs.foldl (fun (g : Gather) q =>
    if q.1 = s.device then
      let d := s.edgesAt q.2
      let bs := ((edgeChunks (d.length / 64) d).map fun b => (q.1, b))
      if round = 1 then { g with edges := g.edges ++ bs } else { g with retry := g.retry ++ bs }
    else { g with waits := g.waits ++ [(q.1, q.2, s.gtc)], unsent := g.unsent ++ [q] }) { g with round := round }
  s.setGather (some g)

/-- The gather's reads that a transaction is free for go out, in order (R432). -/
def State.gatherSend : Nat → State → State
  | 0, s => s
  | n + 1, s =>
    match s.waitRegs.gather with
    | none => s
    | some g =>
      match g.unsent with
      | [] => s
      | q :: rest =>
        match s.sendProbe (srcOf 11 0) q.1 q.2 4096 0 0 0#64 with
        | some (_, s) => State.gatherSend n (s.setGather (some { g with unsent := rest }))
        | none => s

/-- A gather that answered everything goes on: re-read of rejected waiters (R401), the second read of cycles (R403), the region. Fuel counts rounds.
(DEDUCED, unsafe: notes/assumptions/35.md) -/
def State.gatherNext : Nat → State → State
  | 0, s => s
  | n + 1, s =>
    match s.waitRegs.gather with
    | none => s
    | some g =>
      if !g.waits.isEmpty then s
      else
        let asks (es : List WaitEdge) : List (Nat × Nat) := (es.map fun e => (e.wdev, waiterAddr e.wsrc e.wslot)).dedup
        let stale (es : List (List Byte)) (b : List Byte) : Bool :=
          decide (fld b 0 8 + s.waitRegs.stale.toNat < (es.map fun b => fld b 0 8).foldl max 0)
        match g.round with
        | 1 =>
          let es := g.all
          (s.gatherAsk { g with retry := [] } (asks ((es.filter (stale es)).map waitEdgeOf)) 2).gatherNext n
        | 2 =>
          let es := g.all
          let kept := (es.filter fun b => !stale es b) ++ g.retry.map Prod.snd
          let g := { g with edges := kept.map fun b => (fld b 24 2, b), retry := [] }
          let g := { g with first := g.all }
          let ws := g.first.map waitEdgeOf
          let cyc := (s.cyclesOf ws).flatten.dedup.filterMap fun i => ws[i]?
          (s.gatherAsk g (asks cyc) 3).gatherNext n
        | _ =>
          let ws := g.first.map waitEdgeOf
          let second := g.retry.map fun b => waitEdgeOf b.2
          let sure := (s.cyclesOf ws).filter fun c => c.all fun i => match ws[i]? with
            | some e => second.any fun f => e.lasts f
            | none => false
          let marks := sure.flatMap fun c => natToBytes 64 0 :: c.filterMap fun i => (ws[i]?).map WaitEdge.bytes
          (s.writeRegion g.base g.room g.devs.length g.partial_ (g.first ++ marks)).setGather none

/-- A gather of these devices begins. -/
def State.gatherStart (s : State) (base room : Nat) (devs : List Nat) : State :=
  let devs := devs.reverse.dedup.reverse
  let g : Gather := { base := base, room := room, devs := devs, waits := [], unsent := [], edges := [], round := 1, retry := [], first := [], partial_ := false }
  (s.gatherAsk g (devs.map fun d => (d, gatherAddr)) 1).gatherNext 8

/-- The device list of a region. -/
def State.devList : Nat → State → Nat → List Nat
  | 0, _, _ => []
  | n + 1, s, pa => let r := s.sysRead pa 2
    (match r.1 with | .ok v => v % 4096 | .error _ => 0) :: State.devList n r.2 (pa + 2)

/-- The gather of a CUR_GATHER, ignored in host-assisted mode (R446). -/
def State.gatherFor (s : State) (v : DWord) : State :=
  let room := v.toNat / 2 ^ 59
  let n := v.toNat % 512
  let base := v.toNat / 4096 % 2 ^ 40 * 4096
  if !s.dpr.getLsbD 2 || room < 6 || room > 20 || n < 1 || n > 256 then s
  else s.gatherStart base room (State.devList n s (base + 64))

/-- WAIT_GATHER (R402): a write of CUR_GATHER; one that finds a gather running waits at its port, as R398 has a CUR_SNAP wait. (DEDUCED, unsafe: notes/assumptions/35.md) -/
def execWaitGather (v : DWord) (s : State) : Out :=
  .next (if s.waitRegs.gather.isSome then s.queueReadout (.gather v) else s.gatherFor v)

/-- A gather that a Curfew report asks for, into the region of CUR_AUTO (R446). -/
def State.gatherAuto (s : State) (devs : List Nat) : State :=
  s.gatherStart (s.waitRegs.auto.toNat / 4096 % 2 ^ 40 * 4096) (s.waitRegs.auto.toNat / 2 ^ 59) devs

/-- The readouts that waited follow, up to the next that takes time; fuel counts them. -/
def State.readoutNext : Nat → State → State
  | 0, s => s
  | n + 1, s =>
    match s.waitRegs.gather, s.waitRegs.queue with
    | none, a :: rest =>
      let s := { s with waitRegs := { s.waitRegs with queue := rest } }
      State.readoutNext n (match a with
        | .snap v => s.snapshot v
        | .gather v => s.gatherFor v
        | .curfew ds => s.gatherAuto ds)
    | _, _ => s

/-- Probes that no transaction was free for (R405, R432). -/
def State.probesSend (s : State) : State :=
  s.waitRegs.probes.foldl (fun s p =>
    if p.txn ≠ 0 || p.reply.isSome then s
    else match s.sendProbe (srcOf 3 p.cle) p.to_.1 (probeAddr p.to_.2 p.group p.seq) 64 p.id p.tenant p.handle with
      | some (t, s) =>
        { s with waitRegs := { s.waitRegs with probes := s.waitRegs.probes.map fun q => if q.id = p.id then { q with txn := t } else q } }
      | none => s) s

/-- What the wait registers do after each step: readouts that waited, probes that go out. -/
def State.waitsSettle (s : State) : State :=
  let s := s.readoutNext s.waitRegs.queue.length
  let s := s.gatherSend (s.waitRegs.gather.elim 0 fun g => g.unsent.length)
  if s.waitRegs.probes.any (fun p => p.txn == 0 && p.reply.isNone) then s.probesSend else s

/-- The reply to a gather's read. -/
def State.gatherReply (s : State) (dev addr : Nat) (data : List Byte) : State :=
  match s.waitRegs.gather with
  | none => s
  | some g =>
    if !g.waits.any fun w => w.1 == dev && w.2.1 == addr then s
    else
      let bs := (edgeChunks (data.length / 64) data).map fun b => (dev, b)
      let g := { g with waits := g.waits.filter fun w => !(w.1 == dev && w.2.1 == addr) }
      let g := if g.round = 1 then { g with edges := g.edges ++ bs } else { g with retry := g.retry ++ bs }
      if bs.length = 64 then s.gatherAsk g [(dev, addr + 1)] g.round
      else (s.setGather (some g)).gatherNext 8

/-- GATHER_DEVICE_TIMEOUT (R402): a device that has not answered within 1 ms, 1,250,000 ticks, contributes no edge. -/
def execGatherDeviceTimeout (dev : Nat) (s : State) : Out :=
  match s.waitRegs.gather with
  | none => .next s
  | some g =>
    if !g.waits.any fun w => w.1 == dev && decide (w.2.2.toNat + 1250000 ≤ s.gtc.toNat) then .next s
    else
      let g := { g with waits := g.waits.filter fun w => w.1 != dev, unsent := g.unsent.filter fun q => q.1 != dev,
                        edges := g.edges.filter fun e => e.1 != dev, partial_ := true }
      .next ((s.setGather (some g)).gatherNext 8)

/-! ## Curfew reports (R405, R406) -/

/-- The Curfew ring: where, base, log2 of its size. -/
def WaitRegs.ring (r : WaitRegs) : Option (Nat × Nat × Nat) :=
  let w := r.rbase.toNat / 2 ^ 62
  let n := r.rbase.toNat % 32
  if w = 3 || n < 4 || n > 16 then none else some (w, r.rbase.toNat / 4096 % 2 ^ 40 * 4096, n)

/-- The 128 bytes of a report. -/
def Probe.report (p : Probe) (edge : Option (List Byte)) (unreachable : Bool) : List Byte :=
  natToBytes 8 p.expiry.toNat ++ natToBytes 8 p.handle.toNat ++ natToBytes 2 p.group ++ natToBytes 2 p.rank ++ natToBytes 2 p.late ++
  natToBytes 2 (min p.nlate 65535) ++ natToBytes 4 p.seq ++
  natToBytes 1 ((if p.cfault then 1 else 0) + (if edge.isSome then 2 else 0) + (if unreachable then 4 else 0)) ++ natToBytes 3 0 ++
  natToBytes 8 p.armed.toNat ++ natToBytes 24 0 ++ edge.getD (natToBytes 64 0)

/-- Write the report, emit the CURFEW event, and start the Curfew action of hardware mode (R405, R406, R446). -/
def State.curfewReport (s : State) (p : Probe) (edge : Option (List Byte)) (unreachable : Bool) : State :=
  let r := s.waitRegs
  let s := { s with waitRegs := { r with probes := r.probes.filter fun x => x.id != p.id } }
  let free : Option (Nat × Nat × Nat) := r.ring.bind fun x => if (r.tail + 2 ^ 32 - r.head) % 2 ^ 32 < 2 ^ x.2.2 then some x else none
  let s := match free with
    | some (w, base, n) =>
      let s := s.regionPut w (base + 128 * (r.tail % 2 ^ n)) (p.report edge unreachable)
      { s with waitRegs := { s.waitRegs with tail := (r.tail + 1) % 2 ^ 32 } }
    | none => s
  let payload := p.late % 4096 + min p.nlate 4095 * 4096 + (if p.cfault then 2 ^ 24 else 0) + (if edge.isSome then 2 ^ 25 else 0) +
    (if free.isNone then 2 ^ 26 else 0) + p.group * 2 ^ 32 + p.seq % 65536 * 2 ^ 48
  let s := s.emit (srcOf 10 p.cle) 0x050 p.tenant p.handle (BitVec.ofNat 64 payload)
  let devs := ((s.groupOf p.group).ranks.map Prod.fst).dedup
  if !s.dpr.getLsbD 3 then s
  else if s.waitRegs.gather.isSome then s.queueReadout (.curfew devs)
  else s.gatherAuto devs

/-- A Curfew that `now` has reached expires (R404, R405, R407, R468): with CFAULT the instance ends here and at the other ranks; then the first late
rank's device is probed. -/
def State.curfewExpire (s : State) (cmd now : Nat) : State :=
  match s.cmd? cmd, tabGet? s.colls cmd with
  | some c, some x =>
    if x.reported || decide (now < x.deadline) then s
    else
      let aw := x.awaited c
      let late := aw.headD x.rank
      let to_ := x.ranks.getD late (s.device, c.engine)
      let id := s.newId
      let p : Probe := { id := id.1, txn := 0, to_ := to_, cle := c.engine, tenant := c.tenant, handle := c.causal, group := x.group, seq := x.seq, rank := x.rank,
                         late := late, nlate := aw.length, cfault := x.cfault, armed := x.armed, expiry := s.gtc, reply := none }
      let s := if x.cfault then (id.2.collEndAll cmd cCurfew 0 cCurfew).collServe c.engine x.group 3
        else { id.2 with colls := tabPut id.2.colls cmd { x with reported := true } }
      if to_.1 = s.device then
        let e := s.lateEdge to_.2 x.group x.seq
        s.curfewReport p (if e.isEmpty then none else some e) false
      else { s with waitRegs := { s.waitRegs with probes := s.waitRegs.probes ++ [p] } }
  | _, _ => s

/-- The Curfews that expire in the tick that ends: after whatever else the tick has held, so that completion and a version advance win (R404). -/
def State.curfewsExpire (s : State) : State := s.colls.foldl (fun s x => s.curfewExpire x.1 s.gtc.toNat) s

/-- CURFEW_EXPIRY (R404, R405): a Curfew expires whose deadline a finished tick has reached. The end of each tick does so itself (CORE_CYCLES). -/
def execCurfewExpiry (cmd : Nat) (s : State) : Out := .next (s.curfewExpire cmd s.lastGtc.toNat)

/-- CURFEW_PROBE_REPLY (R405). -/
def execCurfewProbeReply (id : Nat) (s : State) : Out :=
  match s.waitRegs.probes.find? fun p => p.id == id with
  | none => .next s
  | some p =>
    match p.reply with
    | none => .next s
    | some e => .next (s.curfewReport p (if e.isEmpty then none else some e) false)

/-- CURFEW_PROBE_TIMEOUT (R405): 1 ms, 1,250,000 ticks, without a reply. -/
def execCurfewProbeTimeout (id : Nat) (s : State) : Out :=
  match s.waitRegs.probes.find? fun p => p.id == id with
  | none => .next s
  | some p =>
    if p.reply.isSome || decide (s.gtc.toNat < p.expiry.toNat + 1250000) then .next s
    else .next (s.curfewReport p none true)

/-- CURFEW_RING_HEAD (R406). -/
def execCurfewRingHead (v : Word) (s : State) : Out := .next { s with waitRegs := { s.waitRegs with head := v.toNat } }

/-- A reply to a probe: of a Curfew report (its number), or of a gather (0). -/
def State.probeReply (s : State) (what : Nat) (t : Txn) (data : List Byte) : State :=
  if what = 0 then s.gatherReply t.pkt.dst t.pkt.addr data
  else
    let up (p : Probe) : Probe := if p.id = what then { p with reply := some data } else p
    { s with waitRegs := { s.waitRegs with probes := s.waitRegs.probes.map up } }

end Sys2Proof.Machine
end

