-- ==== Sys2Proof/Machine/Translate.lean ====
section
/-!
DEFINITION. The steps of translation (spec/14_translation.md, R331 to R349, R474, R477): finished walks, the fault ring, invalidations, replay,
the fault-service and migration duties.
-/
namespace Sys2Proof.Machine

/-! ## Waking streams -/

/-- End the waits that satisfy `p`: their streams try their words again. -/
def State.wakeWhere (s : State) (p : WaitFor → Bool) : State :=
  s.waves.foldl (fun s kw => [false, true].foldl (fun s cs =>
    match (s.wave? kw.1).bind fun w => w.whichWait cs p with
    | some inCtx => s.wakeWord kw.1 cs inCtx
    | none => s) s) s

/-! ## PAGE_WALK_DONE (R331 to R335) -/

/-- Walk a page for a party, filling its TLB (R334, R336); a VERS leaf is tagged with a commit task's slot (R347). -/
def State.walkFill (s : State) (w : Asker) (vpn : Nat) : WalkEnd × State :=
  let r := (s.count (if w.tte then srcOf 8 w.unit else srcCore w.unit) 0x112).walkPage w.tenant vpn
  match r.1 with
  | .leaf e level => (r.1, r.2.tlbFill w.tte w.unit ⟨e, level, w.tenant, if pteVers e then w.tag else 0, vpn, 0⟩)
  | _ => r

/-- The end of a walk: a leaf fills the TLBs of the parties that share it, anything else is kept for them. -/
def State.walkEnd (s : State) (w : Walk) : State :=
  let s := { s with walks := s.walks.filter fun x => x.id != w.id }
  let a : Asker := { tte := w.tte, unit := w.core, tenant := w.tenant, tag := w.tag, id := 0, redirect := none }
  let r := s.walkFill a w.vpn
  let s := match r.1 with
    | .leaf e level => w.more.foldl (fun (s : State) (x : Bool × Nat × Nat) => s.tlbFill x.1 x.2.1 ⟨e, level, w.tenant, if pteVers e then x.2.2 else 0, w.vpn, 0⟩) r.2
    | e => { r.2 with walkRes := r.2.walkRes ++ w.askers.map fun i => (⟨i, w.tenant, w.vpn, e⟩ : WalkRes) }
  s.wakeWhere fun x => match x with | .walk i => i == w.id | _ => false

/-! ## The fault ring (R339, R340) -/

/-- The ring: where, base, log2 of its size; none while it is disabled. -/
def State.faultRing (s : State) : Option (Nat × Nat × Nat) :=
  let w := s.faultBase.toNat / 2 ^ 62
  let n := s.faultBase.toNat % 32
  if w = 3 || n < 8 || n > 20 then none else some (w, s.faultBase.toNat / 4096 % 2 ^ 40 * 4096, n)

/-- The 32 bytes of a record (R339). -/
def FaultRec.bytes (f : FaultRec) (log2n : Nat) : List Byte :=
  natToBytes 8 (f.va.toNat % 2 ^ 56) ++ bytes8 f.causal ++ natToBytes 2 f.source ++ natToBytes 2 f.tenant ++ natToBytes 1 f.code ++ natToBytes 1 f.access ++
  natToBytes 1 f.flags ++ natToBytes 1 ((1 - f.seq / 2 ^ log2n % 2) * 128) ++ natToBytes 4 f.token ++ natToBytes 4 f.seq

/-- FAULT_RECORD_WRITE (R340): the oldest waiting record goes to the ring when it has room, with its MSI-X; a record that finds the ring disabled is
reported once. -/
def execFaultRecordWrite (s : State) : Out :=
  match s.faultQ with
  | [] => .next s
  | f :: rest =>
    match s.faultRing with
    | none =>
      if s.faultOff then .next s
      else .next ({ s with faultOff := true }.emit (srcOf 11 0) 0x013 0 0#64
        (BitVec.ofNat 64 (s.faultQ.length % 2 ^ 32 + s.faultBase.toNat / 2 ^ 62 * 2 ^ 32)))
    | some (w, base, n) =>
      let used := (s.faultTail + 2 ^ 32 - s.faultHead) % 2 ^ 32
      if used ≥ 2 ^ n then .next s
      else
        let s := s.regionPut w (base + 32 * (s.faultTail % 2 ^ n)) (f.bytes n)
        let s := { s with faultQ := rest, faultTail := (s.faultTail + 1) % 2 ^ 32 }
        .next (if used = 0 then s.sendMsi (if w = 2 then 1 else 0) 0 else s)

/-- FAULT_RING_HEAD (R340): a write of TRN_FPTR.HEAD. -/
def execFaultRingHead (v : Word) (s : State) : Out := .next { s with faultHead := v.toNat }

/-! ## Invalidations (R337) -/

/-- Does an invalidation cover a page: of a tenant, by VPN, of a leaf of this level? -/
def invCovers (cmd : DWord) (tenant vpn level : Nat) : Bool :=
  let c := cmd.toNat
  let lo := c % 2 ^ 40
  let hi := lo + c / 2 ^ 40 % 4096
  let g := 1024 ^ (3 - level)
  c.testBit 63 || (tenant == c / 2 ^ 52 % 1024 && (c.testBit 62 || (decide (vpn / g * g ≤ hi) && decide (lo < vpn / g * g + g))))

/-- The frame that now holds a page of local HBM which a frame is bound to. -/
def State.frameNow (s : State) (tenant vpn : Nat) : Option Nat :=
  match (s.walkPage tenant vpn).1 with
  | .leaf e level => if pteLoc e = 0 || (pteLoc e = 1 && pteDevno e == s.device) then
      (let f := leafPa e level (vpn * 65536) / 65536; some (if pteVers e then s.versFrame f 0 else f)) else none
  | _ => none

/-- Barrier words, semaphores and join counters that commands, arrivals and waiters have resolved, the words of buffered REDs and the descriptors of
batches translate again: their later accesses use the new entry (R337). -/
def State.rekey (s : State) (cmd : DWord) : State :=
  let det (d : DetRed) : Option Nat := match d.place with | .mem k => some k | _ => none
  let keys := ((s.cmds.map fun c => c.2.barKey) ++ (s.homeOps.map fun h => h.key) ++ (s.waiters.map fun w => w.key) ++ (s.barWords.map Prod.fst) ++
    (s.bufferedReds.filterMap det) ++ s.waves.filterMap fun w => w.2.batch.map fun b => b.descKey).dedup.filter isHbmKey
  let moved := keys.filterMap fun k =>
    let e := tabGetD s.pvt (k / 65536) PvtEntry.free
    if e.bound && invCovers cmd e.tenant e.vpn 3 then (s.frameNow e.tenant e.vpn).bind fun f => if f = k / 65536 then none else some (k, f * 65536 + k % 65536)
    else none
  if moved.isEmpty then s
  else
    let now (k : Nat) : Nat := ((moved.find? fun m => m.1 == k).map Prod.snd).getD k
    let red (d : DetRed) : DetRed := match d.place with | .mem k => { d with place := .mem (now k) } | _ => d
    { s with cmds := s.cmds.map fun (c : Nat × Cmd) => (c.1, { c.2 with barKey := now c.2.barKey }),
             homeOps := s.homeOps.map fun (h : HomeOp) => { h with key := now h.key },
             waiters := s.waiters.map fun (w : Waiter) => { w with key := now w.key },
             cores := s.cores.map fun (c : Nat × CoreSt) => (c.1, { c.2 with det := c.2.det.map red, running := c.2.running.map now }),
             lch := { s.lch with flushArea := s.lch.flushArea.map fun (x : Nat × DetRed) => (x.1, red x.2) },
             waves := s.waves.map fun (w : Nat × Wave) => (w.1, { w.2 with batch := w.2.batch.map fun (b : Batch) => { b with descKey := now b.descKey } }),
             flips := s.flips.map fun (f : Flip) => { f with key := now f.key },
             barWords := moved.foldl (fun t m => match tabGet? t m.1 with | some b => tabPut (tabErase t m.1) m.2 b | none => t) s.barWords }

/-- Pages of code that a covered entry now leads elsewhere: the words that stores had replaced go with them (R28). -/
def State.codeMoved (s : State) (cmd : DWord) : State :=
  if s.lch.codePages.isEmpty then s
  else
    let next (x : CodePage) : Option Nat := if invCovers cmd x.tenant x.vpn 3 then s.codeFrame x.tenant x.vpn else x.frame
    let log := s.lch.codePages.flatMap fun x => match x.frame, next x with
      | some f, some g => if f = g then [] else (s.lch.codeLog.filter fun l => l.1 / 65536 == f).map fun l => (g * 65536 + l.1 % 65536, l.2)
      | _, _ => []
    { s with lch := { s.lch with codePages := s.lch.codePages.map fun (x : CodePage) => { x with frame := next x }, codeLog := s.lch.codeLog ++ log } }

/-- Drop the translations that an invalidation covers from every TLB, with the events of R344, and finished walks of the range. -/
def State.dropXlat (s : State) (cmd : DWord) : State :=
  let hit (t : TlbEntry) : Bool := invCovers cmd t.tenant t.vpn t.level
  let s := s.codeMoved cmd
  let s := s.cores.foldl (fun (s : State) c =>
    let s := (c.2.tlb.filter hit).foldl (fun (s : State) t => s.tlbReport c.1 t) s
    s.setTlb false c.1 ((s.tlb false c.1).filter fun t => !hit t)) s
  { s with tteTlb := s.tteTlb.map fun x => (x.1, x.2.filter fun t => !hit t),
           walkRes := s.walkRes.filter fun r => !invCovers cmd r.tenant r.vpn 3 }

/-- Queue an invalidation: 64 are in the queue, and those after them wait at their ports, in order (R337). (DESIGN CHOICE, unsafe: notes/assumptions/36.md) -/
def State.invalidate (s : State) (cmd : DWord) : State := { s with invals := s.invals ++ [(⟨cmd, false, []⟩ : Inval)] }

/-- TRN_INVAL_ALL (R337). -/
def execTrnInvalAll (s : State) : Out := .next (s.invalidate 0x8000000000000000#64)
/-- TRN_INVAL_TENANT (R337). -/
def execTrnInvalTenant (tenant : Nat) (s : State) : Out :=
  .next (s.invalidate (BitVec.ofNat 64 (2 ^ 62 + tenant % 1024 * 2 ^ 52)))
/-- TRN_INVAL_RANGE (R337): tenant, granules − 1, first granule. -/
def execTrnInvalRange (tenant npages vpn : Nat) (s : State) : Out :=
  .next (s.invalidate (BitVec.ofNat 64 (tenant % 1024 * 2 ^ 52 + npages % 4096 * 2 ^ 40 + vpn % 2 ^ 40)))

/-- The addresses whose translation an engine entry has used and keeps (R139, R144). -/
def EngineEntry.uses (x : EngineEntry) : List Nat :=
  match x.op with
  | .mcb _ va _ _ _ => if x.held then [] else [va.toNat]
  | .drain kind _ d r => if x.started then (if x.phase = 0 then drainVas kind d r else []) ++ (if kind = 4 then [drainTicket r] else []) else []
  | _ => []

/-- The number of a host's request to another module among uses (M). -/
def hostUse (id : Nat) : Nat := 90000000000 + id

/-- What has used a translation of the range and has not been performed: accesses, engine entries, requests at home units, lines and host
requests on their way to another module (R337). -/
def State.usesOf (s : State) (cmd : DWord) : List Nat :=
  let hits (tenant : Nat) (page : Nat × Nat) : Bool := invCovers cmd tenant page.1 (3 - page.2)
  ((s.flight.filter fun a => a.st == .waiting && pagedVa a.addr.toNat && hits a.tenant a.page).map fun a => a.id) ++
  (s.cores.flatMap fun c => (c.2.engine.queue.filter fun x => x.uses.any fun va =>
    pagedVa va && hits x.tenant (s.pageOf true (quadOf c.1) x.tenant 0 va)).map fun x => x.id) ++
  ((s.homeOps.filter fun h => h.reply.isNone && h.stuck.isNone && pagedVa h.addr.toNat &&
    ((s.wave? h.wave).map fun w => hits w.tenant (s.pageOf false (coreOf h.wave) w.tenant 0 h.addr.toNat)).getD false).map fun h => h.op) ++
  ((s.hostReqs.filter fun r => hits r.tenant (s.pageOf true (hostAsker r.port r.tenant).unit r.tenant 0 r.va)).map fun r => hostUse r.id) ++
  s.fab.txns.filterMap fun t => match t.what with
    | .line id piece => (s.cmd? id).bind fun c =>
        let va := (s.pieceLine id piece c).getD 0
        if pagedVa va && hits c.tenant (s.pageOf true (quadOf c.core) c.tenant 0 va) then some (lineSpill id piece) else none
    | _ => none

/-- Is a use still to be performed? -/
def State.stillUses (s : State) (id : Nat) : Bool :=
  s.usedBy id || s.hostReqs.any (fun r => hostUse r.id == id) || s.fab.txns.any fun t => match t.what with | .line c piece => lineSpill c piece == id | _ => false

/-- Unbind the frames whose BIND waits for this invalidation (R361); what their sectors verify under stays. -/
def State.unbindAfter (s : State) (n : Nat) : State :=
  { s with pvt := s.pvt.map fun x => if x.2.unbindAt == some n then (x.1, { PvtEntry.free with content := x.2.content }) else x }

/-- INVALIDATION_DONE (R337): the oldest invalidation starts, and completes once every access that used an old translation has been performed. (DESIGN CHOICE, unsafe: notes/assumptions/36.md) -/
def execInvalidationDone (s : State) : Out :=
  match s.invals with
  | [] => .next s
  | i :: rest =>
    let (i, s) : Inval × State :=
      if i.started then (i, s) else (({ i with started := true, waits := s.usesOf i.cmd } : Inval), (s.rekey i.cmd).dropXlat i.cmd)
    if i.waits.any s.stillUses then .next { s with invals := i :: rest }
    else
      -- a translation that a walk filled meanwhile from the old entry is none: walks read the tables when they end
      .next ({ s with invals := rest, invDone := (s.invDone + 1) % 2 ^ 31 }.unbindAfter s.invDone)

/-! ## Replay (R342, R343, R474, R477) -/

/-- Translate for a replayed access: from the TLB, else by a walk. -/
def State.translateNow (s : State) (w : Asker) (d : Dir) (scope va : Nat) : Resolved × State :=
  match s.resolve w d scope va with
  | (.miss vpn, s) =>
    (match s.walkFill w vpn with
     | (.leaf e level, s) => s.resolveLeaf w d scope va e level
     | (.missing span _, s) => (.faults cTranslation span 0 none, s)
     | (.error c span, s) => (.walkError c span, s))
  | r => r

def AccessKind.dir (k : AccessKind) : Dir := match k with | .load _ _ _ => .load | .store _ _ => .store | .atomic _ _ _ _ => .atomic

/-- The asker of a held access: its core's TLB, its wave's task and redirection. -/
def State.accessAsker (s : State) (a : Access) : Asker :=
  match s.wave? a.wave with
  | some w => { s.waveAsker a.wave false w with unit := a.core, tenant := a.tenant, id := 0x50000001 }
  | none => { tte := false, unit := a.core, tenant := a.tenant, tag := 0, id := 0x50000001, redirect := none }

/-- How a replayed lane ends: launched, held again, failed. -/
inductive Replayed where
  | goes (a : Access)
  | again (f : LaneFault)
  /-- it stays held and writes no record: it waits for a page's shadow (R327) -/
  | stays
  | fails (code span : Nat)
  deriving DecidableEq, Repr

/-- A replayed write waits at its walker for a page's shadow: the walk takes it up again (R327). -/
def State.shadowWalk (s : State) (w : Asker) (a : Access) (order holder : Nat) : State :=
  let task := ((s.wave? a.wave).map fun x => x.task).getD 0
  let s := s.shadowBlocked task holder
  let vpn := a.addr.toNat / 65536
  if s.walks.any fun x => x.held == some order && x.vpn == vpn then s
  else
    let r := s.newId
    let x : Walk := { id := r.1, core := w.unit, tte := w.tte, tenant := w.tenant, tag := w.tag, vpn := vpn, askers := [], die := w.die, held := some order }
    { r.2 with walks := r.2.walks ++ [x] }

/-- Replay one lane of the entry `order`. -/
def State.replayLane (s : State) (order : Nat) (a : Access) : Replayed × State :=
  let w := s.accessAsker a
  match s.translateNow w a.kind.dir a.scope a.addr.toNat with
  | (.ok p k disc, s) =>
    let release := match a.kind with | .store _ r => r | _ => false
    if release && k == 2 then (.fails cKindConflict 0, s)
    else
      let s := if disc && a.kind.dir == .load then s.discServed a.core a.tenant w.tag a.addr.toNat else s
      (.goes { a with place := p, pageKind := k, posted := a.kind.posts p, disc := disc, st := .waiting, sent := none,
                      page := s.pageOf false a.core a.tenant w.tag a.addr.toNat, behind := [] }, s)
  | (.faults c sp fl _, s) => (.again ⟨a.lane, a.addr.toNat, c, sp, fl⟩, s)
  | (.refused c, s) => (.fails c 0, s)
  | (.walkError c sp, s) => (.fails c sp, s)
  | (.miss _, s) => (.again ⟨a.lane, a.addr.toNat, cTranslation, 0, 0⟩, s)
  | (.shadowWait t, s) => (.stays, s.shadowWalk w a order t)

/-- A replayed access goes: into flight, or, of a deterministic task's RED, into the buffer of its core, or the flush area once its epoch has
passed (R203, R326). -/
def State.goReplayed (s : State) (a : Access) : State :=
  match a.det, a.kind, s.wave? a.wave with
  | some (logical, ix, epoch), .atomic minor b b2 _, some w =>
    let d : DetRed := { logical := logical, waveIx := ix, lane := a.lane, flush := epoch, minor := minor, b := b, b2 := b2, place := a.place,
                        addr := a.addr, tenant := a.tenant, task := w.task, causal := a.causal, order := a.op }
    let passed := ((s.task? w.task).map fun t => decide (epoch < t.epochs.getD (logical % max 1 t.launch.lcores) 0)).getD false
    if passed then { s with lch := { s.lch with flushArea := s.lch.flushArea ++ [(epoch, d)] } }
    else let c := s.core a.core; s.setCore a.core { c with det := c.det ++ [d] }
  | _, _, _ => s.launch a

/-- Is a held access on a page: that of its own record, or of those of the entries behind which it joined (R342)? -/
def Access.onPage (a : Access) (vpn : Nat) : Bool :=
  if a.behind.isEmpty then inPage a.page vpn else a.behind.any fun b => inPage b.2 vpn

/-- Is a held entry on a page? -/
def Held.onPage (h : Held) (vpn : Nat) : Bool :=
  match h.what with
  | .lanes as => as.any fun a => a.onPage vpn
  | _ => inPage (h.vpn, h.span) vpn

/-- A held lane fails: a record with FINAL = 1, and the wave's trap; in a combiner wave the batch's fault (R232, R343). -/
def State.failLanes (s : State) (h : Held) (fs : List (Access × Nat × Nat)) : State :=
  match fs with
  | [] => s
  | (a, _, _) :: _ =>
    let s := s.pageRecords a.causal (srcCore a.core) a.tenant a.kind.dir.record 1 0 (fs.map fun f =>
      ⟨f.1.lane, f.1.addr.toNat, f.2.1, f.2.2, s.shadowFlag f.1.tenant (s.accessAsker f.1).tag (f.1.addr.toNat / 65536)⟩)
    match (s.wave? h.wave).bind fun w => w.batch.map fun b => (w, b) with
    | some (w, b) => s.faultBatch h.wave w b ((fs.head?.map fun f => f.2.1).getD cPermission)
    | none => fs.foldl (fun s f => s.deferTrap f.1 f.2.1) s

/-- Put an entry back, changed. -/
def State.putHeld (s : State) (h : Held) : State :=
  { s with held := s.held.map fun x => if x.cls == h.cls && x.owner == h.owner && x.entry == h.entry then h else x }

/-- Faults that a duty serviced silently stay only while their entry is held. -/
def State.pruneSilent (s : State) : State :=
  { s with silent := s.silent.filter fun f => s.held.any fun h => tokenOf h.cls h.owner h.entry == f.token && !h.again }

/-- Replay, or end with a code, the lanes of an entry that `pick` names (R343). -/
def State.replayLanes (s : State) (h : Held) (as : List Access) (pick : Access → Bool) (code : Option Nat) : State :=
  let token := tokenOf h.cls h.owner h.entry
  let s := { s with silent := s.silent.filter fun f => !(f.token == token && as.any fun a => pick a && a.onPage (f.va.toNat / 65536)) }
  let go (acc : List (Access × Replayed) × State) (a : Access) : List (Access × Replayed) × State :=
    match code with
    | some c => (acc.1 ++ [(a, .fails c a.page.2)], acc.2)
    | none => let r := acc.2.replayLane h.order a; (acc.1 ++ [(a, r.1)], r.2)
  let r := (as.filter pick).foldl go ([], s)
  let launched := r.1.filterMap fun x => match x.2 with | .goes a => some a | _ => none
  let again := r.1.filterMap fun x => match x.2 with | .again f => some (x.1, f) | _ => none
  let failed := r.1.filterMap fun x => match x.2 with | .fails c sp => some (x.1, c, sp) | _ => none
  let stays := r.1.filterMap fun x => match x.2 with | .stays => some x.1 | _ => none
  let rest := (as.filter fun a => !pick a) ++ stays ++ again.map fun x => { x.1 with page := (x.2.va / 65536, x.2.span), behind := [] }
  let h' := { h with what := .lanes rest, replaying := h.replaying ++ (launched.filter fun a => a.det.isNone).map fun a => a.id,
                     joined := if again.isEmpty then h.joined else [] }
  let s := if rest.isEmpty && h'.replaying.isEmpty then { r.2 with held := r.2.held.filter fun x => x.order != h.order } else r.2.putHeld h'
  let s := launched.foldl State.goReplayed s
  let s := match again with
    | (a, _) :: _ => s.pageRecords a.causal (srcCore a.core) a.tenant a.kind.dir.record 0 token (again.map Prod.snd)
    | [] => s
  -- an exited wave's blocks go once its last pending write has ended (R309)
  (s.failLanes h failed).heldPrune.reap h.wave

/-- Leave a party a finished walk that ended in an error: its retry fails with the code. -/
def State.leaveError (s : State) (h : Held) (asker code : Nat) : State :=
  { s with walkRes := s.walkRes ++ [(⟨asker, h.tenant, h.vpn, .error code h.span⟩ : WalkRes)] }

/-- Replay, or end, an engine entry: MCB translates again here (R139); others when they start. -/
def State.replayEngine (s : State) (h : Held) (core id : Nat) (code : Option Nat) : State :=
  let token := tokenOf h.cls h.owner h.entry
  let drop (s : State) : State := s.dropHeld (.engine core id)
  let g := s.engine core
  match g.queue.find? fun x => x.id == id with
  | none => drop s
  | some x =>
    let put (s : State) (f : EngineEntry → EngineEntry) : State :=
      let g := s.engine core
      s.setEngine core { g with queue := g.queue.map fun (y : EngineEntry) => if y.id = id then f y else y }
    match x.op with
    | .mcb slot va _ _ _ =>
      let a := engineAccess core x 0 (.load 32 false []) va.toNat (.mem 0, 0, false) 3
      let a := { a with wave := x.wave, lane := 0 }
      let fails (s : State) (c sp : Nat) : State :=
        ((drop s).pageRecords x.causal (srcCore core) x.tenant 0 1 0 [⟨0, va.toNat, c, sp, s.shadowFlag x.tenant (s.taskTag x.task) (va.toNat / 65536)⟩] |>.popEntry core x).deferTrap { a with op := x.id } c
      (match code with
       | some c => fails s c h.span
       | none =>
         (match s.translateNow { s.accessAsker a with redirect := x.redirect } .load 99 va.toNat with
          | (.ok p kind disc, s) => put (drop s) fun y => { y with op := .mcb slot va p kind disc, held := false }
          | (.faults c sp fl _, s) => s.pageRecords x.causal (srcCore core) x.tenant 0 0 token [⟨0, va.toNat, c, sp, fl⟩]
          | (.refused c, s) => fails s c 0
          | (.walkError c sp, s) => fails s c sp
          | (_, s) => s))
    | _ =>
      let s := match code with
        | some c => s.leaveError h (engineWave id) c
        | none => s
      put (s.putHeld { h with again := true }) fun y => { y with held := false }

/-- Wake a stream that waits for an entry. -/
def State.wakeOne (s : State) (k : Nat) (cs : Bool) (h : Held) : State :=
  let p (x : WaitFor) : Bool := match x with | .replay c n => c == h.cls && n == h.entry | _ => false
  match (s.wave? k).bind fun w => w.whichWait cs p with
  | some inCtx => s.wakeWord k cs inCtx
  | none => s

/-- The party whose finished walk led to an entry: its replay walks again (R343). -/
def State.heldAsker (s : State) (h : Held) : Option Nat :=
  match h.what with
  | .record a => some a
  | .fetch k cs => some (2 * k + if cs then 1 else 0)
  | .command cmd => some (2 * ((s.cmd? cmd).map fun (c : Cmd) => c.wave).getD 0)
  | .line cmd _ => some (engineWave cmd)
  | .engine _ id => some (engineWave id)
  | .batch _ _ => none
  | .lanes _ => none

/-- Replay an entry, or end it with a code. `pick` names the lanes of a lane entry. -/
def State.replayEntry (s : State) (h : Held) (pick : Access → Bool) (code : Option Nat) : State :=
  let s := { s with walkRes := s.walkRes.filter fun r => some r.asker != s.heldAsker h }
  -- an uncorrectable entry fails with POISON (R412)
  let f := s.foundAt 4 h.owner (queueLoc 3 0 h.entry) (logMark h.order) h.tenant 0#64
  let s := f.2
  let code := if f.1 then some cPoison else code
  let pick : Access → Bool := if f.1 then fun _ => true else pick
  let err (s : State) (asker : Nat) : State := match code with | some c => s.leaveError h asker c | none => s
  let again (s : State) : State := s.putHeld { h with again := true }
  let s := (match h.what with
    | .lanes as => s.replayLanes h as pick code
    | .record asker => (again (err s asker)).wakeOne (asker / 2) (asker % 2 == 1) h
    | .fetch k cs => ((err s (2 * k + if cs then 1 else 0)).dropHeld h.what).wakeOne k cs h
    | .command cmd => again (err s (2 * ((s.cmd? cmd).map fun (c : Cmd) => c.wave).getD 0))
    | .line cmd _ => again (err s (engineWave cmd))
    | .engine core id => s.replayEngine h core id code
    | .batch core handle =>
      (match code, (s.core core).calls.find? (fun (r : CallReq) => r.object == (h.tenant, handle)) with
       | some c, some r => (s.faultRecord r.handle r.causal (srcCore core) r.tenant c 6 1 0).descFault core (h.tenant, handle) r c
       | some _, none => s.dropHeld h.what
       | none, _ => again s))
  s.pruneSilent

/-- Replay entries in log order (R342). (DESIGN CHOICE, unsafe: notes/assumptions/36.md) -/
def State.replayAll (s : State) (hs : List Held) (pick : Access → Bool) (code : Option Nat) : State :=
  (hs.mergeSort fun a b => decide (a.order ≤ b.order)).foldl (fun s h =>
    -- the entry as it stands now
    match s.held.find? fun x => x.cls == h.cls && x.owner == h.owner && x.entry == h.entry with
    | some x => s.replayEntry x pick code
    | none => s) s

/-- The entry that a TOKEN names; what waits at a walker has none (R339, R348). -/
def State.tokenEntries (s : State) (token : Nat) : List Held :=
  (s.held.find? fun h => h.cls != 3 && tokenOf h.cls h.owner h.entry == token).toList

/-- Replay, or end, the entry that a TOKEN names, then the lanes that joined the log behind it without a record of their own (R342). -/
def State.replayToken (s : State) (token : Nat) (code : Option Nat) : State :=
  (s.tokenEntries token).foldl (fun (s : State) h =>
    let behind := s.held.filter fun x => x.joined.contains h.order && x.order != h.order
    (s.replayAll [h] (fun _ => true) code).replayAll behind (fun a => a.behind.any fun b => b.1 == h.order) code) s

/-- Replay every held access of a tenant that is on a page (R342). -/
def State.replayPage (s : State) (tenant vpn : Nat) : State :=
  s.replayAll (s.held.filter fun h => h.tenant == tenant && h.onPage vpn) (fun a => a.onPage vpn) none

/-- REPLAY_TOKEN (R342). -/
def execReplayToken (token : Nat) (s : State) : Out := .next (s.replayToken token none)

/-- REPLAY_FAIL (R342): a CODE outside 0x11 to 0x1B acts as 0x11. -/
def execReplayFail (token code : Nat) (s : State) : Out :=
  let code := if decide (0x11 ≤ code) && decide (code ≤ 0x1B) then code else 0x11
  .next (s.replayToken token (some code))

/-- REPLAY_PAGE (R342). -/
def execReplayPage (tenant vpn : Nat) (s : State) : Out := .next (s.replayPage tenant vpn)

/-- REPLAY_TENANT (R342). -/
def execReplayTenant (tenant : Nat) (s : State) : Out :=
  .next (s.replayAll (s.held.filter fun h => h.tenant == tenant) (fun _ => true) none)

/-- PAGE_WALK_DONE (R335): a walk that has a walker reads the tables and ends; a write that waits there for a page's shadow is tried again (R327). -/
def execPageWalkDone (id : Nat) (s : State) : Out :=
  match s.walks.find? fun w => w.id == id with
  | none => .next s
  | some w =>
    if !s.walkRuns w then .next s
    else match w.held with
      | none => .next (s.walkEnd w)
      | some order =>
        let s := { s with walks := s.walks.filter fun x => x.id != id }
        .next (s.replayAll (s.held.filter fun h => h.order == order) (fun a => a.addr.toNat / 65536 == w.vpn) none)

/-! ## The fault-service duty (R338, R344, R345, R349) -/

/-- The entry that maps a page: its physical address, its level, its value. -/
def State.entryFrom : Nat → State → Nat → Nat → Nat → Option (Nat × Nat × DWord)
  | 0, _, _, _, _ => none
  | fuel + 1, s, level, frame, vpn =>
    let pa := frame * 65536 + vpn / 1024 ^ (3 - level) % 1024 * 8
    match s.sysRead pa 8 with
    | (.error _, _) => none
    | (.ok v, _) =>
      let e := BitVec.ofNat 64 v
      if !pteV e || pteLeaf e then some (pa, level, e) else State.entryFrom fuel s (level + 1) (pteFrame e) vpn

def State.entryOf (s : State) (tenant vpn : Nat) : Option (Nat × Nat × DWord) :=
  match s.sysRead (s.trnRoot.toNat / 2 ^ 13 % 2 ^ 39 * 2 ^ 13 + 8 * tenant) 8 with
  | (.ok v, _) => if v % 2 = 1 then State.entryFrom 4 s 0 (v / 2 ^ 28) vpn else none
  | (.error _, _) => none

/-- Zero-fill the frames of a page that are bound to its tenant; an unbound one reads zeros when it is bound (R360). -/
def State.zeroFrames (s : State) (tenant frame vpn n : Nat) : State :=
  s.pvt.foldl (fun s x =>
    if decide (frame ≤ x.1) && decide (x.1 < frame + n) && x.2.bound && x.2.tenant == tenant && x.2.vpn == vpn + (x.1 - frame) then
      (s.zeroMem (x.1 * 65536) 65536).nearDropFrame x.1 else s) s

/-- Report a fault that the duty does not service: its record, as host-assisted mode writes it (R338). -/
def State.reportSilent (s : State) (f : FaultRec) : State :=
  let seq := s.faultSeq
  ({ s with faultSeq := (seq + 1) % 2 ^ 32, faultQ := s.faultQ ++ [{ f with seq := seq, entry := 0#64, zeroed := 0 }] }).emit
    f.source 0x010 f.tenant f.causal (BitVec.ofNat 64 (seq + f.code * 2 ^ 32))

/-- The source of a die's duties: class 8, instance 0x100 + die (R338). -/
def dutySource (die : Nat) : Nat := srcOf 8 (0x100 + die)
/-- The die of the party that took a fault. -/
def FaultRec.die (f : FaultRec) : Nat := if f.source < 4096 then dieOf f.source else f.source % 4096 / 20 % 4

/-- A duty's swap of a table entry at its home unit, against the value that its walk read (R338): whether it succeeds; none where a write of a source
with a lower number comes first in this cycle (R172). -/
def State.swapEntry (s : State) (die pa : Nat) (old new : DWord) : Option (Bool × State) :=
  let src := dutySource die
  if s.writeLateIn pa src then none
  else if BitVec.ofNat 64 (s.rd pa 8) = old then some (true, (s.plainWrite pa (bytes8 new)).writeServed pa src)
  else some (false, s)

/-- The zero-filling of a page on another module is numbered as lines of a command that no wave has (M). -/
def zeroCmd (token : Nat) : Nat := 5000000000 + token

/-- Zero-fill a page that a duty serves, of `n` granules at `frame` (R344, R345): done, or, on another module, line by line over the fabric. -/
def State.zeroPage (s : State) (f : FaultRec) (e : DWord) (frame vpn n : Nat) : Bool × FaultRec × State :=
  match (if pteLoc e = 1 && pteDevno e == s.device then 0 else pteLoc e) with
  | 0 =>
    -- of a VERS page the current version's frame, and the shadows that it has (R347)
    let fs := if pteVers e then s.versFrame frame 0 :: (s.lch.shadows.filter fun x => x.entry == frame).map fun x => x.frame else [frame]
    (true, f, fs.foldl (fun s g => s.zeroFrames f.tenant g vpn n) s)
  | 1 =>
    let send (acc : Bool × Nat × State) (_ : Nat) : Bool × Nat × State :=
      if !acc.1 || acc.2.1 ≥ 512 * n then acc
      else
        let pa := frame * 65536 + 128 * acc.2.1
        let p : Packet := { dst := pteDevno e, srcDev := 0, src := dutySource f.die, xtag := 0, op := .write, scope := 4, release := false,
                            retry := false, unlocked := false, tenant := f.tenant, minor := 0, len := 128, addr := pa, causal := f.causal,
                            sent := 0#64, opnd := 0#64, data := List.replicate 128 0#8 }
        match acc.2.2.newTxn true (planeOfPa pa) 0 p (.line (zeroCmd f.token) acc.2.1) with
        | some s => (true, acc.2.1 + 1, s)
        | none => (false, acc.2)
    let r := (List.range 512).foldl send (true, f.zeroed, s)
    let out := r.2.2.fab.txns.any fun t => match t.what with | .line c _ => c == zeroCmd f.token | _ => false
    (r.2.1 ≥ 512 * n && !out, { f with zeroed := r.2.1 }, r.2.2)
  | 2 => (true, f, { s with mem := memZero s.mem (poolBase + frame * 65536) (65536 * n) })
  | _ => (true, f, { s with mem := memZero s.mem (hostBase + frame * 65536) (65536 * n) })

/-- Service a page: zero-fill it, then swap its entry to `new` and replay its accesses; a failed swap is reported (R338, R344, R345). -/
def State.servePage (s : State) (f : FaultRec) (pa frame base n : Nat) (new : DWord) : State :=
  let keep := s
  let s := { s with silent := s.silent.erase f }
  let r := s.zeroPage f f.entry frame base n
  if !r.1 then { r.2.2 with silent := r.2.2.silent ++ [r.2.1] }
  else match r.2.2.swapEntry f.die pa f.entry new with
    | none => keep
    | some (false, s) => s.reportSilent f
    | some (true, s) =>
      (s.dropXlat (BitVec.ofNat 64 (f.tenant * 2 ^ 52 + base))).replayPage f.tenant (f.va.toNat / 65536)

/-- FAULT_SERVICE_DUTY (R349): the duty services the fault of the entry that TOKEN names, on the page of its first silent fault: a lazy page is zero-filled
and set valid (R345), a discarded one reinstated (R344), and its accesses replay. Where the entry is no longer the one that the walk read, the access is
reported (R338). -/
def execFaultServiceDuty (token : Nat) (s : State) : Out :=
  match s.silent.find? fun f => f.token == token && f.flags / 8 % 2 == 0 with
  | none => .next s
  | some f =>
    let vpn := f.va.toNat / 65536
    let report : Out := .next ({ s with silent := s.silent.erase f }.reportSilent f)
    match s.entryOf f.tenant vpn with
    | none => report
    | some (pa, level, e) =>
      let base := vpn / 1024 ^ (3 - level) * 1024 ^ (3 - level)
      if e ≠ f.entry then report
      else if f.code = cTranslation then
        if level = 3 && pteLazy e then
          (match (if pteLoc e = 0 then s.bindCheck (pteFrame e) f.tenant vpn else some s) with
           | none => report
           | some s => .next (s.servePage f pa (pteFrame e) vpn 1 (BitVec.ofNat 64 (e.toNat + 1))))
        else report
      else if pteV e && pteDisc e then
        .next (s.servePage f pa (pteFrame e) base (spanGranules (3 - level)) (BitVec.ofNat 64 (e.toNat - 128)))
      else report

/-! ## The migration duty (R346, R361) -/

/-- Copy a frame with its check fields (R352): its bytes, their marks, and what its tags verify under. -/
def State.rawCopy (s : State) (src dst : Nat) : State :=
  let marks := s.marks.filter fun m => !(decide (dst * 65536 ≤ m.1) && decide (m.1 < dst * 65536 + 65536))
  let moved := (s.marks.filter fun m => decide (src * 65536 ≤ m.1) && decide (m.1 < src * 65536 + 65536)).map
    fun m => (m.1 - src * 65536 + dst * 65536, m.2)
  let content := (tabGetD s.pvt src PvtEntry.free).content
  { s with mem := memCopy s.mem (src * 65536) (dst * 65536) 65536, marks := moved.foldl (fun t m => tabPut t m.1 m.2) marks,
           pvt := tabPut s.pvt dst { PvtEntry.free with content := content } }

/-- Does every sector of a frame verify under a binding (R358, R361)? -/
def State.frameVerifies (s : State) (frame tenant vpn version : Nat) : Bool :=
  (tabGetD s.pvt frame PvtEntry.free).content == (tenant, vpn, version) &&
    !s.marks.any fun m => m.2.uncorr && decide (frame * 65536 ≤ m.1) && decide (m.1 < frame * 65536 + 65536)

/-- Verifying every sector of a frame corrects and logs what is correctable (R358, R361). -/
def State.frameRead (s : State) (frame : Nat) : State :=
  ((s.marks.filter fun m => decide (frame * 65536 ≤ m.1) && decide (m.1 < frame * 65536 + 65536)).map Prod.fst).foldl
    (fun s k => s.findErrors k 1 0 0#64) s

/-- Bind a frame to a pair under the next version, its ciphertext unchanged (R361). -/
def State.rebind (s : State) (frame tenant vpn : Nat) : State :=
  let v := (s.version + 1) % 2 ^ 48
  { s with version := v,
           pvt := tabPut s.pvt frame { PvtEntry.free with bound := true, tenant := tenant, vpn := vpn, version := v, content := (tenant, vpn, v) } }

/-- The die whose duty migrates a page: the spec names none. (DESIGN CHOICE, unsafe: notes/assumptions/36.md) -/
def State.migDie (s : State) : Nat := Config.freeNat s.free 7100 % 4

/-- What a migration has of the entry of a page, while it runs. -/
def State.moveOf (s : State) (tenant vpn : Nat) : Option DWord :=
  (s.lch.moves.find? fun m => m.1 == tenant && m.2.1 == vpn).map fun m => m.2.2
def State.dropMove (s : State) (tenant vpn : Nat) : State :=
  { s with lch := { s.lch with moves := s.lch.moves.filter fun m => !(m.1 == tenant && m.2.1 == vpn) } }

/-- Steps 3 to 6 of R346: RAWCOPY, the new FRAME with MOVING = 0 and its binding, the invalidation, the PAGE replay, MIGRATED. -/
def State.migrated (s : State) (tenant vpn frame : Nat) (e : DWord) : State :=
  let cmd := BitVec.ofNat 64 (tenant % 1024 * 2 ^ 52 + vpn % 2 ^ 40)
  let s := (((s.rawCopy (pteFrame e) frame).rebind frame tenant vpn).rekey cmd).dropMove tenant vpn
  let s := { s with pvt := tabPut s.pvt (pteFrame e) { PvtEntry.free with content := (tabGetD s.pvt (pteFrame e) PvtEntry.free).content } }
  ((s.dropXlat cmd).emit (dutySource s.migDie) 0x014 tenant 0#64 (BitVec.ofNat 64 (vpn % 2 ^ 40))).replayPage tenant vpn

/-- MIGRATION_DUTY (R346): in hardware mode the duty migrates a 64 KiB page of local HBM to an unbound frame. First it sets MOVING and invalidates the
page. Then, when no access that used an old translation is outstanding, it swaps in the new entry and does the rest; a swap that fails ends the
migration (R338). -/
def execMigrationDuty (tenant vpn frame : Nat) (s : State) : Out :=
  let cmd := BitVec.ofNat 64 (tenant % 1024 * 2 ^ 52 + vpn % 2 ^ 40)
  match s.entryOf tenant vpn with
  | none => .next (s.dropMove tenant vpn)
  | some (pa, level, e) =>
    let old := tabGetD s.pvt (pteFrame e) PvtEntry.free
    if !s.dpr.getLsbD 1 then .next s
    else match s.moveOf tenant vpn with
      | none =>
        if level ≠ 3 || !pteV e || pteMoving e || pteLoc e ≠ 0 || pteVers e || !(old.bound && old.tenant == tenant && old.vpn == vpn) then .next s
        else
          let e' := BitVec.ofNat 64 (e.toNat + 2 ^ 11)
          match s.swapEntry s.migDie pa e e' with
          | some (true, s) => .next ({ s with lch := { s.lch with moves := s.lch.moves ++ [(tenant, vpn, e')] } }.dropXlat cmd)
          | some (false, s) => .next s
          | none => .next s
      | some e' =>
        if e ≠ e' then .next (s.dropMove tenant vpn)
        else if (tabGetD s.pvt frame PvtEntry.free).bound || !s.frameExists frame false || (s.usesOf cmd).any s.stillUses ||
          !s.frameVerifies (pteFrame e) tenant vpn old.version then .next s
        else match s.swapEntry s.migDie pa e (BitVec.ofNat 64 (e.toNat % 2 ^ 28 - 2 ^ 11 + frame * 2 ^ 28)) with
          | some (true, s) => .next ((s.frameRead (pteFrame e)).migrated tenant vpn frame e)
          | some (false, s) => .next (s.dropMove tenant vpn)
          | none => .next s

end Sys2Proof.Machine
end

