-- ==== Sys2Proof/Machine/Abort.lean ====
section
/-!
DEFINITION. Aborting a task (spec/18_errors_and_traps.md, R422; 13_tasks_and_launch.md, R319, R323).
-/
namespace Sys2Proof.Machine

/-- A held access of an aborting task fails as a FAIL would, with a record of FINAL = 1 and without a trap (R422). (DEDUCED, unsafe: notes/assumptions/32.md) -/
def State.failHeld (s : State) (code : Nat) (h : Held) : State :=
  let drop (s : State) : State := { s with held := s.held.filter fun x => x.order != h.order }
  let causal := ((s.wave? h.wave).map fun w => w.causal).getD 0#64
  let tag := ((s.wave? h.wave).map fun w => s.taskTag w.task).getD 0
  let final (access : Nat) : State :=
    (drop s).faultRecord (BitVec.ofNat 64 h.va) causal (srcCore h.owner) h.tenant code access (1 + s.shadowFlag h.tenant tag (h.va / 65536)) 0
  match h.what with
  | .lanes as =>
    (match as with
     | a :: _ => (drop s).pageRecords a.causal (srcCore a.core) a.tenant a.kind.dir.record 1 0 (as.map fun a =>
        ⟨a.lane, a.addr.toNat, code, a.page.2, s.shadowFlag a.tenant tag (a.addr.toNat / 65536)⟩)
     | [] => drop s)
  | .record _ => final 6
  | .command _ => final 6
  | .fetch _ _ => final 3
  | .batch _ _ => s
  | .line _ _ => s.replayEntry h (fun _ => true) (some code)
  | .engine _ _ => s.replayEntry h (fun _ => true) (some code)

/-- Does an entry hold an access of the task? -/
def State.heldOfTask (s : State) (task : Nat) (h : Held) : Bool :=
  let cmd (c : Nat) : Bool := ((s.cmd? c).map fun x => x.task == task).getD false
  match h.what with
  | .command c => cmd c
  | .line c _ => cmd c && !h.again
  | .engine core id => !h.again && ((s.engine core).queue.any fun x => x.id == id && ((tabGet? s.lch.blocks x.block).map fun b => b.task == task).getD false)
  | .batch _ _ => false
  | _ => ((s.wave? h.wave).map fun w => w.task == task && w.batch.isNone).getD false

/-- The held accesses of an aborting task fail, and its commands that have not been accepted go (R422). (DEDUCED, unsafe: notes/assumptions/32.md) -/
def State.abortHeld (s : State) (task code : Nat) : State :=
  let code := if decide (0x11 ≤ code) && decide (code ≤ 0x1B) then code else 0x11
  let s := (s.held.filter fun h => s.heldOfTask task h).foldl (fun s h => s.failHeld code h) s
  { s with cmds := s.cmds.filter fun c => !(c.2.task == task && c.2.st == .issued) }

/-- The launcher's own decrement as each block of an aborting task leaves its core (R319). (DEDUCED, unsafe: notes/assumptions/32.md) -/
def State.abortJoins (s : State) (tenant : Nat) (bs : List (Nat × Block)) : State :=
  bs.foldl (fun s b => s.launcherJoin b.2.entry.join tenant b.2.task 0#64) s

/-- TASK_ABORT (R422): held accesses fail; once its commands and engine entries have ended, an aborting task's blocks leave and it reruns or retires. -/
def execTaskAbort (task : Nat) (s : State) : Out :=
  match tabGet? s.aborts task, s.task? task with
  | some code, some t =>
    let bs := s.lch.blocks.filter fun b => b.2.task == task
    let s := bs.foldl (fun s b => s.dropUnpairable b.2 b.1) (s.abortHeld task code)
    let stores := s.flight.any fun a => isStoreKind a.kind && a.st == .waiting && bs.any fun b => b.2.waves.contains a.wave
    if stores || s.cmds.any (fun c => c.2.task == task) || bs.any (fun b => !(s.blockEntries b.2 b.1).isEmpty) then .next s
    else
      let s := bs.foldl (fun s b => (b.2.waves.foldl State.leaveWaiters s).releaseBlock b.1 b.2) s
      let s := s.poolFree ((s.lch.shadows.filter fun x => x.task == task).map fun x => x.frame)
      let s := s.abortJoins t.tenant (bs.filter fun b => !b.2.waves.isEmpty)
      let s := { s with cores := s.cores.map fun (c : Nat × CoreSt) => (c.1, { c.2 with det := c.2.det.filter fun d => d.task != task }),
                        aborts := tabErase s.aborts task,
                        lch := { s.lch with flushArea := s.lch.flushArea.filter fun x => x.2.task != task,
                                            shadows := s.lch.shadows.filter fun x => x.task != task,
                                            shadowWaits := s.lch.shadowWaits.filter fun x => x.1 != task,
                                            rng := s.lch.rng.filter fun r => r.task != task,
                                            saved := s.lch.saved.filter fun x => x.2.block.task != task,
                                            ready := s.lch.ready.filter fun r => r.entry.task != task,
                                            waiting := s.lch.waiting.filter fun r => r.entry.task != task } }
      let t := { t with spawned := 0 }
      -- a node that depends on a failed one is not started again (R315)
      if t.commit && !t.dead && decide (t.runs - 1 < t.launch.retries) then .next (s.rerun task t)
      else .next ((s.setTask task t).finishTask task (if t.dead then 2 else if t.commit then 5 else 0) code)
  | some _, none => .next { s with aborts := tabErase s.aborts task }
  | none, _ => .next s

/-! ## FLUSHA (R326) -/

/-- FLUSHA (R326): a flush point of a deterministic task; nothing elsewhere. -/
def execFlusha (s : State) : Out :=
  issue (Form.noComb (.waveA [])) s fun e =>
    if e.det then
      let w := { e.w with flushes := e.w.flushes + 1 }
      let s := { e with w := w }.done
      .next (match s.wave? e.key with | some w => s.flushWave w | none => s)
    else .next e.done

end Sys2Proof.Machine
end

