-- ==== Sys2Proof/Machine/Cross.lean ====
section
/-!
DEFINITION. Cross-lane instructions (spec/11_control_and_splits.md, R272 to R280). A lane that has exited or was never launched reads as 0; REDUCE and SCAN write late (R78).
-/
namespace Sys2Proof.Machine

/-- The source lane of a shuffle, if it lies in 0 to 31 (R275). -/
inductive ShflMode where
  | idx | up | dn | xor
  deriving DecidableEq, Repr

def shflSource (m : ShflMode) (l n : Nat) : Option Nat :=
  match m with
  | .idx => some n
  | .up => if n ≤ l then some (l - n) else none
  | .dn => if l + n ≤ 31 then some (l + n) else none
  | .xor => some (l ^^^ n)

/-- SHFL and SHFLI (R275): wait for and check the source lanes, then move. -/
def Env.shfl (e : Env) (d a : BitVec 7) (m : ShflMode) (n : Nat → Nat) : Out :=
  let src (l : Nat) : Nat := (shflSource m l (n l)).getD l
  let used := maskOf fun j => (lanesOf e.exec).any fun l => src l == j
  e.crossRead a used fun e =>
    .next (e.putV d e.exec fun l => match shflSource m l (n l) with
      | some j => e.readLane a j
      | none => e.v32 a l).done

/-- The integer and minimum and maximum reductions (R277), over a non-empty list. -/
def reduceInt (op : AluOp) (xs : List Word) : Word :=
  match xs with
  | [] => 0#32
  | x :: t => t.foldl (alu op) x

/-- One level of the tree of R68: neighbours combine; a node with one present child passes it on. -/
def treeLevel : List (Option Rounded) → List (Option Rounded)
  | l :: h :: t =>
    (match l, h with
     | none, h => h
     | l, none => l
     | some x, some y => let r := addRne Fmt.f32 x.bits y.bits; some ⟨r.bits, x.flags ||| y.flags ||| r.flags⟩) :: treeLevel t
  | [x] => [x]
  | [] => []

/-- The lane-order tree over 32 leaves (R68). -/
def treeSum (leaves : List (Option Rounded)) : Option Rounded :=
  ((treeLevel (treeLevel (treeLevel (treeLevel (treeLevel leaves))))).head?).join

/-- Is this the result of the tree over the active lanes? Two NaN leaves and a lone NaN leaf: every NaN result is canonical (R56, R277). -/
def canonNan (x : Nat) : Nat := if (Fmt.f32.decode x).isNan then Fmt.f32.nanBits else x

/-- Running values in ascending lane order over the active lanes (R278): for each lane, the value before and after its own. -/
def scanList (step : Rounded → Nat → Rounded) : List (Nat × Nat) → Option Rounded → List (Nat × Option Rounded × Rounded)
  | [], _ => []
  | (l, a) :: t, none => (l, none, ⟨a, 0#32⟩) :: scanList step t (some ⟨a, 0#32⟩)
  | (l, a) :: t, some s => let r := step s a; (l, some s, r) :: scanList step t (some r)

/-- SCAN's result for lane l (R278): inclusive or exclusive, with the exclusive value of the lowest lane. -/
def scanResult (rs : List (Nat × Option Rounded × Rounded)) (excl : Bool) (first : Nat) (l : Nat) : Word :=
  match rs.find? (fun x => x.1 == l) with
  | some (_, before, after) => BitVec.ofNat 32 (if excl then (before.map (·.bits)).getD first else after.bits)
  | none => 0#32

/-- A scan over the active lanes; the flags of every step (R278). -/
def Env.scan (e : Env) (d a : BitVec 7) (excl : Bool) (first : Nat) (step : Rounded → Nat → Rounded) : Env :=
  let rs := scanList step ((lanesOf e.exec).map fun l => (l, (e.v32 a l).toNat)) none
  e.putLateV d (scanResult rs excl first) (rs.foldl (fun f x => f ||| x.2.2.flags) 0#32)

/-- A floating scan: a NaN among its results is canonical (R56). -/
def Env.scanFp (e : Env) (d a : BitVec 7) (excl : Bool) (first : Nat) (step : Rounded → Nat → Rounded) : Env :=
  let rs := scanList step ((lanesOf e.exec).map fun l => (l, (e.v32 a l).toNat)) none
  e.putLateV d (fun l => BitVec.ofNat 32 (canonNan (scanResult rs excl first l).toNat)) (rs.foldl (fun f x => f ||| x.2.2.flags) 0#32)

def scanInt (op : AluOp) (s : Rounded) (a : Nat) : Rounded := ⟨(alu op (BitVec.ofNat 32 s.bits) (BitVec.ofNat 32 a)).toNat, 0#32⟩
def scanF32 (s : Rounded) (a : Nat) : Rounded := addRne Fmt.f32 s.bits a

/-- The values of the active lanes, ascending. -/
def Env.activeVals (e : Env) (a : BitVec 7) : List Word := (lanesOf e.exec).map (e.v32 a)

/-- SHFL_IDX (R275): Reads the source from the lane given per lane. -/
def execShflIdx (d a b : BitVec 7) (s : State) : Out :=
  issue (.lanes [vW d, vN a, vR b]) s fun e =>
    e.shfl d a .idx fun l => (e.v32 b l).toNat % 32

/-- SHFL_UP (R275): Reads the source from lane L minus a per-lane distance. -/
def execShflUp (d a b : BitVec 7) (s : State) : Out :=
  issue (.lanes [vW d, vN a, vR b]) s fun e =>
    e.shfl d a .up fun l => (e.v32 b l).toNat % 32

/-- SHFL_DN (R275): Reads the source from lane L plus a per-lane distance. -/
def execShflDn (d a b : BitVec 7) (s : State) : Out :=
  issue (.lanes [vW d, vN a, vR b]) s fun e =>
    e.shfl d a .dn fun l => (e.v32 b l).toNat % 32

/-- SHFL_XOR (R275): Reads the source from lane L XOR a per-lane value. -/
def execShflXor (d a b : BitVec 7) (s : State) : Out :=
  issue (.lanes [vW d, vN a, vR b]) s fun e =>
    e.shfl d a .xor fun l => (e.v32 b l).toNat % 32

/-- SHFLI_IDX (R275): Reads the source from an immediate lane. -/
def execShfliIdx (d a : BitVec 7) (n : BitVec 5) (s : State) : Out :=
  issue (.lanes [vW d, vN a]) s fun e =>
    e.shfl d a .idx fun _ => n.toNat

/-- SHFLI_UP (R275): Reads the source from lane L minus an immediate. -/
def execShfliUp (d a : BitVec 7) (n : BitVec 5) (s : State) : Out :=
  issue (.lanes [vW d, vN a]) s fun e =>
    e.shfl d a .up fun _ => n.toNat

/-- SHFLI_DN (R275): Reads the source from lane L plus an immediate. -/
def execShfliDn (d a : BitVec 7) (n : BitVec 5) (s : State) : Out :=
  issue (.lanes [vW d, vN a]) s fun e =>
    e.shfl d a .dn fun _ => n.toNat

/-- SHFLI_XOR (R275): Reads the source from lane L XOR an immediate. -/
def execShfliXor (d a : BitVec 7) (n : BitVec 5) (s : State) : Out :=
  issue (.lanes [vW d, vN a]) s fun e =>
    e.shfl d a .xor fun _ => n.toNat

/-- VOTE_ANY (R276): Sets a predicate if any active lane holds the source predicate. -/
def execVoteAny (d a : BitVec 7) (s : State) : Out :=
  issue (.lanes [qW d, qR a]) s fun e =>
    .next (e.putP d e.exec (if e.p32 a &&& e.exec != 0#32 then 0xFFFFFFFF#32 else 0#32)).done

/-- VOTE_ALL (R276): Sets a predicate if every active lane holds the source predicate. -/
def execVoteAll (d a : BitVec 7) (s : State) : Out :=
  issue (.lanes [qW d, qR a]) s fun e =>
    .next (e.putP d e.exec (if e.exec &&& ~~~(e.p32 a) == 0#32 then 0xFFFFFFFF#32 else 0#32)).done

/-- VOTE_BALLOT (R276): Writes the mask of active lanes holding the source predicate. -/
def execVoteBallot (d a : BitVec 7) (s : State) : Out :=
  issue (.lanes [vW d, qR a]) s fun e =>
    .next (e.putV d e.exec fun _ => e.p32 a &&& e.exec).done

/-- VOTE_UNI (R276): Sets a predicate if all active lanes hold the same value. -/
def execVoteUni (d a : BitVec 7) (s : State) : Out :=
  issue (.lanes [qW d, vR a]) s fun e =>
    let xs := e.activeVals a
    let same := xs.all fun x => x == xs.headD 0#32
    .next (e.putP d e.exec (if same then 0xFFFFFFFF#32 else 0#32)).done

/-- VOTE_ELECT (R276): Sets a predicate in the lowest active lane only. -/
def execVoteElect (d : BitVec 7) (s : State) : Out :=
  issue (.lanes [qW d]) s fun e =>
    let lowest := (lanesOf e.exec).headD 0
    .next (e.putP d e.exec (maskOf fun l => l == lowest)).done

/-- REDUCE_ADD_I32 (R277): Long-latency integer sum over the active lanes. -/
def execReduceAddI32 (d a : BitVec 7) (s : State) : Out :=
  issue (.lanes [vW d, vR a]) s fun e =>
    let r := reduceInt .add (e.activeVals a)
    .next (e.putLateV d (fun _ => r) 0#32).done

/-- REDUCE_MIN_I (R277): Signed minimum over the active lanes. -/
def execReduceMinI (d a : BitVec 7) (s : State) : Out :=
  issue (.lanes [vW d, vR a]) s fun e =>
    let r := reduceInt .min (e.activeVals a)
    .next (e.putLateV d (fun _ => r) 0#32).done

/-- REDUCE_MAX_I (R277): Signed maximum over the active lanes. -/
def execReduceMaxI (d a : BitVec 7) (s : State) : Out :=
  issue (.lanes [vW d, vR a]) s fun e =>
    let r := reduceInt .max (e.activeVals a)
    .next (e.putLateV d (fun _ => r) 0#32).done

/-- REDUCE_MIN_N (R277): Unsigned minimum over the active lanes. -/
def execReduceMinN (d a : BitVec 7) (s : State) : Out :=
  issue (.lanes [vW d, vR a]) s fun e =>
    let r := reduceInt .minn (e.activeVals a)
    .next (e.putLateV d (fun _ => r) 0#32).done

/-- REDUCE_MAX_N (R277): Unsigned maximum over the active lanes. -/
def execReduceMaxN (d a : BitVec 7) (s : State) : Out :=
  issue (.lanes [vW d, vR a]) s fun e =>
    let r := reduceInt .maxn (e.activeVals a)
    .next (e.putLateV d (fun _ => r) 0#32).done

/-- REDUCE_AND (R277): Bitwise AND over the active lanes. -/
def execReduceAnd (d a : BitVec 7) (s : State) : Out :=
  issue (.lanes [vW d, vR a]) s fun e =>
    let r := reduceInt .and (e.activeVals a)
    .next (e.putLateV d (fun _ => r) 0#32).done

/-- REDUCE_OR (R277): Bitwise OR over the active lanes. -/
def execReduceOr (d a : BitVec 7) (s : State) : Out :=
  issue (.lanes [vW d, vR a]) s fun e =>
    let r := reduceInt .or (e.activeVals a)
    .next (e.putLateV d (fun _ => r) 0#32).done

/-- REDUCE_XOR (R277): Bitwise XOR over the active lanes. -/
def execReduceXor (d a : BitVec 7) (s : State) : Out :=
  issue (.lanes [vW d, vR a]) s fun e =>
    let r := reduceInt .xor (e.activeVals a)
    .next (e.putLateV d (fun _ => r) 0#32).done

/-- REDUCE_ADD_F32 (R277): Long-latency FP32 sum by the lane-order tree. -/
def execReduceAddF32 (d a : BitVec 7) (s : State) : Out :=
  issue (.lanes [vW d, vR a]) s fun e =>
    let leaves := (List.range 32).map fun l =>
      if laneIn e.exec l then some (⟨(e.v32 a l).toNat, 0#32⟩ : Rounded) else none
    let r := (treeSum leaves).getD ⟨0, 0#32⟩
    .next (e.putLateV d (fun _ => BitVec.ofNat 32 (canonNan r.bits)) r.flags).done

/-- REDUCE_MIN_F32 (R277): FP32 minimumNumber over the active lanes. -/
def execReduceMinF32 (d a : BitVec 7) (s : State) : Out :=
  issue (.lanes [vW d, vR a]) s fun e =>
    let xs := e.activeVals a
    let r := (xs.drop 1).foldl (fun x y => fMinMax Fmt.f32 false x y.toNat) (xs.headD 0#32).toNat
    .next (e.putLateV d (fun _ => BitVec.ofNat 32 (canonNan r)) 0#32).done

/-- REDUCE_MAX_F32 (R277): FP32 maximumNumber over the active lanes. -/
def execReduceMaxF32 (d a : BitVec 7) (s : State) : Out :=
  issue (.lanes [vW d, vR a]) s fun e =>
    let xs := e.activeVals a
    let r := (xs.drop 1).foldl (fun x y => fMinMax Fmt.f32 true x y.toNat) (xs.headD 0#32).toNat
    .next (e.putLateV d (fun _ => BitVec.ofNat 32 (canonNan r)) 0#32).done

/-- SCAN_ADD_I32 (R278): Long-latency running integer sum in lane order. -/
def execScanAddI32 (d a : BitVec 7) (e_ : BitVec 1) (s : State) : Out :=
  issue (.lanes [vW d, vR a]) s fun e =>
    .next (e.scan d a (e_ = 1#1) 0 (scanInt .add)).done

/-- SCAN_MIN_I (R278): Running signed minimum in lane order. -/
def execScanMinI (d a : BitVec 7) (e_ : BitVec 1) (s : State) : Out :=
  issue (.lanes [vW d, vR a]) s fun e =>
    .next (e.scan d a (e_ = 1#1) 0x7FFFFFFF (scanInt .min)).done

/-- SCAN_MAX_I (R278): Running signed maximum in lane order. -/
def execScanMaxI (d a : BitVec 7) (e_ : BitVec 1) (s : State) : Out :=
  issue (.lanes [vW d, vR a]) s fun e =>
    .next (e.scan d a (e_ = 1#1) 0x80000000 (scanInt .max)).done

/-- SCAN_OR (R278): Running bitwise OR in lane order. -/
def execScanOr (d a : BitVec 7) (e_ : BitVec 1) (s : State) : Out :=
  issue (.lanes [vW d, vR a]) s fun e =>
    .next (e.scan d a (e_ = 1#1) 0 (scanInt .or)).done

/-- SCAN_ADD_F32 (R278): Long-latency running FP32 sum in lane order. -/
def execScanAddF32 (d a : BitVec 7) (e_ : BitVec 1) (s : State) : Out :=
  issue (.lanes [vW d, vR a]) s fun e =>
    .next (e.scanFp d a (e_ = 1#1) 0 scanF32).done

/-- MATCH (R279): Writes per lane the mask of active lanes holding an equal value. -/
def execMatchLanes (d a : BitVec 7) (s : State) : Out :=
  issue (.lanes [vW d, vR a]) s fun e =>
    .next (e.putV d e.exec fun l => maskOf fun j => laneIn e.exec j && e.v32 a j == e.v32 a l).done

/-- RDLANE (R280): Reads one lane's element into a scalar. -/
def execRdlane (d a b : BitVec 7) (s : State) : Out :=
  issue (.lanes [sW d, vN a, sR b]) s fun e =>
    let l := (e.s32 b).toNat % 32
    if e.exec = 0#32 then .next e.done
    else e.crossRead a (BitVec.ofNat 32 (2 ^ l)) fun e => .next (e.put32 d (e.readLane a l)).done

/-- WRLANE (R280): Writes a scalar into one active lane. -/
def execWrlane (d a b : BitVec 7) (s : State) : Out :=
  issue (.lanes [vN d, sR a, sR b]) s fun e =>
    -- the element that it writes must have landed (R196)
    let m := e.exec &&& BitVec.ofNat 32 (2 ^ ((e.s32 b).toNat % 32))
    if !e.landed d m then e.hold 0 0 else .next (e.putV d m fun _ => e.s32 a).done

/-- BCAST (R280): Broadcasts one lane's element to every active lane. -/
def execBcast (d a b : BitVec 7) (s : State) : Out :=
  issue (.lanes [vW d, vN a, sR b]) s fun e =>
    let l := (e.s32 b).toNat % 32
    if e.exec = 0#32 then .next e.done
    else e.crossRead a (BitVec.ofNat 32 (2 ^ l)) fun e => .next (e.putV d e.exec fun _ => e.readLane a l).done

end Sys2Proof.Machine
end

