-- ==== Sys2Proof/Machine/Security.lean ====
section
/-!
DEFINITION. The steps of tenancy and trust (spec/15_tenancy_and_trust.md, R350 to R368): key and binding commands, Avenue quotas, attestation,
IDE keys.
-/
namespace Sys2Proof.Machine

/-! ## Command blocks (R352) -/

/-- A command block, read. -/
structure SecCmd where
  pa : Nat
  op : Nat
  tenant : Nat
  blob : Nat
  src : Nat
  dst : Nat
  /-- every field that must be zero is -/
  ok : Bool
  deriving DecidableEq, Repr

def secCmdOf (pa : Nat) (b : List Byte) : SecCmd :=
  { pa := pa, op := fld b 0 1, tenant := fld b 2 2 % 1024, blob := fld b 8 8, src := fld b 16 8 % 2 ^ 36, dst := fld b 24 8 % 2 ^ 36,
    ok := zeros b 1 1 && decide (fld b 2 2 < 1024) && decide (fld b 16 8 < 2 ^ 36) && decide (fld b 24 8 < 2 ^ 36) && zeros b 40 24 }

/-- A write of SEC_KCMD queues a command block: 16 are in the queue, and those after them wait at their ports, in order (R352). -/
def State.kcmd (s : State) (v : DWord) : State :=
  { s with sec := { s.sec with cmds := s.sec.cmds ++ [v.toNat / 64 % 2 ^ 46 * 64] } }

/-- The oldest command, where its OP is one that `ops` names. A block that cannot be read, which lies in a frame of someone else or has an
uncorrectable error, reads as OP 0. (DEDUCED, unsafe: notes/assumptions/37.md) -/
def State.secHead (s : State) (ops : Nat → Bool) : Option (SecCmd × State) :=
  match s.sec.cmds with
  | [] => none
  | pa :: _ =>
    let r : SecCmd × State := (match s.sysRead pa 64 with
      | (.ok v, s) => (secCmdOf pa (natToBytes 64 v), s)
      | (.error _, s) => (secCmdOf pa [], s))
    if ops r.1.op then some r else none

/-- The oldest command completes with a result: STATUS is written last, DONE counts (R352). -/
def State.secDone (s : State) (c : SecCmd) (result : Nat) : State :=
  let s := s.sysWrite (c.pa + 4) 4 (2 ^ 31 + result % 256)
  { s with sec := { s.sec with cmds := s.sec.cmds.drop 1, done := (s.sec.done + 1) % 2 ^ 31 } }

/-! ## KEY_INSTALL (R352, R353) -/

/-- The bytes of a key blob that must be zero are (R353). -/
def blobZeros (b : List Byte) : Bool := zeros b 14 2 && zeros b 160 16 && zeros b 184 8

/-- Open a blob for a tenant under the key of a live session that the tenant opened: nonce, associated data, ciphertext and tag where R353 puts them.
(DEDUCED, unsafe: notes/assumptions/37.md) -/
def State.openBlob (s : State) (tenant : Nat) (b : List Byte) : Option KeySet :=
  match s.sec.sessions.find? fun x => x.num == fld b 176 8 && x.tenant == tenant with
  | none => none
  | some x =>
    let text := (b.drop 16).take 128
    if fld b 12 2 ≠ tenant || (Config.gcmTag x.key (b.take 12) (b.take 16 ++ (b.drop 176).take 8) text).toList ≠ (b.drop 144).take 16 then none
    else some (KeySet.ofBytes (List.zipWith (fun p q => p ^^^ q) text (Config.gcmStream x.key (b.take 12) 128).toList))

/-- KEY_INSTALL (R352, R353): installs a tenant's key set. A command whose OP is none of 1 to 5 ends here with result 1.
(DEDUCED, unsafe: notes/assumptions/37.md) -/
def execKeyInstall (s : State) : Out :=
  match s.secHead fun op => op == 1 || op == 0 || decide (op > 5) with
  | none => .next s
  | some (c, s) =>
    if c.op ≠ 1 || !c.ok then .next (s.secDone c 1)
    else if c.tenant = 0 || s.isKeyed c.tenant then .next (s.secDone c 3)
    else if c.blob % 64 ≠ 0 then .next (s.secDone c 2)
    else match (List.range 3).foldl (fun (o : Option State) i => o.bind fun s => s.sysCheck (c.blob + 64 * i)) (some s) with
      | none => .next (s.secDone c 2)
      | some s =>
        let b := memGets s.mem c.blob 192
        let bad := (s.readError c.blob 192).isSome
        let s := s.findErrors c.blob 192 0 0#64
        if bad then .next (s.secDone c 2)
        else if !blobZeros b then .next (s.secDone c 1)
        else match s.openBlob c.tenant b with
          | none => .next (s.secDone c 2)
          | some k => .next ({ s with keyed := s.keyed ++ [c.tenant], sec := { s.sec with keys := tabPut s.sec.keys c.tenant k } }.secDone c 0)

/-! ## What HBM holds of a sector (R357, R358) -/

/-- The tweak of a sector: tenant, VA[55:6], zero. -/
def sectorTweak (tenant va : Nat) : BitVec 128 := BitVec.ofNat 128 (tenant % 1024 * 2 ^ 118 + va / 64 % 2 ^ 50 * 2 ^ 68)

/-- TAG of a sector: the first 7 bytes of the keyed hash of its ciphertext, tenant, VA[55:6] and the frame's version. -/
def KeySet.sectorTag (k : KeySet) (text : List Byte) (tenant va version : Nat) : List Byte :=
  ((Config.keyedTag k.mac (text ++ natToBytes 2 tenant ++ natToBytes 8 (va / 64 % 2 ^ 50) ++ natToBytes 6 version)) ++ List.replicate 7 0#8).take 7

/-- What HBM holds of the sector at `key`: its ciphertext under the keys of the tenant that its frame's contents are bound to, then its check field,
TAG and P. -/
def State.sectorAt (s : State) (key : Nat) : List Byte × List Byte :=
  let at_ := key / 64 * 64
  let x := (tabGetD s.pvt (at_ / 65536) PvtEntry.free).content
  let va := x.2.1 * 65536 + at_ % 65536
  match tabGet? s.sec.keys x.1 with
  | none => ([], [])
  | some k =>
    let text := Config.xts k.xts1 k.xts2 (sectorTweak x.1 va) (memGets s.mem at_ 64)
    let tag := k.sectorTag text x.1 va x.2.2
    (text, tag ++ [(text ++ tag).foldl (fun p b => p ^^^ b) 0#8])

/-! ## KEY_RETIRE (R354) -/

/-- Is the tenant live: a resident block, a queued record, a live command, a held access or an unreplied combiner request? -/
def State.tenantLive (s : State) (t : Nat) : Bool :=
  let ofTask (k : Nat) : Bool := ((tabGet? s.lch.tasks k).map fun x => x.tenant == t).getD false
  s.lch.blocks.any (fun b => ofTask b.2.task) || (s.lch.ready ++ s.lch.waiting).any (fun r => ofTask r.entry.task) ||
  s.cmds.any (fun c => c.2.tenant == t) || s.held.any (fun h => h.tenant == t) || s.cores.any (fun c => c.2.calls.any fun r => r.tenant == t) ||
  s.callSends.any (fun x => x.reqs.any fun r => r.tenant == t) || s.waves.any fun w => w.2.batch.isSome && w.2.tenant == t

/-- Erase a tenant's keys and unbind its frames; what near caches keep of them goes. -/
def State.retire (s : State) (t : Nat) : State :=
  let s := (s.pvt.filter fun x => x.2.bound && x.2.tenant == t).foldl (fun (s : State) x => s.nearDropFrame x.1) s
  { s with keyed := s.keyed.filter (· ≠ t), sec := { s.sec with keys := tabErase s.sec.keys t },
           pvt := s.pvt.filter fun x => !(x.2.bound && x.2.tenant == t) }

/-- KEY_RETIRE (R354). (DEDUCED, unsafe: notes/assumptions/37.md) -/
def execKeyRetire (s : State) : Out :=
  match s.secHead fun op => op == 2 with
  | none => .next s
  | some (c, s) =>
    .next (if !c.ok then s.secDone c 1
      else if c.tenant = 0 || s.tenantLive c.tenant then s.secDone c 3
      else (s.retire c.tenant).secDone c 0)

/-! ## Frames (R352, R361) -/

/-- Is a frame bound to a tenant? -/
def State.boundTo (s : State) (frame tenant : Nat) : Bool :=
  let e := tabGetD s.pvt frame PvtEntry.free
  e.bound && e.tenant == tenant
def State.isBound (s : State) (frame : Nat) : Bool := (tabGetD s.pvt frame PvtEntry.free).bound

/-- The first invalidation that starts after now (R361). -/
def State.nextInval (s : State) : Nat := (s.invDone + (s.invals.filter fun i => i.started).length) % 2 ^ 31

/-- FRAME_BIND (R361): verifies a destination frame under the source's binding, and binds it under a new version. -/
def execFrameBind (s : State) : Out :=
  match s.secHead fun op => op == 3 with
  | none => .next s
  | some (c, s) =>
    let e := tabGetD s.pvt c.src PvtEntry.free
    if !c.ok then .next (s.secDone c 1)
    else if !s.boundTo c.src c.tenant then .next (s.secDone c 4)
    else if s.isBound c.dst then .next (s.secDone c 6)
    else if !s.frameExists c.dst false || !s.frameVerifies c.dst e.tenant e.vpn e.version then .next ((s.frameRead c.dst).secDone c 5)
    else
      let s := (s.frameRead c.dst).rebind c.dst e.tenant e.vpn
      let s := { s with pvt := tabPut s.pvt c.src { e with unbindAt := some s.nextInval } }
      .next ((s.sysWrite (c.pa + 32) 8 s.version).secDone c 0)

/-- FRAME_UNBIND (R361). -/
def execFrameUnbind (s : State) : Out :=
  match s.secHead fun op => op == 4 with
  | none => .next s
  | some (c, s) =>
    .next (if !c.ok then s.secDone c 1
      else if !s.boundTo c.src c.tenant then s.secDone c 4
      else { s with pvt := tabErase s.pvt c.src }.secDone c 0)

/-- RAWCOPY (R352): copies a frame's ciphertext and check fields to an unbound frame. -/
def execRawcopy (s : State) : Out :=
  match s.secHead fun op => op == 5 with
  | none => .next s
  | some (c, s) =>
    .next (if !c.ok then s.secDone c 1
      else if !s.boundTo c.src c.tenant then s.secDone c 4
      else if s.isBound c.dst then s.secDone c 6
      else if !s.frameExists c.dst false then s.secDone c 5
      else (s.rawCopy c.src c.dst).secDone c 0)

/-! ## Avenue quotas (R367) -/

/-- The packet of a quota write: the value, and the GTC of the write (DESIGN CHOICE, unsafe: notes/assumptions/22.md). -/
def quotaPacket (now v : DWord) : Packet :=
  { dst := 0xFFF, srcDev := 0, src := srcOf 7 0, xtag := 0, op := .avctl, scope := 4, release := false, retry := false, unlocked := false,
    tenant := v.toNat / 2 ^ 32 % 1024, minor := 0, len := 16, addr := 0, causal := 0#64, sent := 0#64, opnd := 0#64,
    data := natToBytes 8 (v.toNat % 2 ^ 42) ++ bytes8 now }

/-- AVQUOTA_WRITE (R367): a write of SEC_AVQUOTA goes to all eight planes. Where a packet finds no tag, the write waits at its port. -/
def execAvquotaWrite (v : DWord) (s : State) : Out :=
  .next (((List.range 8).foldl (fun (o : Option State) p =>
    o.bind fun x => x.newTxn false p (parityOf 10 (v.toNat / 2 ^ 32 % 1024)) (quotaPacket s.gtc v) (.access [])) (some s)).getD s)

/-! ## Attestation (R364, R366) -/

/-- The 1,696-byte report of R366. (DESIGN CHOICE, safe: notes/assumptions/11.md) -/
def State.report366 (s : State) (nonce ekey : List Byte) : List Byte :=
  nonce ++ natToBytes 64 s.sec.fwDigest.toNat ++ natToBytes 4 s.sec.fwVersion.toNat ++ natToBytes 12 Config.fuseDigest ++
  natToBytes 8 s.sec.nextSession ++ natToBytes 1568 (Config.kemCipher s.sec.nextSession ekey) ++ natToBytes 8 s.sec.leaf

/-- ATTESTATION_REQUEST (R364, R366): the root of trust answers a nonce and an encapsulation key with a signed report, and a session opens, of 64 the
oldest making room. The leaf index advances before the signature leaves; an exhausted key signs nothing. An ML-KEM-1024 encapsulation key has 1,568
bytes (PRESUMED, unsafe: notes/assumptions/84.md). -/
def execAttestationRequest (nonce ekey : List Byte) (port tenant : Nat) (s : State) : Out :=
  if nonce.length ≠ 32 || ekey.length ≠ 1568 || s.sec.leaf ≥ 2 ^ 40 then .next s
  else
    let r := s.report366 nonce ekey
    let old := if s.sec.sessions.length ≥ 64 then s.sec.sessions.drop 1 else s.sec.sessions
    .next { s with sec := { s.sec with sessions := old ++ [⟨s.sec.nextSession, port, tenant, Config.kemSecret s.sec.nextSession ekey⟩], nextSession := (s.sec.nextSession + 1) % 2 ^ 64,
                                       leaf := s.sec.leaf + 1, reports := s.sec.reports ++ [(r, Config.signature s.sec.leaf r)] } }

/-! ## IDE (R363) -/

/-- IDE_TLP_FAIL (R363): the TLP is dropped, and the host port emits an event with the stream and the error. -/
def execIdeTlpFail (port code : Nat) (s : State) : Out :=
  .next (s.emit (srcOf 7 (port % 2)) 0x071 0 0#64 (BitVec.ofNat 64 (code % 65536)))

/-- IDE_KM_MESSAGE (R363): a message in a live attested session sets the key of a stream of a host port. -/
def execIdeKmMessage (port : Nat) (m : IdeKey) (s : State) : Out :=
  match s.sec.sessions.find? fun x => x.num == m.session with
  | none => .next s
  | some x =>
    let y : IdeStream := ⟨port % 2, m.kind % 3, m.num % 256, x.tenant, m.key⟩
    .next { s with sec := { s.sec with ide := (s.sec.ide.filter fun z => !(z.port == y.port && z.kind == y.kind && z.num == y.num)) ++ [y] } }

end Sys2Proof.Machine
end

