-- ==== Sys2Proof/Machine/Fabric.lean ====
section
/-!
DEFINITION. The steps of the Volrida fabric (spec/19_fabric_links.md, R423 to R435, R480; 15, R362; 20, R444, R445): links, flits and replay; requests
that arrive and the filter; replies, timers, failed transactions; the plane map.
-/
namespace Sys2Proof.Machine

/-! ## Links (R429, R430) -/

def srcLink (n : Nat) : Nat := srcOf 6 (n % 16)
def State.link (s : State) (n : Nat) : LinkSt := s.fab.link n
def State.setLink (s : State) (n : Nat) (l : LinkSt) : State := { s with fab := s.fab.setLink n l }
/-- The other link of the plane. -/
def sibling (n : Nat) : Nat := n / 2 * 2 + (1 - n % 2)

/-- A link event (R435): no tenant, no causal identifier. -/
def State.linkEvent (s : State) (n kind payload : Nat) : State := s.emit (srcLink n) kind 0 0#64 (BitVec.ofNat 64 payload)

/-- Flits after `ack` are not acknowledged (R429). -/
def unacked (ack : Nat) (f : Flit) : Bool := decide ((f.seq + 4096 - ack) % 4096 ≠ 0 && (f.seq + 4096 - ack) % 4096 < 2049)

/-- Acknowledged flits leave the replay buffer. -/
def LinkSt.acked (l : LinkSt) (ack : Nat) : LinkSt := { l with replay := l.replay.filter (unacked ack) }

/-- Send every flit of the replay buffer again, in order, with a REPLAY event (R429, R435). -/
def State.linkReplay (s : State) (n : Nat) : State :=
  let l := s.link n
  match l.replay with
  | [] => s
  | f :: _ =>
    let k := l.replay.length
    (s.setLink n { l with replays := min 255 (l.replays + 1), uncounted := l.uncounted + k }).linkEvent n 0x061 (f.seq + k % 4096 * 4096)

/-- The transaction of a request packet. -/
def Fabric.txnOf (f : Fabric) (p : Packet) : Option Txn :=
  f.txns.find? fun t => t.pkt.src == p.src && t.pkt.dst == p.dst && t.pkt.xtag == p.xtag && t.pkt.sent == p.sent
def Fabric.updTxn (f : Fabric) (id : Nat) (g : Txn → Txn) : Fabric :=
  { f with txns := f.txns.map fun t => if t.id == id then g t else t }

/-- A link has stopped sending (R430): packets that have no sequence number move to the sibling in their order; a relaxed one waits while a transaction
of its line is in flight on the link, an ordered one while earlier ordered transactions of its pair are. Replies have no transaction and move. -/
def State.moveQueue (s : State) (n : Nat) : State :=
  (s.link n).queue.foldl (fun (s : State) p =>
    match s.fab.txnOf p with
    | none => { s with fab := s.fab.send (sibling n) p }
    | some t => { s with fab := s.fab.updTxn t.id fun t => { t with held := true } })
    (s.setLink n { s.link n with queue := [] })

/-- The link goes DOWN from its state (R430, R435). -/
def State.linkDown (s : State) (n : Nat) : State :=
  let l := s.link n
  let old := l.state
  ((s.setLink n { l with state := 0, nakked := false }).linkEvent n 0x064 old).moveQueue n

/-- Does every lane of a half work? -/
def halfOk (failed : Nat) (high : Bool) : Bool := if high then failed / 256 % 256 == 0 else failed % 256 == 0

/-- The link runs on half its lanes (R430). (DEDUCED, unsafe: notes/assumptions/38.md) -/
def State.linkHalf (s : State) (n : Nat) (high : Bool) : State :=
  (s.setLink n { s.link n with state := if high then 4 else 3 }).linkEvent n 0x063 (b2n high)

/-- LANE_FAIL (R430, R480): lanes of a link fail, in either direction. (DEDUCED, unsafe: notes/assumptions/38.md) -/
def execLaneFail (link : Nat) (lanes : Word) (s : State) : Out :=
  let n := link % 16
  let l := s.link n
  let f := (BitVec.ofNat 16 l.failed ||| lanes.setWidth 16).toNat
  let s := (s.setLink n { l with failed := f }).linkEvent n 0x062 f
  .next (match l.state with
    | 2 =>
      if halfOk f false || halfOk f true then
        (s.setLink n { s.link n with state := 1, trainSince := s.gtc }).moveQueue n
      else s.linkDown n
    | 3 => if halfOk f false then s else s.linkDown n
    | 4 => if halfOk f true then s else s.linkDown n
    | _ => s)

/-- LINK_TRAIN_DONE (R430): with the lane-degrade duty in hardware mode a link in TRAIN goes on with its healthy half and replays; in host-assisted mode it
waits in HOLD. -/
def execLinkTrainDone (link : Nat) (s : State) : Out :=
  let n := link % 16
  let l := s.link n
  .next (if l.state ≠ 1 then s
    else if !s.dpr.getLsbD 4 then s.setLink n { l with state := 5 }
    else if halfOk l.failed false then (s.linkHalf n false).linkReplay n
    else if halfOk l.failed true then (s.linkHalf n true).linkReplay n
    else s)

/-- LINK_TRAIN_TIMEOUT (R430): 1 ms in TRAIN or HOLD; the replay buffer is discarded and sequences restart at 0. -/
def execLinkTrainTimeout (link : Nat) (s : State) : Out :=
  let n := link % 16
  let l := s.link n
  if (l.state = 1 || l.state = 5) && (s.gtc - l.trainSince).toNat ≥ 1250000 then
    .next ((s.setLink n l.restart).linkDown n)
  else .next s

/-- LINK_CMD_16 (R430): CMD 1 from UP8L, UP8H or DOWN retrains all 16 lanes; `failed` are the lanes that the port finds failed. -/
def execLinkCmd16 (link : Nat) (failed : Word) (s : State) : Out :=
  let n := link % 16
  let l := s.link n
  let f := failed.toNat % 65536
  .next (if !(l.state = 0 || l.state = 3 || l.state = 4) then s
    else if f ≠ 0 then s.setLink n { l with failed := f }
    else ((s.setLink n { l with failed := 0, state := 2 }).linkEvent n 0x065 16).linkReplay n)

/-- CMD 2 and 3 (R430): from HOLD the link replays; from DOWN its sequences restart at 0 and nothing is replayed; a half with a failed lane leaves the link
DOWN. -/
def State.linkCmdHalf (s : State) (n : Nat) (high : Bool) (f : Nat) : State :=
  let l := { s.link n with failed := f }
  if !(l.state = 0 || l.state = 5) then s
  else if !halfOk f high then (if l.state = 5 then (s.setLink n l).linkDown n else s.setLink n l)
  else if l.state = 5 then ((s.setLink n l).linkHalf n high).linkReplay n
  else (s.setLink n l.restart).linkHalf n high

/-- LINK_CMD_LOW (R430): CMD 2. -/
def execLinkCmdLow (link : Nat) (failed : Word) (s : State) : Out := .next (s.linkCmdHalf (link % 16) false (failed.toNat % 65536))
/-- LINK_CMD_HIGH (R430): CMD 3. -/
def execLinkCmdHigh (link : Nat) (failed : Word) (s : State) : Out := .next (s.linkCmdHalf (link % 16) true (failed.toNat % 65536))

/-- The ends of a link have agreed a key: it is in slot 0 of each direction, with the key that follows it in slot 1 (R362). -/
def LinkSt.agree (l : LinkSt) (n : Nat) : LinkSt :=
  let ks := pairNext (Config.linkKey n l.agreed, 0#256) 0
  { l with keyed := true, keySlot := 0, flits := 0, authFails := 0, txKeys := ks, rxKeys := ks, rxSlot := 0, agreed := l.agreed + 1 }

/-- LINK_KEY_AGREE (R362): mutually attested ends agree a key; from then on the link carries packets. -/
def execLinkKeyAgree (link : Nat) (s : State) : Out :=
  let n := link % 16
  let l := s.link n
  .next (if 2 ≤ l.state && l.state ≤ 4 && !l.keyed then s.setLink n (l.agree n) else s)

/-- LINK_REKEY (R362): the sender goes to its other key slot after 2^32 flits, or when an end asks. -/
def execLinkRekey (link : Nat) (s : State) : Out :=
  let n := link % 16
  let l := s.link n
  .next (if !l.keyed then s
    else (s.setLink n l.rekey).linkEvent n 0x06B (1 - l.keySlot))

/-! ## Receiving flits (R427 to R429) -/

/-- NAK_RECEIVE (R429): every flit after ACKSEQ is sent again, in order. (DEDUCED, unsafe: notes/assumptions/38.md) -/
def State.nak (s : State) (n ack : Nat) : State := (s.setLink n ((s.link n).acked ack)).linkReplay n

def execNakReceive (link ackseq : Nat) (s : State) : Out :=
  let n := link % 16
  .next (if 2 ≤ (s.link n).state && (s.link n).state ≤ 4 then s.nak n (ackseq % 4096) else s)

/-- A flit is discarded (R429): one NAK asks for what follows the last good one. -/
def State.flitBad (s : State) (n : Nat) : State :=
  let l := s.link n
  if l.nakked then s
  else (s.setLink n ({ l with nakked := true }.sendIdle true)).linkEvent n 0x060 (l.got + (l.got + 1) % 4096 * 4096)

/-- A header that no request or reply has (R428, R435): its bytes 8 and 9. -/
def State.malformed (s : State) (n : Nat) (header : List Byte) : State := s.linkEvent n 0x06C (bytesToNat ((header.drop 8).take 2))

/-- A packet has come whole (R428): an OP that is none of the table's is dropped with an event. -/
def State.packetIn (s : State) (n : Nat) (fs : List Flit) : State :=
  match fs with
  | [] => s
  | h :: rest =>
    match pktOfHeader h.payload (rest.flatMap fun f => f.payload) with
    | some p => { s with fab := { s.fab with inbox := s.fab.inbox ++ [(n, p)] } }
    | none => s.malformed n h.payload

/-- A flit has been accepted: the receiver acknowledges it, and credits it to its channel (R426, R429). Its key slot is the one in use now (R362). -/
def LinkSt.took (l : LinkSt) (f : Flit) : LinkSt :=
  { l with got := f.seq, nakked := false, rxCount := (l.rxCount + 1) % 2 ^ 64, rxSlot := f.keySlot,
           rxKeys := if l.keyed && f.keySlot != l.rxSlot then pairNext l.rxKeys f.keySlot else l.rxKeys,
           credit := tabPut l.credit f.vc (tabGetD l.credit f.vc 0 + 1) }.sendIdle false

/-- A flit accepted in sequence. -/
def State.flitTake (s : State) (n : Nat) (f : Flit) : State :=
  let s := (s.setLink n ((s.link n).took f)).count (srcLink n) 0x114
  match f.kind with
  | .header | .data =>
    let l := s.link n
    let old := if f.kind = .header then [] else tabGetD l.partials f.vc []
    let now := old ++ [f]
    if f.last then (s.setLink n { l with partials := tabErase l.partials f.vc }).packetIn n now
    else s.setLink n { l with partials := tabPut l.partials f.vc now }
  | _ => s

/-- What a good flit brings beside its own content: the acknowledgement or the NAK, and credits (R426, R427, R429). -/
def State.flitAck (s : State) (n : Nat) (f : Flit) : State :=
  let s := s.setLink n { s.link n with authFails := 0, spent := tabPut (s.link n).spent f.creditVc (tabGetD (s.link n).spent f.creditVc 0 - f.credits) }
  if f.nak then s.nak n f.ackSeq else if f.ackValid then s.setLink n ((s.link n).acked f.ackSeq) else s

/-- A flit whose RS decoding, CRC and fields are good. A link that is not keyed takes attestation traffic only (R362); a tag that fails counts as a CRC
failure, and the sixteenth in a row takes the link DOWN. -/
def State.flitIn (s : State) (n : Nat) (f : Flit) : State :=
  let l := s.link n
  if !l.keyed && f.kind != .attest && f.kind != .idle then s
  else match l.opened f with
    | none =>
      let l := { l with crcFails := l.crcFails + 1, authFails := l.authFails + 1 }
      if l.authFails ≥ 16 then (s.setLink n { l with authFails := 0 }).linkDown n else (s.setLink n l).flitBad n
    | some f =>
      let s := s.flitAck n f
      if f.kind = .idle then s
      else if f.seq = (l.got + 1) % 4096 then s.flitTake n f
      else if (l.got + 4096 - f.seq) % 4096 < 2048 then s
      else s.flitBad n

/-- FLIT_RECEIVE (R362, R427, R429): 64 bytes come on a link, the last four their CRC; `fec`: RS(544,514) decodes them. (DESIGN CHOICE, safe: notes/assumptions/8.md) -/
def execFlitReceive (link : Nat) (body : List Byte) (crc : Word) (fec : Bool) (s : State) : Out :=
  let n := link % 16
  let l := s.link n
  .next (
    if !(2 ≤ l.state && l.state ≤ 4) then s
    else match if fec then flitOf (body ++ bytes4 crc) else none with
      | none => (s.setLink n { l with crcFails := l.crcFails + 1 }).flitBad n
      | some f => s.flitIn n f)

/-! ## Requests that arrive (R360, R428, R433) -/

/-- The key of a request. -/
def pktKey (p : Packet) : Nat × Nat × Nat × Nat := (p.srcDev, p.src, p.xtag, p.sent.toNat)

/-- The REPLY to a request: its status in OPND, its data. -/
def State.replyTo (s : State) (q : Packet) (status : Nat) (data : List Byte) : Packet :=
  { dst := q.srcDev, srcDev := s.device, src := q.src, xtag := q.xtag, op := .reply, scope := q.scope, release := false, retry := false,
    unlocked := !s.locked, tenant := q.tenant, minor := 0, len := data.length, addr := q.addr, causal := q.causal, sent := q.sent,
    opnd := BitVec.ofNat 64 status, data := data }

/-- Send a packet of this module's that belongs to no transaction of its own: a reply, on the links that the pair's ordered channel pins. -/
def State.sendBare (s : State) (p : Packet) : State :=
  { s with fab := s.fab.send (s.fab.orderedLink (planeOfDev p.dst) (parityOf 12 p.dst)) p }

/-- The home's check of a remote access (R351, R360): the frame is bound to the requester's tenant. -/
def State.homeOk (s : State) (p : Packet) (n : Nat) : Bool :=
  decide (p.addr % 128 + n ≤ 128) && s.isKeyed p.tenant && s.frameExists (p.addr / 65536) true &&
    (let e := tabGetD s.pvt (p.addr / 65536) PvtEntry.free
     e.bound && e.tenant == p.tenant && e.redir.isNone)

/-- The new value of FetchAdd, Swap and CAS on `n` bytes. -/
def hostAtomicNew (op n old a b : Nat) : Nat :=
  match op with
  | 0 => (old + a) % 2 ^ (8 * n)
  | 1 => a % 2 ^ (8 * n)
  | _ => if old = a % 2 ^ (8 * n) then b % 2 ^ (8 * n) else old

/-- The source number of a fabric port, which ranks among the writers of one cycle: the port of the line's plane (R172).
(DESIGN CHOICE, unsafe: notes/assumptions/55.md) -/
def portSource (p : Packet) : Nat := srcOf 6 (planeOfPa p.addr)

/-- The number of a packet's write among those that wait for spill space (M). -/
def pktSpill (p : Packet) : Nat := (60000000000 + p.srcDev) * 2 ^ 32 + p.src * 65536 + p.xtag

/-- The bytes that one operand of a packet's atomic acts on. -/
def atomWidth (p : Packet) : Nat := if p.src / 4096 == 7 then p.len else if p.minor = 11 then 8 else 4

/-- The operands of an atomic packet, of one lane or of a group in ascending lane order (R200, R204). (DESIGN CHOICE, unsafe: notes/assumptions/22.md) -/
def atomOperands (p : Packet) : List (DWord × Word) :=
  let u := if p.minor = 10 || p.minor = 11 then 8 else 4
  if p.data.length ≥ 2 * u then
    (List.range (p.data.length / u)).map fun i =>
      if p.minor = 11 then (BitVec.ofNat 64 (fld p.data (u * i) 8), 0#32)
      else (BitVec.ofNat 64 (fld p.data (u * i) 4), if p.minor = 10 then BitVec.ofNat 32 (fld p.data (u * i + 4) 4) else 0#32)
  else [(p.opnd, BitVec.ofNat 32 (fld p.data 0 4))]

/-- What an atomic packet finds in each lane, and the bytes that it leaves. A host's AtomicOp (R205) has its own operations and widths. -/
def State.atomPacket (s : State) (p : Packet) : List Byte × List Byte :=
  let n := atomWidth p
  let old := BitVec.ofNat 64 (bytesToNat (memGets s.mem p.addr n))
  if p.src / 4096 == 7 then (natToBytes n old.toNat, natToBytes n (hostAtomicNew p.minor n old.toNat p.opnd.toNat (fld p.data 0 8)))
  else
    let r := atomRun p.minor old (atomOperands p)
    (r.1.flatMap fun v => natToBytes n v.toNat, natToBytes n r.2.toNat)

/-- Put a request's bytes into memory, as a write of its port. -/
def State.homePut (s : State) (p : Packet) (bytes : List Byte) : State :=
  (((s.storeInWindows p.addr bytes.length).plainWrite p.addr bytes).writeServed p.addr (portSource p)).spillFree (pktSpill p)

/-- What executing a memory request gives: its status, its data; none while it waits: for a write of this cycle that comes first (R172), or for
spill space (R160). -/
def State.homeRun (s : State) (p : Packet) : Option (Nat × List Byte × State) :=
  let a := p.addr
  match p.op with
  | .read =>
    if !s.homeOk p p.len then some (cPermission, [], s)
    else match s.readError a p.len with
      | some c => some (c, [], s.findErrors a p.len p.tenant p.causal)
      | none => some (0, memGets s.mem a p.len, s.findErrors a p.len p.tenant p.causal)
  | .write =>
    if !s.homeOk p p.data.length then some (cPermission, [], s)
    else if s.writeLateIn a (portSource p) then none
    else
      let s := s.findPart a p.data.length p.tenant p.causal
      match s.writeError a p.data.length with
      | some c => some (c, [], s)
      | none => if s.needsSpill a p.data then none else some (0, [], s.homePut p p.data)
  | .atom | .red =>
    if p.op = .atom && p.minor = descMinor && p.src / 4096 != 7 then
      if !s.homeOk p 64 || a % 64 ≠ 0 then some (cPermission, [], s)
      else if s.writeLateIn a (portSource p) then none
      else match s.readError a 64 with
        | some c => some (c, [], s.findErrors a 64 p.tenant p.causal)
        | none =>
          let s := (((s.findErrors a 64 p.tenant p.causal).storeInWindows a 64).descApply a (descCode p.opnd)).writeServed a (portSource p)
          some (0, natToBytes 4 (s.rd (a + 27) 1), s)
    else
    let n := atomWidth p
    if !s.homeOk p n || (n != 4 && n != 8) || a % n ≠ 0 || p.minor > 13 then some (cPermission, [], s)
    else if s.writeLateIn a (portSource p) then none
    else match s.readError a n with
      | some c => some (c, [], s.findErrors a n p.tenant p.causal)
      | none =>
        let s := s.findErrors a n p.tenant p.causal
        let r := s.atomPacket p
        if s.needsSpill a r.2 then none else some (0, if p.op = .atom then r.1 else [], s.homePut p r.2)
  | _ => some (0, [], s)


/-- Does a received request wait at its memory controller (R160)? -/
def State.pktWaits (s : State) (p : Packet) : Bool := s.spillWait.any fun x => x.id == pktSpill p

/-- May a received request go before the others: it waits for no spill space, and no earlier request of its line does? -/
def State.pktGoes (s : State) (p : Packet) : Bool :=
  (!s.pktWaits p || (s.homeRun p).isSome) &&
    !((s.fab.inbox.takeWhile fun q => q.2 != p).any fun q => !(q.2.op == .reply || q.2.op == .busy) && s.pktWaits q.2 && q.2.addr / 128 == p.addr / 128)

/-- Record a key, done, with the replies that are kept of it. -/
def State.keyPut (s : State) (p : Packet) (done : Bool) (replies : List Packet) : State :=
  { s with fab := { s.fab with filter := (s.fab.filter.filter fun x => x.1 != pktKey p) ++ [(pktKey p, done, replies)] } }

/-- A request that cannot be executed now: one that finds no spill space waits at its memory controller (R160), and its key is being executed (R433). -/
def State.homeWaits (s : State) (p : Packet) : State :=
  let bytes := if p.op = .write then p.data else (s.atomPacket p).2
  if s.needsSpill p.addr bytes then (s.spillHold (pktSpill p) p.addr p.tenant p.causal).keyPut p false [] else s

/-- A rebuild list's piece (DESIGN CHOICE, unsafe: notes/assumptions/22.md): a COLL packet whose address has bit 55, the offset of the piece
in its low 27 bits and the length of the list in the next 27. -/
def isRebuild (p : Packet) : Bool := p.op == .coll && p.addr.testBit 55
/-- Where the piece lies in the list, and the list's length. -/
def rebuildOff (p : Packet) : Nat := p.addr % 2 ^ 27
def rebuildTotal (p : Packet) : Nat := p.addr / 2 ^ 27 % 2 ^ 27

/-- Execute a request with a new key (R433), that came on link n; none while it waits. -/
def State.execRequest (s : State) (n : Nat) (p : Packet) : Option State :=
  match p.op with
  | .callo => some ((s.keyPut p false []).recvCallo p)
  | .coll =>
    let s := s.keyPut p true []
    if isRebuild p then some { s with rebuildIn := s.rebuildIn ++ [⟨rebuildOff p, rebuildTotal p, p⟩] }
    else some ((s.collArrive (collOfPacket p)).sendBare (s.replyTo p 0 []))
  | .probe =>
    let d := s.probeData p.srcDev p.addr p.len
    some ((d.2.keyPut p true []).sendBare (d.2.replyTo p 0 d.1))
  | .avctl => some (s.malformed n (pktHeader p))
  | _ =>
    (s.homeRun p).map fun x =>
      let r := x.2.2.replyTo p x.1 x.2.1
      (x.2.2.keyPut p true (if p.op = .atom then [r] else [])).sendBare r

/-- A request whose key is done (R433). -/
def State.duplicate (s : State) (n : Nat) (p : Packet) (kept : List Packet) : State :=
  let s := s.linkEvent n 0x068 (p.xtag + p.srcDev % 4096 * 65536)
  match p.op with
  | .read =>
    (match s.homeRun p with
     | some x => x.2.2.sendBare (x.2.2.replyTo p x.1 x.2.1)
     | none => s)
  | .probe =>
    let d := s.probeData p.srcDev p.addr p.len
    d.2.sendBare (d.2.replyTo p 0 d.1)
  | .callo | .atom | .avctl => kept.foldl (fun s r => s.sendBare r) s
  | _ => if isRebuild p then kept.foldl (fun s r => s.sendBare r) s else s.sendBare (s.replyTo p 0 [])

def isReply (p : Packet) : Bool := p.op == .reply || p.op == .busy

/-- The request that is acted on next: the oldest that no wait for spill space holds, with its link. -/
def State.nextRequest (s : State) : Option (Nat × Packet) := s.fab.inbox.find? fun p => !isReply p.2 && (s.spillWait.isEmpty || s.pktGoes p.2)
def State.takePkt (s : State) (p : Nat × Packet) : State := { s with fab := { s.fab with inbox := s.fab.inbox.erase p } }
/-- Does a request go on that has waited at its memory controller, and not a later copy of it? -/
def State.resumes (s : State) (p : Packet) : Bool := s.pktWaits p && !((s.fab.inbox.takeWhile fun q => q.2 != p).any fun q => pktKey q.2 == pktKey p)

/-- FABRIC_REQUEST_ARRIVAL (R433): the oldest request received that no wait for spill space holds is executed, dropped or answered by its key. (DESIGN CHOICE, safe: notes/assumptions/8.md) -/
def execFabricRequestArrival (s : State) : Out :=
  match s.nextRequest with
  | none => .next s
  | some (n, p) =>
    let t := s.takePkt (n, p)
    if s.resumes p then .next ((t.execRequest n p).getD s)
    else if !p.unlocked && (s.gtc - p.sent).toInt > 2000000 then .next t
    else match t.fab.filter.find? fun x => x.1 == pktKey p with
      | some (_, false, _) => .next t
      | some (_, true, kept) => .next (t.duplicate n p kept)
      | none =>
        if t.fab.filter.length ≥ 262144 then .next (t.sendBare { t.replyTo p 0 [] with op := .busy })
        else match t.execRequest n p with
          | some t => .next t
          | none => .next (s.homeWaits p)

/-- FILTER_KEY_EXPIRE (R433): keys go 2,000 µs after their SENT. -/
def execFilterKeyExpire (s : State) : Out :=
  .next { s with fab := { s.fab with filter := s.fab.filter.filter fun x => decide ((s.gtc - BitVec.ofNat 64 x.1.2.2.2).toInt < 2500000) } }

/-! ## The end of a transaction (R432) -/

def State.dropTxn (s : State) (id : Nat) : State := { s with fab := { s.fab with txns := s.fab.txns.filter fun t => t.id != id } }

/-- The reply, or the failure, of an access: its value, or a code. A load that asked for a whole line fills its core's near cache with it, or, where
that failed, asks for its own bytes (R155); a store updates the core's copy, an atomic removes it. -/
def State.accessEnd (s : State) (id code : Nat) (data : List Byte) : State :=
  match s.flight.find? fun a => a.id == id with
  | none => s
  | some a =>
    let n := a.kind.bytes
    match a.kind with
    | .store d _ =>
      (if code = 0 then ((s.dropAccess id).nearStore a.core a.place d).storeAt a.place n (engOf a) else (s.dropAccess id).deferTrap a code).heldPrune
    | .atomic m b _ [] =>
      -- the third fault in a row of an object whose descriptor lies on another module (R238)
      let s := if a.wave ≥ descWave 0 && m = descMinor && code = 0 && fld data 0 1 = 3 && (descCode b).isSome
        then s.poisonEvent a.core a.tenant a.causal a.addr else s
      (if code = 0 then (s.dropAccess id).nearForget a.core a.place else (s.dropAccess id).deferTrap a code).heldPrune
    | .atomic _ _ _ (_ :: _) =>
      ((if code = 0 then s.nearForget a.core a.place else s).setAccess id fun x =>
        { x with st := if code = 0 then .performed (data.take n) else .failed code }).heldPrune
    | .load _ _ _ =>
      let line := a.fill = 1 || a.fill = 2
      if line && code ≠ 0 then
        if a.wave = pftWave then s.dropAccess id else s.setAccess id fun x => { x with fill := 3, sent := none }
      else
        let key := (nearKey a.place).getD 0
        let bs := if !byEngine a.wave && s.drainsAt a.place n then s.drainedBytes n
          else if line then (data.drop (key % 128)).take n else data.take n
        let s := if a.fill = 1 && code = 0 then s.nearPut a.core (key / 128) data else s
        if a.wave ≥ detWave 0 then (s.dropAccess id).heldPrune
        else (s.setAccess id fun x => { x with st := if code = 0 then .performed (overlayed a.overlay bs) else .failed code }).heldPrune

/-- Lanes of a CALLO fail (R197, R432): they end, and the wave takes a deferred trap. -/
def State.calloFail (s : State) (wave op code : Nat) (lanes : Word) : State :=
  s.updWave wave fun w =>
    match w.callo.find? fun c => c.op == op with
    | none => w
    | some c =>
      -- replies that have come still land
      let left := c.lanes &&& ~~~lanes
      let w := { w with callo := w.callo.filterMap (fun (c : CallPend) => if c.op != op then some c else if left = 0#32 then none else some ({ c with lanes := left } : CallPend)),
                        failed := if w.failed.contains op then w.failed else w.failed ++ [op] }
      if w.ended then w
      else { w with deferred := w.deferred ++ [{ op := op, code := code, pc := c.pc, addr := c.handle, lanes := lanes, slot := c.slot, cs := false }] }

/-- A line of another module that a fetch or a record read asked for has come, or failed. -/
def State.lineEnd (s : State) (txn code : Nat) (data : List Byte) : State :=
  { s with lines := s.lines.map fun (r : RemoteLine) => if r.txn == txn then { r with data := some data, code := code } else r }.wakeWhere
    fun x => match x with | .remote i => i == txn | _ => false

/-- A trace unit's write has been performed, or has failed (R387). -/
def State.chunkReply (s : State) (txn code : Nat) : State :=
  { s with traceOut := s.traceOut.map fun (c : TraceChunk) =>
      if c.out ≠ some txn then c else if code = 0 then { c with out := none, phase := c.phase + 1 } else { c with out := none, code := code } }

/-- Does an AVENUE instruction still wait for the transaction? -/
def State.avPending (s : State) (t : Txn) : Bool :=
  match t.what with
  | .avctl wave _ _ _ _ => (((s.wave? wave).bind fun w => w.whichWait false (avWaits t.id)).isSome)
  | _ => false

/-- The home that an Avenue line now has: of a mirrored allocation that its first home's plane has lost, the other (R167). -/
def State.homePlane (s : State) (t : Txn) : Nat :=
  if t.relaxed && t.pkt.dst = 0xFFF then (((s.avByPa t.pkt.addr t.pkt.tenant).bind fun a => a.plane t.pkt.addr).getD t.plane) else t.plane

/-- The code of a failed transaction (R432): AVENUE_LOST for a line on a dead plane, else POISON. -/
def State.failCode (s : State) (t : Txn) : Nat :=
  let plane := s.homePlane t
  if t.pkt.dst = 0xFFF && t.pkt.op != .avctl &&
     (((s.avByPa t.pkt.addr t.pkt.tenant).map fun a => a.lost.contains plane).getD false || s.fab.deadPlane (s.fab.phys plane))
  then cAvenueLost else cPoison

/-- The checkpoint duty's copies are numbered as an engine command that no other has (M). -/
def snapCmd : Nat := 2 ^ 40

/-- The last acknowledgement of a rebuild writes DONE (R444). -/
def State.rebuildSettle (s : State) : State :=
  match s.rebuild with
  | none => s
  | some r => if r.waits.isEmpty then ({ s with rebuild := none } : State).sysWrite (r.base + 4) 1 (1 + 2 * b2n r.missed + 4 * b2n r.refused) else s

/-- A device acknowledges the list of a rebuild, with the count of groups that it refused (R444). -/
def State.rebuildSeen (s : State) (id dev refused : Nat) : State :=
  let seen := s.rebuild.map fun r =>
    if r.id = id then { r with waits := r.waits.filter fun w => w.1 != dev, refused := r.refused || refused != 0 } else r
  ({ s with rebuild := seen } : State).rebuildSettle

/-- End a transaction: with the reply's status and data. An AVENUE instruction whose trap must wait keeps it. -/
def State.txnEnd (s : State) (t : Txn) (code : Nat) (value : DWord) (data : List Byte) : State :=
  match t.what with
  -- of a group, each lane takes its own value
  | .access ids => (ids.zipIdx.foldl (fun s i => s.accessEnd i.1 code (if ids.length ≤ 1 then data else data.drop (i.2 * atomWidth t.pkt))) (s.dropTxn t.id))
  | .callo wave op lanes => if code = 0 then s.dropTxn t.id else (s.dropTxn t.id).calloFail wave op code lanes
  | .avctl _ _ _ _ _ =>
    let s := s.avReply t code value (fld data 8 8)
    if s.avPending t then s else s.dropTxn t.id
  | .line cmd piece =>
    let s := s.dropTxn t.id
    if cmd = snapCmd then (if code ≠ 0 then { s with snap := { s.snap with code := code } } else s)
    else if code ≠ 0 then s.pieceFailed cmd piece code t.pkt.addr
    else if s.fab.txns.any fun x => x.what == .line cmd piece then s
    else s.pieceDone cmd piece
  | .coll _ => s.dropTxn t.id
  | .probe what => if code = 0 then (s.dropTxn t.id).probeReply what t data else s.dropTxn t.id
  | .read _ _ _ => (s.dropTxn t.id).lineEnd t.id code data
  | .rebuild _ => s.dropTxn t.id
  | .trace => (s.dropTxn t.id).chunkReply t.id code
  | .host req piece => (s.dropTxn t.id).hostBack req piece code data

/-- A transaction fails (R432), with an E2E_FAIL event. -/
def State.failTxn (s : State) (t : Txn) : State :=
  let again := s.avPending t && t.attempts ≥ 9
  let s := if again then s else s.linkEvent t.link 0x067 (t.pkt.xtag + t.pkt.dst % 4096 * 65536 + t.pkt.addr / 2 ^ 20 % 2 ^ 36 * 2 ^ 28)
  let s := { s with fab := s.fab.updTxn t.id fun t => { t with attempts := 9, dead := true } }
  s.txnEnd t (s.failCode t) 0#64 []

/-- The lanes that a REPLY to a CALLO covers, of those not yet answered (R475). -/
def calloReplies (t : Txn) (wave op : Nat) (lanes : Word) (data : List Byte) (device scope : Nat) : List CallReply :=
  (List.range (data.length / 12)).filterMap fun i =>
    let l := fld data (12 * i) 4
    if l < 32 && laneIn lanes l then
      some ⟨op, device, coreOf wave, slotOf wave, l, BitVec.ofNat 32 (fld data (12 * i + 4) 4), BitVec.ofNat 32 (fld data (12 * i + 8) 4),
            if t.pkt.scope = scope then scope else t.pkt.scope, false⟩
    else none

/-- A REPLY reaches its transaction. -/
def State.replied (s : State) (t : Txn) (p : Packet) : State :=
  let code := p.opnd.toNat % 256
  match t.what with
  | .callo wave op lanes =>
    if code ≠ 0 then s.txnEnd t code 0#64 []
    else
      let rs := calloReplies t wave op lanes p.data s.device p.scope
      let left := lanes &&& ~~~(maskOf fun l => rs.any fun r => r.lane == l)
      let s := { s with callReplies := s.callReplies ++ rs }
      if left = 0#32 then s.dropTxn t.id
      else { s with fab := s.fab.updTxn t.id fun t => { t with what := .callo wave op left } }
  | .avctl _ what _ _ _ =>
    let s := if code = cAvenueQuota && what = 0 && p.opnd.toNat / 256 % 2 = 0 then
        s.emit (srcLink t.link) 0x0A0 t.pkt.tenant t.pkt.causal
          (BitVec.ofNat 64 (t.pkt.tenant + (fld t.pkt.data 0 6 + 65535) / 65536 * 65536))
      else s
    s.txnEnd t code (BitVec.ofNat 64 (fld p.data 0 8)) p.data
  | .rebuild n => (s.dropTxn t.id).rebuildSeen n p.srcDev (p.opnd.toNat / 256)
  | _ => s.txnEnd t code 0#64 p.data

/-- FABRIC_REPLY_ARRIVAL (R432): the oldest reply received reaches its source, which releases its tag, or discards it. (DESIGN CHOICE, safe: notes/assumptions/8.md) -/
def execFabricReplyArrival (s : State) : Out :=
  match s.fab.inbox.find? fun p => isReply p.2 with
  | none => .next s
  | some (n, p) =>
    let t := s.takePkt (n, p)
    match t.fab.txns.find? fun x => x.pkt.src == p.src && x.pkt.dst == p.srcDev && x.pkt.xtag == p.xtag && x.pkt.sent == p.sent with
    | none => .next t
    | some x =>
      if p.op = .busy then .next { t with fab := t.fab.updTxn x.id fun x => { x with busy := some t.gtc } }
      else
        let r := t.replied x p
        -- a trap of an AVENUE instruction that must wait keeps the reply; its event has been emitted
        if r.avPending x then .next { r with fab := { r.fab with inbox := (n, { p with opnd := p.opnd ||| 256#64 }) :: r.fab.inbox } } else .next r

/-! ## Timers (R432) -/

/-- Send a transaction's request, on the path that R423 to R431 now give: to the home that its line now has, on another link than before where they
say so. One that has not been sent before gives its SENT (R428). -/
def State.resendTxn (s : State) (t : Txn) (retry : Bool) : State :=
  let t := { t with plane := s.homePlane t }
  let n := { s.fab with txns := s.fab.txns.filter fun x => x.id != t.id }.linkFor t
  let p := { t.pkt with retry := retry || t.pkt.retry, sent := if t.attempts = 0 then s.gtc else t.pkt.sent }
  { s with fab := (s.fab.updTxn t.id fun x => { x with link := n, plane := t.plane, pkt := p, busy := none, attempts := max 1 x.attempts }).send n p }

/-- 1,600 µs after SENT a transaction fails. -/
def State.txnDead (s : State) (t : Txn) : Bool := decide ((s.gtc - t.pkt.sent).toInt ≥ 2000000)

/-- Is a transaction's timer due: 200 µs for each attempt? One that waits on its way fails in its time too. -/
def State.txnDue (s : State) (t : Txn) : Bool :=
  !t.dead && (if t.held then decide (1 ≤ t.attempts) && s.txnDead t else s.txnDead t || decide ((s.gtc - t.pkt.sent).toInt ≥ 250000 * (t.attempts : Int)))

/-- E2E_TIMER_EXPIRY (R432): the request goes again with RETRY, and every later transaction of its line with it; at 1,600 µs it fails. -/
def execE2eTimerExpiry (txn : Nat) (s : State) : Out :=
  match s.fab.txns.find? fun t => t.id == txn with
  | none => .next s
  | some t =>
    if !s.txnDue t then .next s
    else if s.txnDead t then .next (s.failTxn t)
    else
      let s := s.linkEvent t.link 0x066 (t.pkt.xtag + t.pkt.dst % 4096 * 65536 + t.attempts % 16 * 2 ^ 28 + t.pkt.sent.toNat % 2 ^ 32 * 2 ^ 32)
      let s := { s with fab := s.fab.updTxn t.id fun t => { t with attempts := t.attempts + 1 } }
      let later := s.fab.txns.filter fun x => t.sameLine x && decide (x.id > t.id) && !x.held
      .next (later.foldl (fun s x => s.resendTxn x true) (s.resendTxn t true))

/-- BUSY_RESEND (R432): 2 µs after a BUSY reply, and no attempt; at 1,600 µs the transaction fails. -/
def execBusyResend (txn : Nat) (s : State) : Out :=
  match s.fab.txns.find? fun t => t.id == txn with
  | none => .next s
  | some t =>
    match t.busy with
    | none => .next s
    | some at_ =>
      if (s.gtc - at_).toNat < 2500 then .next s
      else if s.txnDead t then .next (s.failTxn t)
      else .next (s.resendTxn t false)

/-! ## The plane map (R167, R431, R445) -/

/-- A plane is dead from now on: every Avenue line whose only home is on it, or whose other home has died before, is lost (R167). (DESIGN CHOICE, unsafe: notes/assumptions/27.md) -/
def State.losePlane (s : State) (p : Nat) : State :=
  let ls := (List.range 8).filter fun l => s.fab.phys l == p
  let upd (a : AvAlloc) : AvAlloc :=
    let here := (List.range 8).filter fun l => match a.pinned with | some h => l == h || (a.mirrored && l == (h + 4) % 8) | none => true
    let mine := ls.filter fun l => here.contains l && !a.lost.contains l
    if mine.isEmpty then a
    else
      let lost := a.lost ++ mine
      -- a line is lost with its last home
      let gone := if a.mirrored then mine.any fun l => lost.contains ((l + 4) % 8) else true
      { a with lost := lost, degraded := a.degraded || a.mirrored, generation := if gone then (a.generation + 1) % 2 ^ 32 else a.generation }
  { s with fab := { s.fab with dead := s.fab.dead ||| 2 ^ p, window := s.fab.window.map fun x => (x.1, upd x.2),
                               -- a running fence must not forget it
                               fence := s.fab.fence.map fun x => (x.1, x.2.1, x.2.2 ||| 2 ^ p) } }

/-- Planes newly dead in a mask. -/
def State.losePlanes (s : State) (mask : Nat) : State :=
  (List.range 8).foldl (fun s p => if mask.testBit p && !s.fab.deadPlane p then s.losePlane p else s) s

/-- A valid write of FAB_PMAP starts a fence; another version is ignored (R431). -/
def State.mapApply (s : State) (v : DWord) : State :=
  let version := v.toNat / 2 ^ 32
  if version ≠ (s.fab.mapVersion + 1) % 2 ^ 32 then s
  else
    let dead := v.toNat / 2 ^ 24 % 256
    let s := s.losePlanes dead
    { s with fab := { s.fab with fence := some (version, v.toNat % 2 ^ 24, dead) } }

/-- The map that the plane-remap duty writes (R445): every logical plane that leads to a dead plane p leads to plane p + 4. -/
def State.remapWord (s : State) : DWord :=
  let map := (List.range 8).foldl (fun m l => m + (if s.fab.deadPlane (s.fab.phys l) then (s.fab.phys l + 4) % 8 else s.fab.phys l) * 2 ^ (3 * l)) 0
  BitVec.ofNat 64 ((s.fab.mapVersion + 1) % 2 ^ 32 * 2 ^ 32 + s.fab.dead % 256 * 2 ^ 24 + map)

/-- A write while a fence runs waits at its port. (DEDUCED, unsafe: notes/assumptions/38.md) -/
def State.mapWriteAs (s : State) (v : Option DWord) : State :=
  if s.fab.fence.isSome then { s with fab := { s.fab with mapWait := s.fab.mapWait ++ [v] } } else s.mapApply (v.getD s.remapWord)
def State.mapWrite (s : State) (v : DWord) : State := s.mapWriteAs (some v)

/-- PLANE_MAP_WRITE (R431). -/
def execPlaneMapWrite (v : DWord) (s : State) : Out := .next (s.mapWrite v)

/-- The writes that have waited for the fence go on, in their order, until one starts the next fence. -/
def State.mapGoOn : List (Option DWord) → State → State
  | [], s => s
  | v :: vs, s => if s.fab.fence.isSome then { s with fab := { s.fab with mapWait := v :: vs } } else State.mapGoOn vs (s.mapApply (v.getD s.remapWord))

/-- MAP_FENCE_DONE (R431): every earlier transaction of the planes that move has ended; the map takes effect, and what waited goes out. -/
def execMapFenceDone (s : State) : Out :=
  match s.fab.fence with
  | none => .next s
  | some (version, map, dead) =>
    if s.fab.txns.any fun t => !t.held && s.fab.fenced t.plane then .next s
    else
      .next (State.mapGoOn s.fab.mapWait ({ s with fab := { s.fab with fence := none, mapVersion := version, map := map, dead := dead, mapWait := [] } }.emit
        (srcOf 11 0) 0x06A 0 0#64 (BitVec.ofNat 64 (version + map * 2 ^ 32))))

/-- PLANE_DEAD (R445): a plane is declared dead; with the plane-remap duty in hardware mode the map is written that sends its logical planes to plane
p + 4. -/
def execPlaneDead (plane : Nat) (s : State) : Out :=
  let p := plane % 8
  let s := (s.linkEvent (2 * p) 0x069 p)
  let s := if s.fab.deadPlane p then s else s.losePlane p
  .next (if s.dpr.getLsbD 5 then s.mapWriteAs none else s)

/-! ## What comes about between steps (M) -/

/-- Does a transaction that is held still wait (R424, R425, R430, R431)? -/
def Fabric.stillHeld (f : Fabric) (t : Txn) : Bool := f.mustWait t (f.linkFor t) || (t.relaxed && f.linesFull (f.linkFor t))

/-- Send what is held no longer, in its order. -/
def State.releaseHeld (s : State) : State :=
  (s.fab.txns.filter fun t => t.held && !t.dead).foldl (fun s t =>
    if s.fab.stillHeld t then s
    else ({ s with fab := s.fab.updTxn t.id fun x => { x with held := false } } : State).resendTxn t false) s

/-- Transactions to a device marked dead fail at once (R442). -/
def State.failDead (s : State) : State := (s.fab.txns.filter fun t => t.dead).foldl (fun s t => s.failTxn t) s

/-- Count the flits that a link has sent (R376, R382), and tell of the keys that it has changed of itself (R362, R435). -/
def State.countFlits (s : State) : State :=
  s.fab.links.foldl (fun s x =>
    let s := if x.2.rekeys = 0 then s else (s.setLink x.1 { s.link x.1 with rekeys := 0 }).linkEvent x.1 0x06B x.2.keySlot
    if x.2.uncounted = 0 then s
    else (List.range x.2.uncounted).foldl (fun s _ => s.count (srcLink x.1) 0x113) (s.setLink x.1 { s.link x.1 with uncounted := 0 })) s

/-- Links that are up and keyed give sequence numbers to what waits; the queue of one that is not moves. -/
def State.pumpLinks (s : State) : State :=
  s.fab.links.foldl (fun s x =>
    let l := s.link x.1
    if l.waiting = 0 || !l.keyed then s
    else if s.fab.up x.1 then s.setLink x.1 (l.pump l.waiting)
    else if s.fab.up (sibling x.1) && !l.queue.isEmpty then s.moveQueue x.1 else s) s

/-- The fabric's own work after each step. -/
def State.fabSettle (s : State) : State :=
  let s := if s.fab.txns.any fun t => t.dead then s.failDead else s
  let s := if s.fab.txns.any fun t => t.held then s.releaseHeld else s
  (s.pumpLinks).countFlits

end Sys2Proof.Machine
end

