-- ==== Sys2Proof/Machine/Errors.lean ====
section
/-!
DEFINITION. Error reports, the error logs and error injection (spec/18_errors_and_traps.md, R408 to R413).
-/
namespace Sys2Proof.Machine

/-- Channels of a log (R408). -/
def logChannels (log chan : Nat) : Bool :=
  match log with
  | 5 => chan == 1 || chan == 3
  | 6 => decide (chan < 12)
  | _ => decide (log < 5) && decide (chan < 320)

/-- Poison the element that a log 0 location names (R411): of the wave that has acquired the block. (DEDUCED, unsafe: notes/assumptions/40.md) -/
def State.poisonAt (s : State) (core loc : Nat) : State :=
  let block := loc % 256
  s.waves.foldl (fun s x =>
    if coreOf x.1 ≠ core then s
    else match x.2.blocks.idxOf? block with
      | none => s
      | some i =>
        let p := 16 * i + loc / 256 % 16
        let lane := loc / 4096 % 32
        s.updWave x.1 fun w => { w with vpoison := tabPut w.vpoison p (tabGetD w.vpoison p 0#32 ||| BitVec.ofNat 32 (2 ^ lane)) }) s

/-- An uncorrectable queue entry poisons the operation that owns it (R412). (DEDUCED, unsafe: notes/assumptions/40.md) -/
def State.poisonEntry (s : State) (core loc : Nat) : State :=
  let slot := loc / 16 % 64
  let n := loc / 1024 % 256
  let mark (q : List QEntry) : List QEntry := q.zipIdx.map fun x => if x.2 = n then { x.1 with bad := true } else x.1
  match loc % 16 with
  | 0 => s.updWave (48 * core + slot) fun w => { w with qac := mark w.qac }
  | 1 => s.updWave (48 * core + slot) fun w => { w with qca := mark w.qca }
  | 2 =>
    let c := s.core core
    s.setCore core { c with calls := c.calls.zipIdx.map fun x => if x.2 = n then { x.1 with bad := true } else x.1 }
  | 3 =>
    (match s.held.find? fun h => h.cls == 0 && h.owner == core && h.entry == n with
     | some h => s.replayEntry h (fun _ => true) (some cPoison)
     | none => s)
  | 4 =>
    let g := s.engine core
    s.setEngine core { g with queue := g.queue.zipIdx.map fun x => if x.2 = n && !x.1.started then { x.1 with bad := true } else x.1 }
  | _ => s

/-- What an uncorrectable error of a log does to its array (R408). -/
def State.uncorrectable (s : State) (log chan loc : Nat) : State :=
  match log with
  | 0 => s.poisonAt chan loc
  | 1 => { s with marks := tabPut s.marks (markKey (plazaKey chan (loc % 0x80000))) (s.mark log true false) }
  | 2 => { s with marks := tabPut s.marks (accMark chan (loc % 32768)) (s.mark log true false) }
  | 4 => s.poisonEntry chan loc
  | 5 => { s with evr := { s.evr with dusk := s.evr.dusk.filter fun x => x.1 != loc } }
  | 6 => { s with marks := tabPut s.marks (loc % 2 ^ 46 * 64) (s.mark log true false) }
  | _ => s

/-- A near-cache line with a parity error is invalidated (R408). -/
def State.nearError (s : State) (log core loc : Nat) : State :=
  if log = 3 then s.setNear core ((s.core core).near.filter fun x => x.1 % 512 != loc) else s

/-- ERROR_REPORT (R408, R410): a unit reports an error of its array to a log; an uncorrectable one leaves what its array's row gives. -/
def execErrorReport (log chan loc : Nat) (uncorr : Bool) (s : State) : Out :=
  if !logChannels log chan then .next s
  else
    let u := uncorr && log != 3
    let s := (s.report log chan loc u false (u && log == 0) 0 0#64).nearError log chan loc
    .next (if u then s.uncorrectable log chan loc else s)

/-- ERROR_LOG_HEAD (R410): a write of ERR_PTRn.HEAD frees slots. -/
def execErrorLogHead (log : Nat) (v : Word) (s : State) : Out :=
  if log ≥ 7 then .next s
  else .next { s with errs := tabPut s.errs log { tabGetD s.errs log ErrLog.reset with head := v.toNat } }

/-- ERROR_INJECT_ARM (R413): a write of INJ_CTL; a LOG of 7 leaves ARM at 0. -/
def execErrorInjectArm (v : Word) (s : State) : Out :=
  let log := v.toNat / 2 ^ 27 % 8
  .next { s with inj := { s.inj with arm := v.getLsbD 31 && log != 7, uncorr := v.getLsbD 30, log := log, channel := v.toNat % 65536 } }

end Sys2Proof.Machine
end

