-- ==== Sys2Proof/Machine/Recorder.lean ====
section
/-!
DEFINITION. Time, the Arcade and the Dusk store, event counters, branch-trace chunks (spec/16_event_recorder.md, R369 to R382, R387, R388, R479; 20,
R446).
-/
namespace Sys2Proof.Machine

/-! ## Hubs (R374, R375, R378, R479) -/

/-- The die of a source (R9, R10, R14, R373). -/
def dieOfSource (source : Nat) : Nat :=
  let n := source % 4096
  match source / 4096 with
  | 0 => n / 80
  | 1 => n / 16
  | 2 => n / 8
  | 3 => n / 4
  | 4 => n
  | 5 => if n < 16 then n / 3 else n - 16
  | 6 => n / 4
  | 7 => 2 * n
  | 8 => if n < 256 then n / 20 else n - 256
  | 9 => n / 80
  | 10 => n / 4
  | _ => n - 256

def State.hub (s : State) (die : Nat) : Hub := tabGetD s.evr.hubs die Hub.reset
def State.setHub (s : State) (die : Nat) (h : Hub) : State := { s with evr := { s.evr with hubs := tabPut s.evr.hubs die h } }

/-- The flags of a record (R375): LOSS, ENC, UNLOCKED. -/
def EvRec.flags (e : EvRec) (loss : Bool) : Nat := b2n loss + 2 * b2n (e.tenant != 0) + 4 * b2n e.unlocked

/-- The 32 bytes of a record (R374, R368). -/
def DuskRec.bytes (r : DuskRec) : List Byte :=
  let e := r.ev
  let plain := bytes8 e.payload
  let nonce := e.gtc.toNat * 2 ^ 28 + e.source * 2 ^ 12 + r.dev
  let payload := if e.tenant = 0 then plain else ((Config.cipher r.key nonce plain) ++ List.replicate 8 0#8).take 8
  bytes8 e.gtc ++ natToBytes 4 (e.source * 65536 + e.kind % 4096 * 16 + r.flags) ++
  natToBytes 4 (r.dev % 4096 * 2 ^ 20 + e.tenant % 1024 * 1024 + 1) ++ bytes8 e.causal ++ payload

/-- The TRACE key of a tenant (R350). -/
def State.traceKey (s : State) (tenant : Nat) : BitVec 256 :=
  match tabGet? s.sec.keys tenant with
  | some k => k.trace
  | none => Config.erasedKey tenant

/-- A record reaches a hub (R378): accepted, behind a LOSS record when some were lost, or dropped and counted. (DEDUCED, unsafe: notes/assumptions/41.md) -/
def State.hubTake (s : State) (die : Nat) (e : EvRec) : State :=
  let h := s.hub die
  let need := if h.lost = 0 then 1 else 2
  if h.buf.length + need > 8192 then
    let s := s.setHub die { h with lost := h.lost + 1, firstLost := if h.lost = 0 then e.gtc else h.firstLost, lastLost := e.gtc }
    { s with evr := { s.evr with lost := (s.evr.lost + 1) % 2 ^ 64 } }
  else if h.lost = 0 then s.setHub die { h with buf := h.buf ++ [⟨e, e.flags false, s.device, s.traceKey e.tenant⟩] }
  else
    let span := min (h.lastLost - h.firstLost).toNat (2 ^ 32 - 1)
    let src := srcOf 11 (256 + die)
    let l : EvRec := ⟨h.firstLost, src, 0x001, 0, 0#64, BitVec.ofNat 64 (h.lost % 2 ^ 32 + span * 2 ^ 32), !s.locked⟩
    (s.setHub die { h with buf := h.buf ++ [⟨l, l.flags true, s.device, s.traceKey 0⟩, ⟨e, e.flags true, s.device, s.traceKey e.tenant⟩], lost := 0 }).count src 0x001

/-- The record handed in next: of the oldest tick's records the one of the lowest source, in the order in which that source emitted (R378). -/
def firstHanded (q : List EvRec) : Option EvRec :=
  match q with
  | [] => none
  | e :: rest => some ((rest.takeWhile fun x => x.gtc == e.gtc).foldl (fun m x => if x.source < m.source then x else m) e)

/-- EVENT_HANDOFF (R378, R479): once its tick has ended, the oldest record emitted reaches its die's hub; the management controller keeps its own. (DEDUCED, unsafe: notes/assumptions/41.md) -/
def execEventHandoff (s : State) : Out :=
  match firstHanded s.evq with
  | none => .next s
  | some e =>
    if e.gtc = s.gtc then .next s
    else
      let s := { s with evq := s.evq.erase e }
      .next (if e.source = srcOf 11 0 then { s with evr := { s.evr with mgmt := s.evr.mgmt ++ [⟨e, e.flags false, s.device, s.traceKey e.tenant⟩] } }
        else s.hubTake (dieOfSource e.source) e)

/-! ## The Dusk store (R379 to R381, R479) -/

/-- Record slots of the ring (R379). -/
def duskSlots : Nat := 2147450880

/-- Write a record at the next index, through the channel of a die. -/
def State.duskPut (s : State) (ch : Nat) (r : DuskRec) : State :=
  let i := s.evr.wptr
  let kept := s.evr.dusk.filter fun (x : Nat × DuskRec) => decide (i < x.1 + duskSlots)
  { s with evr := { s.evr with dusk := kept ++ [(i, r)], wptr := i + 1 } }.injectAt 5 ch i (duskMark i)

/-- The RESET record is written before any other (R380, R479). -/
def State.resetRecord (s : State) (code : Nat) : State :=
  let e : EvRec := ⟨s.gtc, srcOf 11 0, 0x002, 0, 0#64, BitVec.ofNat 64 (code % 256), !s.locked⟩
  let s := (s.duskPut 1 ⟨e, e.flags false, s.device, s.traceKey 0⟩).count (srcOf 11 0) 0x002
  { s with evr := { s.evr with holdHubs := false } }

/-- Take the oldest record of a hub. (DEDUCED, unsafe: notes/assumptions/41.md) -/
def State.drainHub (s : State) (ch die : Nat) : State :=
  match (s.hub die).buf with
  | [] => s
  | r :: rest =>
    let s := s.setHub die { s.hub die with buf := rest }
    { s with evr := { s.evr with turn := tabPut s.evr.turn ch die } }.duskPut ch r

/-- DUSK_DRAIN (R479): no record precedes the RESET record; after it the channel of die 1 or die 3 writes one record: of the management controller, or of one of its two hubs, in turn when both have
records. The order of the controller and the hubs is a free choice. -/
def execDuskDrain (ch : Nat) (s : State) : Out :=
  let a := if ch = 1 then 0 else 2
  let hasA := !(s.hub a).buf.isEmpty && !s.evr.holdHubs
  let hasB := !(s.hub (a + 1)).buf.isEmpty && !s.evr.holdHubs
  let mine := ch == 1 && !s.evr.mgmt.isEmpty && !s.evr.holdHubs
  if ch ≠ 1 && ch ≠ 3 then .next s
  else if mine && (!(hasA || hasB) || Config.freeBit s.free 7300) then
    match s.evr.mgmt with
    | r :: rest => .next ({ s with evr := { s.evr with mgmt := rest } }.duskPut 1 r)
    | [] => .next s
  else
    let last := tabGetD s.evr.turn ch (a + 1)
    .next (if hasA && (!hasB || last = a + 1) then s.drainHub ch a
      else if hasB then s.drainHub ch (a + 1)
      else s)

/-- The 32 bytes of the window slot of an index (R381): zeros for an index that is not in the ring, or whose slot has an uncorrectable error. -/
def State.duskBytes (s : State) (i : Nat) : List Byte :=
  match s.evr.dusk.find? fun x => x.1 == i with
  | some (_, r) => if ((tabGet? s.marks (duskMark i)).map fun m => m.uncorr).getD false then List.replicate 32 0#8 else r.bytes
  | none => List.replicate 32 0#8

/-- The channel through which the record of an index was written (R479): die 1's or die 3's. -/
def State.duskChannel (s : State) (i : Nat) : Nat :=
  match s.evr.dusk.find? fun x => x.1 == i with
  | some (_, r) => if r.ev.source = srcOf 11 0 || dieOfSource r.ev.source ≤ 1 then 1 else 3
  | none => 1

/-- A read of a slot finds its error: each is reported, and a correctable one is corrected (R408). -/
def State.duskFound (s : State) (i : Nat) : State :=
  match tabGet? s.marks (duskMark i) with
  | none => s
  | some m =>
    if !s.evr.dusk.any (fun x => x.1 == i) then s
    else
      let s := s.report 5 (s.duskChannel i) i m.uncorr m.injected false 0 0#64
      if m.uncorr then s else { s with marks := tabErase s.marks (duskMark i) }

/-! ## The trace-drain duty (R446) -/

/-- The ring of EVR_HOSTRING, laid out as that of TRN_FBASE: where, base, log2 of its records. -/
def State.drainRing (s : State) : Option (Nat × Nat × Nat) :=
  let v := s.evr.hostRing.toNat
  let n := v % 32
  if v / 2 ^ 62 = 3 || n < 8 || n > 20 then none else some (v / 2 ^ 62, v / 4096 % 2 ^ 40 * 4096, n)

/-- TRACE_DRAIN_COPY (R446): in hardware mode the next record goes to the ring, when it has room. -/
def execTraceDrainCopy (s : State) : Out :=
  match s.drainRing with
  | none => .next s
  | some (w, base, n) =>
    let i := max s.evr.hostNext (s.evr.wptr - duskSlots)
    if !s.dpr.getLsbD 7 || i ≥ s.evr.wptr || (s.evr.hostTail + 2 ^ 32 - s.evr.hostHead) % 2 ^ 32 ≥ 2 ^ n then .next s
    else
      let s := s.duskFound i
      let s := s.regionPut w (base + 32 * (s.evr.hostTail % 2 ^ n)) (s.duskBytes i)
      .next { s with evr := { s.evr with hostTail := (s.evr.hostTail + 1) % 2 ^ 32, hostNext := i + 1 } }

/-- HOST_RING_HEAD (R446): a write of EVR_HOSTPTR.HEAD. -/
def execHostRingHead (v : Word) (s : State) : Out := .next { s with evr := { s.evr with hostHead := v.toNat } }

/-! ## Branch-trace chunks (R387, R388) -/

/-- What the trace unit's access finds. -/
inductive TraceGot (α : Type) where
  | ok (x : α)
  | wait
  /-- a fabric transaction, to be waited for -/
  | sent (txn : Nat)
  | fault (code va : Nat)
  deriving Repr

/-- The trace unit of a stream as a party (M). -/
def traceAsker (c : TraceChunk) : Asker :=
  { tte := false, unit := coreOf c.wave, tenant := c.tenant, tag := 0, id := 0x60000000 + 2 * c.wave + b2n c.cs, redirect := none }

/-- Read bytes in the tenant's paged memory. -/
def State.traceRead (s : State) (c : TraceChunk) (va n : Nat) : TraceGot (List Byte) × State :=
  let a := traceAsker c
  if va ≥ 0xFE000000000000 then (.fault cPermission va, s)
  else match s.vaRead a .load va n with
    | (.bytes b, s) => (.ok b, s)
    | (.miss v, s) =>
      (match s.walkFill a v with
       | (.leaf _ _, s) => (.wait, s)
       | (.missing _ _, s) => (.fault cTranslation (max va (v * 65536)), s)
       | (.error c _, s) => (.fault c (max va (v * 65536)), s))
    | (.remote dev pa, s) => (.wait, ((s.askLine a.id (srcCore a.unit) c.tenant c.causal dev pa).map Prod.snd).getD s)
    | (.behind, s) => (.wait, s)
    | (.shadow _, s) => (.wait, s)
    | (.faults code _ _ v, s) => (.fault code v, s)
    | (.refused code _ v, s) => (.fault code v, s)

/-- Write bytes in the tenant's paged memory. -/
def State.traceWrite (s : State) (c : TraceChunk) (va : Nat) (data : List Byte) : TraceGot Unit × State :=
  if va ≥ 0xFE000000000000 then (.fault cPermission va, s)
  else match s.translateNow (traceAsker c) .store 5 va with
    | (.ok (.mem key) _ _, s) =>
      let src := srcCore (coreOf c.wave)
      if s.writeLateIn key src then (.wait, s)
      else
        let s := s.findPart key data.length c.tenant c.causal
        match s.writeError key data.length with
        | some code => (.fault code va, s)
        | none =>
          if s.needsSpill key data then (.wait, s.spillHold (80000000000 + c.wave) key c.tenant c.causal)
          else (.ok (), (((s.storeInWindows key data.length).plainWrite key data).writeServed key src).spillFree (80000000000 + c.wave))
    | (.ok (.remote dev pa) _ _, s) =>
      let p : Packet := { dst := dev, srcDev := 0, src := srcCore (coreOf c.wave), xtag := 0, op := .write, scope := 5, release := true, retry := false,
                          unlocked := false, tenant := c.tenant, minor := 0, len := data.length, addr := pa, causal := c.causal,
                          sent := 0#64, opnd := 0#64, data := data }
      (match s.newTxn true (planeOfPa pa) 0 p .trace with
       | some s' => (.sent s.nextId, s')
       | none => (.wait, s))
    | (.faults code _ _ _, s) => (.fault code va, s)
    | (.refused code, s) => (.fault code va, s)
    | (.walkError code _, s) => (.fault code va, s)
    | (.shadowWait _, s) => (.wait, s)
    | (_, s) => (.fault cPermission va, s)

/-- Do two streams trace into one descriptor (R387)? -/
def State.twoTraces (s : State) (c : TraceChunk) : Bool :=
  (s.traceOut.any fun o => o.tenant == c.tenant && o.desc == c.desc && !(o.who == c.who && o.cs == c.cs)) ||
  s.waves.any fun x => x.2.tenant == c.tenant && [false, true].any fun cs =>
    !(x.2.who == c.who && cs == c.cs) && ((x.2.stream cs).trace.map fun t => t.desc == c.desc).getD false

/-- What the trace unit stores: bytes, free values where two streams trace into one descriptor (R387, R6). -/
def State.chunkFree (s : State) (c : TraceChunk) (n : Nat) (b : List Byte) : List Byte :=
  if s.twoTraces c then b.zipIdx.map fun y => BitVec.ofNat 8 (Config.freeWord s.free (7500 + n + y.2)).toNat else b

/-- The 64 bytes of a chunk (R388); one of a tenant other than 0 is sealed. -/
def State.chunkBytes (s : State) (c : TraceChunk) : List Byte :=
  let head := natToBytes 4 c.seq ++ natToBytes 1 c.data.length ++ natToBytes 1 c.flags ++ natToBytes 2 c.waveField ++ bytes4 c.epoch
  let data := (c.data ++ List.replicate 44 0#8).take 44
  if c.tenant = 0 then head ++ data ++ List.replicate 8 0#8
  else
    let nonce := c.seq % 2 ^ 32 + c.epoch.toNat * 2 ^ 32 + s.device * 2 ^ 64 + c.waveField * 2 ^ 80
    head ++ ((Config.cipher (s.traceKey c.tenant) nonce data) ++ List.replicate 44 0#8).take 44 ++
      ((Config.keyedTag (s.traceKey c.tenant) (head ++ data)) ++ List.replicate 8 0#8).take 8

/-- The chunk leaves its staging place. -/
def State.chunkOut (s : State) (c : TraceChunk) : State :=
  { s with traceOut := s.traceOut.filter fun x => !(x.epoch == c.epoch && x.seq == c.seq), lines := s.lines.filter fun r => r.asker != (traceAsker c).id }

/-- The trace's own record of a chunk written or dropped (R389). -/
def TraceSt.noted (t : TraceSt) (c : TraceChunk) (written : Bool) : TraceSt :=
  if t.epoch ≠ c.epoch then t
  else if written then { t with dropped := t.dropped.filter fun n => decide (c.seq < n) }
  else if c.drop then t
  else { t with dropped := t.dropped ++ [c.seq], discard := true, data := [] }

/-- The same in the stream that traces, wherever its wave now is, resident or saved. -/
def State.chunkNote (s : State) (c : TraceChunk) (written : Bool) : State :=
  let note (w : Wave) : Wave := w.updStream c.cs fun st => { st with trace := st.trace.map fun t => t.noted c written }
  { s with waves := s.waves.map fun x => (x.1, note x.2),
           lch := { s.lch with saved := s.lch.saved.map fun (x : Nat × Saved) => (x.1, { x.2 with waves := x.2.waves.map fun y => (y.1, note y.2) }) } }

/-- The chunk as it now stands. -/
def State.putChunk (s : State) (c : TraceChunk) : State :=
  { s with traceOut := s.traceOut.map fun x => if x.epoch = c.epoch && x.seq = c.seq then c else x }

/-- TRACE_FAULT (R387). -/
def State.traceFault (s : State) (c : TraceChunk) (code va : Nat) : State :=
  s.emit (srcCore (coreOf c.wave)) 0x005 c.tenant c.causal (BitVec.ofNat 64 (va % 2 ^ 56 + code % 256 * 2 ^ 56))

/-- LOST advances for a dropped chunk, where the descriptor can be written (R387). -/
def State.chunkLost (s : State) (c : TraceChunk) : State :=
  let va := c.desc.toNat + 24
  let fails (s : State) (code at_ : Nat) : State := (if c.faulted then s else s.traceFault c code at_).chunkOut c
  if c.phase ≥ 3 then s.chunkOut c
  else match s.traceRead c va 4 with
    | (.ok b, s) =>
      (match s.traceWrite c va (s.chunkFree c 72 (natToBytes 4 (bytesToNat b + 1))) with
       | (.ok _, s) => s.chunkOut c
       | (.sent n, s) => s.putChunk { c with out := some n, va := va }
       | (.fault code at_, s) => fails s code at_
       | (.wait, s) => s)
    | (.fault code at_, s) => fails s code at_
    | (_, s) => s

/-- A chunk is dropped: its staging place is free, and LOST is to advance (R387, R388). -/
def State.chunkDrop (s : State) (c : TraceChunk) (faulted : Bool) : State :=
  let c' := { c with drop := true, phase := 2, faulted := faulted }
  let s := { s with lines := s.lines.filter fun r => r.asker != (traceAsker c).id }
  ((s.putChunk c').chunkNote c false).chunkLost c'

/-- Is a descriptor within its ranges (R387)? -/
def traceDescOk (b : List Byte) : Bool :=
  fld b 0 8 % 64 == 0 && fld b 8 4 % 64 == 0 && decide (128 ≤ fld b 8 4) && decide (fld b 8 4 ≤ 2 ^ 30) && zeros b 12 4 && zeros b 28 36

/-- A chunk whose bytes have been performed: WPTR advances, and the staging place goes with that (R387, R388). -/
def State.chunkAdvance (s : State) (c : TraceChunk) : State :=
  let va := c.desc.toNat + 16
  if c.phase ≥ 2 then (s.chunkNote c true).chunkOut c
  else match s.traceWrite c va (s.chunkFree c 64 (natToBytes 4 (c.wptr + 1))) with
    | (.ok _, s) => (s.chunkNote c true).chunkOut c
    | (.sent n, s) => s.putChunk { c with out := some n, va := va }
    | (.fault code at_, s) => (s.traceFault c code at_).chunkDrop c true
    | (.wait, s) => s.putChunk c

/-- The next part of a chunk's writing: the chunk, WPTR, or its dropping. -/
def State.chunkWrite (s : State) (c : TraceChunk) : State :=
  let d := c.desc.toNat
  if c.out.isSome then s
  else if c.code ≠ 0 then (if c.drop then s.chunkOut c else (s.traceFault c c.code c.va).chunkDrop { c with code := 0 } true)
  else if c.drop then s.chunkLost c
  else if c.phase ≥ 1 then s.chunkAdvance c
  else match s.traceRead c d 64 with
    | (.fault code at_, s) => (s.traceFault c code at_).chunkDrop c true
    | (.ok b, s) =>
      if !traceDescOk b then (s.traceFault c 0 d).chunkDrop c true
      else
        let slots := fld b 8 4 / 64
        let wptr := fld b 16 4
        let va := fld b 0 8 + 64 * (wptr % slots)
        if (wptr + 2 ^ 32 - fld b 20 4) % 2 ^ 32 ≥ slots then s.chunkDrop c false
        else match s.traceWrite c va (s.chunkFree c 0 (s.chunkBytes c)) with
          | (.ok _, s) => s.chunkAdvance { c with phase := 1, wptr := wptr }
          | (.sent n, s) => s.putChunk { c with out := some n, va := va, wptr := wptr }
          | (.fault code at_, s) => (s.traceFault c code at_).chunkDrop c true
          | (.wait, s) => s
    | (_, s) => s

/-- TRACE_CHUNK_WRITE (R387): the oldest staged chunk of a stream is written to its ring, or dropped, in SEQ order (R388). -/
def execTraceChunkWrite (wave : Nat) (cs : Bool) (s : State) : Out :=
  match (s.traceOut.find? fun c => c.wave == wave && c.cs == cs).bind fun c => s.traceOut.find? fun x => x.who == c.who && x.cs == c.cs with
  | none => .next s
  | some c => .next (s.chunkWrite c)

/-! ## The global time counter (R369, R370) -/

/-- OFFSET of EVR_TIMECTL: signed ps, saturating. -/
def offsetField (ahead : Bool) (ps : Nat) : Nat :=
  if ahead then min ps (2 ^ 31 - 1) else (2 ^ 32 - min ps (2 ^ 31)) % 2 ^ 32

/-- EVR_TIMECTL with a new OFFSET and LOCK. -/
def setTimeCtl (v : DWord) (off : Nat) (lock : Bool) : DWord := BitVec.ofNat 64 (v.toNat % 4 + 4 * b2n lock + off * 65536)

/-- PTP_MESSAGE (R370): a message from the source that SRC selects measures the GTC's offset from the reference: whether it is ahead, and by how many ps.
LOCK: within 100 ns. At first lock a GTC that lags may step forward once, with a TIMESTEP event: a free choice. -/
def execPtpMessage (src : Nat) (ahead : Bool) (ps : Nat) (s : State) : Out :=
  let v := s.evr.timeCtl
  if src = 0 || v.toNat % 4 ≠ src then .next s
  else
    let step := !s.evr.stepped && !ahead && decide (ps ≥ 800) && Config.freeBit s.free 7400
    if step then
      let n := ps / 800
      let s := { s with gtc := s.gtc + BitVec.ofNat 64 n, evr := { s.evr with timeCtl := setTimeCtl v (offsetField false (ps % 800)) true, stepped := true } }
      .next (s.emit (srcOf 11 0) 0x003 0 0#64 (BitVec.ofNat 64 n))
    else
      let lock := decide (ps ≤ 100000)
      .next { s with evr := { s.evr with timeCtl := setTimeCtl v (offsetField ahead ps) lock, stepped := s.evr.stepped || lock } }

end Sys2Proof.Machine
end

