-- ==== Sys2Proof/Machine/Recovery.lean ====
section
/-!
DEFINITION. Snapshots and group rebuilds (spec/20_surviving_failure.md, R437 to R440, R443, R444).
-/
namespace Sys2Proof.Machine

/-! ## The snapshot list (R437) -/

/-- An entry of the list. -/
structure SnapEnt where
  src : Nat
  stage : Nat
  dest : Nat
  tenant : Nat
  st : Nat
  deriving DecidableEq, Repr

def snapEntOf (b : List Byte) : SnapEnt := ⟨fld b 0 8, fld b 8 8, fld b 16 8, fld b 24 2 % 1024, fld b 26 1⟩

/-- Reserved fields zero, SRC a page. (DEDUCED, unsafe: notes/assumptions/42.md) -/
def snapEntOk (b : List Byte) : Bool := fld b 0 8 % 65536 == 0 && decide (fld b 24 2 < 1024) && zeros b 28 4

def State.snapBytes (s : State) (pa n : Nat) : Option (List Byte × State) :=
  match s.sysRead pa n with
  | (.ok v, s) => some (natToBytes n v, s)
  | (.error _, _) => none

/-- The address of entry i. -/
def snapPa (list i : Nat) : Nat := list + 64 + 32 * i

def State.snapEnt (s : State) (i : Nat) : Option (SnapEnt × State) := (s.snapBytes (snapPa s.snap.list i) 32).map fun x => (snapEntOf x.1, x.2)

/-- Entries from i on, in strictly rising (TENANT, SRC). Fuel counts them. -/
def State.snapSorted : Nat → State → Nat → Nat → Option (Nat × Nat) → Bool
  | 0, _, _, _, _ => true
  | n + 1, s, list, i, last =>
    match s.snapBytes (snapPa list i) 32 with
    | none => false
    | some (b, s) =>
      let e := snapEntOf b
      let up := match last with
        | none => true
        | some (t, v) => decide (t < e.tenant) || (t == e.tenant && decide (v < e.src))
      snapEntOk b && up && State.snapSorted n s list (i + 1) (some (e.tenant, e.src))

/-- NENT, where the list is in order; none for one that START refuses (R438). -/
def State.snapCheck (s : State) (list : Nat) : Option Nat :=
  match s.snapBytes list 64 with
  | none => none
  | some (b, s) =>
    let n := fld b 0 4
    if n = 0 || n > 1048576 || !zeros b 17 47 || !State.snapSorted n s list 0 none then none else some n

/-- NENT of the active list. -/
def State.snapCount (s : State) : Nat := match (s.sysRead s.snap.list 4).1 with | .ok v => v | .error _ => 0

/-- Write STATE and CODE of an entry. -/
def State.snapMark (s : State) (i st code : Nat) : State := s.sysWrite (snapPa s.snap.list i + 26) 2 (st + code % 256 * 256)

/-! ## SNAPSHOT_START and SNAPSHOT_ABORT (R438, R440) -/

/-- SNAPSHOT_START (R438): a write of MEM_SNAPCTL with CMD 1. It is ignored while an epoch is active, and in host-assisted mode (R446). (DEDUCED, unsafe: notes/assumptions/42.md) -/
def execSnapshotStart (v : DWord) (s : State) : Out :=
  let list := v.toNat / 64 % 2 ^ 46 * 64
  let mode := v.getLsbD 57
  if s.snap.state = 1 then .next s
  else if !s.dpr.getLsbD 6 then .next { s with snap := { s.snap with mode := mode, list := list } }
  else
    let s := { s with snap := { Snap.reset with mode := mode, list := list } }
    match s.snapCheck list with
    | none => .next ({ s with snap := { s.snap with state := 3 } }.sysWrite (list + 16) 1 3)
    | some n =>
      let s := { s with snap := { s.snap with state := 1 } }
      .next ((List.range n).foldl (fun s i => s.snapMark i 0 0) s)

/-- The duty as a party: it walks the tenant's tables; its copy engine is CE 16 × d + 15 of the die. -/
def snapAsker (tenant i : Nat) : Asker := { unitAsker tenant with id := 0x70000000 + i }

/-- The die that holds a page of local HBM (R157). -/
def State.snapDie (s : State) (tenant va : Nat) : Nat :=
  match (s.walkResolve (snapAsker tenant 0) .load va).1 with
  | .ok (.mem k) _ _ => mcOf k / 3
  | _ => 0

/-- The writes that wait for the copy of a page (R348). -/
def State.snapFaults (s : State) (tenant src : Nat) : List FaultRec :=
  s.silent.filter fun f => f.tenant == tenant && f.va.toNat / 65536 == src / 65536 && f.flags / 8 % 2 == 1

/-- The duty clears SNAP of a page by a swap against the entry that its walk read (R338, R440), and invalidates it; the writes that it held proceed.
Where the entry has changed, they are reported. -/
def State.snapClear (s : State) (tenant src : Nat) : State :=
  let vpn := src / 65536
  let fs := s.snapFaults tenant src
  let quiet : State := { s with silent := s.silent.filter fun f => !fs.contains f }
  let report : State := fs.foldl State.reportSilent quiet
  match s.entryOf tenant vpn with
  | none => report
  | some (pa, _, e) =>
    if fs.any fun f => f.entry ≠ e then report
    else
      let s := if pteV e && pteSnap e then
          (quiet.plainWrite pa (bytes8 (BitVec.ofNat 64 (e.toNat - 512)))).writeServed pa (dutySource (s.snapDie tenant src)) else quiet
      (s.dropXlat (BitVec.ofNat 64 (tenant * 2 ^ 52 + vpn))).replayPage tenant vpn

/-- Has a write that the duty's swap must come before been served in this cycle (R172, R338)? -/
def State.snapLate (s : State) (tenant src : Nat) : Bool :=
  match s.entryOf tenant (src / 65536) with
  | some (pa, _, _) => s.writeLateIn pa (dutySource (s.snapDie tenant src))
  | none => false

/-- Entries whose STATE is `st`. -/
def State.snapWith (s : State) (st : Nat) : Nat :=
  ((List.range s.snapCount).filter fun i => ((s.snapEnt i).map fun x => x.1.st == st).getD false).length

/-- The bytes of a page that has been written while a double-buffer epoch was ACTIVE: they are undefined (R439). -/
def State.spoiltPage (s : State) : List Byte := (List.range 65536).map fun i => BitVec.ofNat 8 (Config.freeWord s.free (100000 + i)).toNat

/-- At the end of a double-buffer epoch: DEST of every page that was written after it had been drained (R439). -/
def State.snapSpoil (s : State) : State :=
  if !s.snap.mode || s.snap.touched.isEmpty then s
  else (List.range s.snapCount).foldl (fun (s : State) i =>
    match s.snapEnt i with
    | some (e, s) =>
      (match (s.walkResolve (snapAsker e.tenant i) .load e.src).1, (s.walkResolve (snapAsker e.tenant i) .store e.dest).1 with
       | .ok (.mem k) _ _, .ok (.mem d) _ _ =>
         if e.st = 2 && s.snap.touched.contains (k / 65536) then
           { s with mem := memPuts s.mem d s.spoiltPage }
         else s
       | _, _ => s)
    | none => s) s

/-- The epoch ends (R440): NDRAINED and NFAILED, then DONE, then STATE. -/
def State.snapEnd (s : State) : State :=
  let d := s.snapWith 2
  let f := s.snapWith 3
  let s := s.snapSpoil
  let s := ((s.sysWrite (s.snap.list + 8) 4 d).sysWrite (s.snap.list + 12) 4 f).sysWrite (s.snap.list + 16) 1 (if f = 0 then 1 else 3)
  { s with snap := { s.snap with state := if f = 0 then 2 else 3 } }

/-- What the copies of an epoch that ends have still under way is no longer waited for. -/
def State.snapForget (s : State) : State :=
  { s with held := s.held.filter fun h => match h.what with | .line c _ => c != snapCmd | _ => true,
           fab := { s.fab with txns := s.fab.txns.map fun t => match t.what with
             | .line c i => if c = snapCmd then { t with what := .line (snapCmd + 1) i } else t
             | _ => t } }

/-- SNAPSHOT_ABORT (R438, R440). -/
def execSnapshotAbort (s : State) : Out :=
  if s.snap.state ≠ 1 then .next s
  else
    let s := s.snapForget
    .next ((List.range s.snapCount).foldl (fun (s : State) i =>
      match s.snapEnt i with
      | some (e, s) => if e.st ≤ 1 then (if s.snap.mode then s else s.snapClear e.tenant e.src).snapMark i 3 0 else s
      | none => s) s).snapEnd

/-! ## Copies (R440) -/

/-- How a copy of a page ended. -/
inductive SnapGot where
  | ok
  /-- sent to another module -/
  | sent
  | wait
  | stop (code : Nat)
  deriving DecidableEq, Repr

/-- Hold a copy for a replayable fault (R214). -/
def State.snapHold (s : State) (i die tenant va code span flags access : Nat) : State :=
  (s.tteHold (20 * die + 15) tenant (va / 65536) span 0 0#64 0#64 (.line snapCmd i) code flags access va).getD s

/-- Resolve a page for a copy: a place, or what else. -/
def State.snapPlace (s : State) (i die tenant va : Nat) (d : Dir) : ((Place × Bool) ⊕ SnapGot) × State :=
  let a := snapAsker tenant i
  let kept := s.walkRes.find? fun r => r.asker == engineWave snapCmd && r.vpn == va / 65536
  match kept with
  | some r => (.inr (.stop (match r.res with | .error c _ => c | _ => cPermission)), { s with walkRes := s.walkRes.erase r })
  | none =>
    match s.walkResolve a d va with
    | (.ok p _ disc, s) => (.inl (p, disc), s)
    | (.refused c, s) => (.inr (.stop c), s)
    | (.walkError c _, s) => (.inr (.stop c), s)
    | (.faults c sp fl _, s) => (.inr .wait, s.snapHold i die tenant va c sp fl (if d = .load then 4 else 5))
    | (_, s) => (.inr .wait, s)

/-- Send a page to another module, 128 bytes a packet (R423, R428). -/
def State.snapSend (s : State) (i die tenant dev pa : Nat) (b : List Byte) : Option State :=
  (List.range 512).foldl (fun o j =>
    o.bind fun (s : State) =>
      let at_ := pa + 128 * j
      let p : Packet := { dst := dev, srcDev := 0, src := srcOf 1 (16 * die + 15), xtag := 0, op := .write, scope := 5, release := false,
                          retry := false, unlocked := false, tenant := tenant, minor := 0, len := 128, addr := at_, causal := 0#64,
                          sent := 0#64, opnd := 0#64, data := (b.drop (128 * j)).take 128 }
      s.newTxn true (planeOfPa at_) 0 p (.line snapCmd i)) (some s)

/-- Has the page been written in a double-buffer epoch (R439)? -/
def State.snapSpoilt (s : State) (key : Nat) : Bool := s.snap.mode && s.snap.touched.contains (key / 65536)

/-- Copy a page of a tenant, plaintext under its keys. (DEDUCED, unsafe: notes/assumptions/42.md) -/
def State.snapCopy (s : State) (i die tenant src dst : Nat) : SnapGot × State :=
  if s.heldFor (.line snapCmd i) then (.wait, s)
  else match s.snapPlace i die tenant src .load with
    | (.inr x, s) => (x, s)
    | (.inl (.mem k, disc), s) =>
      (match if disc then none else s.readError k 65536 with
       | some c => (.stop c, s.findErrors k 65536 tenant 0#64)
       | none =>
         match s.snapPlace i die tenant dst .store with
         | (.inr x, s) => (x, s)
         | (.inl (.mem d, _), s) => (.ok, { s with mem := if s.snapSpoilt k then memPuts s.mem d s.spoiltPage else if disc then memZero s.mem d 65536 else memCopy s.mem k d 65536 })
         | (.inl (.remote dev pa, _), s) =>
           let b := if s.snapSpoilt k then s.spoiltPage else if disc then List.replicate 65536 0#8 else memGets s.mem k 65536
           (match s.snapSend i die tenant dev pa b with
            | some s => (.sent, s)
            | none => (.wait, s))
         | (.inl (.avenue _, _), s) => (.stop cPermission, s))
    | (.inl _, s) => (.stop cPermission, s)

/-- A copy has failed: SNAP is cleared and the entry is FAILED with the code (R440). -/
def State.snapFail (s : State) (i : Nat) (e : SnapEnt) (code : Nat) : State :=
  (if s.snap.mode then s else s.snapClear e.tenant e.src).snapMark i 3 code

/-- Does a held write wait for the copy of an entry's page (R348)? -/
def State.snapWanted (s : State) (e : SnapEnt) : Bool := !(s.snapFaults e.tenant e.src).isEmpty

/-- SNAPSHOT_STAGE_DONE (R440): the first write has reached a pending page that the drain has not: the page is staged, and its held writes proceed. -/
def execSnapshotStageDone (entry : Nat) (s : State) : Out :=
  if s.snap.state ≠ 1 || s.snap.mode || entry ≤ s.snap.cur then .next s
  else match s.snapEnt entry with
    | none => .next s
    | some (e, s) =>
      if e.st ≠ 0 || !s.snapWanted e || s.snapLate e.tenant e.src then .next s
      else match s.snapCopy entry (s.snapDie e.tenant e.src) e.tenant e.src e.stage with
        | (.ok, s) => .next (((s.dropHeld (.line snapCmd entry)).snapClear e.tenant e.src).snapMark entry 1 0)
        | (.stop c, s) => .next ((s.dropHeld (.line snapCmd entry)).snapFail entry e c)
        | (.sent, s) => .next (s.snapFail entry e cPermission)
        | (.wait, s) => .next s

/-- The drain goes on to the next entry, or ends the epoch. -/
def State.snapNext (s : State) : State :=
  let s := { s with snap := { s.snap with cur := s.snap.cur + 1, sent := false, code := 0 } }
  if s.snap.cur ≥ s.snapCount then s.snapEnd else s

/-- The entry's copy has been performed at system scope. -/
def State.snapDrained (s : State) (e : SnapEnt) : State :=
  let i := s.snap.cur
  let s := s.dropHeld (.line snapCmd i)
  let s := if e.st = 0 && !s.snap.mode then s.snapClear e.tenant e.src else s
  (s.snapMark i 2 0).snapNext

/-- SNAPSHOT_DRAIN_DONE (R440): the drain copies its entry's page, or its staged copy, to DEST; a copy to another module is performed when every packet
has been answered. -/
def execSnapshotDrainDone (s : State) : Out :=
  if s.snap.state ≠ 1 then .next s
  else match s.snapEnt s.snap.cur with
    | none => .next s
    | some (e, s) =>
      let i := s.snap.cur
      if e.st ≥ 2 then .next s.snapNext
      else if s.snapLate e.tenant e.src then .next s
      else if s.snap.sent then
        if s.fab.txns.any fun t => t.what == .line snapCmd i then .next s
        else if s.snap.code ≠ 0 then .next ((s.snapFail i e s.snap.code).snapNext)
        else .next (s.snapDrained e)
      else
        let from_ := if e.st = 1 then e.stage else e.src
        match s.snapCopy i (s.snapDie e.tenant from_) e.tenant from_ e.dest with
        | (.ok, s) => .next (s.snapDrained e)
        | (.sent, s) => .next { s with snap := { s.snap with sent := true } }
        | (.stop c, s) => .next ((s.dropHeld (.line snapCmd i)).snapFail i e c).snapNext
        | (.wait, s) => .next s

/-! ## Group rebuild (R444) -/

/-- Bytes of a group block: group number, entry, rank words, to the next 64-B boundary. -/
def rebuildBlock (nranks : Nat) : Nat := (64 + 4 * nranks + 63) / 64 * 64

/-- The offset of the first block. -/
def rebuildBlocks (ndev : Nat) : Nat := (64 + 2 * ndev + 63) / 64 * 64

/-- The length of a list, by the blocks' NRANKS; none when it cannot be read. -/
def State.rebuildLen : Nat → State → Nat → Nat → Option Nat
  | 0, _, _, off => some off
  | n + 1, s, base, off =>
    match s.sysRead (base + off + 36) 2 with
    | (.ok k, s) => State.rebuildLen n s base (off + rebuildBlock k)
    | (.error _, _) => none

/-- A packet of a list: bytes from `off` on. -/
def rebuildPkt (dev off total : Nat) (d : List Byte) : Packet :=
  { dst := dev, srcDev := 0, src := srcOf 11 0, xtag := 0, op := .coll, scope := 5, release := true, retry := false, unlocked := false,
    tenant := 0, minor := 0, len := d.length, addr := 2 ^ 55 + total % 2 ^ 27 * 2 ^ 27 + off, causal := 0#64, sent := 0#64, opnd := 0#64, data := d }

/-- Send the list to a device, 4,096 bytes a packet, over the ordered channel. A module that the list names beside the others gets its own. -/
def State.rebuildSend (s : State) (id : Nat) (b : List Byte) (dev : Nat) : State :=
  if dev = s.device then { s with rebuildIn := s.rebuildIn ++ [⟨0, b.length, { rebuildPkt dev 0 b.length b with srcDev := dev }⟩] }
  else (List.range ((b.length + 4095) / 4096)).foldl (fun (s : State) j =>
    let p := rebuildPkt dev (4096 * j) b.length ((b.drop (4096 * j)).take 4096)
    (s.newTxn false (planeOfDev dev) (parityOf 12 dev) p (.rebuild id)).getD s) s

/-- GROUP_REBUILD (R444): a write of GRP_REBUILD; ignored in host-assisted mode, and left at its port while a rebuild runs. -/
def execGroupRebuild (v : DWord) (s : State) : Out :=
  let base := v.toNat / 64 % 2 ^ 46 * 64
  if !s.dpr.getLsbD 8 || s.rebuild.isSome then .next s
  else match s.sysRead base 64 with
    | (.error _, s) => .next s
    | (.ok h, s) =>
      let b := natToBytes 64 h
      let nd := fld b 0 2
      let ng := fld b 2 2
      if nd = 0 || nd > 256 || ng = 0 || ng > 4096 then .next s
      else match State.rebuildLen ng s base (rebuildBlocks nd) with
        | none => .next s
        | some len =>
          match s.sysRead base len with
          | (.error _, s) => .next s
          | (.ok v, s) =>
            let all := natToBytes len v
            let devs := (List.range nd).map fun i => fld all (64 + 2 * i) 2 % 4096
            let id := s.newId
            let s := { id.2 with rebuild := some ⟨id.1, base, devs.map fun d => (d, s.gtc), false, false⟩ }
            .next (devs.foldl (fun s d => s.rebuildSend id.1 all d) s)

/-- Apply one group of a list: whether it is refused. -/
def State.rebuildGroup (s : State) (g : Nat) (entry ranks : List Byte) : Bool × State :=
  let old := s.groupOf g
  if fld entry 0 4 ≤ old.version then (false, s)
  else if old.nranks = 0 || old.nranks ≠ fld entry 4 2 then (true, s)
  else
    let pa := s.grpBase.toNat / 2 ^ 21 % 2 ^ 31 * 2 ^ 21 + 32 * g
    let e := entry.take 8 ++ natToBytes 8 old.ranksPa ++ entry.drop 16
    let s := (s.regionPut 0 pa e).regionPut 0 old.ranksPa ranks
    (false, match execGroupReload g s with | .next s => s | _ => s)

/-- The groups of a rebuild list. -/
def rebuildNums : Nat → List Byte → List Nat
  | 0, _ => []
  | n + 1, b => fld b 0 2 :: rebuildNums n (b.drop (rebuildBlock (fld b 36 2)))

/-- Apply the blocks from an offset on: how many are refused. -/
def State.rebuildApply : Nat → State → List Byte → Nat → Nat × State
  | 0, s, _, no => (no, s)
  | n + 1, s, b, no =>
    let k := fld b 36 2
    let r := s.rebuildGroup (fld b 0 2) ((b.drop 32).take 32) ((b.drop 64).take (4 * k))
    State.rebuildApply n r.2 (b.drop (rebuildBlock k)) (if r.1 then no + 1 else no)

/-- Acknowledge a piece of a list: how many groups have been refused (R444). -/
def State.rebuildAck (s : State) (p : Packet) (no : Nat) : State :=
  if p.srcDev = s.device then s.rebuildSeen ((s.rebuild.map fun r => r.id).getD 0) s.device no
  else (s.keyPut p true [s.replyTo p (no * 256) []]).sendBare (s.replyTo p (no * 256) [])

/-- REBUILD_LIST_ARRIVAL (R444): a list has come whole from a device: each group is applied, refused or ignored, and the list is acknowledged with the count
of refused groups. -/
def execRebuildListArrival (dev : Nat) (s : State) : Out :=
  let mine := (s.rebuildIn.filter fun r => r.pkt.srcDev == dev).mergeSort fun a b => decide (a.off ≤ b.off)
  match mine with
  | [] => .next s
  | r :: _ =>
    let b := mine.flatMap fun r => r.pkt.data
    -- a new version is the highest row of R252: it does not come after a lower row of the same cycle
    let gs := rebuildNums (fld b 2 2) (b.drop (rebuildBlocks (fld b 0 2)))
    if b.length < r.total || gs.any (fun g => (List.range 16).any fun cle => s.collLate cle g 0) then .next s
    else
      let x := State.rebuildApply (fld b 2 2) s (b.drop (rebuildBlocks (fld b 0 2))) 0
      let s := { x.2 with rebuildIn := x.2.rebuildIn.filter fun r => r.pkt.srcDev != dev }
      .next (mine.foldl (fun (s : State) r => s.rebuildAck r.pkt x.1) s)

/-- REBUILD_ACK_TIMEOUT (R444): a device has not acknowledged within 1 ms. -/
def execRebuildAckTimeout (dev : Nat) (s : State) : Out :=
  match s.rebuild with
  | none => .next s
  | some r =>
    let late (w : Nat × DWord) : Bool := w.1 == dev && decide ((s.gtc - w.2).toNat ≥ 1250000)
    if r.waits.any late then .next ({ s with rebuild := some { r with waits := r.waits.filter fun w => !late w, missed := true } } : State).rebuildSettle
    else .next s

end Sys2Proof.Machine
end

