-- ==== Sys2Proof/Machine/Power.lean ====
section
/-!
DEFINITION. Resets, boot, power and the management registers (spec/21_bring_up.md, R447 to R454, R458).
-/
namespace Sys2Proof.Machine

/-! ## Resets (R447 to R450) -/

/-- Does the boot of R450 wait? -/
def State.booting (s : State) : Bool := s.power.devWait || s.power.recWait

/-- A link after boot: trained on 16 lanes and not keyed; its count of replays stays (R430, R450). -/
def bootLink (s : State) (n : Nat) : Nat × LinkSt := (n, { LinkSt.reset with state := 2, replays := (s.fab.link n).replays })

/-- Boot steps 420 to 440 (R450): the stored device number takes effect (R454), links train, the RESET record is written, READY. -/
def State.boot420 (s : State) : State :=
  let s := { s with device := s.power.devno.toNat % 4096, fab := { s.fab with links := (List.range 16).map (bootLink s) } }
  let s := s.resetRecord s.power.lastReset
  { s with power := { s.power with devWait := false, ready := true } }

/-- Boot step 410 (R450): tenant 0 is keyed with a key set drawn anew (R355); without a valid device number the module waits. -/
def State.boot410 (s : State) : State :=
  let s := { s with keyed := [0], sec := { s.sec with keys := [(0, KeySet.drawn s.free)] } }
  if s.power.devno.getLsbD 15 then s.boot420 else { s with power := { s.power with devWait := true } }

/-- Boot from step 40: an image that does not verify waits for a recovery image. (DEDUCED, unsafe: notes/assumptions/44.md) -/
def State.boot (s : State) (ok : Bool) : State :=
  if ok then s.boot410 else { s with power := { s.power with recWait := true, devWait := false } }

/-- What every reset keeps: the counters of the root of trust (R447), the model's own fields, and memory that is not the module's. (DEDUCED, unsafe: notes/assumptions/43.md) -/
def State.resetKeep (s : State) : State :=
  { State.reset with
    tape := s.tape, cur := s.cur, free := s.free, stamp := s.stamp, nextId := s.nextId, msi := s.msi, hostOut := s.hostOut,
    mem := s.mem.filter fun c => isPostedKey c.1, version := s.version, traceEpoch := s.traceEpoch, keyed := [],
    sec := { Sec.reset with nextSession := s.sec.nextSession, leaf := s.sec.leaf, reports := s.sec.reports } }

/-- POWER_ON (R447, R450): everything is cleared and the module boots; `ok`: the image in flash verifies. It overrides anything that runs (R449). (DEDUCED, unsafe: notes/assumptions/44.md) -/
def execPowerOn (ok : Bool) (s : State) : Out :=
  .next ({ s.resetKeep with power := { Power.reset with devWait := false } }.boot ok)

/-- MEM_RECODE takes effect (R160): SPILL above CARVE, or CARVE above the capacity of 9,216 units, acts as 0 for both. -/
def recodeEffect (v : DWord) : DWord :=
  if v.toNat / 65536 % 65536 > v.toNat % 65536 || v.toNat % 65536 > hbmBytes / 2 ^ 26 then 0#64 else v &&& 0xFFFFFFFF#64

/-- What a warm reset keeps beside that (R447): the GTC, the Dusk store with what is on its way to it, event and error counters, PWR_DEVNO, the
replays of each link, allocations of the Avenue, MEM_RECODE. (DEDUCED, unsafe: notes/assumptions/43.md) -/
def State.warmKeep (s : State) (code : Nat) : State :=
  let e := s.evr
  let cores := s.cores.map fun c => (c.1, { CoreSt.reset with cntSel := c.2.cntSel, cntVal := c.2.cntVal })
  let evr := { Recorder.reset with
    stepped := e.stepped && e.timeCtl.toNat % 4 == 0, hubs := e.hubs, mgmt := e.mgmt, holdHubs := true, dusk := e.dusk, wptr := e.wptr, lost := e.lost,
    turn := e.turn, dieCnt := e.dieCnt, counted := e.counted, hostNext := e.hostNext }
  { s.resetKeep with
    gtc := s.gtc, device := s.device, cores := cores, evr := evr, evq := s.evq, errs := s.errs,
    recode := s.recode &&& 0xFFFFFFFF#64, recodeNow := recodeEffect s.recode,
    fab := { Fabric.reset with links := s.fab.links, window := s.fab.window },
    power := { Power.reset with devWait := false, lastReset := code, devno := s.power.devno, throttle := s.power.throttle, pending := s.power.pending } }

/-- A warm reset or firmware reload is performed now, or waits until the boot that runs has ended (R449). (DEDUCED, unsafe: notes/assumptions/43.md) -/
def State.warm (s : State) (code : Nat) (ok : Bool) : State :=
  if s.booting then { s with power := { s.power with pending := s.power.pending ++ [(code, ok)] } } else (s.logReports.warmKeep code).boot ok

/-- A boot that waited goes on. Resets that were asked for meanwhile are performed unless they keep more than it (R449): none after a power-on. -/
def State.resume (s : State) (go : State → State) : State :=
  let s := go s
  if s.booting then s
  else
    let ps := s.power.pending
    let s := { s with power := { s.power with pending := [] } }
    if s.power.lastReset = 0 then s else ps.foldl (fun s p => s.warm p.1 p.2) s

/-- WARM_RESET (R447): PWR_RESET.CMD 1, or a hot reset on H0. -/
def execWarmReset (ok : Bool) (s : State) : Out := .next (s.warm 1 ok)
/-- FIRMWARE_RELOAD (R447): PWR_RESET.CMD 2. -/
def execFirmwareReload (ok : Bool) (s : State) : Out := .next (s.warm 4 ok)

/-- Accesses to host memory that are outstanding on a port. Which port an access to host memory takes is not stated: a free choice. -/
def State.onPort (s : State) : List Access :=
  s.flight.filter fun a =>
    a.st == .waiting && !(a.after.any s.unperformed) && (match a.place with | .mem k => decide (hostBase ≤ k) | _ => false) &&
    Config.freeBit s.free (8000 + a.id)

/-- A function-level reset (R448): the port's streams and sessions go, what waits for the host on it fails as a failed transaction does (R432), and the
RESET record is written. A boot that runs keeps less: the reset is discarded (R449). (DEDUCED, unsafe: notes/assumptions/44.md) -/
def State.flr (s : State) (port code : Nat) : State :=
  if s.booting then s
  else
    let s := s.onPort.foldl (fun s a => s.accessEnd a.id cPoison []) s
    let s := { s with sec := { s.sec with sessions := s.sec.sessions.filter fun x => x.port != port, ide := s.sec.ide.filter fun x => x.port != port } }
    ({ s with power := { s.power with lastReset := code } } : State).resetRecord code

/-- FLR_H0, FLR_H1 (R447, R448). -/
def execFlrH0 (s : State) : Out := .next (s.flr 0 2)
def execFlrH1 (s : State) : Out := .next (s.flr 1 3)

/-- THERMAL_TRIP (R451): a die junction at 115 °C removes module power, with no record. -/
def execThermalTrip (temp : Nat) (s : State) : Out :=
  .next (if temp < 115 then s else { s with powered := false, evr := { s.evr with dusk := [] } })

/-- POWER_REMOVAL (R380): the module stops, and the Dusk store loses its contents. (DESIGN CHOICE, safe: notes/assumptions/50.md) -/
def execPowerRemoval (s : State) : Out := .next { s with powered := false, evr := { s.evr with dusk := [] } }

/-! ## Clocks (R451, R452) -/

/-- MAX of an island as it acts: 0 as 1, above 64 as 64. -/
def islCeil (x : Nat) : Nat := max 1 (min 64 x)

/-- Has a core no resident work: no wave, no entry of its matrix engine, no request in its Roundabout? -/
def State.coreIdle (s : State) (c : Nat) : Bool :=
  !(s.waves.any fun w => coreOf w.1 == c) && (s.engine c).queue.isEmpty && (s.core c).calls.isEmpty

/-- An island has no resident work, and is gated (R11, R452): an idle core, a quad link whose cores are idle, an engine without commands. -/
def State.gated (s : State) (isl : Nat) : Bool :=
  if isl < 320 then s.coreIdle isl
  else if isl < 400 then (List.range 4).all fun i => s.coreIdle (4 * (isl - 320) + i)
  else if isl < 464 then s.queued (srcOf 1 (isl - 400)) == 0
  else if isl < 496 then s.queued (srcOf 2 (isl - 464)) == 0
  else s.queued (srcOf 3 (isl - 496)) == 0

/-- The die of an island (R10, R11). -/
def islDie (isl : Nat) : Nat :=
  if isl < 320 then isl / 80
  else if isl < 400 then (isl - 320) / 20
  else if isl < 464 then (isl - 400) / 16
  else if isl < 496 then (isl - 464) / 8
  else (isl - 496) / 4

/-- CUR of PWR_ISLn (R452): 0 while it is gated, else no higher than MAX, the power cap's level and a throttled die's. -/
def State.islCur (s : State) (isl : Nat) : Nat :=
  if s.gated isl then 0
  else min (islCeil (tabGetD s.power.islMax isl 64)) (min s.power.capLevel (tabGetD s.power.throttle (islDie isl) 64))

/-- JUNCTION_THROTTLE (R451): a die junction at 105 °C or more lowers that die's ceilings, to a level that the spec leaves open. (DESIGN CHOICE, safe: notes/assumptions/45.md) -/
def execJunctionThrottle (die temp level : Nat) (s : State) : Out :=
  if temp < 105 then .next s
  else
    let old := tabGetD s.power.throttle (die % 4) 64
    .next { s with power := { s.power with throttle := tabPut s.power.throttle (die % 4) (max 1 (min level (old - 1))),
                                           temps := tabPut s.power.temps (die % 4) (temp % 256) } }

/-- THROTTLE_END (R451): the junction has fallen below 100 °C. (DESIGN CHOICE, safe: notes/assumptions/45.md) -/
def execThrottleEnd (die temp : Nat) (s : State) : Out :=
  if temp ≥ 100 then .next s
  else .next { s with power := { s.power with throttle := tabErase s.power.throttle (die % 4), temps := tabPut s.power.temps (die % 4) temp } }

/-- POWER_CAP_ADJUST (R451): a window of 1 ms ends at `watts`. Above the cap, clocks are lowered: a level that all islands stay under takes the most from the
islands that stand highest. Below it they may rise again. By how much is open. (DESIGN CHOICE, safe: notes/assumptions/45.md) -/
def execPowerCapAdjust (watts level : Nat) (s : State) : Out :=
  let w := watts % 4096
  let l := if w > s.power.cap then max 1 (min level (s.power.capLevel - 1)) else min 64 (max level s.power.capLevel)
  .next { s with power := { s.power with watts := w, capLevel := l } }

/-! ## The device number and the recovery window (R454, R458) -/

/-- DEVNO_WRITE (R454): at boot step 410 a valid number takes effect at once; else it is stored for the next boot. -/
def execDevnoWrite (v : Word) (s : State) : Out :=
  let s := { s with power := { s.power with devno := v &&& 0x8FFF#32 } }
  .next (if s.power.devWait && v.getLsbD 15 then s.resume State.boot420 else s)

/-- The image in the recovery window: SIZE bytes from offset 0x40. -/
def State.recoveryImage (s : State) (size : Nat) : List Byte := (List.range size).map fun i => tabGetD s.power.recovery (0x40 + i) 0#8

/-- RECOVERY_GO (R458): the control word with GO starts verification; an image that verifies runs, and boot goes on. -/
def execRecoveryGo (v : DWord) (s : State) : Out :=
  let size := v.toNat % 2 ^ 24
  if !s.power.recWait || !v.getLsbD 63 || size > 16777152 then .next s
  else
    let image := s.recoveryImage size
    if Config.imageVerifies image && decide (Config.fuseMinVersion ≤ Config.imageVersion image) then
      .next ({ s with power := { s.power with recWait := false, recovery := [] },
                      sec := { s.sec with fwDigest := Config.imageDigest image, fwVersion := Config.imageVersion image } }.resume State.boot410)
    else .next s

end Sys2Proof.Machine
end

