-- ==== Sys2Proof/Machine/Host.lean ====
section
/-!
DEFINITION. Requests of a host: BAR2 and AtomicOps (spec/15_tenancy_and_trust.md, R356; R205), and requests before READY (R450).
-/
namespace Sys2Proof.Machine

/-- A request of up to 4,096 bytes that crosses no 4 KiB boundary is one TLP (R436). -/
def isTlp (addr n : Nat) : Bool := decide (0 < n) && decide (addr % 4096 + n ≤ 4096)

/-- The number of a host's write among those that wait for spill space (M). -/
def hostSpill (port key : Nat) : Nat := (70000000000 + port % 2) * 2 ^ 64 + key

/-- Write for a host, as a writer of class 7 (R172): a write that finds no spill space waits at its memory controller (R160), one that a write of this
cycle with a higher source has come before waits for the next cycle; both are made again. -/
def State.hostPut (s : State) (port key tenant : Nat) (data : List Byte) (answer : State → State) : State :=
  if s.writeLateIn key (srcOf 7 (port % 2)) then s
  else if s.needsSpill key data then s.spillHold (hostSpill port key) key tenant 0#64
  else answer ((((s.storeInWindows key data.length).plainWrite key data).writeServed key (srcOf 7 (port % 2))).spillFree (hostSpill port key))

/-- A request that reaches local memory, the pool or a host. -/
def State.hostAt (s : State) (port key tenant : Nat) (posted : Bool) (n : Nat) (data : List Byte) : State :=
  if posted then
    let s := s.findPart key n tenant 0#64
    if (s.writeError key n).isSome then s else s.hostPut port key tenant data id
  else
    match s.readError key n with
    | some _ => (s.findErrors key n tenant 0#64).hostAnswer port 2 []
    | none => (s.findErrors key n tenant 0#64).hostAnswer port 0 (memGets s.mem key n)

/-- HOST_BAR2_PA_REQUEST (R356): a request without PASID reaches local HBM by physical address, as tenant 0. (DEDUCED, unsafe: notes/assumptions/46.md) -/
def execHostBar2PaRequest (port : Nat) (posted : Bool) (addr n : Nat) (data : List Byte) (s : State) : Out :=
  if !s.power.ready then .next (if posted then s.countEarly else s.hostAnswer port 1 [])
  else if !isTlp addr n || (posted && data.length != n) || addr ≥ hbmBytes then .next (s.hostAnswerIf posted port 1)
  else match s.sysCheck addr with
    | none => .next (s.hostFault port 0 addr cPermission posted)
    | some t => .next (t.hostAt port addr 0 posted n data)

/-- Does the port take requests for this tenant: a PASID below 1,024, and a selective stream whose keys come from a session that the tenant opened? -/
def State.pasidOk (s : State) (port pasid : Nat) : Bool :=
  decide (pasid < 1024) && s.sec.ide.any fun x => x.port == port % 2 && x.kind == 1 && x.tenant == pasid

/-- A packet of a host's request to another module. -/
def hostPacket (port tenant dev : Nat) (op : PktOp) (minor addr n : Nat) (opnd : DWord) (data : List Byte) : Packet :=
  { dst := dev, srcDev := 0, src := srcOf 7 (port % 2), xtag := 0, op := op, scope := 5, release := false, retry := false, unlocked := false,
    tenant := tenant, minor := minor, len := n, addr := addr, causal := 0#64, sent := 0#64, opnd := opnd, data := data }

/-- A write or read that leads to another module goes there in pieces of one 128-B line (R336). (DESIGN CHOICE, unsafe: notes/assumptions/22.md) (DEDUCED, unsafe: notes/assumptions/46.md) -/
def State.hostRemote (s : State) (port tenant va dev pa : Nat) (posted : Bool) (n : Nat) (data : List Byte) : State :=
  let bounds := 0 :: ((List.range 33).map fun i => (pa / 128 + 1 + i) * 128 - pa).filter fun o => decide (o < n)
  s.hostSend port tenant va posted (bounds.map fun o =>
    let m := min (n - o) (128 - (pa + o) % 128)
    hostPacket port tenant dev (if posted then .write else .read) 0 (pa + o) m 0#64 (if posted then (data.drop o).take m else []))

/-- HOST_BAR2_PASID_REQUEST (R356): a request with PASID translates through the tenant's tables. One that must wait is made again. (DESIGN CHOICE, unsafe: notes/assumptions/39.md) -/
def execHostBar2PasidRequest (port pasid : Nat) (posted : Bool) (va n : Nat) (data : List Byte) (s : State) : Out :=
  if !s.power.ready then .next (if posted then s.countEarly else s.hostAnswer port 1 [])
  else if !isTlp va n || (posted && data.length != n) || !s.pasidOk port pasid || va ≥ 0xFE000000000000 then .next (s.hostAnswerIf posted port 1)
  else match s.translateNow (hostAsker port pasid) (if posted then .store else .load) 5 va with
    | (.ok (.mem key) _ disc, t) =>
      .next (if disc then (if posted then t else t.hostAnswer port 0 (List.replicate n 0#8))
        else t.hostAt port key pasid posted n data)
    | (.ok (.remote dev pa) _ disc, t) =>
      .next (if disc then (if posted then t else t.hostAnswer port 0 (List.replicate n 0#8)) else t.hostRemote port pasid va dev pa posted n data)
    | (.ok (.avenue _) _ _, t) => .next (t.hostFault port pasid va cPermission posted)
    | (.faults code _ fl _, t) => .next (t.hostFault port pasid va code posted 0 fl)
    | (.refused code, t) => .next (t.hostFault port pasid va code posted)
    | (.walkError code sp, t) => .next (t.hostFault port pasid va code posted sp)
    | (.shadowWait _, t) => .next t
    | (.miss _, t) => .next t

/-! ## AtomicOps (R205) -/

/-- SYSATOM of the page that the port's translation engine has just used. -/
def State.hostSysAtom (s : State) (port tenant addr : Nat) : Bool :=
  match tlbFind (s.tlb true (hostAsker port tenant).unit) tenant 0 (addr / 65536) with
  | some x => pteSysAtom x.leaf
  | none => false

/-- The AtomicOp at the word's home unit. -/
def State.hostAtomicAt (s : State) (port key tenant op n a b : Nat) : State :=
  match s.readError key n with
  | some _ => (s.findErrors key n tenant 0#64).hostAnswer port 2 []
  | none =>
    let s := s.findErrors key n tenant 0#64
    let old := s.rd key n
    s.hostPut port key tenant (natToBytes n (hostAtomicNew op n old a b)) fun s => s.hostAnswer port 0 (natToBytes n old)

/-- An AtomicOp that the page does not allow: Completer Abort, and an event. -/
def State.hostAtomRefused (s : State) (port tenant addr : Nat) : State :=
  (s.emit (srcOf 7 (port % 2)) 0x070 tenant 0#64 (BitVec.ofNat 64 (addr % 2 ^ 56))).hostAnswer port 2 []

/-- A word of another module: the operation goes to its home as an ATOM packet (DESIGN CHOICE, unsafe: notes/assumptions/22.md); the old value comes back. -/
def State.hostAtomicRemote (s : State) (port tenant va dev pa op n a b : Nat) : State :=
  s.hostSend port tenant va false [hostPacket port tenant dev .atom op pa n (BitVec.ofNat 64 a) (natToBytes 8 b)]

/-- An AtomicOp reads and writes its word: the page must allow both (R356). -/
def State.hostBoth (s : State) (w : Asker) (va : Nat) : Resolved × State :=
  match s.translateNow w .store 5 va with
  | (.ok p k d, s) => (match s.translateNow w .load 5 va with | (.ok _ _ _, s) => (.ok p k d, s) | x => x)
  | x => x

/-- HOST_ATOMICOP (R205): op 0 FetchAdd, 1 Swap, 2 CAS, on 4 or 8 bytes; a CAS of 16 bytes is unsupported. An address without PASID has no page, and so no
SYSATOM. (DEDUCED, unsafe: notes/assumptions/46.md) -/
def execHostAtomicop (port : Nat) (pasid : Option Nat) (addr op n a b : Nat) (s : State) : Out :=
  if !s.power.ready || op > 2 || (n != 4 && n != 8) || addr % n ≠ 0 then .next (s.hostAnswer port 1 [])
  else match pasid with
  | none =>
    if addr ≥ hbmBytes then .next (s.hostAnswer port 1 [])
    else (match s.sysCheck addr with
      | none => .next (s.hostFault port 0 addr cPermission false)
      | some t => .next (t.hostAtomRefused port 0 addr))
  | some p =>
    if !s.pasidOk port p || addr ≥ 0xFE000000000000 then .next (s.hostAnswer port 1 [])
    else match s.hostBoth (hostAsker port p) addr with
      | (.ok (.mem key) _ _, t) =>
        .next (if !t.hostSysAtom port p addr then t.hostAtomRefused port p addr else t.hostAtomicAt port key p op n a b)
      | (.ok (.remote dev pa) _ _, t) =>
        .next (if t.hostSysAtom port p addr then t.hostAtomicRemote port p addr dev pa op n a b else t.hostAtomRefused port p addr)
      | (.ok (.avenue _) _ _, t) => .next (t.hostAtomRefused port p addr)
      | (.faults code _ fl _, t) => .next (t.hostFault port p addr code false 0 fl)
      | (.refused code, t) => .next (t.hostFault port p addr code false)
      | (.walkError code sp, t) => .next (t.hostFault port p addr code false sp)
      | (.shadowWait _, t) => .next t
      | (.miss _, t) => .next t

/-! ## Before READY (R450) -/

/-- HOST_EARLY_ACCESS (R450): before READY a configuration request (0) is retried, a memory read (1) is unsupported, a write (2) is discarded and
counted. -/
def execHostEarlyAccess (port kind : Nat) (s : State) : Out :=
  if s.power.ready then .next s
  else .next (match kind with
    | 0 => s.hostAnswer port 3 []
    | 1 => s.hostAnswer port 1 []
    | _ => s.countEarly)

end Sys2Proof.Machine
end

