-- ==== Sys2Proof/Machine/Mem.lean ====
section
/-!
DEFINITION. Loads, stores, atomics, reductions, fences and prefetch, one definition per form (spec/08_memory_instructions.md, R193 to R208).
-/
namespace Sys2Proof.Machine

/-- LDV_N8 (R193): Loads one zero-extended byte per active lane. -/
def execLdvN8 (d a : BitVec 7) (k : BitVec 4) (o : BitVec 7) (s : State) : Out :=
  issue (.lanesA [vW d, vpR a]) s fun e =>
    e.ldv d a k o 1 false

/-- LDV_I8 (R193): Loads one sign-extended byte per active lane. -/
def execLdvI8 (d a : BitVec 7) (k : BitVec 4) (o : BitVec 7) (s : State) : Out :=
  issue (.lanesA [vW d, vpR a]) s fun e =>
    e.ldv d a k o 1 true

/-- LDV_N16 (R193): Loads one zero-extended half-word per active lane. -/
def execLdvN16 (d a : BitVec 7) (k : BitVec 4) (o : BitVec 7) (s : State) : Out :=
  issue (.lanesA [vW d, vpR a]) s fun e =>
    e.ldv d a k o 2 false

/-- LDV_I16 (R193): Loads one sign-extended half-word per active lane. -/
def execLdvI16 (d a : BitVec 7) (k : BitVec 4) (o : BitVec 7) (s : State) : Out :=
  issue (.lanesA [vW d, vpR a]) s fun e =>
    e.ldv d a k o 2 true

/-- LDV_32 (R193): Loads one 32-bit word per active lane. -/
def execLdv32 (d a : BitVec 7) (k : BitVec 4) (o : BitVec 7) (s : State) : Out :=
  issue (.lanesA [vW d, vpR a]) s fun e =>
    e.ldv d a k o 4 false

/-- LDV_64 (R193): Loads 64 bits per active lane into a register pair. -/
def execLdv64 (d a : BitVec 7) (k : BitVec 4) (o : BitVec 7) (s : State) : Out :=
  issue (.lanesA [vpW d, vpR a]) s fun e =>
    e.ldv d a k o 8 false

/-- LDV_128 (R193): Loads 128 bits per active lane into four registers. -/
def execLdv128 (d a : BitVec 7) (k : BitVec 4) (o : BitVec 7) (s : State) : Out :=
  issue (.lanesA [vqW d, vpR a]) s fun e =>
    e.ldv d a k o 16 false

/-- STV_8 (R198): Stores one byte per active lane with an order code. -/
def execStv8 (d a : BitVec 7) (k : BitVec 4) (o : BitVec 7) (s : State) : Out :=
  issue ((.lanesA [vR d, vpR a] : Form).need ((k.extractLsb' 0 3).toNat < 6) .badScope) s fun e =>
    e.stv d a k o 1

/-- STV_16 (R198): Stores one half-word per active lane. -/
def execStv16 (d a : BitVec 7) (k : BitVec 4) (o : BitVec 7) (s : State) : Out :=
  issue ((.lanesA [vR d, vpR a] : Form).need ((k.extractLsb' 0 3).toNat < 6) .badScope) s fun e =>
    e.stv d a k o 2

/-- STV_32 (R198): Stores one word per active lane. -/
def execStv32 (d a : BitVec 7) (k : BitVec 4) (o : BitVec 7) (s : State) : Out :=
  issue ((.lanesA [vR d, vpR a] : Form).need ((k.extractLsb' 0 3).toNat < 6) .badScope) s fun e =>
    e.stv d a k o 4

/-- STV_64 (R198): Stores 64 bits per active lane. -/
def execStv64 (d a : BitVec 7) (k : BitVec 4) (o : BitVec 7) (s : State) : Out :=
  issue ((.lanesA [vpR d, vpR a] : Form).need ((k.extractLsb' 0 3).toNat < 6) .badScope) s fun e =>
    e.stv d a k o 8

/-- STV_128 (R198): Stores 128 bits per active lane. -/
def execStv128 (d a : BitVec 7) (k : BitVec 4) (o : BitVec 7) (s : State) : Out :=
  issue ((.lanesA [vqR d, vpR a] : Form).need ((k.extractLsb' 0 3).toNat < 6) .badScope) s fun e =>
    e.stv d a k o 16

/-- LDS_32 (R194): Loads one 32-bit word into a scalar. -/
def execLds32 (d a : BitVec 7) (k : BitVec 4) (o : BitVec 7) (s : State) : Out :=
  issue (.waveA [sW d, pR a]) s fun e =>
    e.lds d a k o 4

/-- STS_32 (R198): Stores one scalar word with an order code. -/
def execSts32 (d a : BitVec 7) (k : BitVec 4) (o : BitVec 7) (s : State) : Out :=
  issue ((.waveA [sR d, pR a] : Form).need ((k.extractLsb' 0 3).toNat < 6) .badScope) s fun e =>
    e.sts d a k o 4

/-- LDS_64 (R194): Loads 64 bits into a scalar pair. -/
def execLds64 (d a : BitVec 7) (k : BitVec 4) (o : BitVec 7) (s : State) : Out :=
  issue (.waveA [pW d, pR a]) s fun e =>
    e.lds d a k o 8

/-- STS_64 (R198): Stores one scalar pair with an order code. -/
def execSts64 (d a : BitVec 7) (k : BitVec 4) (o : BitVec 7) (s : State) : Out :=
  issue ((.waveA [pR d, pR a] : Form).need ((k.extractLsb' 0 3).toNat < 6) .badScope) s fun e =>
    e.sts d a k o 8

/-- ATOM_ADD_I32 (R199): Returning atomic 32-bit integer add per active lane. -/
def execAtomAddI32 (sc : BitVec 2) (d a b : BitVec 7) (s : State) : Out :=
  issue ((.lanesA [vW d, vpR a, vR b] : Form).noComb) s fun e =>
    e.atom 0 sc d a b

/-- ATOM_ADD_F32 (R199): Returning atomic FP32 add. -/
def execAtomAddF32 (sc : BitVec 2) (d a b : BitVec 7) (s : State) : Out :=
  issue ((.lanesA [vW d, vpR a, vR b] : Form).noComb) s fun e =>
    e.atom 1 sc d a b

/-- ATOM_MIN_I (R199): Returning atomic signed minimum. -/
def execAtomMinI (sc : BitVec 2) (d a b : BitVec 7) (s : State) : Out :=
  issue ((.lanesA [vW d, vpR a, vR b] : Form).noComb) s fun e =>
    e.atom 2 sc d a b

/-- ATOM_MAX_I (R199): Returning atomic signed maximum. -/
def execAtomMaxI (sc : BitVec 2) (d a b : BitVec 7) (s : State) : Out :=
  issue ((.lanesA [vW d, vpR a, vR b] : Form).noComb) s fun e =>
    e.atom 3 sc d a b

/-- ATOM_MIN_N (R199): Returning atomic unsigned minimum. -/
def execAtomMinN (sc : BitVec 2) (d a b : BitVec 7) (s : State) : Out :=
  issue ((.lanesA [vW d, vpR a, vR b] : Form).noComb) s fun e =>
    e.atom 4 sc d a b

/-- ATOM_MAX_N (R199): Returning atomic unsigned maximum. -/
def execAtomMaxN (sc : BitVec 2) (d a b : BitVec 7) (s : State) : Out :=
  issue ((.lanesA [vW d, vpR a, vR b] : Form).noComb) s fun e =>
    e.atom 5 sc d a b

/-- ATOM_AND (R199): Returning atomic AND. -/
def execAtomAnd (sc : BitVec 2) (d a b : BitVec 7) (s : State) : Out :=
  issue ((.lanesA [vW d, vpR a, vR b] : Form).noComb) s fun e =>
    e.atom 6 sc d a b

/-- ATOM_OR (R199): Returning atomic OR. -/
def execAtomOr (sc : BitVec 2) (d a b : BitVec 7) (s : State) : Out :=
  issue ((.lanesA [vW d, vpR a, vR b] : Form).noComb) s fun e =>
    e.atom 7 sc d a b

/-- ATOM_XOR (R199): Returning atomic XOR. -/
def execAtomXor (sc : BitVec 2) (d a b : BitVec 7) (s : State) : Out :=
  issue ((.lanesA [vW d, vpR a, vR b] : Form).noComb) s fun e =>
    e.atom 8 sc d a b

/-- ATOM_XCHG (R199): Returning atomic exchange. -/
def execAtomXchg (sc : BitVec 2) (d a b : BitVec 7) (s : State) : Out :=
  issue ((.lanesA [vW d, vpR a, vR b] : Form).noComb) s fun e =>
    e.atom 9 sc d a b

/-- ATOM_CAS (R199): Returning atomic compare-and-swap. -/
def execAtomCas (sc : BitVec 2) (d a b : BitVec 7) (s : State) : Out :=
  issue ((.lanesA [vW d, vpR a, vpR b] : Form).noComb) s fun e =>
    e.atom 10 sc d a b

/-- ATOM_ADD_I64 (R199): Returning atomic 64-bit integer add. -/
def execAtomAddI64 (sc : BitVec 2) (d a b : BitVec 7) (s : State) : Out :=
  issue ((.lanesA [vpW d, vpR a, vpR b] : Form).noComb) s fun e =>
    e.atom 11 sc d a b

/-- ATOM_INCW (R199): Returning atomic wrapping increment. -/
def execAtomIncw (sc : BitVec 2) (d a b : BitVec 7) (s : State) : Out :=
  issue ((.lanesA [vW d, vpR a, vR b] : Form).noComb) s fun e =>
    e.atom 12 sc d a b

/-- ATOM_ADD_BF16X2 (R199): Returning atomic add of two packed BF16 halves. -/
def execAtomAddBf16x2 (sc : BitVec 2) (d a b : BitVec 7) (s : State) : Out :=
  issue ((.lanesA [vW d, vpR a, vR b] : Form).noComb) s fun e =>
    e.atom 13 sc d a b

/-- RED_ADD_I32 (R202): Non-returning atomic 32-bit integer add. -/
def execRedAddI32 (sc : BitVec 3) (a b : BitVec 7) (s : State) : Out :=
  issue (((.lanesA [vpR a, vR b] : Form).need (sc.toNat < 6) .badScope : Form).noComb) s fun e =>
    e.red 0 sc a b

/-- RED_ADD_F32 (R202): Non-returning atomic FP32 add. -/
def execRedAddF32 (sc : BitVec 3) (a b : BitVec 7) (s : State) : Out :=
  issue (((.lanesA [vpR a, vR b] : Form).need (sc.toNat < 6) .badScope : Form).noComb) s fun e =>
    e.red 1 sc a b

/-- RED_MIN_I (R202): Non-returning atomic signed minimum. -/
def execRedMinI (sc : BitVec 3) (a b : BitVec 7) (s : State) : Out :=
  issue (((.lanesA [vpR a, vR b] : Form).need (sc.toNat < 6) .badScope : Form).noComb) s fun e =>
    e.red 2 sc a b

/-- RED_MAX_I (R202): Non-returning atomic signed maximum. -/
def execRedMaxI (sc : BitVec 3) (a b : BitVec 7) (s : State) : Out :=
  issue (((.lanesA [vpR a, vR b] : Form).need (sc.toNat < 6) .badScope : Form).noComb) s fun e =>
    e.red 3 sc a b

/-- RED_MIN_N (R202): Non-returning atomic unsigned minimum. -/
def execRedMinN (sc : BitVec 3) (a b : BitVec 7) (s : State) : Out :=
  issue (((.lanesA [vpR a, vR b] : Form).need (sc.toNat < 6) .badScope : Form).noComb) s fun e =>
    e.red 4 sc a b

/-- RED_MAX_N (R202): Non-returning atomic unsigned maximum. -/
def execRedMaxN (sc : BitVec 3) (a b : BitVec 7) (s : State) : Out :=
  issue (((.lanesA [vpR a, vR b] : Form).need (sc.toNat < 6) .badScope : Form).noComb) s fun e =>
    e.red 5 sc a b

/-- RED_AND (R202): Non-returning atomic AND. -/
def execRedAnd (sc : BitVec 3) (a b : BitVec 7) (s : State) : Out :=
  issue (((.lanesA [vpR a, vR b] : Form).need (sc.toNat < 6) .badScope : Form).noComb) s fun e =>
    e.red 6 sc a b

/-- RED_OR (R202): Non-returning atomic OR. -/
def execRedOr (sc : BitVec 3) (a b : BitVec 7) (s : State) : Out :=
  issue (((.lanesA [vpR a, vR b] : Form).need (sc.toNat < 6) .badScope : Form).noComb) s fun e =>
    e.red 7 sc a b

/-- RED_XOR (R202): Non-returning atomic XOR. -/
def execRedXor (sc : BitVec 3) (a b : BitVec 7) (s : State) : Out :=
  issue (((.lanesA [vpR a, vR b] : Form).need (sc.toNat < 6) .badScope : Form).noComb) s fun e =>
    e.red 8 sc a b

/-- RED_XCHG (R202): Non-returning atomic exchange. -/
def execRedXchg (sc : BitVec 3) (a b : BitVec 7) (s : State) : Out :=
  issue (((.lanesA [vpR a, vR b] : Form).need (sc.toNat < 6) .badScope : Form).noComb) s fun e =>
    e.red 9 sc a b

/-- RED_CAS (R202): Non-returning atomic compare-and-swap. -/
def execRedCas (sc : BitVec 3) (a b : BitVec 7) (s : State) : Out :=
  issue (((.lanesA [vpR a, vpR b] : Form).need (sc.toNat < 6) .badScope : Form).noComb) s fun e =>
    e.red 10 sc a b

/-- RED_ADD_I64 (R202): Non-returning atomic 64-bit add. -/
def execRedAddI64 (sc : BitVec 3) (a b : BitVec 7) (s : State) : Out :=
  issue (((.lanesA [vpR a, vpR b] : Form).need (sc.toNat < 6) .badScope : Form).noComb) s fun e =>
    e.red 11 sc a b

/-- RED_INCW (R202): Non-returning atomic wrapping increment. -/
def execRedIncw (sc : BitVec 3) (a b : BitVec 7) (s : State) : Out :=
  issue (((.lanesA [vpR a, vR b] : Form).need (sc.toNat < 6) .badScope : Form).noComb) s fun e =>
    e.red 12 sc a b

/-- RED_ADD_BF16X2 (R202): Non-returning atomic add of two packed BF16 halves. -/
def execRedAddBf16x2 (sc : BitVec 3) (a b : BitVec 7) (s : State) : Out :=
  issue (((.lanesA [vpR a, vR b] : Form).need (sc.toNat < 6) .badScope : Form).noComb) s fun e =>
    e.red 13 sc a b

/-- FENCE_ACQ (R206): Acquire fence at a scope. -/
def execFenceAcq (sc : BitVec 3) (s : State) : Out :=
  issue ((.waveA [] : Form).need (sc.toNat < 6) .badScope) s fun e =>
    e.fence 0 sc

/-- FENCE_REL (R206): Release fence at a scope. -/
def execFenceRel (sc : BitVec 3) (s : State) : Out :=
  issue ((.waveA [] : Form).need (sc.toNat < 6) .badScope) s fun e =>
    e.fence 1 sc

/-- FENCE_ACQREL (R206): Acquire-release fence at a scope. -/
def execFenceAcqrel (sc : BitVec 3) (s : State) : Out :=
  issue ((.waveA [] : Form).need (sc.toNat < 6) .badScope) s fun e =>
    e.fence 2 sc

/-- FENCE_SC (R206): Sequentially consistent fence at a scope. -/
def execFenceSc (sc : BitVec 3) (s : State) : Out :=
  issue ((.waveA [] : Form).need (sc.toNat < 6) .badScope) s fun e =>
    e.fence 3 sc

/-- FENCE_OPND (R206): Operand-ready fence ordering stores before later engine entries. -/
def execFenceOpnd (sc : BitVec 3) (s : State) : Out :=
  issue ((.waveA [] : Form).need (sc.toNat < 6) .badScope) s fun e =>
    e.fence 4 sc

/-- FENCE_FLUSH (R206): Fence ordering the wave's UN-page accesses. -/
def execFenceFlush (sc : BitVec 3) (s : State) : Out :=
  issue ((.waveA [] : Form).need (sc.toNat < 6) .badScope) s fun e =>
    e.fence 5 sc

/-- FENCE_ENG (R206): Waits for the wave's COPY, GPOOL and COLL to complete and acquires their writes. -/
def execFenceEng (sc : BitVec 3) (s : State) : Out :=
  issue ((.waveA [] : Form).need (sc.toNat < 6) .badScope) s fun e =>
    e.fence 6 sc

/-- PFT (R208): Prefetch or drop hint for the line named by each active lane. -/
def execPft (a : BitVec 7) (h : BitVec 2) (o : BitVec 7) (s : State) : Out :=
  issue (.lanesA [vpR a]) s fun e => e.memGate .load false fun e =>
    let s := (lanesOf e.exec).foldl (fun s l => { e with s := s }.prefetch h.toNat (memAddr (e.v64 a l) o 128).toNat) e.s
    .next { e with s := s }.done

end Sys2Proof.Machine
end

