-- ==== Sys2Proof/Machine/Preempt.lean ====
section
/-!
DEFINITION. Pre-emption (spec/13_tasks_and_launch.md, R328, R329; 28_program_gathered_matmul.md, R471, R472; 16_event_recorder.md,
R392): choosing a victim, saving its block or gang, restoring it on another core. The save area is kept as data (`Saved`), for its
layout belongs to the launcher alone (DESIGN CHOICE, unsafe: notes/assumptions/13.md).
-/
namespace Sys2Proof.Machine

/-! ## PREEMPT_TRIGGER (R328) -/

/-- EN of LCH_PREEMPT. -/
def State.preemptOn (s : State) : Bool := s.lch.preempt.getLsbD 31

/-- The level that a block runs at: its record's. -/
def Block.level (b : Block) : Nat := b.entry.level

/-- Would a record fit some core once the blocks `ks` are gone? -/
def State.fitsWithout (s : State) (r : Ready) (ks : List Nat) : Bool :=
  let bs := ks.filterMap fun k => (tabGet? s.lch.blocks k).map fun b => (k, b)
  let s' := bs.foldl (fun s x => s.releaseBlock x.1 x.2) s
  let quads := (bs.map fun x => quadOf x.2.core).dedup
  quads.any fun q => (List.range 4).any fun i => (s'.fit r (4 * q + i)).1 != .no

/-- Does a record fit a core as things stand? -/
def State.fitsNow (s : State) (r : Ready) : Bool := (List.range 320).any fun c => (s.fit r c).1 != .no

/-- The blocks that may be victims of a record, as gangs, the first to be taken first: lowest level, then the one that started last. -/
def State.victimOrder (s : State) (r : Ready) : List (List Nat) :=
  let ok (x : Nat × Block) : Bool := decide (x.2.level ≤ r.level) && x.2.gang.find? (fun k => (tabGet? s.lch.blocks k).isSome) == some x.1 &&
    !(s.lch.victims.any fun v => x.2.gang.contains v.block)
  let le (x y : Nat × Block) : Bool :=
    decide (x.2.level < y.2.level) || (x.2.level == y.2.level && decide (x.2.order ≥ y.2.order))
  ((s.lch.blocks.filter ok).mergeSort le).map fun x => x.2.gang.filter fun k => (tabGet? s.lch.blocks k).isSome

/-- May a record pre-empt now? -/
def State.mayPreempt (s : State) (r : Ready) : Bool :=
  s.preemptOn && (decide (r.level ≥ 20) || decide ((s.gtc - r.since).toNat ≥ s.waitTicks)) &&
    !(s.lch.victims.any fun v => v.for_ == r.id) && !s.fitsNow r

/-- PREEMPT_TRIGGER (R328): a record that fits no core takes its victim: a commit task aborts (R323), any other block is to be saved. -/
def execPreemptTrigger (id : Nat) (s : State) : Out :=
  match s.lch.ready.find? fun r => r.id == id with
  | none => .next s
  | some r =>
    if !s.mayPreempt r then .next s
    else match (s.victimOrder r).find? fun g => s.fitsWithout r g with
      | none => .next s
      | some g =>
        let b := (g.head?.bind fun k => tabGet? s.lch.blocks k)
        match b, b.bind fun b => s.task? b.task with
        | some b, some t =>
          if t.commit then .next (s.abortTask b.task 0)
          else .next { s with lch := { s.lch with victims := s.lch.victims ++ g.map fun k => ({ block := k, for_ := id } : Victim) } }
        | _, _ => .next s

/-! ## PREEMPT_SAVE (R329) -/

/-- Is this operation one whose wait the save cancels: an arrival that cannot be counted yet, a P that waits for a permit? -/
def HomeOp.cancels (h : HomeOp) (s : State) : Bool :=
  h.reply.isNone && ((h.cls == 0 && h.stuck.isSome) || (h.cls == 1 && h.minor == 1 && s.waiters.any fun w => w.key == h.key && w.wave == h.wave))

/-- Has the wave come to rest (steps 1 and 2)? Its calls to deterministic objects are waited for in step 3 (`calls`). The entries of the matrix engine are not waited for (R471). (DEDUCED, unsafe: notes/assumptions/31.md) -/
def State.restful (s : State) (k : Nat) (w : Wave) (calls : Bool := true) : Bool :=
  let rest (st : Stream) : Bool := st.exited || st.clause.isNone || st.wait.isSome
  rest w.a && rest w.c && w.trapping.isNone && w.deferred.isEmpty && w.callo.all (fun c => !calls && c.det) && w.late.all (fun l => l.engine || l.done) &&
    !s.waveBusy k && (s.fences.all fun f => f.wave != k || s.fenceDone f) &&
    (s.homeOps.all fun h => h.wave != k || h.cancels s) &&
    (s.fab.txns.all fun t => match t.what with | .avctl x _ _ _ _ => x != k | _ => true)

/-- Can the engine entries of a block be stopped where they stand: all loops, none that has run its last step (R147, R471)? -/
def State.engineStops (s : State) (key : Nat) (b : Block) : Bool :=
  (s.blockEntries b key).all fun x => match x.op with
    | .loop l _ => !(x.started && decide (l.next ≥ l.stop)) && !x.bad
    | _ => false

/-- May the whole gang be saved now? -/
def State.saveReady (s : State) (bs : List (Nat × Block)) (calls : Bool := true) : Bool :=
  bs.all fun x => (x.2.waves.all fun k => ((s.wave? k).map fun w => s.restful k w calls).getD true) && s.engineStops x.1 x.2 &&
    (s.lch.victims.any fun v => v.block == x.1) && !((s.blockWaves x.2).all fun w => w.ended)

/-- Pages of 64 KiB that a block takes in the save pool (DESIGN CHOICE, unsafe: notes/assumptions/13.md). -/
def State.savePages (s : State) (key : Nat) (b : Block) : Nat :=
  let blocks := ((s.blockWaves b).map fun w => w.blocks.length).sum
  let bytes := blocks * 2048 + b.waves.length * 1024 + b.granules.length * 4096 +
    if (s.engine b.core).holder = some key then 132096 else 0
  (bytes + 65535) / 65536

/-- Pages that the save pool still has. (DESIGN CHOICE, unsafe: notes/assumptions/13.md) -/
def State.saveFree (s : State) : Nat := s.lch.save.toNat % 65536 - (s.lch.saved.map fun x => x.2.pages).sum

/-- Close the trace of a stream for a save; it resumes with the next SEQ (R392). -/
def State.traceSave (s : State) (k : Nat) (cs : Bool) : State :=
  match s.wave? k with
  | none => s
  | some w =>
    match (w.stream cs).trace with
    | none => s
    | some t =>
      let r := s.traceFin k cs t.lastSlot 2
      let kept := r.1.map fun t => { t with data := [], resync := false, needSync := true, lastSlot := 0 }
      r.2.updWave k fun w => w.updStream cs fun st => { st with trace := kept }

/-- A wait that the save keeps: a wait at a barrier, which is issued again; every other word tries again (R329). (DEDUCED, unsafe: notes/assumptions/31.md) -/
def keptWait (x : Option Wait) : Option Wait :=
  match x with
  | some ⟨.barrier k p f a, t⟩ => some ⟨.barrier k p f a, t⟩
  | _ => none

/-- The wave as it is saved. -/
def Wave.saved (w : Wave) : Wave :=
  let st (x : Stream) : Stream := { x with wait := keptWait x.wait, readySince := none, aged := false, yielded := false }
  { w with a := st w.a, c := st w.c, ctx := w.ctx.map fun c => { c with aWait := keptWait c.aWait } }

/-- The engine of a block with its loops stopped. -/
def Engine.saved (g : Engine) : Engine :=
  let q := g.queue.map fun (x : EngineEntry) => { x with started := false, phase := 0, op := (match x.op with | .loop l _ => .loop l none | o => o) }
  { g with queue := q, claim := [] }

/-- A block leaves the issue ports, and the pool's requests. -/
def State.leavePorts (s : State) (ks : List Nat) : State :=
  ks.foldl (fun s k =>
    let c := s.core (coreOf k)
    let free (x : Option (Nat × Bool)) : Option (Nat × Bool) := match x with | some y => if y.1 = k then none else some y | none => none
    let ports := Vector.ofFn fun i : Fin 4 =>
      let p := c.ports[i.val]
      { p with cur := free p.cur, aged := p.aged.filter fun x => x.1 != k, afterBatch := p.afterBatch.filter fun x => x.1 != k }
    s.setCore (coreOf k) { c with ports := ports, vacq := c.vacq.filter fun r => r.wave != k }) s

/-- Step 3 of R329: the block of a deterministic task passes a flush point; where some of its waves have gone ahead, all that they have reached. Its later
FLUSHAs mark the points after it. (DEDUCED, unsafe: notes/assumptions/31.md) -/
def State.passVictim (s : State) (key : Nat) (b : Block) : State :=
  let most := ((s.blockWaves b).map fun w => w.flushes).foldl max b.flushed
  let n := most - b.flushed + 1
  let s := (List.range n).foldl (fun s _ => match tabGet? s.lch.blocks key, s.task? b.task with
    | some b, some t => s.passFlush key b t
    | _, _ => s) s
  { s with lch := { s.lch with
      blocks := tabPut s.lch.blocks key { b with epoch0 := b.epoch0 + n },
      victims := s.lch.victims.map fun v => if v.block = key then { v with passed := true } else v } }

/-- Must the block of a deterministic task still pass its flush point? -/
def State.mustPass (s : State) (key : Nat) (b : Block) : Bool :=
  ((s.task? b.task).map fun t => t.det).getD false && !(s.lch.victims.any fun v => v.block == key && v.passed)

/-- Frames of the save pool that no save area takes (R457); each is a system frame (R355). -/
def State.saveFrames (s : State) (n : Nat) : List Nat :=
  let base := s.lch.save.toNat / 65536 % 2 ^ 36
  (((List.range (s.lch.save.toNat % 65536)).map fun i => base + i).filter fun f => !(s.lch.saved.any fun x => x.2.frames.contains f)).take n
def State.bindSystem (s : State) (fs : List Nat) : State := fs.foldl (fun s f => (s.sysCheck (f * 65536)).getD s) s

/-- Save one block (steps 4 to 6): what is saved, and the state without it. (DESIGN CHOICE, unsafe: notes/assumptions/13.md) -/
def State.saveBlock (s : State) (key : Nat) (b : Block) : Saved × State :=
  let pages := s.savePages key b
  let s := b.waves.foldl (fun s k => ((s.leaveWaiters k).traceSave k false).traceSave k true) s
  let t := s.task? b.task
  let frames := s.saveFrames pages
  let s := s.bindSystem frames
  let holds := decide ((s.engine b.core).holder = some key)
  let ent : EngineEntry :=
    { id := 0, wave := 0, block := key, task := b.task, tenant := (t.map fun t => t.tenant).getD 0, causal := 0#64, cs := false,
      tracks := [], pc := 0#64, slot := 0, lanes := 0#32, op := .save 0#64 none, started := true, phase := 0, redirect := none,
      places := [], after := [], bad := false, held := false }
  let lo := plazaKey b.core 0
  let bars := (s.barWords.filter fun y => b.granules.any fun n => decide (lo + n % 80 * 4096 ≤ y.1) && decide (y.1 < lo + n % 80 * 4096 + 4096)).map
    fun y => (y.1 - lo, y.2)
  let s := if holds then (s.accAll b.core ent).2 else s
  let g := s.engine b.core
  let ws := b.waves.filterMap fun k => (s.wave? k).map fun w => (slotOf k, w)
  -- reading the registers finds their errors; the poison is saved with them (R411)
  let found := ws.foldl (fun (acc : List (Nat × Wave) × State) x =>
    let r := acc.2.findVec b.core x.2 (List.range (16 * x.2.blocks.length)) 0xFFFFFFFF#32
    (acc.1 ++ [(x.1, r.1.saved)], r.2)) ([], s)
  let bytes := b.granules.map fun n => memGets found.2.mem (plazaKey b.core (n % 80 * 4096)) 4096
  let quad := match found.1.head?.bind fun x => x.2.redirect with
    | some r => r.1
    | none => quadOf b.core
  let x : Saved :=
    { block := b, waves := found.1, bytes := bytes, engine := if holds then some g.saved else none, quad := quad, pages := pages, frames := frames, bars := bars }
  let s := found.2.leavePorts b.waves
  let s := if holds then s.setEngine b.core { s.engine b.core with queue := [] } else s
  let fin := { s with cores := tabUpd s.cores b.core fun (c : CoreSt) =>
    { c with engine := { c.engine with queue := c.engine.queue.filter fun (e : EngineEntry) => e.block != key } } }
  (x, fin.releaseBlock key b)

/-- PREEMPT_SAVE (R329): once a victim's whole gang has come to rest, it is saved, freed, and its record goes to the head of its level. -/
def execPreemptSave (block : Nat) (s : State) : Out :=
  match tabGet? s.lch.blocks block with
  | none => .next s
  | some b =>
    let bs := b.gang.filterMap fun k => (tabGet? s.lch.blocks k).map fun x => (k, x)
    let need := (bs.map fun x => s.savePages x.1 x.2).sum
    if s.saveReady bs false && bs.any fun x => s.mustPass x.1 x.2 then
      .next ((bs.filter fun x => s.mustPass x.1 x.2).foldl (fun s x => s.passVictim x.1 x.2) s)
    else if !s.saveReady bs || decide (need > s.saveFree) then .next s
    else
      let r := bs.foldl (fun (acc : List (Nat × Saved) × State) x =>
        let y := acc.2.saveBlock x.1 x.2
        let z := { y.2 with lch := { y.2.lch with saved := tabPut y.2.lch.saved x.1 y.1 } }
        (acc.1 ++ [(x.1, y.1)], z)) ([], s)
      let s := r.2
      let id := s.newId
      let entry := (bs.head?.map fun x => x.2.entry).getD b.entry
      let x : Ready := { id := id.1, entry := entry, since := s.gtc, lifted := 0, passed := none, reserved := [],
                         saved := r.1.map Prod.fst, front := true, addr := 0 }
      let s := id.2
      .next { s with lch := { s.lch with ready := x :: s.lch.ready } }

/-! ## PREEMPT_RESTORE (R329, R472) -/

/-- Where the slots of a saved block went: old wave key to new. -/
def remapWave (m : List (Nat × Nat)) (k : Nat) : Nat := ((m.find? fun x => x.1 == k).map Prod.snd).getD k

/-- A wait at a barrier is issued again as a WAIT or WAITP on its phase (R329). (DEDUCED, unsafe: notes/assumptions/31.md) -/
def State.reissue (s : State) (k : Nat) (w : Wave) (inCtx : Bool) : State :=
  match w.waitAt false inCtx with
  | some ⟨.barrier key phase promise addr, t⟩ =>
    let key := if isPlazaVa addr.toNat then plazaOf w.redirect (addr.toNat - plazaWin) else key
    let id := s.newId
    let h : HomeOp := { op := id.1, wave := k, cls := 0, minor := if promise then 6 else 2, key := key, addr := addr, arg := phase,
                        dest := 0#7, causal := w.causal, lanes := 0#32, stuck := none, reply := none }
    { id.2 with homeOps := id.2.homeOps ++ [h] }.updWave k fun w => w.setWait false inCtx (some ⟨.reply id.1, t⟩)
  | _ => s

/-- A trace that resumes in the middle of a clause begins with its SYNC at once, else at the next boundary (R392). -/
def State.traceResume (s : State) (k : Nat) (w : Wave) : State :=
  let s := if w.a.clause.isSome then s.traceBoundary k false else s
  if w.c.clause.isSome then s.traceBoundary k true else s

/-- Restore one saved wave in a slot. -/
def State.restoreWave (s : State) (core slot : Nat) (w : Wave) (redirect : Option (Nat × Nat)) : State :=
  let c := s.core core
  let n := w.blocks.length
  let k := 48 * core + slot
  let w' := { w with blocks := c.freeBlocks.take n, redirect := redirect }
  let s := ((s.setCore core { c with freeBlocks := c.freeBlocks.drop n }).setWave k w').traceResume k w'
  let s := s.wroteElems core w' 0 (16 * n)
  let s := s.reissue k w' false
  if w'.ctx.isSome then s.reissue k w' true else s

/-- Restore the engine of a block: it becomes the holder, and the loops resume (R472). -/
def State.restoreEngine (s : State) (core old key : Nat) (g : Engine) (m : List (Nat × Nat)) (redirect : Option (Nat × Nat)) : State :=
  let track (t : Track) : Track := { t with wave := remapWave m t.wave }
  let op (o : EngineOp) : EngineOp := match o with | .loop l i => .loop (l.rebase old core) i | o => o
  let q := g.queue.map fun (x : EngineEntry) =>
    { x with wave := remapWave m x.wave, fenced := remapWave m x.fenced, tracks := x.tracks.map track, op := op x.op, redirect := redirect }
  let wins : List EngineWindow := q.map fun y =>
    { id := y.id, tracks := y.tracks, reads := ((loopOf y).map (s.loopReads core redirect y.seen)).getD [],
      writes := [], elems := ((loopOf y).map fun l => tileElems l.desc).getD [], book := none, spoiled := false }
  s.setEngine core { g with holder := some key, claim := (s.engine core).claim, queue := q, windows := wins }

/-- Restore one saved block on a core under a new key. -/
def State.restoreBlock (s : State) (core key : Nat) (gang : List Nat) (x : Saved) : State :=
  let b := x.block
  let redirect := if x.quad = quadOf core then none else some (x.quad, quadOf core)
  let tenant := ((s.task? b.task).map fun t => t.tenant).getD 0
  let slots := (s.freeSlots core).take x.waves.length
  let m := (x.waves.zip slots).map fun (y : (Nat × Wave) × Nat) => (48 * b.core + y.1.1, 48 * core + y.2)
  let gs := b.granules.map fun n => 80 * core + n % 80
  let s := gs.foldl (fun s n => s.zeroGranules core (n % 80) 1) { s with granules := gs.foldl (fun t i => tabPut t i tenant) s.granules }
  let s := { s with mem := (gs.zip x.bytes).foldl (fun t (y : Nat × List Byte) => memPuts t (plazaKey core (y.1 % 80 * 4096)) y.2) s.mem,
                    barWords := x.bars.foldl (fun t (y : Nat × BarNote) => tabPut t (plazaKey core 0 + y.1) y.2) s.barWords }
  let nb := { b with core := core, waves := m.map (fun (y : Nat × Nat) => y.2), granules := gs, gang := gang, started := s.gtc, order := key }
  let s := { s with lch := { s.lch with blocks := tabPut s.lch.blocks key nb } }
  let s := match x.waves with
    | y :: _ => s.codeIn tenant b.entry.code.toNat y.2.codeLo.toNat y.2.codeHi.toNat
    | [] => s
  let s := (x.waves.zip slots).foldl (fun s y => s.restoreWave core y.2 { y.1.2 with block := key } redirect) s
  let s := match x.engine with
    | some g => s.restoreEngine core b.core key
        { g with queue := g.queue.map fun (e : EngineEntry) => { e with block := key } } m redirect
    | none => s
  let flags := s.savedFlags.map fun (f : (Nat × Nat) × List StoppedLoop) => (f.1, f.2.map fun (l : StoppedLoop) =>
    { l with wave := remapWave m l.wave, fenced := remapWave m l.fenced, tracks := l.tracks.map fun (t : Track) => { t with wave := remapWave m t.wave } })
  { s with savedFlags := flags }.nearClear core

/-- Records of higher levels that this one is served before have been passed over (R314). -/
def State.notePassed (s : State) (r : Ready) : State :=
  let above := ((s.dispatchOrder.takeWhile fun x => x.id != r.id).filter fun x => decide (x.level > r.level)).map fun x => x.id
  { s with lch := { s.lch with ready := s.lch.ready.map fun x => if above.contains x.id && x.passed.isNone then { x with passed := some s.gtc } else x } }

/-- PREEMPT_RESTORE (R329): the first record in the order of service that fits this core is a saved one; it is restored. -/
def execPreemptRestore (core : Nat) (s : State) : Out :=
  if core ≥ 320 then .next s
  else match s.dispatchOrder.find? fun r => (s.fit r core).1 != .no with
    | none => .next s
    | some r =>
      if (s.fit r core).1 != .restore then .next s
      else
        let xs := s.savedCores r core
        let s := s.notePassed r
        let keys := (List.range xs.length).map fun i => s.nextId + i
        let s := { s with nextId := s.nextId + xs.length,
                          lch := { s.lch with ready := s.lch.ready.filter fun x => x.id != r.id,
                                              saved := s.lch.saved.filter fun y => !r.saved.contains y.1 } }
        .next ((xs.zip keys).foldl (fun s y => s.restoreBlock y.1.1 y.2 keys y.1.2) s)

end Sys2Proof.Machine
end

