-- ==== Sys2Proof/Machine/Registers.lean ====
section
/-!
DEFINITION. The register map of BAR0 and of the management interface (spec/21_bring_up.md, R453 to R458): what a write does, and what a read returns.
-/
namespace Sys2Proof.Machine

/-- The fields of a ring register (R340, R406, R446), of a base register, of LCH_SHADOW and LCH_SAVE (R457). -/
def ringMask : DWord := 0xC00FFFFFFFFFF01F#64
def baseMask : DWord := 0x000FFFFFFFFFF000#64
def poolMask : DWord := 0x000FFFFFFFFFFFFF#64

/-- Does the image in flash verify at a reset that a register write starts? It is not state of the model: a free choice. -/
def State.flashOk (s : State) : Bool := Config.freeBit s.free 8400

/-! ## Management registers (R453) -/

/-- A write of a PWR register, by its management offset. Other offsets are read-only or unassigned. -/
def State.pwrWrite (s : State) (o : Nat) (v : Word) : Out :=
  match o with
  | 0x08 =>
    if v.toNat % 4 = 1 then execWarmReset s.flashOk s
    else if v.toNat % 4 = 2 then execFirmwareReload s.flashOk s
    else .next s
  | 0x0C => .next { s with power := { s.power with cap := max 800 (min 2800 (v.toNat % 4096)) } }
  | 0x20 => .next { s with power := { s.power with fuseSel := v.toNat % 16 } }
  | 0x28 => execDevnoWrite v s
  | _ => .next s

/-- PWR_FUSE: word w of die d's map of disabled cores. -/
def State.pwrFuse (s : State) : Nat :=
  let w := s.power.fuseSel / 4
  let x := (Config.fuseWord s.power.fuseSel).toNat
  if w = 3 then 0 else if w = 2 then x % 2 ^ 20 else x

/-- PWR_STATUS. -/
def State.pwrStatus (s : State) : Nat :=
  b2n s.power.ready + 2 * b2n s.power.recWait + 4 * b2n (!s.power.throttle.isEmpty) + 8 * b2n s.power.devWait + 256 * (s.power.lastReset % 8) +
    4096 * s.power.early

/-- A read of a PWR register, by its management offset. -/
def State.pwrRead (s : State) (o : Nat) : Nat :=
  match o with
  | 0x00 => s.device % 4096 + Config.serial.toNat % 2 ^ 20 * 4096
  | 0x04 => s.pwrStatus
  | 0x0C => s.power.cap
  | 0x10 => s.power.watts
  | 0x14 => (List.range 4).foldl (fun x d => x + tabGetD s.power.temps d 0 * 256 ^ d) 0
  | 0x18 => (Config.coolant s.free).toNat % 65536
  | 0x1C => s.pwrFuse
  | 0x20 => s.power.fuseSel
  | 0x24 => s.sec.fwVersion.toNat
  | 0x28 => s.power.devno.toNat
  | _ => 0

/-! ## The recovery window (R458) -/

/-- A write into the window: the control word at offset 0, the image from offset 0x40. -/
def State.recoveryWrite (s : State) (port o size : Nat) (v : DWord) : Out :=
  if port ≠ 0 || !s.power.recWait then .next s
  else if o = 0 && size = 8 then execRecoveryGo v s
  else if o < 0x40 then .next s
  else
    let w := (natToBytes size v.toNat).zipIdx.foldl (fun t x => tabPut t (o + x.2) x.1) s.power.recovery
    .next { s with power := { s.power with recovery := w } }

/-! ## 32-bit registers -/

/-- The number of the register in an array of slots. -/
def slotIn (slot base step n : Nat) : Option Nat :=
  if base ≤ slot && slot < base + step * n && (slot - base) % step == 0 then some ((slot - base) / step) else none

/-- FAB_LINKn.CMD (R430). Which lanes a retraining finds failed is a free value. -/
def State.linkCommand (s : State) (n : Nat) (v : Word) : Out :=
  let failed := Config.freeWord s.free 8500
  match v.toNat / 256 % 4 with
  | 1 => execLinkCmd16 n failed s
  | 2 => execLinkCmdLow n failed s
  | 3 => execLinkCmdHigh n failed s
  | _ => .next s

/-- ERR_STATn (R410): OVF is cleared by writing 1, IRQ is stored. -/
def State.errStat (s : State) (n : Nat) (v : Word) : State :=
  let l := tabGetD s.errs n ErrLog.reset
  { s with errs := tabPut s.errs n { l with ovf := l.ovf && !v.getLsbD 31, irq := v.getLsbD 0 } }

/-- CNT_SEL of a core's counter, and of a die's (R382). -/
def State.coreSel (s : State) (c k : Nat) (v : Word) : State :=
  s.setCore c { s.core c with cntSel := (s.core c).cntSel.setIfInBounds k (v &&& 0x8FFFFFFF#32) }
def State.dieSel (s : State) (i : Nat) (v : Word) : State :=
  { s with evr := { s.evr with dieCnt := tabPut s.evr.dieCnt i (v &&& 0x8FFFFFFF#32, (tabGetD s.evr.dieCnt i (0#32, 0#64)).2) } }

/-- A write to CNT_VAL stores the value and what the counter has counted in the same cycle, the overflows of that with it (R382). -/
def State.newVal (s : State) (i : Nat) (v : DWord) : Nat := v.toNat % 2 ^ 48 + tabGetD s.evr.counted i 0
def State.coreVal (s : State) (c k : Nat) (v : DWord) : State :=
  let n := s.newVal (coreCounter c k) v
  (s.setCore c { s.core c with cntVal := (s.core c).cntVal.setIfInBounds k (BitVec.ofNat 64 (n % 2 ^ 48)) }).overflow (decide (n ≥ 2 ^ 48)) c k State.count
def State.dieVal (s : State) (i : Nat) (v : DWord) : State :=
  let n := s.newVal (dieCounter i) v
  let x := (tabGetD s.evr.dieCnt i (0#32, 0#64)).1
  ({ s with evr := { s.evr with dieCnt := tabPut s.evr.dieCnt i (x, BitVec.ofNat 64 (n % 2 ^ 48)) } } : State).overflow
    (decide (n ≥ 2 ^ 48)) (srcOf 11 0) (256 + i % 64) State.count

/-- Which counter of a core or a die a slot names: (core or die, number, whether CNT_VAL). -/
def counterAt (slot base step per n : Nat) : Option (Nat × Nat × Bool) :=
  if base ≤ slot && slot < base + step * n then
    let o := (slot - base) % step
    if o / 16 < per then some ((slot - base) / step, o / 16, o % 16 == 8) else none
  else none

/-- A write of a 32-bit register, by its slot; none where the slot holds none. -/
def State.write32 (s : State) (slot : Nat) (v : Word) : Option Out :=
  match slot with
  | 0x0010 => some (.next { s with lch := { s.lch with cqSize := v &&& 0x1F#32 } })
  | 0x0028 => some (.next { s with lch := { s.lch with preempt := v &&& 0x8000FFFF#32 } })
  | 0x4008 => some (execGroupReload (v.toNat % 65536) s)
  | 0x5010 => some (.next { s with waitRegs := { s.waitRegs with stale := v } })
  | 0x7000 => some (.next { s with dpr := v &&& 0x1FF#32 })
  | 0x7100 => some (execErrorInjectArm v s)
  | _ =>
    match slotIn slot 0x6100 8 16, slotIn slot 0x10010 0x1000 7, slotIn slot 0x21000 8 512 with
    | some n, _, _ => some (s.linkCommand n v)
    | _, some n, _ => some (.next (s.errStat n v))
    | _, _, some n => some (.next { s with power := { s.power with islMax := tabPut s.power.islMax n (v.toNat / 256 % 256) } })
    | _, _, _ =>
      match counterAt slot 0x100000 0x80 8 320, counterAt slot 0x110000 0x400 64 4 with
      | some (c, k, false), _ => some (.next (s.coreSel c k v))
      | _, some (d, k, false) => some (.next (s.dieSel (64 * d + k) v))
      | _, _ => none

/-! ## 64-bit registers -/

/-- TRN_REPLAY (R342). A TOKEN or FAIL whose ARG has more than 32 bits names no entry. -/
def State.replayWrite (s : State) (v : DWord) : Out :=
  let arg := v.toNat % 2 ^ 40
  let tenant := v.toNat / 2 ^ 52 % 1024
  match v.toNat / 2 ^ 62 with
  | 0 => execReplayToken arg s
  | 1 => execReplayPage tenant arg s
  | 2 => execReplayTenant tenant s
  | _ => execReplayFail arg (v.toNat / 2 ^ 44 % 256) s

/-- TRN_INVAL (R337). -/
def State.invalWrite (s : State) (v : DWord) : Out :=
  if v.getLsbD 63 then execTrnInvalAll s
  else if v.getLsbD 62 then execTrnInvalTenant (v.toNat / 2 ^ 52 % 1024) s
  else execTrnInvalRange (v.toNat / 2 ^ 52 % 1024) (v.toNat / 2 ^ 40 % 4096) (v.toNat % 2 ^ 40) s

/-- Is a ring that a register places enabled (R340)? -/
def ringEnabled (v : DWord) : Bool := v.toNat / 2 ^ 62 != 3 && decide (8 ≤ v.toNat % 32) && decide (v.toNat % 32 ≤ 20)

/-- TRN_FBASE (R340): once the ring is enabled, a later record that finds it disabled emits FAULT_RING_OFF again. -/
def State.faultBaseWrite (s : State) (v : DWord) : State :=
  { s with faultBase := v &&& ringMask, faultOff := s.faultOff && !ringEnabled v }

/-- MEM_SNAPCTL (R438). While an epoch is active, a write acts only by its CMD. -/
def State.snapWrite (s : State) (v : DWord) : Out :=
  match v.toNat / 2 ^ 60 % 4 with
  | 1 => execSnapshotStart v s
  | 2 => execSnapshotAbort s
  | _ => .next (if s.snap.state = 1 then s
      else { s with snap := { s.snap with mode := v.getLsbD 57, list := v.toNat / 64 % 2 ^ 46 * 64 } })

/-- EVR_TIMECTL.SRC (R370): with a new source nothing has been measured yet, and the first lock is still to come. -/
def State.timeWrite (s : State) (v : DWord) : State :=
  let src := v.toNat % 4
  let old := s.evr.timeCtl.toNat
  if src = old % 4 then s
  else { s with evr := { s.evr with timeCtl := BitVec.ofNat 64 (old / 8 * 8 + src), stepped := false } }

/-- A write of a 64-bit register, by its slot; an offset that R456 does not assign, or assigns to a read-only register, discards it. -/
def State.write64 (s : State) (slot : Nat) (v : DWord) : Out :=
  match slot with
  | 0x0000 => .next { s with lch := { s.lch with qtab := v &&& baseMask } }
  | 0x0008 => .next { s with lch := { s.lch with cqBase := v &&& baseMask } }
  | 0x0018 => .next { s with lch := { s.lch with shadow := v &&& poolMask } }
  | 0x0020 => .next { s with lch := { s.lch with save := v &&& poolMask } }
  | 0x0100 => execDoorbell v s
  | 0x0108 => execDoorbell v s
  | 0x0110 => execDoorbell v s
  | 0x0118 => execDoorbell v s
  | 0x1000 => .next { s with trnRoot := v &&& 0x000FFFFFFFFFE000#64 }
  | 0x1008 => s.invalWrite v
  | 0x1018 => .next (s.faultBaseWrite v)
  | 0x1020 => execFaultRingHead (loHalf v) s
  | 0x1028 => s.replayWrite v
  | 0x2000 => .next (s.kcmd v)
  | 0x2018 => execAvquotaWrite v s
  | 0x3000 => .next { s with recode := v &&& 0xFFFFFFFF#64 }
  | 0x3008 => s.snapWrite v
  | 0x4000 => .next { s with grpBase := v &&& 0x000FFFFFFFE00001#64 }
  | 0x4010 => execGroupRebuild v s
  | 0x5000 => execWaitSnapshot v s
  | 0x5018 => execWaitGather v s
  | 0x5020 => .next { s with waitRegs := { s.waitRegs with rbase := v &&& ringMask } }
  | 0x5028 => execCurfewRingHead (loHalf v) s
  | 0x5030 => .next { s with waitRegs := { s.waitRegs with auto := v &&& 0xF80FFFFFFFFFF1FF#64 } }
  | 0x6000 => execPlaneMapWrite v s
  | 0x6008 => .next { s with fab := { s.fab with peerBase := v &&& 0x800FFFFFFFFFF000#64 } }
  | 0x7108 => .next { s with inj := { s.inj with loc := v.toNat } }
  | 0x8000 => .next (s.timeWrite v)
  | 0x8018 => .next { s with evr := { s.evr with didx := v } }
  | 0x8020 => .next { s with evr := { s.evr with hostRing := v &&& ringMask } }
  | 0x8028 => execHostRingHead (loHalf v) s
  | _ =>
    match slotIn slot 0x10008 0x1000 7, counterAt slot 0x100000 0x80 8 320, counterAt slot 0x110000 0x400 64 4 with
    | some n, _, _ => execErrorLogHead n (loHalf v) s
    | _, some (c, k, true), _ => .next (s.coreVal c k v)
    | _, _, some (d, k, true) => .next (s.dieVal (64 * d + k) v)
    | _, _, _ => .next s

/-- A write through BAR0 of a port. -/
def State.portWrite (s : State) (port off size : Nat) (v : DWord) : Out :=
  let pwr := decide (0x20000 ≤ off) && decide (off < 0x20058)
  if !s.power.ready && !pwr && !(port = 0 && s.power.recWait && off ≥ 0x1000000) then .next s.countEarly
  else if (size ≠ 4 && size ≠ 8) || off % size ≠ 0 || off ≥ 2 ^ 25 then .next s
  else if off ≥ 0x1000000 then s.recoveryWrite port (off - 0x1000000) size v
  else if off % 8 ≠ 0 then .next s
  else if pwr then s.pwrWrite ((off - 0x20000) / 2) (loHalf v)
  else match s.write32 off (loHalf v) with
    | some o => o
    | none => if size = 8 then s.write64 off v else .next s

/-- REGISTER_WRITE (R455, R456): a write of 4 or 8 aligned bytes through BAR0 of port 0 or 1, or of a 32-bit register through the management interface,
port 2. A 32-bit register takes the low half of its slot; a 64-bit one takes only a write of 8 bytes. Before READY only the PWR block and, in the recovery
wait, its window act; every other write is counted (R450, R458). Of one cycle's writes those of H0 come first: one of H0 that comes too late waits. -/
def execRegisterWrite (port off size : Nat) (v : DWord) (s : State) : Out :=
  if port ≥ 2 then s.pwrWrite off (loHalf v)
  else if s.tooLate 5 0 port then .next s
  else (s.serve 5 0 port).portWrite port off size v

/-! ## Reads -/

/-- The 64 bits of a slot, as a read of the register returns them: write-only fields and unassigned slots read 0. -/
def State.slotRead (s : State) (slot : Nat) : Nat :=
  match slot with
  | 0x0000 => s.lch.qtab.toNat
  | 0x0008 => s.lch.cqBase.toNat
  | 0x0010 => s.lch.cqSize.toNat
  | 0x0018 => s.lch.shadow.toNat
  | 0x0020 => s.lch.save.toNat
  | 0x0028 => s.lch.preempt.toNat
  | 0x1000 => s.trnRoot.toNat
  | 0x1010 => b2n (!s.invals.isEmpty) * 2 ^ 31 + s.invDone
  | 0x1018 => s.faultBase.toNat
  | 0x1020 => s.faultHead % 2 ^ 32 + s.faultTail % 2 ^ 32 * 2 ^ 32
  | 0x2008 => b2n (!s.sec.cmds.isEmpty) * 2 ^ 31 + s.sec.done
  | 0x2010 => s.sec.pvtBase.toNat / 2 ^ 16 % 2 ^ 36 * 2 ^ 16
  | 0x3000 => s.recode.toNat % 2 ^ 32 + s.spillUsed % 2 ^ 16 * 2 ^ 32
  | 0x3008 => s.snap.list + b2n s.snap.mode * 2 ^ 57 + s.snap.state * 2 ^ 58
  | 0x4000 => s.grpBase.toNat
  | 0x5008 => s.waitRegs.done + b2n s.waitRegs.trunc * 2 ^ 30 + b2n s.waitRegs.gather.isSome * 2 ^ 31
  | 0x5010 => s.waitRegs.stale.toNat
  | 0x5020 => s.waitRegs.rbase.toNat
  | 0x5028 => s.waitRegs.head % 2 ^ 32 + s.waitRegs.tail % 2 ^ 32 * 2 ^ 32
  | 0x5030 => s.waitRegs.auto.toNat
  | 0x6000 => s.fab.mapVersion * 2 ^ 32 + s.fab.dead * 2 ^ 24 + s.fab.map
  | 0x6008 => s.fab.peerBase.toNat
  | 0x7000 => s.dpr.toNat
  | 0x7100 => b2n s.inj.arm * 2 ^ 31 + b2n s.inj.uncorr * 2 ^ 30 + s.inj.log * 2 ^ 27 + s.inj.channel
  | 0x7108 => s.inj.loc
  | 0x8000 => s.evr.timeCtl.toNat
  | 0x8008 => s.evr.wptr
  | 0x8010 => s.evr.lost
  | 0x8018 => s.evr.didx.toNat
  | 0x8020 => s.evr.hostRing.toNat
  | 0x8028 => s.evr.hostHead % 2 ^ 32 + s.evr.hostTail % 2 ^ 32 * 2 ^ 32
  | _ =>
    match slotIn slot 0x6100 8 16, slotIn slot 0x21000 8 512, slotIn slot 0x20000 8 11 with
    | some n, _, _ => (s.fab.link n).state * 2 ^ 29 + (s.fab.link n).failed * 2 ^ 13 + (s.fab.link n).replays
    | _, some n, _ => s.islCur n * 2 ^ 16 + tabGetD s.power.islMax n 64 * 2 ^ 8
    | _, _, some n => s.pwrRead (4 * n)
    | _, _, _ =>
      let log (n : Nat) : ErrLog := tabGetD s.errs n ErrLog.reset
      match slotIn slot 0x10000 0x1000 7, slotIn slot 0x10008 0x1000 7, slotIn slot 0x10010 0x1000 7 with
      | some n, _, _ => (log n).count + (log n).dropped * 2 ^ 32
      | _, some n, _ => (log n).head + (log n).tail * 2 ^ 32
      | _, _, some n => b2n (log n).irq + b2n (log n).ovf * 2 ^ 31
      | _, _, _ =>
        match counterAt slot 0x100000 0x80 8 320, counterAt slot 0x110000 0x400 64 4 with
        | some (c, k, false), _ => ((s.core c).cntSel.getD k 0#32).toNat
        | some (c, k, true), _ => ((s.core c).cntVal.getD k 0#64).toNat
        | _, some (d, k, false) => (tabGetD s.evr.dieCnt (64 * d + k) (0#32, 0#64)).1.toNat
        | _, some (d, k, true) => (tabGetD s.evr.dieCnt (64 * d + k) (0#32, 0#64)).2.toNat
        | _, _ => 0

/-- The bytes of the windows EVR_DDATA (R381) and ERR_ENTRYn (R410); PWR_RECOVERY reads what it holds, in the recovery wait (R458). -/
def State.windowByte (s : State) (port off : Nat) : Option Byte :=
  if 0x9000 ≤ off && off < 0xA000 then some ((s.duskBytes (s.evr.didx.toNat + (off - 0x9000) / 32)).getD (off % 32) 0#8)
  else if 0x10000 ≤ off && off < 0x17000 && 0x800 ≤ off % 0x1000 then
    some ((tabGetD (tabGetD s.errs ((off - 0x10000) / 0x1000) ErrLog.reset).entries (off % 0x800 / 32) []).getD (off % 32) 0#8)
  else if 0x1000000 ≤ off then some (if port = 0 && s.power.recWait then tabGetD s.power.recovery (off - 0x1000000) 0#8 else 0#8)
  else none

/-- What a read of `size` aligned bytes of BAR0 returns; before READY only the PWR block and the recovery window answer (none: Unsupported Request). -/
def State.regRead (s : State) (port off size : Nat) : Option Nat :=
  if !s.power.ready && !(0x20000 ≤ off && off < 0x21000) && !(0x1000000 ≤ off && s.power.recWait && port = 0) then none
  else match s.windowByte port off with
    | some _ => some (bytesToNat ((List.range size).map fun i => (s.windowByte port (off + i)).getD 0#8))
    | none => some (s.slotRead (off / 8 * 8) / 2 ^ (8 * (off % 8)) % 2 ^ (8 * size))

/-- What a read of BAR0 leaves: one of EVR_DDATA finds the errors of the slots that it reads (R408, R413). -/
def State.regReads (s : State) (off size : Nat) : State :=
  if !s.power.ready || off < 0x9000 || 0xA000 ≤ off then s
  else ((List.range size).map fun i => s.evr.didx.toNat + (off + i - 0x9000) / 32).dedup.foldl State.duskFound s

end Sys2Proof.Machine
end

