-- ==== Sys2Proof/Decode.lean ====
section
/-!
DEFINITION. Instruction words: the decoder, total on any 32 bits and rejecting by name, and after it the encoder (spec/02_instruction_words.md,
R21 to R24, R36 to R38). Both are written from the encoding tables.
-/
namespace Sys2Proof

/-- The regions of the R-format (R21); every other format lays its fields over the same regions. -/
structure Raw where
  maj : BitVec 7
  d : BitVec 7
  a : BitVec 7
  b : BitVec 7
  mi : BitVec 4
  deriving DecidableEq, Repr

def Raw.ofWord (w : Word) : Raw :=
  ⟨w.extractLsb' 25 7, w.extractLsb' 18 7, w.extractLsb' 11 7, w.extractLsb' 4 7, w.extractLsb' 0 4⟩

def Raw.toWord (r : Raw) : Word := r.maj ++ r.d ++ r.a ++ r.b ++ r.mi

/-- `i` where the fields that must be zero are zero (R38). -/
def needZero (ok : Bool) (i : Instr) : Except Reject Instr := if ok then .ok i else .error .mustBeZero

/-- Major 0x00 (R36). -/
noncomputable def decode00 (r : Raw) : Except Reject Instr :=
  match (r.mi).toNat with
  | 0 => needZero (r.d == 0#7 && r.a == 0#7 && r.b == 0#7) (.nop)
  | 1 => needZero (r.d == 0#7 && r.a == 0#7 && r.b == 0#7) (.yield)
  | 2 => needZero (r.d == 0#7 && r.a == 0#7 && r.b == 0#7) (.exit)
  | 3 => needZero (r.d == 0#7 && r.a == 0#7 && r.b == 0#7) (.tret)
  | 4 => needZero (r.d == 0#7 && r.a == 0#7 && r.b == 0#7) (.roleL)
  | 5 => needZero (r.d == 0#7 && r.a == 0#7 && r.b == 0#7) (.roleS)
  | 6 => needZero (r.d == 0#7 && r.a == 0#7 && r.b == 0#7) (.flusha)
  | _ => .error .unlistedMinor

/-- Major 0x01 (R36). -/
noncomputable def decode01 (r : Raw) : Except Reject Instr :=
  .ok (.br (r.d.extractLsb' 2 5) (r.d.extractLsb' 0 2 ++ r.a ++ r.b ++ r.mi))

/-- Major 0x02 (R36). -/
noncomputable def decode02 (r : Raw) : Except Reject Instr :=
  needZero (r.d &&& 124#7 == 0#7) (.call (r.d.extractLsb' 0 2 ++ r.a ++ r.b ++ r.mi))

/-- Major 0x03 (R36). -/
noncomputable def decode03 (r : Raw) : Except Reject Instr :=
  match (r.mi).toNat with
  | 0 => needZero (r.d == 0#7 && r.b == 0#7) (.jmpi r.a)
  | 1 => needZero (r.d == 0#7 && r.b == 0#7) (.calli r.a)
  | 2 => needZero (r.d == 0#7 && r.a == 0#7 && r.b == 0#7) (.ret)
  | _ => .error .unlistedMinor

/-- Major 0x04 (R36). -/
noncomputable def decode04 (r : Raw) : Except Reject Instr :=
  needZero (r.mi &&& 8#4 == 0#4) (.jtab r.d r.a r.b (r.mi.extractLsb' 0 3))

/-- Major 0x05 (R36). -/
noncomputable def decode05 (r : Raw) : Except Reject Instr :=
  needZero (r.a &&& 120#7 == 0#7) (.fork r.d (r.a.extractLsb' 0 3) (r.b ++ r.mi))

/-- Major 0x06 (R36). -/
noncomputable def decode06 (r : Raw) : Except Reject Instr :=
  needZero (r.d == 0#7 && r.a == 0#7 && r.b == 0#7 && r.mi &&& 8#4 == 0#4) (.join (r.mi.extractLsb' 0 3))

/-- Major 0x07 (R36). -/
noncomputable def decode07 (r : Raw) : Except Reject Instr :=
  match (r.mi).toNat with
  | 0 => needZero (r.d == 0#7 && r.b == 0#7) (.mpush r.a)
  | 1 => needZero (r.d == 0#7 && r.a == 0#7 && r.b == 0#7) (.melse)
  | 2 => needZero (r.d == 0#7 && r.a == 0#7 && r.b == 0#7) (.mpop)
  | 3 => needZero (r.d == 0#7 && r.b == 0#7) (.mset r.a)
  | 4 => needZero (r.a == 0#7 && r.b == 0#7) (.mget r.d)
  | _ => .error .unlistedMinor

/-- Major 0x08 (R36). -/
noncomputable def decode08 (r : Raw) : Except Reject Instr :=
  needZero (r.d == 0#7 && r.a == 0#7 && r.b &&& 120#7 == 0#7) (.trap (r.b.extractLsb' 0 3 ++ r.mi))

/-- Major 0x09 (R36). -/
noncomputable def decode09 (r : Raw) : Except Reject Instr :=
  needZero (r.d &&& 112#7 == 0#7 && r.a == 0#7 && r.b &&& 124#7 == 0#7) (.waita (r.d.extractLsb' 0 4) (r.b.extractLsb' 0 2 ++ r.mi))

/-- Major 0x0A (R36). -/
noncomputable def decode0A (r : Raw) : Except Reject Instr :=
  needZero (r.d == 0#7 && r.a &&& 126#7 == 0#7) (.waitf (r.a.extractLsb' 0 1 ++ r.b ++ r.mi))

/-- Major 0x0B (R36). -/
noncomputable def decode0B (r : Raw) : Except Reject Instr :=
  match (r.mi).toNat with
  | 0 => needZero (r.d == 0#7 && r.b == 0#7) (.sleep r.a)
  | _ => .error .unlistedMinor

/-- Major 0x0C (R36). -/
noncomputable def decode0C (r : Raw) : Except Reject Instr :=
  needZero (r.a == 0#7) (.mfsr r.d (r.b ++ r.mi))

/-- Major 0x0D (R36). -/
noncomputable def decode0D (r : Raw) : Except Reject Instr :=
  needZero (r.d == 0#7) (.mtsr r.a (r.b ++ r.mi))

/-- Major 0x0E (R36). -/
noncomputable def decode0E (r : Raw) : Except Reject Instr :=
  match (r.mi).toNat with
  | 0 => needZero (r.d == 0#7) (.evt r.a r.b)
  | 1 => needZero (r.d == 0#7 && r.b == 0#7) (.causeSet r.a)
  | 2 => needZero (r.a == 0#7 && r.b == 0#7) (.causeGet r.d)
  | 3 => needZero (r.d == 0#7 && r.b == 0#7) (.trcOn r.a)
  | 4 => needZero (r.d == 0#7 && r.a == 0#7 && r.b == 0#7) (.trcOff)
  | _ => .error .unlistedMinor

/-- Major 0x10 (R36). -/
noncomputable def decode10 (r : Raw) : Except Reject Instr :=
  match (r.mi).toNat with
  | 0 => .ok (.sadd r.d r.a r.b)
  | 1 => .ok (.ssub r.d r.a r.b)
  | 2 => .ok (.sand r.d r.a r.b)
  | 3 => .ok (.sor r.d r.a r.b)
  | 4 => .ok (.sxor r.d r.a r.b)
  | 5 => .ok (.sshl r.d r.a r.b)
  | 6 => .ok (.sshr r.d r.a r.b)
  | 7 => .ok (.ssar r.d r.a r.b)
  | 8 => .ok (.smin r.d r.a r.b)
  | 9 => .ok (.smax r.d r.a r.b)
  | 10 => .ok (.sminn r.d r.a r.b)
  | 11 => .ok (.smaxn r.d r.a r.b)
  | 12 => .ok (.smul r.d r.a r.b)
  | 13 => .ok (.smulh r.d r.a r.b)
  | 14 => .ok (.smulhn r.d r.a r.b)
  | 15 => .ok (.sandn r.d r.a r.b)
  | _ => .error .unlistedMinor

/-- Major 0x11 (R36). -/
noncomputable def decode11 (r : Raw) : Except Reject Instr :=
  .ok (.saddi r.d r.a (r.b ++ r.mi))

/-- Major 0x12 (R36). -/
noncomputable def decode12 (r : Raw) : Except Reject Instr :=
  .ok (.sandi r.d r.a (r.b ++ r.mi))

/-- Major 0x13 (R36). -/
noncomputable def decode13 (r : Raw) : Except Reject Instr :=
  .ok (.sori r.d r.a (r.b ++ r.mi))

/-- Major 0x14 (R36). -/
noncomputable def decode14 (r : Raw) : Except Reject Instr :=
  .ok (.sxori r.d r.a (r.b ++ r.mi))

/-- Major 0x15 (R36). -/
noncomputable def decode15 (r : Raw) : Except Reject Instr :=
  match (r.b &&& 96#7).toNat with
  | 0 => needZero (r.b &&& 30#7 == 0#7) (.sshlImm r.d r.a (r.b.extractLsb' 0 1 ++ r.mi))
  | 32 => needZero (r.b &&& 30#7 == 0#7) (.sshrImm r.d r.a (r.b.extractLsb' 0 1 ++ r.mi))
  | 64 => needZero (r.b &&& 30#7 == 0#7) (.ssarImm r.d r.a (r.b.extractLsb' 0 1 ++ r.mi))
  | 96 => needZero (r.b &&& 30#7 == 0#7) (.srot r.d r.a (r.b.extractLsb' 0 1 ++ r.mi))
  | _ => .error .unlistedMinor

/-- Major 0x16 (R36). -/
noncomputable def decode16 (r : Raw) : Except Reject Instr :=
  .ok (.smovi r.d (r.a ++ r.b ++ r.mi))

/-- Major 0x17 (R36). -/
noncomputable def decode17 (r : Raw) : Except Reject Instr :=
  .ok (.smovhi r.d (r.a ++ r.b ++ r.mi))

/-- Major 0x18 (R36). -/
noncomputable def decode18 (r : Raw) : Except Reject Instr :=
  match (r.mi).toNat with
  | 0 => needZero (r.d == 0#7) (.scmp r.a r.b)
  | 1 => needZero (r.d == 0#7) (.scmpN r.a r.b)
  | _ => .error .unlistedMinor

/-- Major 0x19 (R36). -/
noncomputable def decode19 (r : Raw) : Except Reject Instr :=
  match (r.d &&& 1#7).toNat with
  | 0 => needZero (r.d &&& 126#7 == 0#7) (.scmpi r.a (r.b ++ r.mi))
  | 1 => needZero (r.d &&& 126#7 == 0#7) (.scmpiN r.a (r.b ++ r.mi))
  | _ => .error .unlistedMinor

/-- Major 0x1A (R36). -/
noncomputable def decode1A (r : Raw) : Except Reject Instr :=
  needZero (r.mi &&& 4#4 == 0#4) (.saddp r.d r.a r.b (r.mi.extractLsb' 3 1) (r.mi.extractLsb' 0 2))

/-- Major 0x1B (R36). -/
noncomputable def decode1B (r : Raw) : Except Reject Instr :=
  .ok (.ssel r.d r.a r.b r.mi)

/-- Major 0x1C (R36). -/
noncomputable def decode1C (r : Raw) : Except Reject Instr :=
  match (r.mi).toNat with
  | 0 => needZero (r.b == 0#7) (.smov r.d r.a)
  | 1 => needZero (r.b == 0#7) (.snot r.d r.a)
  | 2 => needZero (r.b == 0#7) (.sneg r.d r.a)
  | 3 => needZero (r.b == 0#7) (.sclz r.d r.a)
  | 4 => needZero (r.b == 0#7) (.spopc r.d r.a)
  | 5 => needZero (r.b == 0#7) (.sbrev r.d r.a)
  | 6 => needZero (r.b == 0#7) (.ssext8 r.d r.a)
  | 7 => needZero (r.b == 0#7) (.ssext16 r.d r.a)
  | _ => .error .unlistedMinor

/-- Major 0x1D (R36). -/
noncomputable def decode1D (r : Raw) : Except Reject Instr :=
  match (r.mi).toNat with
  | 0 => .ok (.sdivi r.d r.a r.b)
  | 1 => .ok (.sdivn r.d r.a r.b)
  | 2 => .ok (.sremi r.d r.a r.b)
  | 3 => .ok (.sremn r.d r.a r.b)
  | _ => .error .unlistedMinor

/-- Major 0x1E (R36). -/
noncomputable def decode1E (r : Raw) : Except Reject Instr :=
  match (r.mi).toNat with
  | 0 => needZero (r.d == 0#7 && r.b == 0#7) (.qpush r.a)
  | 1 => needZero (r.a == 0#7 && r.b == 0#7) (.qpop r.d)
  | 2 => needZero (r.a == 0#7 && r.b == 0#7) (.qpeek r.d)
  | 3 => needZero (r.a == 0#7 && r.b == 0#7) (.qlen r.d)
  | _ => .error .unlistedMinor

/-- Major 0x1F (R36). -/
noncomputable def decode1F (r : Raw) : Except Reject Instr :=
  match (r.mi).toNat with
  | 0 => needZero (r.d == 0#7 && r.b == 0#7) (.vacqB r.a)
  | 1 => needZero (r.b == 0#7) (.vacqT r.d r.a)
  | 2 => needZero (r.d == 0#7 && r.b == 0#7) (.vrel r.a)
  | 3 => needZero (r.d == 0#7 && r.b == 0#7) (.vwin r.a)
  | _ => .error .unlistedMinor

/-- Major 0x20 (R36). -/
noncomputable def decode20 (r : Raw) : Except Reject Instr :=
  match (r.mi).toNat with
  | 0 => .ok (.vadd r.d r.a r.b)
  | 1 => .ok (.vsub r.d r.a r.b)
  | 2 => .ok (.vand r.d r.a r.b)
  | 3 => .ok (.vor r.d r.a r.b)
  | 4 => .ok (.vxor r.d r.a r.b)
  | 5 => .ok (.vshl r.d r.a r.b)
  | 6 => .ok (.vshr r.d r.a r.b)
  | 7 => .ok (.vsar r.d r.a r.b)
  | 8 => .ok (.vmin r.d r.a r.b)
  | 9 => .ok (.vmax r.d r.a r.b)
  | 10 => .ok (.vminn r.d r.a r.b)
  | 11 => .ok (.vmaxn r.d r.a r.b)
  | 12 => .ok (.vmul r.d r.a r.b)
  | 13 => .ok (.vmulh r.d r.a r.b)
  | 14 => .ok (.vmulhn r.d r.a r.b)
  | 15 => .ok (.vandn r.d r.a r.b)
  | _ => .error .unlistedMinor

/-- Major 0x21 (R36). -/
noncomputable def decode21 (r : Raw) : Except Reject Instr :=
  match (r.mi).toNat with
  | 0 => .ok (.vaddS r.d r.a r.b)
  | 1 => .ok (.vsubS r.d r.a r.b)
  | 2 => .ok (.vandS r.d r.a r.b)
  | 3 => .ok (.vorS r.d r.a r.b)
  | 4 => .ok (.vxorS r.d r.a r.b)
  | 5 => .ok (.vshlS r.d r.a r.b)
  | 6 => .ok (.vshrS r.d r.a r.b)
  | 7 => .ok (.vsarS r.d r.a r.b)
  | 8 => .ok (.vminS r.d r.a r.b)
  | 9 => .ok (.vmaxS r.d r.a r.b)
  | 10 => .ok (.vminnS r.d r.a r.b)
  | 11 => .ok (.vmaxnS r.d r.a r.b)
  | 12 => .ok (.vmulS r.d r.a r.b)
  | 13 => .ok (.vmulhS r.d r.a r.b)
  | 14 => .ok (.vmulhnS r.d r.a r.b)
  | 15 => .ok (.vandnS r.d r.a r.b)
  | _ => .error .unlistedMinor

/-- Major 0x22 (R36). -/
noncomputable def decode22 (r : Raw) : Except Reject Instr :=
  .ok (.vaddi r.d r.a (r.b ++ r.mi))

/-- Major 0x23 (R36). -/
noncomputable def decode23 (r : Raw) : Except Reject Instr :=
  .ok (.vandi r.d r.a (r.b ++ r.mi))

/-- Major 0x24 (R36). -/
noncomputable def decode24 (r : Raw) : Except Reject Instr :=
  .ok (.vori r.d r.a (r.b ++ r.mi))

/-- Major 0x25 (R36). -/
noncomputable def decode25 (r : Raw) : Except Reject Instr :=
  .ok (.vxori r.d r.a (r.b ++ r.mi))

/-- Major 0x26 (R36). -/
noncomputable def decode26 (r : Raw) : Except Reject Instr :=
  match (r.b &&& 96#7).toNat with
  | 0 => needZero (r.b &&& 30#7 == 0#7) (.vshlImm r.d r.a (r.b.extractLsb' 0 1 ++ r.mi))
  | 32 => needZero (r.b &&& 30#7 == 0#7) (.vshrImm r.d r.a (r.b.extractLsb' 0 1 ++ r.mi))
  | 64 => needZero (r.b &&& 30#7 == 0#7) (.vsarImm r.d r.a (r.b.extractLsb' 0 1 ++ r.mi))
  | 96 => needZero (r.b &&& 30#7 == 0#7) (.vrot r.d r.a (r.b.extractLsb' 0 1 ++ r.mi))
  | _ => .error .unlistedMinor

/-- Major 0x27 (R36). -/
noncomputable def decode27 (r : Raw) : Except Reject Instr :=
  .ok (.vmovi r.d (r.a ++ r.b ++ r.mi))

/-- Major 0x28 (R36). -/
noncomputable def decode28 (r : Raw) : Except Reject Instr :=
  match (r.mi).toNat with
  | 0 => .ok (.madloI32 r.d r.a r.b)
  | 1 => .ok (.madhiI32 r.d r.a r.b)
  | 2 => .ok (.madloN32 r.d r.a r.b)
  | 3 => .ok (.madhiN32 r.d r.a r.b)
  | _ => .error .unlistedMinor

/-- Major 0x29 (R36). -/
noncomputable def decode29 (r : Raw) : Except Reject Instr :=
  match (r.mi).toNat with
  | 0 => .ok (.vcmpEq r.d r.a r.b)
  | 1 => .ok (.vcmpNe r.d r.a r.b)
  | 2 => .ok (.vcmpLt r.d r.a r.b)
  | 3 => .ok (.vcmpLe r.d r.a r.b)
  | 4 => .ok (.vcmpGt r.d r.a r.b)
  | 5 => .ok (.vcmpGe r.d r.a r.b)
  | 6 => .ok (.vcmpLtn r.d r.a r.b)
  | 7 => .ok (.vcmpLen r.d r.a r.b)
  | 8 => .ok (.vcmpGtn r.d r.a r.b)
  | 9 => .ok (.vcmpGen r.d r.a r.b)
  | _ => .error .unlistedMinor

/-- Major 0x2A (R36). -/
noncomputable def decode2A (r : Raw) : Except Reject Instr :=
  match (r.mi).toNat with
  | 0 => .ok (.vcmpsEq r.d r.a r.b)
  | 1 => .ok (.vcmpsNe r.d r.a r.b)
  | 2 => .ok (.vcmpsLt r.d r.a r.b)
  | 3 => .ok (.vcmpsLe r.d r.a r.b)
  | 4 => .ok (.vcmpsGt r.d r.a r.b)
  | 5 => .ok (.vcmpsGe r.d r.a r.b)
  | 6 => .ok (.vcmpsLtn r.d r.a r.b)
  | 7 => .ok (.vcmpsLen r.d r.a r.b)
  | 8 => .ok (.vcmpsGtn r.d r.a r.b)
  | 9 => .ok (.vcmpsGen r.d r.a r.b)
  | _ => .error .unlistedMinor

/-- Major 0x2B (R36). -/
noncomputable def decode2B (r : Raw) : Except Reject Instr :=
  .ok (.vsel r.d r.a r.b r.mi)

/-- Major 0x2C (R36). -/
noncomputable def decode2C (r : Raw) : Except Reject Instr :=
  match (r.mi).toNat with
  | 0 => needZero (r.b == 0#7) (.vmov r.d r.a)
  | 1 => needZero (r.b == 0#7) (.vnot r.d r.a)
  | 2 => needZero (r.b == 0#7) (.vneg r.d r.a)
  | 3 => needZero (r.b == 0#7) (.vabs r.d r.a)
  | 4 => needZero (r.b == 0#7) (.vclz r.d r.a)
  | 5 => needZero (r.b == 0#7) (.vpopc r.d r.a)
  | 6 => needZero (r.b == 0#7) (.vbrev r.d r.a)
  | 7 => needZero (r.b == 0#7) (.vsext8 r.d r.a)
  | 8 => needZero (r.b == 0#7) (.vsext16 r.d r.a)
  | 9 => needZero (r.b == 0#7) (.vzext8 r.d r.a)
  | 10 => needZero (r.b == 0#7) (.vzext16 r.d r.a)
  | 11 => needZero (r.a == 0#7 && r.b == 0#7) (.vlane r.d)
  | _ => .error .unlistedMinor

/-- Major 0x2D (R36). -/
noncomputable def decode2D (r : Raw) : Except Reject Instr :=
  match (r.mi).toNat with
  | 0 => .ok (.vbfeN r.d r.a r.b)
  | 1 => .ok (.vbfeI r.d r.a r.b)
  | 2 => .ok (.vbfi r.d r.a r.b)
  | _ => .error .unlistedMinor

/-- Major 0x2E (R36). -/
noncomputable def decode2E (r : Raw) : Except Reject Instr :=
  match (r.mi &&& 12#4).toNat with
  | 0 => .ok (.vleaN r.d r.a r.b (r.mi.extractLsb' 0 2))
  | 8 => .ok (.vleaI r.d r.a r.b (r.mi.extractLsb' 0 2))
  | _ => .error .unlistedMinor

/-- Major 0x2F (R36). -/
noncomputable def decode2F (r : Raw) : Except Reject Instr :=
  needZero (r.mi &&& 12#4 == 0#4) (.vrand r.d r.a r.b (r.mi.extractLsb' 0 2))

/-- Major 0x30 (R36). -/
noncomputable def decode30 (r : Raw) : Except Reject Instr :=
  match (r.mi).toNat with
  | 0 => .ok (.pand r.d r.a r.b)
  | 1 => .ok (.por r.d r.a r.b)
  | 2 => .ok (.pxor r.d r.a r.b)
  | 3 => .ok (.pandn r.d r.a r.b)
  | 4 => .ok (.porn r.d r.a r.b)
  | 5 => needZero (r.b == 0#7) (.pnot r.d r.a)
  | 6 => needZero (r.b == 0#7) (.pmov r.d r.a)
  | 7 => needZero (r.a == 0#7 && r.b == 0#7) (.pset r.d)
  | 8 => needZero (r.a == 0#7 && r.b == 0#7) (.pclr r.d)
  | _ => .error .unlistedMinor

/-- Major 0x31 (R36). -/
noncomputable def decode31 (r : Raw) : Except Reject Instr :=
  match (r.mi).toNat with
  | 0 => needZero (r.b == 0#7) (.ptov r.d r.a)
  | 1 => needZero (r.b == 0#7) (.vtop r.d r.a)
  | _ => .error .unlistedMinor

/-- Major 0x34 (R36). -/
noncomputable def decode34 (r : Raw) : Except Reject Instr :=
  match (r.mi).toNat with
  | 0 => .ok (.fadd r.d r.a r.b)
  | 1 => .ok (.fsub r.d r.a r.b)
  | 2 => .ok (.fmul r.d r.a r.b)
  | 3 => .ok (.fmin r.d r.a r.b)
  | 4 => .ok (.fmax r.d r.a r.b)
  | 5 => .ok (.fcopysign r.d r.a r.b)
  | _ => .error .unlistedMinor

/-- Major 0x35 (R36). -/
noncomputable def decode35 (r : Raw) : Except Reject Instr :=
  match (r.mi).toNat with
  | 0 => .ok (.faddS r.d r.a r.b)
  | 1 => .ok (.fsubS r.d r.a r.b)
  | 2 => .ok (.fmulS r.d r.a r.b)
  | 3 => .ok (.fminS r.d r.a r.b)
  | 4 => .ok (.fmaxS r.d r.a r.b)
  | 5 => .ok (.fcopysignS r.d r.a r.b)
  | _ => .error .unlistedMinor

/-- Major 0x36 (R36). -/
noncomputable def decode36 (r : Raw) : Except Reject Instr :=
  match (r.mi &&& 3#4).toNat with
  | 0 => .ok (.ffma r.d r.a r.b (r.mi.extractLsb' 2 2))
  | 1 => .ok (.ffmaNeg r.d r.a r.b (r.mi.extractLsb' 2 2))
  | 2 => .ok (.ffmaSub r.d r.a r.b (r.mi.extractLsb' 2 2))
  | 3 => .ok (.ffmaNegsub r.d r.a r.b (r.mi.extractLsb' 2 2))
  | _ => .error .unlistedMinor

/-- Major 0x37 (R36). -/
noncomputable def decode37 (r : Raw) : Except Reject Instr :=
  match (r.mi &&& 3#4).toNat with
  | 0 => .ok (.ffmas r.d r.a r.b (r.mi.extractLsb' 2 2))
  | 1 => .ok (.ffmasNeg r.d r.a r.b (r.mi.extractLsb' 2 2))
  | 2 => .ok (.ffmasSub r.d r.a r.b (r.mi.extractLsb' 2 2))
  | 3 => .ok (.ffmasNegsub r.d r.a r.b (r.mi.extractLsb' 2 2))
  | _ => .error .unlistedMinor

/-- Major 0x38 (R36). -/
noncomputable def decode38 (r : Raw) : Except Reject Instr :=
  match (r.mi).toNat with
  | 0 => .ok (.fcmpEq r.d r.a r.b)
  | 1 => .ok (.fcmpNe r.d r.a r.b)
  | 2 => .ok (.fcmpLt r.d r.a r.b)
  | 3 => .ok (.fcmpLe r.d r.a r.b)
  | 4 => .ok (.fcmpGt r.d r.a r.b)
  | 5 => .ok (.fcmpGe r.d r.a r.b)
  | 6 => .ok (.fcmpUnord r.d r.a r.b)
  | 7 => .ok (.fcmpOrd r.d r.a r.b)
  | _ => .error .unlistedMinor

/-- Major 0x39 (R36). -/
noncomputable def decode39 (r : Raw) : Except Reject Instr :=
  match (r.mi).toNat with
  | 0 => needZero (r.b == 0#7) (.frcp r.d r.a)
  | 1 => needZero (r.b == 0#7) (.frsq r.d r.a)
  | 2 => needZero (r.b == 0#7) (.fsqrt r.d r.a)
  | 3 => needZero (r.b == 0#7) (.fexp2 r.d r.a)
  | 4 => needZero (r.b == 0#7) (.flog2 r.d r.a)
  | 5 => needZero (r.b == 0#7) (.fsin r.d r.a)
  | 6 => needZero (r.b == 0#7) (.fcos r.d r.a)
  | 7 => needZero (r.b == 0#7) (.ftanh r.d r.a)
  | 8 => .ok (.fdiv r.d r.a r.b)
  | _ => .error .unlistedMinor

/-- Major 0x3A (R36). -/
noncomputable def decode3A (r : Raw) : Except Reject Instr :=
  match (r.mi).toNat with
  | 0 => needZero (r.b &&& 120#7 == 0#7) (.fcvtBf16F32 r.d r.a (r.b.extractLsb' 0 3))
  | 1 => needZero (r.b &&& 120#7 == 0#7) (.fcvtF16F32 r.d r.a (r.b.extractLsb' 0 3))
  | 2 => needZero (r.b &&& 120#7 == 0#7) (.fcvtF32Bf16 r.d r.a (r.b.extractLsb' 0 3))
  | 3 => needZero (r.b &&& 120#7 == 0#7) (.fcvtF32F16 r.d r.a (r.b.extractLsb' 0 3))
  | 4 => needZero (r.b &&& 120#7 == 0#7) (.fcvtE4m3F32 r.d r.a (r.b.extractLsb' 0 3))
  | 5 => needZero (r.b &&& 120#7 == 0#7) (.fcvtE5m2F32 r.d r.a (r.b.extractLsb' 0 3))
  | 6 => needZero (r.b &&& 120#7 == 0#7) (.fcvtF32E4m3 r.d r.a (r.b.extractLsb' 0 3))
  | 7 => needZero (r.b &&& 120#7 == 0#7) (.fcvtF32E5m2 r.d r.a (r.b.extractLsb' 0 3))
  | 8 => needZero (r.b &&& 120#7 == 0#7) (.fcvtI32F32 r.d r.a (r.b.extractLsb' 0 3))
  | 9 => needZero (r.b &&& 120#7 == 0#7) (.fcvtN32F32 r.d r.a (r.b.extractLsb' 0 3))
  | 10 => needZero (r.b &&& 120#7 == 0#7) (.fcvtF32I32 r.d r.a (r.b.extractLsb' 0 3))
  | 11 => needZero (r.b &&& 120#7 == 0#7) (.fcvtF32N32 r.d r.a (r.b.extractLsb' 0 3))
  | _ => .error .unlistedMinor

/-- Major 0x3B (R36). -/
noncomputable def decode3B (r : Raw) : Except Reject Instr :=
  match (r.mi &&& 12#4).toNat with
  | 0 => .ok (.fcvtscE4m3F32 r.d r.a r.b (r.mi.extractLsb' 0 2))
  | 4 => .ok (.fcvtscE5m2F32 r.d r.a r.b (r.mi.extractLsb' 0 2))
  | 8 => .ok (.fcvtscF32E4m3 r.d r.a r.b (r.mi.extractLsb' 0 2))
  | 12 => .ok (.fcvtscF32E5m2 r.d r.a r.b (r.mi.extractLsb' 0 2))
  | _ => .error .unlistedMinor

/-- Major 0x3C (R36). -/
noncomputable def decode3C (r : Raw) : Except Reject Instr :=
  match (r.mi &&& 7#4).toNat with
  | 0 => .ok (.hadd2 r.d r.a r.b (r.mi.extractLsb' 3 1))
  | 1 => .ok (.hsub2 r.d r.a r.b (r.mi.extractLsb' 3 1))
  | 2 => .ok (.hmul2 r.d r.a r.b (r.mi.extractLsb' 3 1))
  | 3 => .ok (.hmin2 r.d r.a r.b (r.mi.extractLsb' 3 1))
  | 4 => .ok (.hmax2 r.d r.a r.b (r.mi.extractLsb' 3 1))
  | _ => .error .unlistedMinor

/-- Major 0x3D (R36). -/
noncomputable def decode3D (r : Raw) : Except Reject Instr :=
  match (r.mi &&& 7#4).toNat with
  | 0 => .ok (.hfma2 r.d r.a r.b (r.mi.extractLsb' 3 1))
  | 1 => .ok (.hfma2Neg r.d r.a r.b (r.mi.extractLsb' 3 1))
  | 2 => .ok (.hfma2Sub r.d r.a r.b (r.mi.extractLsb' 3 1))
  | 3 => .ok (.hfma2Negsub r.d r.a r.b (r.mi.extractLsb' 3 1))
  | _ => .error .unlistedMinor

/-- Major 0x3E (R36). -/
noncomputable def decode3E (r : Raw) : Except Reject Instr :=
  match (r.mi).toNat with
  | 0 => .ok (.dot2Bf16 r.d r.a r.b)
  | 1 => .ok (.dot2F16 r.d r.a r.b)
  | 2 => .ok (.dot4E4m3 r.d r.a r.b)
  | 3 => .ok (.dot4E5m2 r.d r.a r.b)
  | 4 => .ok (.dot4I8 r.d r.a r.b)
  | 5 => .ok (.dot4N8 r.d r.a r.b)
  | 6 => .ok (.dot8Cb4 r.d r.a r.b)
  | _ => .error .unlistedMinor

/-- Major 0x3F (R36). -/
noncomputable def decode3F (r : Raw) : Except Reject Instr :=
  match (r.mi).toNat with
  | 0 => needZero (r.b == 0#7) (.fclass r.d r.a)
  | _ => .error .unlistedMinor

/-- Major 0x40 (R36). -/
noncomputable def decode40 (r : Raw) : Except Reject Instr :=
  needZero (r.b == 0#7 && r.mi &&& 8#4 == 0#4) (.frnd r.d r.a (r.mi.extractLsb' 0 3))

/-- Major 0x41 (R36). -/
noncomputable def decode41 (r : Raw) : Except Reject Instr :=
  .ok (.fmovi r.d (r.a ++ r.b ++ r.mi))

/-- Major 0x42 (R36). -/
noncomputable def decode42 (r : Raw) : Except Reject Instr :=
  match (r.mi).toNat with
  | 0 => .ok (.fscaleb r.d r.a r.b)
  | 1 => needZero (r.b == 0#7) (.fgetexp r.d r.a)
  | 2 => needZero (r.b == 0#7) (.fgetmant r.d r.a)
  | _ => .error .unlistedMinor

/-- Major 0x48 (R36). -/
noncomputable def decode48 (r : Raw) : Except Reject Instr :=
  match (r.mi).toNat with
  | 0 => .ok (.shflIdx r.d r.a r.b)
  | 1 => .ok (.shflUp r.d r.a r.b)
  | 2 => .ok (.shflDn r.d r.a r.b)
  | 3 => .ok (.shflXor r.d r.a r.b)
  | _ => .error .unlistedMinor

/-- Major 0x49 (R36). -/
noncomputable def decode49 (r : Raw) : Except Reject Instr :=
  match (r.b &&& 96#7).toNat with
  | 0 => needZero (r.b &&& 30#7 == 0#7) (.shfliIdx r.d r.a (r.b.extractLsb' 0 1 ++ r.mi))
  | 32 => needZero (r.b &&& 30#7 == 0#7) (.shfliUp r.d r.a (r.b.extractLsb' 0 1 ++ r.mi))
  | 64 => needZero (r.b &&& 30#7 == 0#7) (.shfliDn r.d r.a (r.b.extractLsb' 0 1 ++ r.mi))
  | 96 => needZero (r.b &&& 30#7 == 0#7) (.shfliXor r.d r.a (r.b.extractLsb' 0 1 ++ r.mi))
  | _ => .error .unlistedMinor

/-- Major 0x4A (R36). -/
noncomputable def decode4A (r : Raw) : Except Reject Instr :=
  match (r.mi).toNat with
  | 0 => needZero (r.b == 0#7) (.voteAny r.d r.a)
  | 1 => needZero (r.b == 0#7) (.voteAll r.d r.a)
  | 2 => needZero (r.b == 0#7) (.voteBallot r.d r.a)
  | 3 => needZero (r.b == 0#7) (.voteUni r.d r.a)
  | 4 => needZero (r.a == 0#7 && r.b == 0#7) (.voteElect r.d)
  | _ => .error .unlistedMinor

/-- Major 0x4B (R36). -/
noncomputable def decode4B (r : Raw) : Except Reject Instr :=
  match (r.mi).toNat with
  | 0 => needZero (r.b == 0#7) (.reduceAddI32 r.d r.a)
  | 1 => needZero (r.b == 0#7) (.reduceAddF32 r.d r.a)
  | 2 => needZero (r.b == 0#7) (.reduceMinI r.d r.a)
  | 3 => needZero (r.b == 0#7) (.reduceMaxI r.d r.a)
  | 4 => needZero (r.b == 0#7) (.reduceMinN r.d r.a)
  | 5 => needZero (r.b == 0#7) (.reduceMaxN r.d r.a)
  | 6 => needZero (r.b == 0#7) (.reduceAnd r.d r.a)
  | 7 => needZero (r.b == 0#7) (.reduceOr r.d r.a)
  | 8 => needZero (r.b == 0#7) (.reduceXor r.d r.a)
  | 9 => needZero (r.b == 0#7) (.reduceMinF32 r.d r.a)
  | 10 => needZero (r.b == 0#7) (.reduceMaxF32 r.d r.a)
  | _ => .error .unlistedMinor

/-- Major 0x4C (R36). -/
noncomputable def decode4C (r : Raw) : Except Reject Instr :=
  match (r.mi &&& 7#4).toNat with
  | 0 => needZero (r.b == 0#7) (.scanAddI32 r.d r.a (r.mi.extractLsb' 3 1))
  | 1 => needZero (r.b == 0#7) (.scanAddF32 r.d r.a (r.mi.extractLsb' 3 1))
  | 2 => needZero (r.b == 0#7) (.scanMinI r.d r.a (r.mi.extractLsb' 3 1))
  | 3 => needZero (r.b == 0#7) (.scanMaxI r.d r.a (r.mi.extractLsb' 3 1))
  | 4 => needZero (r.b == 0#7) (.scanOr r.d r.a (r.mi.extractLsb' 3 1))
  | _ => .error .unlistedMinor

/-- Major 0x4D (R36). -/
noncomputable def decode4D (r : Raw) : Except Reject Instr :=
  match (r.mi).toNat with
  | 0 => needZero (r.b == 0#7) (.matchLanes r.d r.a)
  | _ => .error .unlistedMinor

/-- Major 0x4E (R36). -/
noncomputable def decode4E (r : Raw) : Except Reject Instr :=
  match (r.mi).toNat with
  | 0 => .ok (.rdlane r.d r.a r.b)
  | 1 => .ok (.wrlane r.d r.a r.b)
  | 2 => .ok (.bcast r.d r.a r.b)
  | _ => .error .unlistedMinor

/-- Major 0x50 (R36). -/
noncomputable def decode50 (r : Raw) : Except Reject Instr :=
  .ok (.ldvN8 r.d r.a (r.b.extractLsb' 3 4) (r.b.extractLsb' 0 3 ++ r.mi))

/-- Major 0x51 (R36). -/
noncomputable def decode51 (r : Raw) : Except Reject Instr :=
  .ok (.ldvI8 r.d r.a (r.b.extractLsb' 3 4) (r.b.extractLsb' 0 3 ++ r.mi))

/-- Major 0x52 (R36). -/
noncomputable def decode52 (r : Raw) : Except Reject Instr :=
  .ok (.ldvN16 r.d r.a (r.b.extractLsb' 3 4) (r.b.extractLsb' 0 3 ++ r.mi))

/-- Major 0x53 (R36). -/
noncomputable def decode53 (r : Raw) : Except Reject Instr :=
  .ok (.ldvI16 r.d r.a (r.b.extractLsb' 3 4) (r.b.extractLsb' 0 3 ++ r.mi))

/-- Major 0x54 (R36). -/
noncomputable def decode54 (r : Raw) : Except Reject Instr :=
  .ok (.ldv32 r.d r.a (r.b.extractLsb' 3 4) (r.b.extractLsb' 0 3 ++ r.mi))

/-- Major 0x55 (R36). -/
noncomputable def decode55 (r : Raw) : Except Reject Instr :=
  .ok (.ldv64 r.d r.a (r.b.extractLsb' 3 4) (r.b.extractLsb' 0 3 ++ r.mi))

/-- Major 0x56 (R36). -/
noncomputable def decode56 (r : Raw) : Except Reject Instr :=
  .ok (.ldv128 r.d r.a (r.b.extractLsb' 3 4) (r.b.extractLsb' 0 3 ++ r.mi))

/-- Major 0x57 (R36). -/
noncomputable def decode57 (r : Raw) : Except Reject Instr :=
  .ok (.stv8 r.d r.a (r.b.extractLsb' 3 4) (r.b.extractLsb' 0 3 ++ r.mi))

/-- Major 0x58 (R36). -/
noncomputable def decode58 (r : Raw) : Except Reject Instr :=
  .ok (.stv16 r.d r.a (r.b.extractLsb' 3 4) (r.b.extractLsb' 0 3 ++ r.mi))

/-- Major 0x59 (R36). -/
noncomputable def decode59 (r : Raw) : Except Reject Instr :=
  .ok (.stv32 r.d r.a (r.b.extractLsb' 3 4) (r.b.extractLsb' 0 3 ++ r.mi))

/-- Major 0x5A (R36). -/
noncomputable def decode5A (r : Raw) : Except Reject Instr :=
  .ok (.stv64 r.d r.a (r.b.extractLsb' 3 4) (r.b.extractLsb' 0 3 ++ r.mi))

/-- Major 0x5B (R36). -/
noncomputable def decode5B (r : Raw) : Except Reject Instr :=
  .ok (.stv128 r.d r.a (r.b.extractLsb' 3 4) (r.b.extractLsb' 0 3 ++ r.mi))

/-- Major 0x5C (R36). -/
noncomputable def decode5C (r : Raw) : Except Reject Instr :=
  .ok (.lds32 r.d r.a (r.b.extractLsb' 3 4) (r.b.extractLsb' 0 3 ++ r.mi))

/-- Major 0x5D (R36). -/
noncomputable def decode5D (r : Raw) : Except Reject Instr :=
  .ok (.lds64 r.d r.a (r.b.extractLsb' 3 4) (r.b.extractLsb' 0 3 ++ r.mi))

/-- Major 0x5E (R36). -/
noncomputable def decode5E (r : Raw) : Except Reject Instr :=
  .ok (.sts32 r.d r.a (r.b.extractLsb' 3 4) (r.b.extractLsb' 0 3 ++ r.mi))

/-- Major 0x5F (R36). -/
noncomputable def decode5F (r : Raw) : Except Reject Instr :=
  .ok (.sts64 r.d r.a (r.b.extractLsb' 3 4) (r.b.extractLsb' 0 3 ++ r.mi))

/-- Major 0x60 (R36). -/
noncomputable def decode60 (r : Raw) : Except Reject Instr :=
  match (r.mi).toNat with
  | 0 => .ok (.atomAddI32 0#2 r.d r.a r.b)
  | 1 => .ok (.atomAddF32 0#2 r.d r.a r.b)
  | 2 => .ok (.atomMinI 0#2 r.d r.a r.b)
  | 3 => .ok (.atomMaxI 0#2 r.d r.a r.b)
  | 4 => .ok (.atomMinN 0#2 r.d r.a r.b)
  | 5 => .ok (.atomMaxN 0#2 r.d r.a r.b)
  | 6 => .ok (.atomAnd 0#2 r.d r.a r.b)
  | 7 => .ok (.atomOr 0#2 r.d r.a r.b)
  | 8 => .ok (.atomXor 0#2 r.d r.a r.b)
  | 9 => .ok (.atomXchg 0#2 r.d r.a r.b)
  | 10 => .ok (.atomCas 0#2 r.d r.a r.b)
  | 11 => .ok (.atomAddI64 0#2 r.d r.a r.b)
  | 12 => .ok (.atomIncw 0#2 r.d r.a r.b)
  | 13 => .ok (.atomAddBf16x2 0#2 r.d r.a r.b)
  | _ => .error .unlistedMinor

/-- Major 0x61 (R36). -/
noncomputable def decode61 (r : Raw) : Except Reject Instr :=
  match (r.mi).toNat with
  | 0 => .ok (.atomAddI32 1#2 r.d r.a r.b)
  | 1 => .ok (.atomAddF32 1#2 r.d r.a r.b)
  | 2 => .ok (.atomMinI 1#2 r.d r.a r.b)
  | 3 => .ok (.atomMaxI 1#2 r.d r.a r.b)
  | 4 => .ok (.atomMinN 1#2 r.d r.a r.b)
  | 5 => .ok (.atomMaxN 1#2 r.d r.a r.b)
  | 6 => .ok (.atomAnd 1#2 r.d r.a r.b)
  | 7 => .ok (.atomOr 1#2 r.d r.a r.b)
  | 8 => .ok (.atomXor 1#2 r.d r.a r.b)
  | 9 => .ok (.atomXchg 1#2 r.d r.a r.b)
  | 10 => .ok (.atomCas 1#2 r.d r.a r.b)
  | 11 => .ok (.atomAddI64 1#2 r.d r.a r.b)
  | 12 => .ok (.atomIncw 1#2 r.d r.a r.b)
  | 13 => .ok (.atomAddBf16x2 1#2 r.d r.a r.b)
  | _ => .error .unlistedMinor

/-- Major 0x62 (R36). -/
noncomputable def decode62 (r : Raw) : Except Reject Instr :=
  match (r.mi).toNat with
  | 0 => .ok (.atomAddI32 2#2 r.d r.a r.b)
  | 1 => .ok (.atomAddF32 2#2 r.d r.a r.b)
  | 2 => .ok (.atomMinI 2#2 r.d r.a r.b)
  | 3 => .ok (.atomMaxI 2#2 r.d r.a r.b)
  | 4 => .ok (.atomMinN 2#2 r.d r.a r.b)
  | 5 => .ok (.atomMaxN 2#2 r.d r.a r.b)
  | 6 => .ok (.atomAnd 2#2 r.d r.a r.b)
  | 7 => .ok (.atomOr 2#2 r.d r.a r.b)
  | 8 => .ok (.atomXor 2#2 r.d r.a r.b)
  | 9 => .ok (.atomXchg 2#2 r.d r.a r.b)
  | 10 => .ok (.atomCas 2#2 r.d r.a r.b)
  | 11 => .ok (.atomAddI64 2#2 r.d r.a r.b)
  | 12 => .ok (.atomIncw 2#2 r.d r.a r.b)
  | 13 => .ok (.atomAddBf16x2 2#2 r.d r.a r.b)
  | _ => .error .unlistedMinor

/-- Major 0x63 (R36). -/
noncomputable def decode63 (r : Raw) : Except Reject Instr :=
  match (r.mi).toNat with
  | 0 => .ok (.atomAddI32 3#2 r.d r.a r.b)
  | 1 => .ok (.atomAddF32 3#2 r.d r.a r.b)
  | 2 => .ok (.atomMinI 3#2 r.d r.a r.b)
  | 3 => .ok (.atomMaxI 3#2 r.d r.a r.b)
  | 4 => .ok (.atomMinN 3#2 r.d r.a r.b)
  | 5 => .ok (.atomMaxN 3#2 r.d r.a r.b)
  | 6 => .ok (.atomAnd 3#2 r.d r.a r.b)
  | 7 => .ok (.atomOr 3#2 r.d r.a r.b)
  | 8 => .ok (.atomXor 3#2 r.d r.a r.b)
  | 9 => .ok (.atomXchg 3#2 r.d r.a r.b)
  | 10 => .ok (.atomCas 3#2 r.d r.a r.b)
  | 11 => .ok (.atomAddI64 3#2 r.d r.a r.b)
  | 12 => .ok (.atomIncw 3#2 r.d r.a r.b)
  | 13 => .ok (.atomAddBf16x2 3#2 r.d r.a r.b)
  | _ => .error .unlistedMinor

/-- Major 0x64 (R36). -/
noncomputable def decode64 (r : Raw) : Except Reject Instr :=
  match (r.mi).toNat with
  | 0 => needZero (r.d &&& 120#7 == 0#7) (.redAddI32 (r.d.extractLsb' 0 3) r.a r.b)
  | 1 => needZero (r.d &&& 120#7 == 0#7) (.redAddF32 (r.d.extractLsb' 0 3) r.a r.b)
  | 2 => needZero (r.d &&& 120#7 == 0#7) (.redMinI (r.d.extractLsb' 0 3) r.a r.b)
  | 3 => needZero (r.d &&& 120#7 == 0#7) (.redMaxI (r.d.extractLsb' 0 3) r.a r.b)
  | 4 => needZero (r.d &&& 120#7 == 0#7) (.redMinN (r.d.extractLsb' 0 3) r.a r.b)
  | 5 => needZero (r.d &&& 120#7 == 0#7) (.redMaxN (r.d.extractLsb' 0 3) r.a r.b)
  | 6 => needZero (r.d &&& 120#7 == 0#7) (.redAnd (r.d.extractLsb' 0 3) r.a r.b)
  | 7 => needZero (r.d &&& 120#7 == 0#7) (.redOr (r.d.extractLsb' 0 3) r.a r.b)
  | 8 => needZero (r.d &&& 120#7 == 0#7) (.redXor (r.d.extractLsb' 0 3) r.a r.b)
  | 9 => needZero (r.d &&& 120#7 == 0#7) (.redXchg (r.d.extractLsb' 0 3) r.a r.b)
  | 10 => needZero (r.d &&& 120#7 == 0#7) (.redCas (r.d.extractLsb' 0 3) r.a r.b)
  | 11 => needZero (r.d &&& 120#7 == 0#7) (.redAddI64 (r.d.extractLsb' 0 3) r.a r.b)
  | 12 => needZero (r.d &&& 120#7 == 0#7) (.redIncw (r.d.extractLsb' 0 3) r.a r.b)
  | 13 => needZero (r.d &&& 120#7 == 0#7) (.redAddBf16x2 (r.d.extractLsb' 0 3) r.a r.b)
  | _ => .error .unlistedMinor

/-- Major 0x65 (R36). -/
noncomputable def decode65 (r : Raw) : Except Reject Instr :=
  match (r.mi).toNat with
  | 0 => .ok (.callo r.d r.a r.b)
  | _ => .error .unlistedMinor

/-- Major 0x66 (R36). -/
noncomputable def decode66 (r : Raw) : Except Reject Instr :=
  match (r.b.extractLsb' 0 3 ++ r.mi.extractLsb' 3 1).toNat with
  | 0 => needZero (r.d == 0#7 && r.a == 0#7 && r.b &&& 120#7 == 0#7) (.fenceAcq (r.mi.extractLsb' 0 3))
  | 1 => needZero (r.d == 0#7 && r.a == 0#7 && r.b &&& 120#7 == 0#7) (.fenceRel (r.mi.extractLsb' 0 3))
  | 2 => needZero (r.d == 0#7 && r.a == 0#7 && r.b &&& 120#7 == 0#7) (.fenceAcqrel (r.mi.extractLsb' 0 3))
  | 3 => needZero (r.d == 0#7 && r.a == 0#7 && r.b &&& 120#7 == 0#7) (.fenceSc (r.mi.extractLsb' 0 3))
  | 4 => needZero (r.d == 0#7 && r.a == 0#7 && r.b &&& 120#7 == 0#7) (.fenceOpnd (r.mi.extractLsb' 0 3))
  | 5 => needZero (r.d == 0#7 && r.a == 0#7 && r.b &&& 120#7 == 0#7) (.fenceFlush (r.mi.extractLsb' 0 3))
  | 6 => needZero (r.d == 0#7 && r.a == 0#7 && r.b &&& 120#7 == 0#7) (.fenceEng (r.mi.extractLsb' 0 3))
  | _ => .error .unlistedMinor

/-- Major 0x67 (R36). -/
noncomputable def decode67 (r : Raw) : Except Reject Instr :=
  needZero (r.d == 0#7 && r.b &&& 96#7 == 0#7) (.pft r.a (r.b.extractLsb' 3 2) (r.b.extractLsb' 0 3 ++ r.mi))

/-- Major 0x68 (R36). -/
noncomputable def decode68 (r : Raw) : Except Reject Instr :=
  match (r.mi).toNat with
  | 0 => .ok (.copy r.d r.a r.b)
  | 1 => .ok (.copyNp r.d r.a r.b)
  | _ => .error .unlistedMinor

/-- Major 0x69 (R36). -/
noncomputable def decode69 (r : Raw) : Except Reject Instr :=
  match (r.mi).toNat with
  | 0 => .ok (.gpool r.d r.a r.b)
  | _ => .error .unlistedMinor

/-- Major 0x6A (R36). -/
noncomputable def decode6A (r : Raw) : Except Reject Instr :=
  match (r.mi).toNat with
  | 0 => .ok (.coll r.d r.a r.b)
  | _ => .error .unlistedMinor

/-- Major 0x6B (R36). -/
noncomputable def decode6B (r : Raw) : Except Reject Instr :=
  match (r.mi).toNat with
  | 0 => needZero (r.d == 0#7) (.barInit r.a r.b)
  | 1 => needZero (r.b == 0#7) (.barArrive r.d r.a)
  | 2 => needZero (r.d == 0#7) (.barWait r.a r.b)
  | 3 => needZero (r.b == 0#7) (.barArrwait r.d r.a)
  | 4 => needZero (r.d == 0#7) (.barExpect r.a r.b)
  | 5 => .ok (.barTrywait r.d r.a r.b)
  | 6 => needZero (r.d == 0#7) (.barWaitp r.a r.b)
  | 7 => needZero (r.b == 0#7) (.barDrop r.d r.a)
  | _ => .error .unlistedMinor

/-- Major 0x6C (R36). -/
noncomputable def decode6C (r : Raw) : Except Reject Instr :=
  match (r.mi).toNat with
  | 0 => needZero (r.d == 0#7) (.semInit r.a r.b)
  | 1 => needZero (r.d == 0#7 && r.b == 0#7) (.semP r.a)
  | 2 => needZero (r.d == 0#7 && r.b == 0#7) (.semV r.a)
  | 3 => needZero (r.b == 0#7) (.semTryp r.d r.a)
  | _ => .error .unlistedMinor

/-- Major 0x6D (R36). -/
noncomputable def decode6D (r : Raw) : Except Reject Instr :=
  match (r.mi).toNat with
  | 0 => needZero (r.d == 0#7 && r.b == 0#7) (.spawn r.a)
  | 1 => needZero (r.b == 0#7) (.jdec r.d r.a)
  | _ => .error .unlistedMinor

/-- Major 0x6E (R36). -/
noncomputable def decode6E (r : Raw) : Except Reject Instr :=
  match (r.mi).toNat with
  | 0 => .ok (.falloc r.d r.a r.b)
  | 1 => needZero (r.d == 0#7 && r.b == 0#7) (.ffree r.a)
  | 2 => needZero (r.b == 0#7) (.fquota r.d r.a)
  | _ => .error .unlistedMinor

/-- Major 0x6F (R36). -/
noncomputable def decode6F (r : Raw) : Except Reject Instr :=
  match (r.mi).toNat with
  | 0 => needZero (r.d == 0#7 && r.a == 0#7) (.creply r.b)
  | 1 => needZero (r.d == 0#7 && r.a == 0#7 && r.b == 0#7) (.cdone)
  | 2 => needZero (r.d == 0#7 && r.b == 0#7) (.cabort r.a)
  | _ => .error .unlistedMinor

/-- Major 0x70 (R36). -/
noncomputable def decode70 (r : Raw) : Except Reject Instr :=
  needZero (r.mi &&& 4#4 == 0#4) (.mloopBf16 r.d r.a r.b (r.mi.extractLsb' 3 1) (r.mi.extractLsb' 1 1) (r.mi.extractLsb' 0 1))

/-- Major 0x71 (R36). -/
noncomputable def decode71 (r : Raw) : Except Reject Instr :=
  needZero (r.mi &&& 4#4 == 0#4) (.mloopF16 r.d r.a r.b (r.mi.extractLsb' 3 1) (r.mi.extractLsb' 1 1) (r.mi.extractLsb' 0 1))

/-- Major 0x72 (R36). -/
noncomputable def decode72 (r : Raw) : Except Reject Instr :=
  .ok (.mloopE4m3 r.d r.a r.b (r.mi.extractLsb' 3 1) (r.mi.extractLsb' 2 1) (r.mi.extractLsb' 1 1) (r.mi.extractLsb' 0 1))

/-- Major 0x73 (R36). -/
noncomputable def decode73 (r : Raw) : Except Reject Instr :=
  .ok (.mloopE5m2 r.d r.a r.b (r.mi.extractLsb' 3 1) (r.mi.extractLsb' 2 1) (r.mi.extractLsb' 1 1) (r.mi.extractLsb' 0 1))

/-- Major 0x74 (R36). -/
noncomputable def decode74 (r : Raw) : Except Reject Instr :=
  needZero (r.mi &&& 4#4 == 0#4) (.mloopI8 r.d r.a r.b (r.mi.extractLsb' 3 1) (r.mi.extractLsb' 1 1) (r.mi.extractLsb' 0 1))

/-- Major 0x75 (R36). -/
noncomputable def decode75 (r : Raw) : Except Reject Instr :=
  .ok (.mloopCb4 r.d r.a r.b (r.mi.extractLsb' 3 1) (r.mi.extractLsb' 2 1) (r.mi.extractLsb' 1 1) (r.mi.extractLsb' 0 1))

/-- Major 0x76 (R36). -/
noncomputable def decode76 (r : Raw) : Except Reject Instr :=
  .ok (.mloopCb4bf r.d r.a r.b (r.mi.extractLsb' 3 1) (r.mi.extractLsb' 2 1) (r.mi.extractLsb' 1 1) (r.mi.extractLsb' 0 1))

/-- Major 0x77 (R36). -/
noncomputable def decode77 (r : Raw) : Except Reject Instr :=
  match (r.mi).toNat with
  | 0 => needZero (r.a == 0#7 && r.b == 0#7) (.mzero r.d)
  | 1 => needZero (r.d &&& 120#7 == 0#7 && r.b == 0#7) (.mcb (r.d.extractLsb' 0 3) r.a)
  | 2 => needZero (r.a &&& 120#7 == 0#7 && r.b &&& 126#7 == 0#7) (.mstat r.d (r.a.extractLsb' 0 3) (r.b.extractLsb' 0 1))
  | _ => .error .unlistedMinor

/-- Major 0x78 (R36). -/
noncomputable def decode78 (r : Raw) : Except Reject Instr :=
  match (r.mi).toNat with
  | 0 => needZero (r.b &&& 126#7 == 0#7) (.mdrainStoreF32 r.d r.a (r.b.extractLsb' 0 1))
  | 1 => needZero (r.b &&& 126#7 == 0#7) (.mdrainStoreBf16 r.d r.a (r.b.extractLsb' 0 1))
  | 2 => needZero (r.b &&& 126#7 == 0#7) (.mdrainStoreE4m3 r.d r.a (r.b.extractLsb' 0 1))
  | 3 => needZero (r.b &&& 126#7 == 0#7) (.mdrainAddF32 r.d r.a (r.b.extractLsb' 0 1))
  | 4 => needZero (r.b &&& 126#7 == 0#7) (.mdrainAddOrdered r.d r.a (r.b.extractLsb' 0 1))
  | _ => .error .unlistedMinor

/-- Major 0x79 (R36). -/
noncomputable def decode79 (r : Raw) : Except Reject Instr :=
  match (r.mi).toNat with
  | 0 => needZero (r.d == 0#7 && r.b == 0#7) (.msave r.a)
  | 1 => needZero (r.d == 0#7 && r.b == 0#7) (.mrestore r.a)
  | _ => .error .unlistedMinor

/-- Major 0x7F (R36). -/
noncomputable def decode7F (r : Raw) : Except Reject Instr :=
  .ok (.clauseHeader (r.d ++ r.a.extractLsb' 2 5) (r.a.extractLsb' 0 2 ++ r.b.extractLsb' 5 2) (r.b.extractLsb' 1 4) (r.b.extractLsb' 0 1 ++ r.mi))

/-- The opcode map (R36); a major that it does not list is rejected (R38). -/
noncomputable def decodeMajor (r : Raw) : Except Reject Instr :=
  match r.maj.toNat with
  | 0 => decode00 r
  | 1 => decode01 r
  | 2 => decode02 r
  | 3 => decode03 r
  | 4 => decode04 r
  | 5 => decode05 r
  | 6 => decode06 r
  | 7 => decode07 r
  | 8 => decode08 r
  | 9 => decode09 r
  | 10 => decode0A r
  | 11 => decode0B r
  | 12 => decode0C r
  | 13 => decode0D r
  | 14 => decode0E r
  | 16 => decode10 r
  | 17 => decode11 r
  | 18 => decode12 r
  | 19 => decode13 r
  | 20 => decode14 r
  | 21 => decode15 r
  | 22 => decode16 r
  | 23 => decode17 r
  | 24 => decode18 r
  | 25 => decode19 r
  | 26 => decode1A r
  | 27 => decode1B r
  | 28 => decode1C r
  | 29 => decode1D r
  | 30 => decode1E r
  | 31 => decode1F r
  | 32 => decode20 r
  | 33 => decode21 r
  | 34 => decode22 r
  | 35 => decode23 r
  | 36 => decode24 r
  | 37 => decode25 r
  | 38 => decode26 r
  | 39 => decode27 r
  | 40 => decode28 r
  | 41 => decode29 r
  | 42 => decode2A r
  | 43 => decode2B r
  | 44 => decode2C r
  | 45 => decode2D r
  | 46 => decode2E r
  | 47 => decode2F r
  | 48 => decode30 r
  | 49 => decode31 r
  | 52 => decode34 r
  | 53 => decode35 r
  | 54 => decode36 r
  | 55 => decode37 r
  | 56 => decode38 r
  | 57 => decode39 r
  | 58 => decode3A r
  | 59 => decode3B r
  | 60 => decode3C r
  | 61 => decode3D r
  | 62 => decode3E r
  | 63 => decode3F r
  | 64 => decode40 r
  | 65 => decode41 r
  | 66 => decode42 r
  | 72 => decode48 r
  | 73 => decode49 r
  | 74 => decode4A r
  | 75 => decode4B r
  | 76 => decode4C r
  | 77 => decode4D r
  | 78 => decode4E r
  | 80 => decode50 r
  | 81 => decode51 r
  | 82 => decode52 r
  | 83 => decode53 r
  | 84 => decode54 r
  | 85 => decode55 r
  | 86 => decode56 r
  | 87 => decode57 r
  | 88 => decode58 r
  | 89 => decode59 r
  | 90 => decode5A r
  | 91 => decode5B r
  | 92 => decode5C r
  | 93 => decode5D r
  | 94 => decode5E r
  | 95 => decode5F r
  | 96 => decode60 r
  | 97 => decode61 r
  | 98 => decode62 r
  | 99 => decode63 r
  | 100 => decode64 r
  | 101 => decode65 r
  | 102 => decode66 r
  | 103 => decode67 r
  | 104 => decode68 r
  | 105 => decode69 r
  | 106 => decode6A r
  | 107 => decode6B r
  | 108 => decode6C r
  | 109 => decode6D r
  | 110 => decode6E r
  | 111 => decode6F r
  | 112 => decode70 r
  | 113 => decode71 r
  | 114 => decode72 r
  | 115 => decode73 r
  | 116 => decode74 r
  | 117 => decode75 r
  | 118 => decode76 r
  | 119 => decode77 r
  | 120 => decode78 r
  | 121 => decode79 r
  | 127 => decode7F r
  | _ => .error .unlistedMajor

/-- The instruction that a word encodes, or why it encodes none (R38). The register fields and field values are checked after the
fields are read; every failure is an ILLEGAL_ENCODING. -/
noncomputable def decode (w : Word) : Except Reject Instr :=
  match decodeMajor (Raw.ofWord w) with
  | .error e => .error e
  | .ok i => match i.check with
    | some e => .error e
    | none => .ok i

/-- The 32-bit little-endian word of four bytes (R2, R20). -/
def wordOfBytes (bs : List Byte) : Word := BitVec.ofNat 32 (bytesToNat bs)

/-- Decode an instruction from memory bytes: every form is one word of four bytes (R20). -/
noncomputable def decodeBytes (bs : List Byte) : Except Reject (Instr × List Byte) :=
  match decode (wordOfBytes (bs.take 4)) with
  | .error e => .error e
  | .ok i => .ok (i, bs.drop 4)

/-! ## The encoder -/

/-- The regions of an instruction; a step without a word has none. -/
def encodeRaw (i : Instr) : Option Raw :=
  match i with
  | .nop => some ⟨0#7, 0#7, 0#7, 0#7, 0#4⟩
  | .yield => some ⟨0#7, 0#7, 0#7, 0#7, 1#4⟩
  | .exit => some ⟨0#7, 0#7, 0#7, 0#7, 2#4⟩
  | .tret => some ⟨0#7, 0#7, 0#7, 0#7, 3#4⟩
  | .roleL => some ⟨0#7, 0#7, 0#7, 0#7, 4#4⟩
  | .roleS => some ⟨0#7, 0#7, 0#7, 0#7, 5#4⟩
  | .flusha => some ⟨0#7, 0#7, 0#7, 0#7, 6#4⟩
  | .br c o => some ⟨1#7, (c ++ o.extractLsb' 18 2), o.extractLsb' 11 7, o.extractLsb' 4 7, o.extractLsb' 0 4⟩
  | .call o => some ⟨2#7, (0#5 ++ o.extractLsb' 18 2), o.extractLsb' 11 7, o.extractLsb' 4 7, o.extractLsb' 0 4⟩
  | .jmpi a => some ⟨3#7, 0#7, a, 0#7, 0#4⟩
  | .calli a => some ⟨3#7, 0#7, a, 0#7, 1#4⟩
  | .ret => some ⟨3#7, 0#7, 0#7, 0#7, 2#4⟩
  | .jtab d a b t => some ⟨4#7, d, a, b, (0#1 ++ t)⟩
  | .fork d t i => some ⟨5#7, d, (0#4 ++ t), i.extractLsb' 4 7, i.extractLsb' 0 4⟩
  | .join t => some ⟨6#7, 0#7, 0#7, 0#7, (0#1 ++ t)⟩
  | .mpush a => some ⟨7#7, 0#7, a, 0#7, 0#4⟩
  | .melse => some ⟨7#7, 0#7, 0#7, 0#7, 1#4⟩
  | .mpop => some ⟨7#7, 0#7, 0#7, 0#7, 2#4⟩
  | .mset a => some ⟨7#7, 0#7, a, 0#7, 3#4⟩
  | .mget d => some ⟨7#7, d, 0#7, 0#7, 4#4⟩
  | .trap n => some ⟨8#7, 0#7, 0#7, (0#4 ++ n.extractLsb' 4 3), n.extractLsb' 0 4⟩
  | .waita c t => some ⟨9#7, (0#3 ++ c), 0#7, (0#5 ++ t.extractLsb' 4 2), t.extractLsb' 0 4⟩
  | .waitf f => some ⟨10#7, 0#7, (0#6 ++ f.extractLsb' 11 1), f.extractLsb' 4 7, f.extractLsb' 0 4⟩
  | .sleep a => some ⟨11#7, 0#7, a, 0#7, 0#4⟩
  | .mfsr d n => some ⟨12#7, d, 0#7, n.extractLsb' 4 7, n.extractLsb' 0 4⟩
  | .mtsr a n => some ⟨13#7, 0#7, a, n.extractLsb' 4 7, n.extractLsb' 0 4⟩
  | .evt a b => some ⟨14#7, 0#7, a, b, 0#4⟩
  | .causeSet a => some ⟨14#7, 0#7, a, 0#7, 1#4⟩
  | .causeGet d => some ⟨14#7, d, 0#7, 0#7, 2#4⟩
  | .trcOn a => some ⟨14#7, 0#7, a, 0#7, 3#4⟩
  | .trcOff => some ⟨14#7, 0#7, 0#7, 0#7, 4#4⟩
  | .sadd d a b => some ⟨16#7, d, a, b, 0#4⟩
  | .ssub d a b => some ⟨16#7, d, a, b, 1#4⟩
  | .sand d a b => some ⟨16#7, d, a, b, 2#4⟩
  | .sor d a b => some ⟨16#7, d, a, b, 3#4⟩
  | .sxor d a b => some ⟨16#7, d, a, b, 4#4⟩
  | .sshl d a b => some ⟨16#7, d, a, b, 5#4⟩
  | .sshr d a b => some ⟨16#7, d, a, b, 6#4⟩
  | .ssar d a b => some ⟨16#7, d, a, b, 7#4⟩
  | .smin d a b => some ⟨16#7, d, a, b, 8#4⟩
  | .smax d a b => some ⟨16#7, d, a, b, 9#4⟩
  | .sminn d a b => some ⟨16#7, d, a, b, 10#4⟩
  | .smaxn d a b => some ⟨16#7, d, a, b, 11#4⟩
  | .smul d a b => some ⟨16#7, d, a, b, 12#4⟩
  | .smulh d a b => some ⟨16#7, d, a, b, 13#4⟩
  | .smulhn d a b => some ⟨16#7, d, a, b, 14#4⟩
  | .sandn d a b => some ⟨16#7, d, a, b, 15#4⟩
  | .saddi d a i => some ⟨17#7, d, a, i.extractLsb' 4 7, i.extractLsb' 0 4⟩
  | .sandi d a i => some ⟨18#7, d, a, i.extractLsb' 4 7, i.extractLsb' 0 4⟩
  | .sori d a i => some ⟨19#7, d, a, i.extractLsb' 4 7, i.extractLsb' 0 4⟩
  | .sxori d a i => some ⟨20#7, d, a, i.extractLsb' 4 7, i.extractLsb' 0 4⟩
  | .sshlImm d a n => some ⟨21#7, d, a, (0#6 ++ n.extractLsb' 4 1), n.extractLsb' 0 4⟩
  | .sshrImm d a n => some ⟨21#7, d, a, (16#6 ++ n.extractLsb' 4 1), n.extractLsb' 0 4⟩
  | .ssarImm d a n => some ⟨21#7, d, a, (32#6 ++ n.extractLsb' 4 1), n.extractLsb' 0 4⟩
  | .srot d a n => some ⟨21#7, d, a, (48#6 ++ n.extractLsb' 4 1), n.extractLsb' 0 4⟩
  | .smovi d i => some ⟨22#7, d, i.extractLsb' 11 7, i.extractLsb' 4 7, i.extractLsb' 0 4⟩
  | .smovhi d i => some ⟨23#7, d, i.extractLsb' 11 7, i.extractLsb' 4 7, i.extractLsb' 0 4⟩
  | .scmp a b => some ⟨24#7, 0#7, a, b, 0#4⟩
  | .scmpN a b => some ⟨24#7, 0#7, a, b, 1#4⟩
  | .scmpi a i => some ⟨25#7, 0#7, a, i.extractLsb' 4 7, i.extractLsb' 0 4⟩
  | .scmpiN a i => some ⟨25#7, 1#7, a, i.extractLsb' 4 7, i.extractLsb' 0 4⟩
  | .saddp d a b p s => some ⟨26#7, d, a, b, (p ++ 0#1 ++ s)⟩
  | .ssel d a b c => some ⟨27#7, d, a, b, c⟩
  | .smov d a => some ⟨28#7, d, a, 0#7, 0#4⟩
  | .snot d a => some ⟨28#7, d, a, 0#7, 1#4⟩
  | .sneg d a => some ⟨28#7, d, a, 0#7, 2#4⟩
  | .sclz d a => some ⟨28#7, d, a, 0#7, 3#4⟩
  | .spopc d a => some ⟨28#7, d, a, 0#7, 4#4⟩
  | .sbrev d a => some ⟨28#7, d, a, 0#7, 5#4⟩
  | .ssext8 d a => some ⟨28#7, d, a, 0#7, 6#4⟩
  | .ssext16 d a => some ⟨28#7, d, a, 0#7, 7#4⟩
  | .sdivi d a b => some ⟨29#7, d, a, b, 0#4⟩
  | .sdivn d a b => some ⟨29#7, d, a, b, 1#4⟩
  | .sremi d a b => some ⟨29#7, d, a, b, 2#4⟩
  | .sremn d a b => some ⟨29#7, d, a, b, 3#4⟩
  | .qpush a => some ⟨30#7, 0#7, a, 0#7, 0#4⟩
  | .qpop d => some ⟨30#7, d, 0#7, 0#7, 1#4⟩
  | .qpeek d => some ⟨30#7, d, 0#7, 0#7, 2#4⟩
  | .qlen d => some ⟨30#7, d, 0#7, 0#7, 3#4⟩
  | .vacqB a => some ⟨31#7, 0#7, a, 0#7, 0#4⟩
  | .vacqT d a => some ⟨31#7, d, a, 0#7, 1#4⟩
  | .vrel a => some ⟨31#7, 0#7, a, 0#7, 2#4⟩
  | .vwin a => some ⟨31#7, 0#7, a, 0#7, 3#4⟩
  | .vregGrant _ => none
  | .vadd d a b => some ⟨32#7, d, a, b, 0#4⟩
  | .vsub d a b => some ⟨32#7, d, a, b, 1#4⟩
  | .vand d a b => some ⟨32#7, d, a, b, 2#4⟩
  | .vor d a b => some ⟨32#7, d, a, b, 3#4⟩
  | .vxor d a b => some ⟨32#7, d, a, b, 4#4⟩
  | .vshl d a b => some ⟨32#7, d, a, b, 5#4⟩
  | .vshr d a b => some ⟨32#7, d, a, b, 6#4⟩
  | .vsar d a b => some ⟨32#7, d, a, b, 7#4⟩
  | .vmin d a b => some ⟨32#7, d, a, b, 8#4⟩
  | .vmax d a b => some ⟨32#7, d, a, b, 9#4⟩
  | .vminn d a b => some ⟨32#7, d, a, b, 10#4⟩
  | .vmaxn d a b => some ⟨32#7, d, a, b, 11#4⟩
  | .vmul d a b => some ⟨32#7, d, a, b, 12#4⟩
  | .vmulh d a b => some ⟨32#7, d, a, b, 13#4⟩
  | .vmulhn d a b => some ⟨32#7, d, a, b, 14#4⟩
  | .vandn d a b => some ⟨32#7, d, a, b, 15#4⟩
  | .vaddS d a b => some ⟨33#7, d, a, b, 0#4⟩
  | .vsubS d a b => some ⟨33#7, d, a, b, 1#4⟩
  | .vandS d a b => some ⟨33#7, d, a, b, 2#4⟩
  | .vorS d a b => some ⟨33#7, d, a, b, 3#4⟩
  | .vxorS d a b => some ⟨33#7, d, a, b, 4#4⟩
  | .vshlS d a b => some ⟨33#7, d, a, b, 5#4⟩
  | .vshrS d a b => some ⟨33#7, d, a, b, 6#4⟩
  | .vsarS d a b => some ⟨33#7, d, a, b, 7#4⟩
  | .vminS d a b => some ⟨33#7, d, a, b, 8#4⟩
  | .vmaxS d a b => some ⟨33#7, d, a, b, 9#4⟩
  | .vminnS d a b => some ⟨33#7, d, a, b, 10#4⟩
  | .vmaxnS d a b => some ⟨33#7, d, a, b, 11#4⟩
  | .vmulS d a b => some ⟨33#7, d, a, b, 12#4⟩
  | .vmulhS d a b => some ⟨33#7, d, a, b, 13#4⟩
  | .vmulhnS d a b => some ⟨33#7, d, a, b, 14#4⟩
  | .vandnS d a b => some ⟨33#7, d, a, b, 15#4⟩
  | .vaddi d a i => some ⟨34#7, d, a, i.extractLsb' 4 7, i.extractLsb' 0 4⟩
  | .vandi d a i => some ⟨35#7, d, a, i.extractLsb' 4 7, i.extractLsb' 0 4⟩
  | .vori d a i => some ⟨36#7, d, a, i.extractLsb' 4 7, i.extractLsb' 0 4⟩
  | .vxori d a i => some ⟨37#7, d, a, i.extractLsb' 4 7, i.extractLsb' 0 4⟩
  | .vshlImm d a n => some ⟨38#7, d, a, (0#6 ++ n.extractLsb' 4 1), n.extractLsb' 0 4⟩
  | .vshrImm d a n => some ⟨38#7, d, a, (16#6 ++ n.extractLsb' 4 1), n.extractLsb' 0 4⟩
  | .vsarImm d a n => some ⟨38#7, d, a, (32#6 ++ n.extractLsb' 4 1), n.extractLsb' 0 4⟩
  | .vrot d a n => some ⟨38#7, d, a, (48#6 ++ n.extractLsb' 4 1), n.extractLsb' 0 4⟩
  | .vmovi d i => some ⟨39#7, d, i.extractLsb' 11 7, i.extractLsb' 4 7, i.extractLsb' 0 4⟩
  | .madloI32 d a b => some ⟨40#7, d, a, b, 0#4⟩
  | .madhiI32 d a b => some ⟨40#7, d, a, b, 1#4⟩
  | .madloN32 d a b => some ⟨40#7, d, a, b, 2#4⟩
  | .madhiN32 d a b => some ⟨40#7, d, a, b, 3#4⟩
  | .vcmpEq d a b => some ⟨41#7, d, a, b, 0#4⟩
  | .vcmpNe d a b => some ⟨41#7, d, a, b, 1#4⟩
  | .vcmpLt d a b => some ⟨41#7, d, a, b, 2#4⟩
  | .vcmpLe d a b => some ⟨41#7, d, a, b, 3#4⟩
  | .vcmpGt d a b => some ⟨41#7, d, a, b, 4#4⟩
  | .vcmpGe d a b => some ⟨41#7, d, a, b, 5#4⟩
  | .vcmpLtn d a b => some ⟨41#7, d, a, b, 6#4⟩
  | .vcmpLen d a b => some ⟨41#7, d, a, b, 7#4⟩
  | .vcmpGtn d a b => some ⟨41#7, d, a, b, 8#4⟩
  | .vcmpGen d a b => some ⟨41#7, d, a, b, 9#4⟩
  | .vcmpsEq d a b => some ⟨42#7, d, a, b, 0#4⟩
  | .vcmpsNe d a b => some ⟨42#7, d, a, b, 1#4⟩
  | .vcmpsLt d a b => some ⟨42#7, d, a, b, 2#4⟩
  | .vcmpsLe d a b => some ⟨42#7, d, a, b, 3#4⟩
  | .vcmpsGt d a b => some ⟨42#7, d, a, b, 4#4⟩
  | .vcmpsGe d a b => some ⟨42#7, d, a, b, 5#4⟩
  | .vcmpsLtn d a b => some ⟨42#7, d, a, b, 6#4⟩
  | .vcmpsLen d a b => some ⟨42#7, d, a, b, 7#4⟩
  | .vcmpsGtn d a b => some ⟨42#7, d, a, b, 8#4⟩
  | .vcmpsGen d a b => some ⟨42#7, d, a, b, 9#4⟩
  | .vsel d a b p => some ⟨43#7, d, a, b, p⟩
  | .vmov d a => some ⟨44#7, d, a, 0#7, 0#4⟩
  | .vnot d a => some ⟨44#7, d, a, 0#7, 1#4⟩
  | .vneg d a => some ⟨44#7, d, a, 0#7, 2#4⟩
  | .vabs d a => some ⟨44#7, d, a, 0#7, 3#4⟩
  | .vclz d a => some ⟨44#7, d, a, 0#7, 4#4⟩
  | .vpopc d a => some ⟨44#7, d, a, 0#7, 5#4⟩
  | .vbrev d a => some ⟨44#7, d, a, 0#7, 6#4⟩
  | .vsext8 d a => some ⟨44#7, d, a, 0#7, 7#4⟩
  | .vsext16 d a => some ⟨44#7, d, a, 0#7, 8#4⟩
  | .vzext8 d a => some ⟨44#7, d, a, 0#7, 9#4⟩
  | .vzext16 d a => some ⟨44#7, d, a, 0#7, 10#4⟩
  | .vlane d => some ⟨44#7, d, 0#7, 0#7, 11#4⟩
  | .vbfeN d a b => some ⟨45#7, d, a, b, 0#4⟩
  | .vbfeI d a b => some ⟨45#7, d, a, b, 1#4⟩
  | .vbfi d a b => some ⟨45#7, d, a, b, 2#4⟩
  | .vleaN d a b s => some ⟨46#7, d, a, b, (0#2 ++ s)⟩
  | .vleaI d a b s => some ⟨46#7, d, a, b, (2#2 ++ s)⟩
  | .vrand d a b w => some ⟨47#7, d, a, b, (0#2 ++ w)⟩
  | .pand d a b => some ⟨48#7, d, a, b, 0#4⟩
  | .por d a b => some ⟨48#7, d, a, b, 1#4⟩
  | .pxor d a b => some ⟨48#7, d, a, b, 2#4⟩
  | .pandn d a b => some ⟨48#7, d, a, b, 3#4⟩
  | .porn d a b => some ⟨48#7, d, a, b, 4#4⟩
  | .pnot d a => some ⟨48#7, d, a, 0#7, 5#4⟩
  | .pmov d a => some ⟨48#7, d, a, 0#7, 6#4⟩
  | .pset d => some ⟨48#7, d, 0#7, 0#7, 7#4⟩
  | .pclr d => some ⟨48#7, d, 0#7, 0#7, 8#4⟩
  | .ptov d a => some ⟨49#7, d, a, 0#7, 0#4⟩
  | .vtop d a => some ⟨49#7, d, a, 0#7, 1#4⟩
  | .fadd d a b => some ⟨52#7, d, a, b, 0#4⟩
  | .fsub d a b => some ⟨52#7, d, a, b, 1#4⟩
  | .fmul d a b => some ⟨52#7, d, a, b, 2#4⟩
  | .fmin d a b => some ⟨52#7, d, a, b, 3#4⟩
  | .fmax d a b => some ⟨52#7, d, a, b, 4#4⟩
  | .fcopysign d a b => some ⟨52#7, d, a, b, 5#4⟩
  | .faddS d a b => some ⟨53#7, d, a, b, 0#4⟩
  | .fsubS d a b => some ⟨53#7, d, a, b, 1#4⟩
  | .fmulS d a b => some ⟨53#7, d, a, b, 2#4⟩
  | .fminS d a b => some ⟨53#7, d, a, b, 3#4⟩
  | .fmaxS d a b => some ⟨53#7, d, a, b, 4#4⟩
  | .fcopysignS d a b => some ⟨53#7, d, a, b, 5#4⟩
  | .ffma d a b r => some ⟨54#7, d, a, b, (r ++ 0#2)⟩
  | .ffmaNeg d a b r => some ⟨54#7, d, a, b, (r ++ 1#2)⟩
  | .ffmaSub d a b r => some ⟨54#7, d, a, b, (r ++ 2#2)⟩
  | .ffmaNegsub d a b r => some ⟨54#7, d, a, b, (r ++ 3#2)⟩
  | .ffmas d a b r => some ⟨55#7, d, a, b, (r ++ 0#2)⟩
  | .ffmasNeg d a b r => some ⟨55#7, d, a, b, (r ++ 1#2)⟩
  | .ffmasSub d a b r => some ⟨55#7, d, a, b, (r ++ 2#2)⟩
  | .ffmasNegsub d a b r => some ⟨55#7, d, a, b, (r ++ 3#2)⟩
  | .fcmpEq d a b => some ⟨56#7, d, a, b, 0#4⟩
  | .fcmpNe d a b => some ⟨56#7, d, a, b, 1#4⟩
  | .fcmpLt d a b => some ⟨56#7, d, a, b, 2#4⟩
  | .fcmpLe d a b => some ⟨56#7, d, a, b, 3#4⟩
  | .fcmpGt d a b => some ⟨56#7, d, a, b, 4#4⟩
  | .fcmpGe d a b => some ⟨56#7, d, a, b, 5#4⟩
  | .fcmpUnord d a b => some ⟨56#7, d, a, b, 6#4⟩
  | .fcmpOrd d a b => some ⟨56#7, d, a, b, 7#4⟩
  | .frcp d a => some ⟨57#7, d, a, 0#7, 0#4⟩
  | .frsq d a => some ⟨57#7, d, a, 0#7, 1#4⟩
  | .fsqrt d a => some ⟨57#7, d, a, 0#7, 2#4⟩
  | .fexp2 d a => some ⟨57#7, d, a, 0#7, 3#4⟩
  | .flog2 d a => some ⟨57#7, d, a, 0#7, 4#4⟩
  | .fsin d a => some ⟨57#7, d, a, 0#7, 5#4⟩
  | .fcos d a => some ⟨57#7, d, a, 0#7, 6#4⟩
  | .ftanh d a => some ⟨57#7, d, a, 0#7, 7#4⟩
  | .fdiv d a b => some ⟨57#7, d, a, b, 8#4⟩
  | .fcvtBf16F32 d a r => some ⟨58#7, d, a, (0#4 ++ r), 0#4⟩
  | .fcvtF16F32 d a r => some ⟨58#7, d, a, (0#4 ++ r), 1#4⟩
  | .fcvtF32Bf16 d a r => some ⟨58#7, d, a, (0#4 ++ r), 2#4⟩
  | .fcvtF32F16 d a r => some ⟨58#7, d, a, (0#4 ++ r), 3#4⟩
  | .fcvtE4m3F32 d a r => some ⟨58#7, d, a, (0#4 ++ r), 4#4⟩
  | .fcvtE5m2F32 d a r => some ⟨58#7, d, a, (0#4 ++ r), 5#4⟩
  | .fcvtF32E4m3 d a r => some ⟨58#7, d, a, (0#4 ++ r), 6#4⟩
  | .fcvtF32E5m2 d a r => some ⟨58#7, d, a, (0#4 ++ r), 7#4⟩
  | .fcvtI32F32 d a r => some ⟨58#7, d, a, (0#4 ++ r), 8#4⟩
  | .fcvtN32F32 d a r => some ⟨58#7, d, a, (0#4 ++ r), 9#4⟩
  | .fcvtF32I32 d a r => some ⟨58#7, d, a, (0#4 ++ r), 10#4⟩
  | .fcvtF32N32 d a r => some ⟨58#7, d, a, (0#4 ++ r), 11#4⟩
  | .fcvtscE4m3F32 d a b k => some ⟨59#7, d, a, b, (0#2 ++ k)⟩
  | .fcvtscE5m2F32 d a b k => some ⟨59#7, d, a, b, (1#2 ++ k)⟩
  | .fcvtscF32E4m3 d a b k => some ⟨59#7, d, a, b, (2#2 ++ k)⟩
  | .fcvtscF32E5m2 d a b k => some ⟨59#7, d, a, b, (3#2 ++ k)⟩
  | .hadd2 d a b f => some ⟨60#7, d, a, b, (f ++ 0#3)⟩
  | .hsub2 d a b f => some ⟨60#7, d, a, b, (f ++ 1#3)⟩
  | .hmul2 d a b f => some ⟨60#7, d, a, b, (f ++ 2#3)⟩
  | .hmin2 d a b f => some ⟨60#7, d, a, b, (f ++ 3#3)⟩
  | .hmax2 d a b f => some ⟨60#7, d, a, b, (f ++ 4#3)⟩
  | .hfma2 d a b f => some ⟨61#7, d, a, b, (f ++ 0#3)⟩
  | .hfma2Neg d a b f => some ⟨61#7, d, a, b, (f ++ 1#3)⟩
  | .hfma2Sub d a b f => some ⟨61#7, d, a, b, (f ++ 2#3)⟩
  | .hfma2Negsub d a b f => some ⟨61#7, d, a, b, (f ++ 3#3)⟩
  | .dot2Bf16 d a b => some ⟨62#7, d, a, b, 0#4⟩
  | .dot2F16 d a b => some ⟨62#7, d, a, b, 1#4⟩
  | .dot4E4m3 d a b => some ⟨62#7, d, a, b, 2#4⟩
  | .dot4E5m2 d a b => some ⟨62#7, d, a, b, 3#4⟩
  | .dot4I8 d a b => some ⟨62#7, d, a, b, 4#4⟩
  | .dot4N8 d a b => some ⟨62#7, d, a, b, 5#4⟩
  | .dot8Cb4 d a b => some ⟨62#7, d, a, b, 6#4⟩
  | .fclass d a => some ⟨63#7, d, a, 0#7, 0#4⟩
  | .frnd d a r => some ⟨64#7, d, a, 0#7, (0#1 ++ r)⟩
  | .fmovi d i => some ⟨65#7, d, i.extractLsb' 11 7, i.extractLsb' 4 7, i.extractLsb' 0 4⟩
  | .fscaleb d a b => some ⟨66#7, d, a, b, 0#4⟩
  | .fgetexp d a => some ⟨66#7, d, a, 0#7, 1#4⟩
  | .fgetmant d a => some ⟨66#7, d, a, 0#7, 2#4⟩
  | .shflIdx d a b => some ⟨72#7, d, a, b, 0#4⟩
  | .shflUp d a b => some ⟨72#7, d, a, b, 1#4⟩
  | .shflDn d a b => some ⟨72#7, d, a, b, 2#4⟩
  | .shflXor d a b => some ⟨72#7, d, a, b, 3#4⟩
  | .shfliIdx d a n => some ⟨73#7, d, a, (0#6 ++ n.extractLsb' 4 1), n.extractLsb' 0 4⟩
  | .shfliUp d a n => some ⟨73#7, d, a, (16#6 ++ n.extractLsb' 4 1), n.extractLsb' 0 4⟩
  | .shfliDn d a n => some ⟨73#7, d, a, (32#6 ++ n.extractLsb' 4 1), n.extractLsb' 0 4⟩
  | .shfliXor d a n => some ⟨73#7, d, a, (48#6 ++ n.extractLsb' 4 1), n.extractLsb' 0 4⟩
  | .voteAny d a => some ⟨74#7, d, a, 0#7, 0#4⟩
  | .voteAll d a => some ⟨74#7, d, a, 0#7, 1#4⟩
  | .voteBallot d a => some ⟨74#7, d, a, 0#7, 2#4⟩
  | .voteUni d a => some ⟨74#7, d, a, 0#7, 3#4⟩
  | .voteElect d => some ⟨74#7, d, 0#7, 0#7, 4#4⟩
  | .reduceAddI32 d a => some ⟨75#7, d, a, 0#7, 0#4⟩
  | .reduceAddF32 d a => some ⟨75#7, d, a, 0#7, 1#4⟩
  | .reduceMinI d a => some ⟨75#7, d, a, 0#7, 2#4⟩
  | .reduceMaxI d a => some ⟨75#7, d, a, 0#7, 3#4⟩
  | .reduceMinN d a => some ⟨75#7, d, a, 0#7, 4#4⟩
  | .reduceMaxN d a => some ⟨75#7, d, a, 0#7, 5#4⟩
  | .reduceAnd d a => some ⟨75#7, d, a, 0#7, 6#4⟩
  | .reduceOr d a => some ⟨75#7, d, a, 0#7, 7#4⟩
  | .reduceXor d a => some ⟨75#7, d, a, 0#7, 8#4⟩
  | .reduceMinF32 d a => some ⟨75#7, d, a, 0#7, 9#4⟩
  | .reduceMaxF32 d a => some ⟨75#7, d, a, 0#7, 10#4⟩
  | .scanAddI32 d a e => some ⟨76#7, d, a, 0#7, (e ++ 0#3)⟩
  | .scanAddF32 d a e => some ⟨76#7, d, a, 0#7, (e ++ 1#3)⟩
  | .scanMinI d a e => some ⟨76#7, d, a, 0#7, (e ++ 2#3)⟩
  | .scanMaxI d a e => some ⟨76#7, d, a, 0#7, (e ++ 3#3)⟩
  | .scanOr d a e => some ⟨76#7, d, a, 0#7, (e ++ 4#3)⟩
  | .matchLanes d a => some ⟨77#7, d, a, 0#7, 0#4⟩
  | .rdlane d a b => some ⟨78#7, d, a, b, 0#4⟩
  | .wrlane d a b => some ⟨78#7, d, a, b, 1#4⟩
  | .bcast d a b => some ⟨78#7, d, a, b, 2#4⟩
  | .ldvN8 d a k o => some ⟨80#7, d, a, (k ++ o.extractLsb' 4 3), o.extractLsb' 0 4⟩
  | .ldvI8 d a k o => some ⟨81#7, d, a, (k ++ o.extractLsb' 4 3), o.extractLsb' 0 4⟩
  | .ldvN16 d a k o => some ⟨82#7, d, a, (k ++ o.extractLsb' 4 3), o.extractLsb' 0 4⟩
  | .ldvI16 d a k o => some ⟨83#7, d, a, (k ++ o.extractLsb' 4 3), o.extractLsb' 0 4⟩
  | .ldv32 d a k o => some ⟨84#7, d, a, (k ++ o.extractLsb' 4 3), o.extractLsb' 0 4⟩
  | .ldv64 d a k o => some ⟨85#7, d, a, (k ++ o.extractLsb' 4 3), o.extractLsb' 0 4⟩
  | .ldv128 d a k o => some ⟨86#7, d, a, (k ++ o.extractLsb' 4 3), o.extractLsb' 0 4⟩
  | .stv8 d a k o => some ⟨87#7, d, a, (k ++ o.extractLsb' 4 3), o.extractLsb' 0 4⟩
  | .stv16 d a k o => some ⟨88#7, d, a, (k ++ o.extractLsb' 4 3), o.extractLsb' 0 4⟩
  | .stv32 d a k o => some ⟨89#7, d, a, (k ++ o.extractLsb' 4 3), o.extractLsb' 0 4⟩
  | .stv64 d a k o => some ⟨90#7, d, a, (k ++ o.extractLsb' 4 3), o.extractLsb' 0 4⟩
  | .stv128 d a k o => some ⟨91#7, d, a, (k ++ o.extractLsb' 4 3), o.extractLsb' 0 4⟩
  | .lds32 d a k o => some ⟨92#7, d, a, (k ++ o.extractLsb' 4 3), o.extractLsb' 0 4⟩
  | .lds64 d a k o => some ⟨93#7, d, a, (k ++ o.extractLsb' 4 3), o.extractLsb' 0 4⟩
  | .sts32 d a k o => some ⟨94#7, d, a, (k ++ o.extractLsb' 4 3), o.extractLsb' 0 4⟩
  | .sts64 d a k o => some ⟨95#7, d, a, (k ++ o.extractLsb' 4 3), o.extractLsb' 0 4⟩
  | .atomAddI32 s d a b => some ⟨(24#5 ++ s), d, a, b, 0#4⟩
  | .atomAddF32 s d a b => some ⟨(24#5 ++ s), d, a, b, 1#4⟩
  | .atomMinI s d a b => some ⟨(24#5 ++ s), d, a, b, 2#4⟩
  | .atomMaxI s d a b => some ⟨(24#5 ++ s), d, a, b, 3#4⟩
  | .atomMinN s d a b => some ⟨(24#5 ++ s), d, a, b, 4#4⟩
  | .atomMaxN s d a b => some ⟨(24#5 ++ s), d, a, b, 5#4⟩
  | .atomAnd s d a b => some ⟨(24#5 ++ s), d, a, b, 6#4⟩
  | .atomOr s d a b => some ⟨(24#5 ++ s), d, a, b, 7#4⟩
  | .atomXor s d a b => some ⟨(24#5 ++ s), d, a, b, 8#4⟩
  | .atomXchg s d a b => some ⟨(24#5 ++ s), d, a, b, 9#4⟩
  | .atomCas s d a b => some ⟨(24#5 ++ s), d, a, b, 10#4⟩
  | .atomAddI64 s d a b => some ⟨(24#5 ++ s), d, a, b, 11#4⟩
  | .atomIncw s d a b => some ⟨(24#5 ++ s), d, a, b, 12#4⟩
  | .atomAddBf16x2 s d a b => some ⟨(24#5 ++ s), d, a, b, 13#4⟩
  | .redAddI32 s a b => some ⟨100#7, (0#4 ++ s), a, b, 0#4⟩
  | .redAddF32 s a b => some ⟨100#7, (0#4 ++ s), a, b, 1#4⟩
  | .redMinI s a b => some ⟨100#7, (0#4 ++ s), a, b, 2#4⟩
  | .redMaxI s a b => some ⟨100#7, (0#4 ++ s), a, b, 3#4⟩
  | .redMinN s a b => some ⟨100#7, (0#4 ++ s), a, b, 4#4⟩
  | .redMaxN s a b => some ⟨100#7, (0#4 ++ s), a, b, 5#4⟩
  | .redAnd s a b => some ⟨100#7, (0#4 ++ s), a, b, 6#4⟩
  | .redOr s a b => some ⟨100#7, (0#4 ++ s), a, b, 7#4⟩
  | .redXor s a b => some ⟨100#7, (0#4 ++ s), a, b, 8#4⟩
  | .redXchg s a b => some ⟨100#7, (0#4 ++ s), a, b, 9#4⟩
  | .redCas s a b => some ⟨100#7, (0#4 ++ s), a, b, 10#4⟩
  | .redAddI64 s a b => some ⟨100#7, (0#4 ++ s), a, b, 11#4⟩
  | .redIncw s a b => some ⟨100#7, (0#4 ++ s), a, b, 12#4⟩
  | .redAddBf16x2 s a b => some ⟨100#7, (0#4 ++ s), a, b, 13#4⟩
  | .callo d a b => some ⟨101#7, d, a, b, 0#4⟩
  | .fenceAcq s => some ⟨102#7, 0#7, 0#7, 0#7, (0#1 ++ s)⟩
  | .fenceRel s => some ⟨102#7, 0#7, 0#7, 0#7, (1#1 ++ s)⟩
  | .fenceAcqrel s => some ⟨102#7, 0#7, 0#7, 1#7, (0#1 ++ s)⟩
  | .fenceSc s => some ⟨102#7, 0#7, 0#7, 1#7, (1#1 ++ s)⟩
  | .fenceOpnd s => some ⟨102#7, 0#7, 0#7, 2#7, (0#1 ++ s)⟩
  | .fenceFlush s => some ⟨102#7, 0#7, 0#7, 2#7, (1#1 ++ s)⟩
  | .fenceEng s => some ⟨102#7, 0#7, 0#7, 3#7, (0#1 ++ s)⟩
  | .pft a h o => some ⟨103#7, 0#7, a, (0#2 ++ h ++ o.extractLsb' 4 3), o.extractLsb' 0 4⟩
  | .copy d a b => some ⟨104#7, d, a, b, 0#4⟩
  | .copyNp d a b => some ⟨104#7, d, a, b, 1#4⟩
  | .gpool d a b => some ⟨105#7, d, a, b, 0#4⟩
  | .coll d a b => some ⟨106#7, d, a, b, 0#4⟩
  | .barInit a b => some ⟨107#7, 0#7, a, b, 0#4⟩
  | .barArrive d a => some ⟨107#7, d, a, 0#7, 1#4⟩
  | .barWait a b => some ⟨107#7, 0#7, a, b, 2#4⟩
  | .barArrwait d a => some ⟨107#7, d, a, 0#7, 3#4⟩
  | .barExpect a b => some ⟨107#7, 0#7, a, b, 4#4⟩
  | .barTrywait d a b => some ⟨107#7, d, a, b, 5#4⟩
  | .barWaitp a b => some ⟨107#7, 0#7, a, b, 6#4⟩
  | .barDrop d a => some ⟨107#7, d, a, 0#7, 7#4⟩
  | .semInit a b => some ⟨108#7, 0#7, a, b, 0#4⟩
  | .semP a => some ⟨108#7, 0#7, a, 0#7, 1#4⟩
  | .semV a => some ⟨108#7, 0#7, a, 0#7, 2#4⟩
  | .semTryp d a => some ⟨108#7, d, a, 0#7, 3#4⟩
  | .spawn a => some ⟨109#7, 0#7, a, 0#7, 0#4⟩
  | .jdec d a => some ⟨109#7, d, a, 0#7, 1#4⟩
  | .falloc d a b => some ⟨110#7, d, a, b, 0#4⟩
  | .ffree a => some ⟨110#7, 0#7, a, 0#7, 1#4⟩
  | .fquota d a => some ⟨110#7, d, a, 0#7, 2#4⟩
  | .creply b => some ⟨111#7, 0#7, 0#7, b, 0#4⟩
  | .cdone => some ⟨111#7, 0#7, 0#7, 0#7, 1#4⟩
  | .cabort a => some ⟨111#7, 0#7, a, 0#7, 2#4⟩
  | .mloopBf16 d a b z q g => some ⟨112#7, d, a, b, (z ++ 0#1 ++ q ++ g)⟩
  | .mloopF16 d a b z q g => some ⟨113#7, d, a, b, (z ++ 0#1 ++ q ++ g)⟩
  | .mloopE4m3 d a b z s q g => some ⟨114#7, d, a, b, (z ++ s ++ q ++ g)⟩
  | .mloopE5m2 d a b z s q g => some ⟨115#7, d, a, b, (z ++ s ++ q ++ g)⟩
  | .mloopI8 d a b z q g => some ⟨116#7, d, a, b, (z ++ 0#1 ++ q ++ g)⟩
  | .mloopCb4 d a b z s q g => some ⟨117#7, d, a, b, (z ++ s ++ q ++ g)⟩
  | .mloopCb4bf d a b z s q g => some ⟨118#7, d, a, b, (z ++ s ++ q ++ g)⟩
  | .mzero d => some ⟨119#7, d, 0#7, 0#7, 0#4⟩
  | .mcb s a => some ⟨119#7, (0#4 ++ s), a, 0#7, 1#4⟩
  | .mstat d w c => some ⟨119#7, d, (0#4 ++ w), (0#6 ++ c), 2#4⟩
  | .mdrainStoreF32 d a c => some ⟨120#7, d, a, (0#6 ++ c), 0#4⟩
  | .mdrainStoreBf16 d a c => some ⟨120#7, d, a, (0#6 ++ c), 1#4⟩
  | .mdrainStoreE4m3 d a c => some ⟨120#7, d, a, (0#6 ++ c), 2#4⟩
  | .mdrainAddF32 d a c => some ⟨120#7, d, a, (0#6 ++ c), 3#4⟩
  | .mdrainAddOrdered d a c => some ⟨120#7, d, a, (0#6 ++ c), 4#4⟩
  | .msave a => some ⟨121#7, 0#7, a, 0#7, 0#4⟩
  | .mrestore a => some ⟨121#7, 0#7, a, 0#7, 1#4⟩
  | .clauseHeader w x y l => some ⟨127#7, w.extractLsb' 5 7, (w.extractLsb' 0 5 ++ x.extractLsb' 2 2), (x.extractLsb' 0 2 ++ y ++ l.extractLsb' 4 1), l.extractLsb' 0 4⟩
  | .streamAges _ _ => none
  | .longLatencyWrite _ _ => none
  | .loadLand _ => none
  | .loadError _ => none
  | .deferredTrap _ => none
  | .homeUnitRequest _ => none
  | .spillFreed _ => none
  | .barrierHomeOp _ => none
  | .flipWake _ _ => none
  | .semHomeOp _ => none
  | .jdecHomeOp _ => none
  | .homeReplyArrival _ => none
  | .promisePass _ => none
  | .promiseRevise _ => none
  | .sleepWake _ _ => none
  | .matrixClaimPass _ => none
  | .engineEntryStart _ => none
  | .mloopKstepEnd _ => none
  | .engineEntryComplete _ => none
  | .drainTicketRead _ => none
  | .copyAccept _ => none
  | .gpoolAccept _ => none
  | .engineLinePerformed _ _ => none
  | .collAccept _ => none
  | .collDataArrival _ => none
  | .collAck _ => none
  | .collEndMessage _ => none
  | .curfewExpiry _ => none
  | .curfewProbeReply _ => none
  | .curfewProbeTimeout _ => none
  | .calloRequestArrival _ => none
  | .batchForm _ => none
  | .calloReplyLand _ => none
  | .detEpochApply _ => none
  | .doorbell _ => none
  | .blockDispatch _ => none
  | .recordLift _ => none
  | .reservationWait _ => none
  | .preemptTrigger _ => none
  | .preemptSave _ => none
  | .preemptRestore _ => none
  | .blockLeave _ => none
  | .spawnRingCopy => none
  | .taskRetire _ => none
  | .taskAbort _ => none
  | .pageWalkDone _ => none
  | .faultRecordWrite => none
  | .faultServiceDuty _ => none
  | .migrationDuty _ _ _ => none
  | .trnInvalAll => none
  | .trnInvalTenant _ => none
  | .trnInvalRange _ _ _ => none
  | .invalidationDone => none
  | .faultRingHead _ => none
  | .replayToken _ => none
  | .replayPage _ _ => none
  | .replayTenant _ => none
  | .replayFail _ _ => none
  | .keyInstall => none
  | .keyRetire => none
  | .frameBind => none
  | .frameUnbind => none
  | .rawcopy => none
  | .avquotaWrite _ => none
  | .snapshotStart _ => none
  | .snapshotAbort => none
  | .snapshotStageDone _ => none
  | .snapshotDrainDone => none
  | .groupReload _ => none
  | .groupRebuild _ => none
  | .rebuildListArrival _ => none
  | .rebuildAckTimeout _ => none
  | .waitSnapshot _ => none
  | .waitGather _ => none
  | .gatherDeviceTimeout _ => none
  | .curfewRingHead _ => none
  | .errorLogHead _ _ => none
  | .hostRingHead _ => none
  | .errorInjectArm _ => none
  | .errorReport _ _ _ _ => none
  | .eventHandoff => none
  | .duskDrain _ => none
  | .traceDrainCopy => none
  | .traceChunkWrite _ _ => none
  | .flitReceive _ _ _ _ => none
  | .nakReceive _ _ => none
  | .laneFail _ _ => none
  | .linkTrainDone _ => none
  | .linkTrainTimeout _ => none
  | .linkCmd16 _ _ => none
  | .linkCmdLow _ _ => none
  | .linkCmdHigh _ _ => none
  | .linkKeyAgree _ => none
  | .linkRekey _ => none
  | .fabricRequestArrival => none
  | .fabricReplyArrival => none
  | .busyResend _ => none
  | .e2eTimerExpiry _ => none
  | .filterKeyExpire => none
  | .planeMapWrite _ => none
  | .mapFenceDone => none
  | .planeDead _ => none
  | .ptpMessage _ _ _ => none
  | .hostBar2PaRequest _ _ _ _ _ => none
  | .hostBar2PasidRequest _ _ _ _ _ _ => none
  | .hostAtomicop _ _ _ _ _ _ _ => none
  | .hostEarlyAccess _ _ => none
  | .attestationRequest _ _ _ _ => none
  | .ideTlpFail _ _ => none
  | .ideKmMessage _ _ => none
  | .powerOn _ => none
  | .warmReset _ => none
  | .firmwareReload _ => none
  | .flrH0 => none
  | .flrH1 => none
  | .thermalTrip _ => none
  | .junctionThrottle _ _ _ => none
  | .powerCapAdjust _ _ => none
  | .devnoWrite _ => none
  | .recoveryGo _ => none
  | .registerWrite _ _ _ _ => none
  | .powerRemoval => none
  | .throttleEnd _ _ => none
  | .coreCycles _ => none

/-- The word of an instruction (R21); 0 for a step that has none. -/
def encode (i : Instr) : Word :=
  match encodeRaw i with
  | some r => r.toWord
  | none => 0#32

/-- The instruction of a word of the opcode table: the bits of `w`, bit 0 the least significant of the first word; every row is one
32-bit word, stored little-endian. -/
noncomputable def decodeTableWord (_nbits w : Nat) : Option Instr :=
  match decodeBytes (natToBytes 4 w) with
  | .ok (i, _) => some i
  | .error _ => none

end Sys2Proof
end

