-- ==== Sys2Proof/Machine/Sync.lean ====
section
/-!
DEFINITION. BAR and SEM, one definition per minor (spec/12_waves_streams_barriers.md, R299 to R305). Each goes to its word's home unit (R478).
-/
namespace Sys2Proof.Machine

/-- BAR_INIT (R301): Initialises a barrier word at its home unit. -/
def execBarInit (a b : BitVec 7) (s : State) : Out :=
  issue ((.waveA [zR a, sR b] : Form).noComb) s fun e =>
    e.sync 0 0 false (e.s64 a) (e.s32 b) 0#7

/-- BAR_ARRIVE (R301): Counts an arrival at a barrier word and returns the phase. -/
def execBarArrive (d a : BitVec 7) (s : State) : Out :=
  issue ((.waveA [sW d, zR a] : Form).noComb) s fun e =>
    e.sync 0 1 true (e.s64 a) 0#32 d

/-- BAR_WAIT (R301): Waits until a barrier phase has passed. -/
def execBarWait (a b : BitVec 7) (s : State) : Out :=
  issue ((.waveA [zR a, sR b] : Form).noComb) s fun e =>
    e.sync 0 2 true (e.s64 a) (e.s32 b) 0#7

/-- BAR_ARRWAIT (R301): Arrives at a barrier and waits on the returned phase. -/
def execBarArrwait (d a : BitVec 7) (s : State) : Out :=
  issue ((.waveA [sW d, zR a] : Form).noComb) s fun e =>
    e.sync 0 3 true (e.s64 a) 0#32 d

/-- BAR_EXPECT (R301): Raises a barrier's expected arrivals. -/
def execBarExpect (a b : BitVec 7) (s : State) : Out :=
  issue ((.waveA [zR a, sR b] : Form).noComb) s fun e =>
    e.sync 0 4 false (e.s64 a) (e.s32 b) 0#7

/-- BAR_TRYWAIT (R301): Tests whether a barrier phase has passed without waiting. -/
def execBarTrywait (d a b : BitVec 7) (s : State) : Out :=
  issue ((.waveA [qW d, zR a, sR b] : Form).noComb) s fun e =>
    e.sync 0 5 true (e.s64 a) (e.s32 b) d

/-- BAR_WAITP (R303): Waits on a barrier phase while watching its promised tick. -/
def execBarWaitp (a b : BitVec 7) (s : State) : Out :=
  issue ((.waveA [zR a, sR b] : Form).noComb) s fun e =>
    e.sync 0 6 true (e.s64 a) (e.s32 b) 0#7

/-- BAR_DROP (R301): Arrives and drops the wave from the barrier's expected count after the flip. -/
def execBarDrop (d a : BitVec 7) (s : State) : Out :=
  issue ((.waveA [sW d, zR a] : Form).noComb) s fun e =>
    e.sync 0 7 true (e.s64 a) 0#32 d

/-- SEM_INIT (R305): Initialises a semaphore word. -/
def execSemInit (a b : BitVec 7) (s : State) : Out :=
  issue ((.waveA [zR a, sR b] : Form).noComb) s fun e =>
    e.sync 1 0 false (e.s64 a) (e.s32 b) 0#7

/-- SEM_P (R305): Takes a permit or waits for one. -/
def execSemP (a : BitVec 7) (s : State) : Out :=
  issue ((.waveA [zR a] : Form).noComb) s fun e =>
    e.sync 1 1 true (e.s64 a) 0#32 0#7

/-- SEM_V (R305): Returns a permit, waking the oldest waiter if any. -/
def execSemV (a : BitVec 7) (s : State) : Out :=
  issue ((.waveA [zR a] : Form).noComb) s fun e =>
    e.sync 1 2 true (e.s64 a) 0#32 0#7

/-- SEM_TRYP (R305): Takes a permit only if no wait is needed. -/
def execSemTryp (d a : BitVec 7) (s : State) : Out :=
  issue ((.waveA [qW d, zR a] : Form).noComb) s fun e =>
    e.sync 1 3 true (e.s64 a) 0#32 d

end Sys2Proof.Machine
end

