-- ==== Sys2Proof/Machine/Issue.lean ====
section
/-!
DEFINITION. Issuing the word that was fetched: the opcode map of R36 again, each form straight to its meaning (spec/02_instruction_words.md, R36, R38).
`decode` reads the same words into `Instr`; a lemma of Laws says that the two agree.
-/
namespace Sys2Proof.Machine

/-- The meaning `x` where the fields that must be zero are zero, an illegal encoding otherwise (R38). -/
def ifZero (ok : Bool) (s : State) (x : Out) : Out := if ok then x else issueIllegal s

/-- Major 0x00 (R36). -/
def run00 (r : Raw) (s : State) : Out :=
  match (r.mi).toNat with
  | 0 => ifZero (r.d == 0#7 && r.a == 0#7 && r.b == 0#7) s (execNop s)
  | 1 => ifZero (r.d == 0#7 && r.a == 0#7 && r.b == 0#7) s (execYield s)
  | 2 => ifZero (r.d == 0#7 && r.a == 0#7 && r.b == 0#7) s (execExit s)
  | 3 => ifZero (r.d == 0#7 && r.a == 0#7 && r.b == 0#7) s (execTret s)
  | 4 => ifZero (r.d == 0#7 && r.a == 0#7 && r.b == 0#7) s (execRoleL s)
  | 5 => ifZero (r.d == 0#7 && r.a == 0#7 && r.b == 0#7) s (execRoleS s)
  | 6 => ifZero (r.d == 0#7 && r.a == 0#7 && r.b == 0#7) s (execFlusha s)
  | _ => issueIllegal s

/-- Major 0x01 (R36). -/
def run01 (r : Raw) (s : State) : Out :=
  execBr (r.d.extractLsb' 2 5) (r.d.extractLsb' 0 2 ++ r.a ++ r.b ++ r.mi) s

/-- Major 0x02 (R36). -/
def run02 (r : Raw) (s : State) : Out :=
  ifZero (r.d &&& 124#7 == 0#7) s (execCall (r.d.extractLsb' 0 2 ++ r.a ++ r.b ++ r.mi) s)

/-- Major 0x03 (R36). -/
def run03 (r : Raw) (s : State) : Out :=
  match (r.mi).toNat with
  | 0 => ifZero (r.d == 0#7 && r.b == 0#7) s (execJmpi r.a s)
  | 1 => ifZero (r.d == 0#7 && r.b == 0#7) s (execCalli r.a s)
  | 2 => ifZero (r.d == 0#7 && r.a == 0#7 && r.b == 0#7) s (execRet s)
  | _ => issueIllegal s

/-- Major 0x04 (R36). -/
def run04 (r : Raw) (s : State) : Out :=
  ifZero (r.mi &&& 8#4 == 0#4) s (execJtab r.d r.a r.b (r.mi.extractLsb' 0 3) s)

/-- Major 0x05 (R36). -/
def run05 (r : Raw) (s : State) : Out :=
  ifZero (r.a &&& 120#7 == 0#7) s (execFork r.d (r.a.extractLsb' 0 3) (r.b ++ r.mi) s)

/-- Major 0x06 (R36). -/
def run06 (r : Raw) (s : State) : Out :=
  ifZero (r.d == 0#7 && r.a == 0#7 && r.b == 0#7 && r.mi &&& 8#4 == 0#4) s (execJoin (r.mi.extractLsb' 0 3) s)

/-- Major 0x07 (R36). -/
def run07 (r : Raw) (s : State) : Out :=
  match (r.mi).toNat with
  | 0 => ifZero (r.d == 0#7 && r.b == 0#7) s (execMpush r.a s)
  | 1 => ifZero (r.d == 0#7 && r.a == 0#7 && r.b == 0#7) s (execMelse s)
  | 2 => ifZero (r.d == 0#7 && r.a == 0#7 && r.b == 0#7) s (execMpop s)
  | 3 => ifZero (r.d == 0#7 && r.b == 0#7) s (execMset r.a s)
  | 4 => ifZero (r.a == 0#7 && r.b == 0#7) s (execMget r.d s)
  | _ => issueIllegal s

/-- Major 0x08 (R36). -/
def run08 (r : Raw) (s : State) : Out :=
  ifZero (r.d == 0#7 && r.a == 0#7 && r.b &&& 120#7 == 0#7) s (execTrap (r.b.extractLsb' 0 3 ++ r.mi) s)

/-- Major 0x09 (R36). -/
def run09 (r : Raw) (s : State) : Out :=
  ifZero (r.d &&& 112#7 == 0#7 && r.a == 0#7 && r.b &&& 124#7 == 0#7) s (execWaita (r.d.extractLsb' 0 4) (r.b.extractLsb' 0 2 ++ r.mi) s)

/-- Major 0x0A (R36). -/
def run0A (r : Raw) (s : State) : Out :=
  ifZero (r.d == 0#7 && r.a &&& 126#7 == 0#7) s (execWaitf (r.a.extractLsb' 0 1 ++ r.b ++ r.mi) s)

/-- Major 0x0B (R36). -/
def run0B (r : Raw) (s : State) : Out :=
  match (r.mi).toNat with
  | 0 => ifZero (r.d == 0#7 && r.b == 0#7) s (execSleep r.a s)
  | _ => issueIllegal s

/-- Major 0x0C (R36). -/
def run0C (r : Raw) (s : State) : Out :=
  ifZero (r.a == 0#7) s (execMfsr r.d (r.b ++ r.mi) s)

/-- Major 0x0D (R36). -/
def run0D (r : Raw) (s : State) : Out :=
  ifZero (r.d == 0#7) s (execMtsr r.a (r.b ++ r.mi) s)

/-- Major 0x0E (R36). -/
def run0E (r : Raw) (s : State) : Out :=
  match (r.mi).toNat with
  | 0 => ifZero (r.d == 0#7) s (execEvt r.a r.b s)
  | 1 => ifZero (r.d == 0#7 && r.b == 0#7) s (execCauseSet r.a s)
  | 2 => ifZero (r.a == 0#7 && r.b == 0#7) s (execCauseGet r.d s)
  | 3 => ifZero (r.d == 0#7 && r.b == 0#7) s (execTrcOn r.a s)
  | 4 => ifZero (r.d == 0#7 && r.a == 0#7 && r.b == 0#7) s (execTrcOff s)
  | _ => issueIllegal s

/-- Major 0x10 (R36). -/
def run10 (r : Raw) (s : State) : Out :=
  match (r.mi).toNat with
  | 0 => execSadd r.d r.a r.b s
  | 1 => execSsub r.d r.a r.b s
  | 2 => execSand r.d r.a r.b s
  | 3 => execSor r.d r.a r.b s
  | 4 => execSxor r.d r.a r.b s
  | 5 => execSshl r.d r.a r.b s
  | 6 => execSshr r.d r.a r.b s
  | 7 => execSsar r.d r.a r.b s
  | 8 => execSmin r.d r.a r.b s
  | 9 => execSmax r.d r.a r.b s
  | 10 => execSminn r.d r.a r.b s
  | 11 => execSmaxn r.d r.a r.b s
  | 12 => execSmul r.d r.a r.b s
  | 13 => execSmulh r.d r.a r.b s
  | 14 => execSmulhn r.d r.a r.b s
  | 15 => execSandn r.d r.a r.b s
  | _ => issueIllegal s

/-- Major 0x11 (R36). -/
def run11 (r : Raw) (s : State) : Out :=
  execSaddi r.d r.a (r.b ++ r.mi) s

/-- Major 0x12 (R36). -/
def run12 (r : Raw) (s : State) : Out :=
  execSandi r.d r.a (r.b ++ r.mi) s

/-- Major 0x13 (R36). -/
def run13 (r : Raw) (s : State) : Out :=
  execSori r.d r.a (r.b ++ r.mi) s

/-- Major 0x14 (R36). -/
def run14 (r : Raw) (s : State) : Out :=
  execSxori r.d r.a (r.b ++ r.mi) s

/-- Major 0x15 (R36). -/
def run15 (r : Raw) (s : State) : Out :=
  match (r.b &&& 96#7).toNat with
  | 0 => ifZero (r.b &&& 30#7 == 0#7) s (execSshlImm r.d r.a (r.b.extractLsb' 0 1 ++ r.mi) s)
  | 32 => ifZero (r.b &&& 30#7 == 0#7) s (execSshrImm r.d r.a (r.b.extractLsb' 0 1 ++ r.mi) s)
  | 64 => ifZero (r.b &&& 30#7 == 0#7) s (execSsarImm r.d r.a (r.b.extractLsb' 0 1 ++ r.mi) s)
  | 96 => ifZero (r.b &&& 30#7 == 0#7) s (execSrot r.d r.a (r.b.extractLsb' 0 1 ++ r.mi) s)
  | _ => issueIllegal s

/-- Major 0x16 (R36). -/
def run16 (r : Raw) (s : State) : Out :=
  execSmovi r.d (r.a ++ r.b ++ r.mi) s

/-- Major 0x17 (R36). -/
def run17 (r : Raw) (s : State) : Out :=
  execSmovhi r.d (r.a ++ r.b ++ r.mi) s

/-- Major 0x18 (R36). -/
def run18 (r : Raw) (s : State) : Out :=
  match (r.mi).toNat with
  | 0 => ifZero (r.d == 0#7) s (execScmp r.a r.b s)
  | 1 => ifZero (r.d == 0#7) s (execScmpN r.a r.b s)
  | _ => issueIllegal s

/-- Major 0x19 (R36). -/
def run19 (r : Raw) (s : State) : Out :=
  match (r.d &&& 1#7).toNat with
  | 0 => ifZero (r.d &&& 126#7 == 0#7) s (execScmpi r.a (r.b ++ r.mi) s)
  | 1 => ifZero (r.d &&& 126#7 == 0#7) s (execScmpiN r.a (r.b ++ r.mi) s)
  | _ => issueIllegal s

/-- Major 0x1A (R36). -/
def run1A (r : Raw) (s : State) : Out :=
  ifZero (r.mi &&& 4#4 == 0#4) s (execSaddp r.d r.a r.b (r.mi.extractLsb' 3 1) (r.mi.extractLsb' 0 2) s)

/-- Major 0x1B (R36). -/
def run1B (r : Raw) (s : State) : Out :=
  execSsel r.d r.a r.b r.mi s

/-- Major 0x1C (R36). -/
def run1C (r : Raw) (s : State) : Out :=
  match (r.mi).toNat with
  | 0 => ifZero (r.b == 0#7) s (execSmov r.d r.a s)
  | 1 => ifZero (r.b == 0#7) s (execSnot r.d r.a s)
  | 2 => ifZero (r.b == 0#7) s (execSneg r.d r.a s)
  | 3 => ifZero (r.b == 0#7) s (execSclz r.d r.a s)
  | 4 => ifZero (r.b == 0#7) s (execSpopc r.d r.a s)
  | 5 => ifZero (r.b == 0#7) s (execSbrev r.d r.a s)
  | 6 => ifZero (r.b == 0#7) s (execSsext8 r.d r.a s)
  | 7 => ifZero (r.b == 0#7) s (execSsext16 r.d r.a s)
  | _ => issueIllegal s

/-- Major 0x1D (R36). -/
def run1D (r : Raw) (s : State) : Out :=
  match (r.mi).toNat with
  | 0 => execSdivi r.d r.a r.b s
  | 1 => execSdivn r.d r.a r.b s
  | 2 => execSremi r.d r.a r.b s
  | 3 => execSremn r.d r.a r.b s
  | _ => issueIllegal s

/-- Major 0x1E (R36). -/
def run1E (r : Raw) (s : State) : Out :=
  match (r.mi).toNat with
  | 0 => ifZero (r.d == 0#7 && r.b == 0#7) s (execQpush r.a s)
  | 1 => ifZero (r.a == 0#7 && r.b == 0#7) s (execQpop r.d s)
  | 2 => ifZero (r.a == 0#7 && r.b == 0#7) s (execQpeek r.d s)
  | 3 => ifZero (r.a == 0#7 && r.b == 0#7) s (execQlen r.d s)
  | _ => issueIllegal s

/-- Major 0x1F (R36). -/
def run1F (r : Raw) (s : State) : Out :=
  match (r.mi).toNat with
  | 0 => ifZero (r.d == 0#7 && r.b == 0#7) s (execVacqB r.a s)
  | 1 => ifZero (r.b == 0#7) s (execVacqT r.d r.a s)
  | 2 => ifZero (r.d == 0#7 && r.b == 0#7) s (execVrel r.a s)
  | 3 => ifZero (r.d == 0#7 && r.b == 0#7) s (execVwin r.a s)
  | _ => issueIllegal s

/-- Major 0x20 (R36). -/
def run20 (r : Raw) (s : State) : Out :=
  match (r.mi).toNat with
  | 0 => execVadd r.d r.a r.b s
  | 1 => execVsub r.d r.a r.b s
  | 2 => execVand r.d r.a r.b s
  | 3 => execVor r.d r.a r.b s
  | 4 => execVxor r.d r.a r.b s
  | 5 => execVshl r.d r.a r.b s
  | 6 => execVshr r.d r.a r.b s
  | 7 => execVsar r.d r.a r.b s
  | 8 => execVmin r.d r.a r.b s
  | 9 => execVmax r.d r.a r.b s
  | 10 => execVminn r.d r.a r.b s
  | 11 => execVmaxn r.d r.a r.b s
  | 12 => execVmul r.d r.a r.b s
  | 13 => execVmulh r.d r.a r.b s
  | 14 => execVmulhn r.d r.a r.b s
  | 15 => execVandn r.d r.a r.b s
  | _ => issueIllegal s

/-- Major 0x21 (R36). -/
def run21 (r : Raw) (s : State) : Out :=
  match (r.mi).toNat with
  | 0 => execVaddS r.d r.a r.b s
  | 1 => execVsubS r.d r.a r.b s
  | 2 => execVandS r.d r.a r.b s
  | 3 => execVorS r.d r.a r.b s
  | 4 => execVxorS r.d r.a r.b s
  | 5 => execVshlS r.d r.a r.b s
  | 6 => execVshrS r.d r.a r.b s
  | 7 => execVsarS r.d r.a r.b s
  | 8 => execVminS r.d r.a r.b s
  | 9 => execVmaxS r.d r.a r.b s
  | 10 => execVminnS r.d r.a r.b s
  | 11 => execVmaxnS r.d r.a r.b s
  | 12 => execVmulS r.d r.a r.b s
  | 13 => execVmulhS r.d r.a r.b s
  | 14 => execVmulhnS r.d r.a r.b s
  | 15 => execVandnS r.d r.a r.b s
  | _ => issueIllegal s

/-- Major 0x22 (R36). -/
def run22 (r : Raw) (s : State) : Out :=
  execVaddi r.d r.a (r.b ++ r.mi) s

/-- Major 0x23 (R36). -/
def run23 (r : Raw) (s : State) : Out :=
  execVandi r.d r.a (r.b ++ r.mi) s

/-- Major 0x24 (R36). -/
def run24 (r : Raw) (s : State) : Out :=
  execVori r.d r.a (r.b ++ r.mi) s

/-- Major 0x25 (R36). -/
def run25 (r : Raw) (s : State) : Out :=
  execVxori r.d r.a (r.b ++ r.mi) s

/-- Major 0x26 (R36). -/
def run26 (r : Raw) (s : State) : Out :=
  match (r.b &&& 96#7).toNat with
  | 0 => ifZero (r.b &&& 30#7 == 0#7) s (execVshlImm r.d r.a (r.b.extractLsb' 0 1 ++ r.mi) s)
  | 32 => ifZero (r.b &&& 30#7 == 0#7) s (execVshrImm r.d r.a (r.b.extractLsb' 0 1 ++ r.mi) s)
  | 64 => ifZero (r.b &&& 30#7 == 0#7) s (execVsarImm r.d r.a (r.b.extractLsb' 0 1 ++ r.mi) s)
  | 96 => ifZero (r.b &&& 30#7 == 0#7) s (execVrot r.d r.a (r.b.extractLsb' 0 1 ++ r.mi) s)
  | _ => issueIllegal s

/-- Major 0x27 (R36). -/
def run27 (r : Raw) (s : State) : Out :=
  execVmovi r.d (r.a ++ r.b ++ r.mi) s

/-- Major 0x28 (R36). -/
def run28 (r : Raw) (s : State) : Out :=
  match (r.mi).toNat with
  | 0 => execMadloI32 r.d r.a r.b s
  | 1 => execMadhiI32 r.d r.a r.b s
  | 2 => execMadloN32 r.d r.a r.b s
  | 3 => execMadhiN32 r.d r.a r.b s
  | _ => issueIllegal s

/-- Major 0x29 (R36). -/
def run29 (r : Raw) (s : State) : Out :=
  match (r.mi).toNat with
  | 0 => execVcmpEq r.d r.a r.b s
  | 1 => execVcmpNe r.d r.a r.b s
  | 2 => execVcmpLt r.d r.a r.b s
  | 3 => execVcmpLe r.d r.a r.b s
  | 4 => execVcmpGt r.d r.a r.b s
  | 5 => execVcmpGe r.d r.a r.b s
  | 6 => execVcmpLtn r.d r.a r.b s
  | 7 => execVcmpLen r.d r.a r.b s
  | 8 => execVcmpGtn r.d r.a r.b s
  | 9 => execVcmpGen r.d r.a r.b s
  | _ => issueIllegal s

/-- Major 0x2A (R36). -/
def run2A (r : Raw) (s : State) : Out :=
  match (r.mi).toNat with
  | 0 => execVcmpsEq r.d r.a r.b s
  | 1 => execVcmpsNe r.d r.a r.b s
  | 2 => execVcmpsLt r.d r.a r.b s
  | 3 => execVcmpsLe r.d r.a r.b s
  | 4 => execVcmpsGt r.d r.a r.b s
  | 5 => execVcmpsGe r.d r.a r.b s
  | 6 => execVcmpsLtn r.d r.a r.b s
  | 7 => execVcmpsLen r.d r.a r.b s
  | 8 => execVcmpsGtn r.d r.a r.b s
  | 9 => execVcmpsGen r.d r.a r.b s
  | _ => issueIllegal s

/-- Major 0x2B (R36). -/
def run2B (r : Raw) (s : State) : Out :=
  execVsel r.d r.a r.b r.mi s

/-- Major 0x2C (R36). -/
def run2C (r : Raw) (s : State) : Out :=
  match (r.mi).toNat with
  | 0 => ifZero (r.b == 0#7) s (execVmov r.d r.a s)
  | 1 => ifZero (r.b == 0#7) s (execVnot r.d r.a s)
  | 2 => ifZero (r.b == 0#7) s (execVneg r.d r.a s)
  | 3 => ifZero (r.b == 0#7) s (execVabs r.d r.a s)
  | 4 => ifZero (r.b == 0#7) s (execVclz r.d r.a s)
  | 5 => ifZero (r.b == 0#7) s (execVpopc r.d r.a s)
  | 6 => ifZero (r.b == 0#7) s (execVbrev r.d r.a s)
  | 7 => ifZero (r.b == 0#7) s (execVsext8 r.d r.a s)
  | 8 => ifZero (r.b == 0#7) s (execVsext16 r.d r.a s)
  | 9 => ifZero (r.b == 0#7) s (execVzext8 r.d r.a s)
  | 10 => ifZero (r.b == 0#7) s (execVzext16 r.d r.a s)
  | 11 => ifZero (r.a == 0#7 && r.b == 0#7) s (execVlane r.d s)
  | _ => issueIllegal s

/-- Major 0x2D (R36). -/
def run2D (r : Raw) (s : State) : Out :=
  match (r.mi).toNat with
  | 0 => execVbfeN r.d r.a r.b s
  | 1 => execVbfeI r.d r.a r.b s
  | 2 => execVbfi r.d r.a r.b s
  | _ => issueIllegal s

/-- Major 0x2E (R36). -/
def run2E (r : Raw) (s : State) : Out :=
  match (r.mi &&& 12#4).toNat with
  | 0 => execVleaN r.d r.a r.b (r.mi.extractLsb' 0 2) s
  | 8 => execVleaI r.d r.a r.b (r.mi.extractLsb' 0 2) s
  | _ => issueIllegal s

/-- Major 0x2F (R36). -/
def run2F (r : Raw) (s : State) : Out :=
  ifZero (r.mi &&& 12#4 == 0#4) s (execVrand r.d r.a r.b (r.mi.extractLsb' 0 2) s)

/-- Major 0x30 (R36). -/
def run30 (r : Raw) (s : State) : Out :=
  match (r.mi).toNat with
  | 0 => execPand r.d r.a r.b s
  | 1 => execPor r.d r.a r.b s
  | 2 => execPxor r.d r.a r.b s
  | 3 => execPandn r.d r.a r.b s
  | 4 => execPorn r.d r.a r.b s
  | 5 => ifZero (r.b == 0#7) s (execPnot r.d r.a s)
  | 6 => ifZero (r.b == 0#7) s (execPmov r.d r.a s)
  | 7 => ifZero (r.a == 0#7 && r.b == 0#7) s (execPset r.d s)
  | 8 => ifZero (r.a == 0#7 && r.b == 0#7) s (execPclr r.d s)
  | _ => issueIllegal s

/-- Major 0x31 (R36). -/
def run31 (r : Raw) (s : State) : Out :=
  match (r.mi).toNat with
  | 0 => ifZero (r.b == 0#7) s (execPtov r.d r.a s)
  | 1 => ifZero (r.b == 0#7) s (execVtop r.d r.a s)
  | _ => issueIllegal s

/-- Major 0x34 (R36). -/
def run34 (r : Raw) (s : State) : Out :=
  match (r.mi).toNat with
  | 0 => execFadd r.d r.a r.b s
  | 1 => execFsub r.d r.a r.b s
  | 2 => execFmul r.d r.a r.b s
  | 3 => execFmin r.d r.a r.b s
  | 4 => execFmax r.d r.a r.b s
  | 5 => execFcopysign r.d r.a r.b s
  | _ => issueIllegal s

/-- Major 0x35 (R36). -/
def run35 (r : Raw) (s : State) : Out :=
  match (r.mi).toNat with
  | 0 => execFaddS r.d r.a r.b s
  | 1 => execFsubS r.d r.a r.b s
  | 2 => execFmulS r.d r.a r.b s
  | 3 => execFminS r.d r.a r.b s
  | 4 => execFmaxS r.d r.a r.b s
  | 5 => execFcopysignS r.d r.a r.b s
  | _ => issueIllegal s

/-- Major 0x36 (R36). -/
def run36 (r : Raw) (s : State) : Out :=
  match (r.mi &&& 3#4).toNat with
  | 0 => execFfma r.d r.a r.b (r.mi.extractLsb' 2 2) s
  | 1 => execFfmaNeg r.d r.a r.b (r.mi.extractLsb' 2 2) s
  | 2 => execFfmaSub r.d r.a r.b (r.mi.extractLsb' 2 2) s
  | 3 => execFfmaNegsub r.d r.a r.b (r.mi.extractLsb' 2 2) s
  | _ => issueIllegal s

/-- Major 0x37 (R36). -/
def run37 (r : Raw) (s : State) : Out :=
  match (r.mi &&& 3#4).toNat with
  | 0 => execFfmas r.d r.a r.b (r.mi.extractLsb' 2 2) s
  | 1 => execFfmasNeg r.d r.a r.b (r.mi.extractLsb' 2 2) s
  | 2 => execFfmasSub r.d r.a r.b (r.mi.extractLsb' 2 2) s
  | 3 => execFfmasNegsub r.d r.a r.b (r.mi.extractLsb' 2 2) s
  | _ => issueIllegal s

/-- Major 0x38 (R36). -/
def run38 (r : Raw) (s : State) : Out :=
  match (r.mi).toNat with
  | 0 => execFcmpEq r.d r.a r.b s
  | 1 => execFcmpNe r.d r.a r.b s
  | 2 => execFcmpLt r.d r.a r.b s
  | 3 => execFcmpLe r.d r.a r.b s
  | 4 => execFcmpGt r.d r.a r.b s
  | 5 => execFcmpGe r.d r.a r.b s
  | 6 => execFcmpUnord r.d r.a r.b s
  | 7 => execFcmpOrd r.d r.a r.b s
  | _ => issueIllegal s

/-- Major 0x39 (R36). -/
def run39 (r : Raw) (s : State) : Out :=
  match (r.mi).toNat with
  | 0 => ifZero (r.b == 0#7) s (execFrcp r.d r.a s)
  | 1 => ifZero (r.b == 0#7) s (execFrsq r.d r.a s)
  | 2 => ifZero (r.b == 0#7) s (execFsqrt r.d r.a s)
  | 3 => ifZero (r.b == 0#7) s (execFexp2 r.d r.a s)
  | 4 => ifZero (r.b == 0#7) s (execFlog2 r.d r.a s)
  | 5 => ifZero (r.b == 0#7) s (execFsin r.d r.a s)
  | 6 => ifZero (r.b == 0#7) s (execFcos r.d r.a s)
  | 7 => ifZero (r.b == 0#7) s (execFtanh r.d r.a s)
  | 8 => execFdiv r.d r.a r.b s
  | _ => issueIllegal s

/-- Major 0x3A (R36). -/
def run3A (r : Raw) (s : State) : Out :=
  match (r.mi).toNat with
  | 0 => ifZero (r.b &&& 120#7 == 0#7) s (execFcvtBf16F32 r.d r.a (r.b.extractLsb' 0 3) s)
  | 1 => ifZero (r.b &&& 120#7 == 0#7) s (execFcvtF16F32 r.d r.a (r.b.extractLsb' 0 3) s)
  | 2 => ifZero (r.b &&& 120#7 == 0#7) s (execFcvtF32Bf16 r.d r.a (r.b.extractLsb' 0 3) s)
  | 3 => ifZero (r.b &&& 120#7 == 0#7) s (execFcvtF32F16 r.d r.a (r.b.extractLsb' 0 3) s)
  | 4 => ifZero (r.b &&& 120#7 == 0#7) s (execFcvtE4m3F32 r.d r.a (r.b.extractLsb' 0 3) s)
  | 5 => ifZero (r.b &&& 120#7 == 0#7) s (execFcvtE5m2F32 r.d r.a (r.b.extractLsb' 0 3) s)
  | 6 => ifZero (r.b &&& 120#7 == 0#7) s (execFcvtF32E4m3 r.d r.a (r.b.extractLsb' 0 3) s)
  | 7 => ifZero (r.b &&& 120#7 == 0#7) s (execFcvtF32E5m2 r.d r.a (r.b.extractLsb' 0 3) s)
  | 8 => ifZero (r.b &&& 120#7 == 0#7) s (execFcvtI32F32 r.d r.a (r.b.extractLsb' 0 3) s)
  | 9 => ifZero (r.b &&& 120#7 == 0#7) s (execFcvtN32F32 r.d r.a (r.b.extractLsb' 0 3) s)
  | 10 => ifZero (r.b &&& 120#7 == 0#7) s (execFcvtF32I32 r.d r.a (r.b.extractLsb' 0 3) s)
  | 11 => ifZero (r.b &&& 120#7 == 0#7) s (execFcvtF32N32 r.d r.a (r.b.extractLsb' 0 3) s)
  | _ => issueIllegal s

/-- Major 0x3B (R36). -/
def run3B (r : Raw) (s : State) : Out :=
  match (r.mi &&& 12#4).toNat with
  | 0 => execFcvtscE4m3F32 r.d r.a r.b (r.mi.extractLsb' 0 2) s
  | 4 => execFcvtscE5m2F32 r.d r.a r.b (r.mi.extractLsb' 0 2) s
  | 8 => execFcvtscF32E4m3 r.d r.a r.b (r.mi.extractLsb' 0 2) s
  | 12 => execFcvtscF32E5m2 r.d r.a r.b (r.mi.extractLsb' 0 2) s
  | _ => issueIllegal s

/-- Major 0x3C (R36). -/
def run3C (r : Raw) (s : State) : Out :=
  match (r.mi &&& 7#4).toNat with
  | 0 => execHadd2 r.d r.a r.b (r.mi.extractLsb' 3 1) s
  | 1 => execHsub2 r.d r.a r.b (r.mi.extractLsb' 3 1) s
  | 2 => execHmul2 r.d r.a r.b (r.mi.extractLsb' 3 1) s
  | 3 => execHmin2 r.d r.a r.b (r.mi.extractLsb' 3 1) s
  | 4 => execHmax2 r.d r.a r.b (r.mi.extractLsb' 3 1) s
  | _ => issueIllegal s

/-- Major 0x3D (R36). -/
def run3D (r : Raw) (s : State) : Out :=
  match (r.mi &&& 7#4).toNat with
  | 0 => execHfma2 r.d r.a r.b (r.mi.extractLsb' 3 1) s
  | 1 => execHfma2Neg r.d r.a r.b (r.mi.extractLsb' 3 1) s
  | 2 => execHfma2Sub r.d r.a r.b (r.mi.extractLsb' 3 1) s
  | 3 => execHfma2Negsub r.d r.a r.b (r.mi.extractLsb' 3 1) s
  | _ => issueIllegal s

/-- Major 0x3E (R36). -/
def run3E (r : Raw) (s : State) : Out :=
  match (r.mi).toNat with
  | 0 => execDot2Bf16 r.d r.a r.b s
  | 1 => execDot2F16 r.d r.a r.b s
  | 2 => execDot4E4m3 r.d r.a r.b s
  | 3 => execDot4E5m2 r.d r.a r.b s
  | 4 => execDot4I8 r.d r.a r.b s
  | 5 => execDot4N8 r.d r.a r.b s
  | 6 => execDot8Cb4 r.d r.a r.b s
  | _ => issueIllegal s

/-- Major 0x3F (R36). -/
def run3F (r : Raw) (s : State) : Out :=
  match (r.mi).toNat with
  | 0 => ifZero (r.b == 0#7) s (execFclass r.d r.a s)
  | _ => issueIllegal s

/-- Major 0x40 (R36). -/
def run40 (r : Raw) (s : State) : Out :=
  ifZero (r.b == 0#7 && r.mi &&& 8#4 == 0#4) s (execFrnd r.d r.a (r.mi.extractLsb' 0 3) s)

/-- Major 0x41 (R36). -/
def run41 (r : Raw) (s : State) : Out :=
  execFmovi r.d (r.a ++ r.b ++ r.mi) s

/-- Major 0x42 (R36). -/
def run42 (r : Raw) (s : State) : Out :=
  match (r.mi).toNat with
  | 0 => execFscaleb r.d r.a r.b s
  | 1 => ifZero (r.b == 0#7) s (execFgetexp r.d r.a s)
  | 2 => ifZero (r.b == 0#7) s (execFgetmant r.d r.a s)
  | _ => issueIllegal s

/-- Major 0x48 (R36). -/
def run48 (r : Raw) (s : State) : Out :=
  match (r.mi).toNat with
  | 0 => execShflIdx r.d r.a r.b s
  | 1 => execShflUp r.d r.a r.b s
  | 2 => execShflDn r.d r.a r.b s
  | 3 => execShflXor r.d r.a r.b s
  | _ => issueIllegal s

/-- Major 0x49 (R36). -/
def run49 (r : Raw) (s : State) : Out :=
  match (r.b &&& 96#7).toNat with
  | 0 => ifZero (r.b &&& 30#7 == 0#7) s (execShfliIdx r.d r.a (r.b.extractLsb' 0 1 ++ r.mi) s)
  | 32 => ifZero (r.b &&& 30#7 == 0#7) s (execShfliUp r.d r.a (r.b.extractLsb' 0 1 ++ r.mi) s)
  | 64 => ifZero (r.b &&& 30#7 == 0#7) s (execShfliDn r.d r.a (r.b.extractLsb' 0 1 ++ r.mi) s)
  | 96 => ifZero (r.b &&& 30#7 == 0#7) s (execShfliXor r.d r.a (r.b.extractLsb' 0 1 ++ r.mi) s)
  | _ => issueIllegal s

/-- Major 0x4A (R36). -/
def run4A (r : Raw) (s : State) : Out :=
  match (r.mi).toNat with
  | 0 => ifZero (r.b == 0#7) s (execVoteAny r.d r.a s)
  | 1 => ifZero (r.b == 0#7) s (execVoteAll r.d r.a s)
  | 2 => ifZero (r.b == 0#7) s (execVoteBallot r.d r.a s)
  | 3 => ifZero (r.b == 0#7) s (execVoteUni r.d r.a s)
  | 4 => ifZero (r.a == 0#7 && r.b == 0#7) s (execVoteElect r.d s)
  | _ => issueIllegal s

/-- Major 0x4B (R36). -/
def run4B (r : Raw) (s : State) : Out :=
  match (r.mi).toNat with
  | 0 => ifZero (r.b == 0#7) s (execReduceAddI32 r.d r.a s)
  | 1 => ifZero (r.b == 0#7) s (execReduceAddF32 r.d r.a s)
  | 2 => ifZero (r.b == 0#7) s (execReduceMinI r.d r.a s)
  | 3 => ifZero (r.b == 0#7) s (execReduceMaxI r.d r.a s)
  | 4 => ifZero (r.b == 0#7) s (execReduceMinN r.d r.a s)
  | 5 => ifZero (r.b == 0#7) s (execReduceMaxN r.d r.a s)
  | 6 => ifZero (r.b == 0#7) s (execReduceAnd r.d r.a s)
  | 7 => ifZero (r.b == 0#7) s (execReduceOr r.d r.a s)
  | 8 => ifZero (r.b == 0#7) s (execReduceXor r.d r.a s)
  | 9 => ifZero (r.b == 0#7) s (execReduceMinF32 r.d r.a s)
  | 10 => ifZero (r.b == 0#7) s (execReduceMaxF32 r.d r.a s)
  | _ => issueIllegal s

/-- Major 0x4C (R36). -/
def run4C (r : Raw) (s : State) : Out :=
  match (r.mi &&& 7#4).toNat with
  | 0 => ifZero (r.b == 0#7) s (execScanAddI32 r.d r.a (r.mi.extractLsb' 3 1) s)
  | 1 => ifZero (r.b == 0#7) s (execScanAddF32 r.d r.a (r.mi.extractLsb' 3 1) s)
  | 2 => ifZero (r.b == 0#7) s (execScanMinI r.d r.a (r.mi.extractLsb' 3 1) s)
  | 3 => ifZero (r.b == 0#7) s (execScanMaxI r.d r.a (r.mi.extractLsb' 3 1) s)
  | 4 => ifZero (r.b == 0#7) s (execScanOr r.d r.a (r.mi.extractLsb' 3 1) s)
  | _ => issueIllegal s

/-- Major 0x4D (R36). -/
def run4D (r : Raw) (s : State) : Out :=
  match (r.mi).toNat with
  | 0 => ifZero (r.b == 0#7) s (execMatchLanes r.d r.a s)
  | _ => issueIllegal s

/-- Major 0x4E (R36). -/
def run4E (r : Raw) (s : State) : Out :=
  match (r.mi).toNat with
  | 0 => execRdlane r.d r.a r.b s
  | 1 => execWrlane r.d r.a r.b s
  | 2 => execBcast r.d r.a r.b s
  | _ => issueIllegal s

/-- Major 0x50 (R36). -/
def run50 (r : Raw) (s : State) : Out :=
  execLdvN8 r.d r.a (r.b.extractLsb' 3 4) (r.b.extractLsb' 0 3 ++ r.mi) s

/-- Major 0x51 (R36). -/
def run51 (r : Raw) (s : State) : Out :=
  execLdvI8 r.d r.a (r.b.extractLsb' 3 4) (r.b.extractLsb' 0 3 ++ r.mi) s

/-- Major 0x52 (R36). -/
def run52 (r : Raw) (s : State) : Out :=
  execLdvN16 r.d r.a (r.b.extractLsb' 3 4) (r.b.extractLsb' 0 3 ++ r.mi) s

/-- Major 0x53 (R36). -/
def run53 (r : Raw) (s : State) : Out :=
  execLdvI16 r.d r.a (r.b.extractLsb' 3 4) (r.b.extractLsb' 0 3 ++ r.mi) s

/-- Major 0x54 (R36). -/
def run54 (r : Raw) (s : State) : Out :=
  execLdv32 r.d r.a (r.b.extractLsb' 3 4) (r.b.extractLsb' 0 3 ++ r.mi) s

/-- Major 0x55 (R36). -/
def run55 (r : Raw) (s : State) : Out :=
  execLdv64 r.d r.a (r.b.extractLsb' 3 4) (r.b.extractLsb' 0 3 ++ r.mi) s

/-- Major 0x56 (R36). -/
def run56 (r : Raw) (s : State) : Out :=
  execLdv128 r.d r.a (r.b.extractLsb' 3 4) (r.b.extractLsb' 0 3 ++ r.mi) s

/-- Major 0x57 (R36). -/
def run57 (r : Raw) (s : State) : Out :=
  execStv8 r.d r.a (r.b.extractLsb' 3 4) (r.b.extractLsb' 0 3 ++ r.mi) s

/-- Major 0x58 (R36). -/
def run58 (r : Raw) (s : State) : Out :=
  execStv16 r.d r.a (r.b.extractLsb' 3 4) (r.b.extractLsb' 0 3 ++ r.mi) s

/-- Major 0x59 (R36). -/
def run59 (r : Raw) (s : State) : Out :=
  execStv32 r.d r.a (r.b.extractLsb' 3 4) (r.b.extractLsb' 0 3 ++ r.mi) s

/-- Major 0x5A (R36). -/
def run5A (r : Raw) (s : State) : Out :=
  execStv64 r.d r.a (r.b.extractLsb' 3 4) (r.b.extractLsb' 0 3 ++ r.mi) s

/-- Major 0x5B (R36). -/
def run5B (r : Raw) (s : State) : Out :=
  execStv128 r.d r.a (r.b.extractLsb' 3 4) (r.b.extractLsb' 0 3 ++ r.mi) s

/-- Major 0x5C (R36). -/
def run5C (r : Raw) (s : State) : Out :=
  execLds32 r.d r.a (r.b.extractLsb' 3 4) (r.b.extractLsb' 0 3 ++ r.mi) s

/-- Major 0x5D (R36). -/
def run5D (r : Raw) (s : State) : Out :=
  execLds64 r.d r.a (r.b.extractLsb' 3 4) (r.b.extractLsb' 0 3 ++ r.mi) s

/-- Major 0x5E (R36). -/
def run5E (r : Raw) (s : State) : Out :=
  execSts32 r.d r.a (r.b.extractLsb' 3 4) (r.b.extractLsb' 0 3 ++ r.mi) s

/-- Major 0x5F (R36). -/
def run5F (r : Raw) (s : State) : Out :=
  execSts64 r.d r.a (r.b.extractLsb' 3 4) (r.b.extractLsb' 0 3 ++ r.mi) s

/-- Major 0x60 (R36). -/
def run60 (r : Raw) (s : State) : Out :=
  match (r.mi).toNat with
  | 0 => execAtomAddI32 0#2 r.d r.a r.b s
  | 1 => execAtomAddF32 0#2 r.d r.a r.b s
  | 2 => execAtomMinI 0#2 r.d r.a r.b s
  | 3 => execAtomMaxI 0#2 r.d r.a r.b s
  | 4 => execAtomMinN 0#2 r.d r.a r.b s
  | 5 => execAtomMaxN 0#2 r.d r.a r.b s
  | 6 => execAtomAnd 0#2 r.d r.a r.b s
  | 7 => execAtomOr 0#2 r.d r.a r.b s
  | 8 => execAtomXor 0#2 r.d r.a r.b s
  | 9 => execAtomXchg 0#2 r.d r.a r.b s
  | 10 => execAtomCas 0#2 r.d r.a r.b s
  | 11 => execAtomAddI64 0#2 r.d r.a r.b s
  | 12 => execAtomIncw 0#2 r.d r.a r.b s
  | 13 => execAtomAddBf16x2 0#2 r.d r.a r.b s
  | _ => issueIllegal s

/-- Major 0x61 (R36). -/
def run61 (r : Raw) (s : State) : Out :=
  match (r.mi).toNat with
  | 0 => execAtomAddI32 1#2 r.d r.a r.b s
  | 1 => execAtomAddF32 1#2 r.d r.a r.b s
  | 2 => execAtomMinI 1#2 r.d r.a r.b s
  | 3 => execAtomMaxI 1#2 r.d r.a r.b s
  | 4 => execAtomMinN 1#2 r.d r.a r.b s
  | 5 => execAtomMaxN 1#2 r.d r.a r.b s
  | 6 => execAtomAnd 1#2 r.d r.a r.b s
  | 7 => execAtomOr 1#2 r.d r.a r.b s
  | 8 => execAtomXor 1#2 r.d r.a r.b s
  | 9 => execAtomXchg 1#2 r.d r.a r.b s
  | 10 => execAtomCas 1#2 r.d r.a r.b s
  | 11 => execAtomAddI64 1#2 r.d r.a r.b s
  | 12 => execAtomIncw 1#2 r.d r.a r.b s
  | 13 => execAtomAddBf16x2 1#2 r.d r.a r.b s
  | _ => issueIllegal s

/-- Major 0x62 (R36). -/
def run62 (r : Raw) (s : State) : Out :=
  match (r.mi).toNat with
  | 0 => execAtomAddI32 2#2 r.d r.a r.b s
  | 1 => execAtomAddF32 2#2 r.d r.a r.b s
  | 2 => execAtomMinI 2#2 r.d r.a r.b s
  | 3 => execAtomMaxI 2#2 r.d r.a r.b s
  | 4 => execAtomMinN 2#2 r.d r.a r.b s
  | 5 => execAtomMaxN 2#2 r.d r.a r.b s
  | 6 => execAtomAnd 2#2 r.d r.a r.b s
  | 7 => execAtomOr 2#2 r.d r.a r.b s
  | 8 => execAtomXor 2#2 r.d r.a r.b s
  | 9 => execAtomXchg 2#2 r.d r.a r.b s
  | 10 => execAtomCas 2#2 r.d r.a r.b s
  | 11 => execAtomAddI64 2#2 r.d r.a r.b s
  | 12 => execAtomIncw 2#2 r.d r.a r.b s
  | 13 => execAtomAddBf16x2 2#2 r.d r.a r.b s
  | _ => issueIllegal s

/-- Major 0x63 (R36). -/
def run63 (r : Raw) (s : State) : Out :=
  match (r.mi).toNat with
  | 0 => execAtomAddI32 3#2 r.d r.a r.b s
  | 1 => execAtomAddF32 3#2 r.d r.a r.b s
  | 2 => execAtomMinI 3#2 r.d r.a r.b s
  | 3 => execAtomMaxI 3#2 r.d r.a r.b s
  | 4 => execAtomMinN 3#2 r.d r.a r.b s
  | 5 => execAtomMaxN 3#2 r.d r.a r.b s
  | 6 => execAtomAnd 3#2 r.d r.a r.b s
  | 7 => execAtomOr 3#2 r.d r.a r.b s
  | 8 => execAtomXor 3#2 r.d r.a r.b s
  | 9 => execAtomXchg 3#2 r.d r.a r.b s
  | 10 => execAtomCas 3#2 r.d r.a r.b s
  | 11 => execAtomAddI64 3#2 r.d r.a r.b s
  | 12 => execAtomIncw 3#2 r.d r.a r.b s
  | 13 => execAtomAddBf16x2 3#2 r.d r.a r.b s
  | _ => issueIllegal s

/-- Major 0x64 (R36). -/
def run64 (r : Raw) (s : State) : Out :=
  match (r.mi).toNat with
  | 0 => ifZero (r.d &&& 120#7 == 0#7) s (execRedAddI32 (r.d.extractLsb' 0 3) r.a r.b s)
  | 1 => ifZero (r.d &&& 120#7 == 0#7) s (execRedAddF32 (r.d.extractLsb' 0 3) r.a r.b s)
  | 2 => ifZero (r.d &&& 120#7 == 0#7) s (execRedMinI (r.d.extractLsb' 0 3) r.a r.b s)
  | 3 => ifZero (r.d &&& 120#7 == 0#7) s (execRedMaxI (r.d.extractLsb' 0 3) r.a r.b s)
  | 4 => ifZero (r.d &&& 120#7 == 0#7) s (execRedMinN (r.d.extractLsb' 0 3) r.a r.b s)
  | 5 => ifZero (r.d &&& 120#7 == 0#7) s (execRedMaxN (r.d.extractLsb' 0 3) r.a r.b s)
  | 6 => ifZero (r.d &&& 120#7 == 0#7) s (execRedAnd (r.d.extractLsb' 0 3) r.a r.b s)
  | 7 => ifZero (r.d &&& 120#7 == 0#7) s (execRedOr (r.d.extractLsb' 0 3) r.a r.b s)
  | 8 => ifZero (r.d &&& 120#7 == 0#7) s (execRedXor (r.d.extractLsb' 0 3) r.a r.b s)
  | 9 => ifZero (r.d &&& 120#7 == 0#7) s (execRedXchg (r.d.extractLsb' 0 3) r.a r.b s)
  | 10 => ifZero (r.d &&& 120#7 == 0#7) s (execRedCas (r.d.extractLsb' 0 3) r.a r.b s)
  | 11 => ifZero (r.d &&& 120#7 == 0#7) s (execRedAddI64 (r.d.extractLsb' 0 3) r.a r.b s)
  | 12 => ifZero (r.d &&& 120#7 == 0#7) s (execRedIncw (r.d.extractLsb' 0 3) r.a r.b s)
  | 13 => ifZero (r.d &&& 120#7 == 0#7) s (execRedAddBf16x2 (r.d.extractLsb' 0 3) r.a r.b s)
  | _ => issueIllegal s

/-- Major 0x65 (R36). -/
def run65 (r : Raw) (s : State) : Out :=
  match (r.mi).toNat with
  | 0 => execCallo r.d r.a r.b s
  | _ => issueIllegal s

/-- Major 0x66 (R36). -/
def run66 (r : Raw) (s : State) : Out :=
  match (r.b.extractLsb' 0 3 ++ r.mi.extractLsb' 3 1).toNat with
  | 0 => ifZero (r.d == 0#7 && r.a == 0#7 && r.b &&& 120#7 == 0#7) s (execFenceAcq (r.mi.extractLsb' 0 3) s)
  | 1 => ifZero (r.d == 0#7 && r.a == 0#7 && r.b &&& 120#7 == 0#7) s (execFenceRel (r.mi.extractLsb' 0 3) s)
  | 2 => ifZero (r.d == 0#7 && r.a == 0#7 && r.b &&& 120#7 == 0#7) s (execFenceAcqrel (r.mi.extractLsb' 0 3) s)
  | 3 => ifZero (r.d == 0#7 && r.a == 0#7 && r.b &&& 120#7 == 0#7) s (execFenceSc (r.mi.extractLsb' 0 3) s)
  | 4 => ifZero (r.d == 0#7 && r.a == 0#7 && r.b &&& 120#7 == 0#7) s (execFenceOpnd (r.mi.extractLsb' 0 3) s)
  | 5 => ifZero (r.d == 0#7 && r.a == 0#7 && r.b &&& 120#7 == 0#7) s (execFenceFlush (r.mi.extractLsb' 0 3) s)
  | 6 => ifZero (r.d == 0#7 && r.a == 0#7 && r.b &&& 120#7 == 0#7) s (execFenceEng (r.mi.extractLsb' 0 3) s)
  | _ => issueIllegal s

/-- Major 0x67 (R36). -/
def run67 (r : Raw) (s : State) : Out :=
  ifZero (r.d == 0#7 && r.b &&& 96#7 == 0#7) s (execPft r.a (r.b.extractLsb' 3 2) (r.b.extractLsb' 0 3 ++ r.mi) s)

/-- Major 0x68 (R36). -/
def run68 (r : Raw) (s : State) : Out :=
  match (r.mi).toNat with
  | 0 => execCopy r.d r.a r.b s
  | 1 => execCopyNp r.d r.a r.b s
  | _ => issueIllegal s

/-- Major 0x69 (R36). -/
def run69 (r : Raw) (s : State) : Out :=
  match (r.mi).toNat with
  | 0 => execGpool r.d r.a r.b s
  | _ => issueIllegal s

/-- Major 0x6A (R36). -/
def run6A (r : Raw) (s : State) : Out :=
  match (r.mi).toNat with
  | 0 => execColl r.d r.a r.b s
  | _ => issueIllegal s

/-- Major 0x6B (R36). -/
def run6B (r : Raw) (s : State) : Out :=
  match (r.mi).toNat with
  | 0 => ifZero (r.d == 0#7) s (execBarInit r.a r.b s)
  | 1 => ifZero (r.b == 0#7) s (execBarArrive r.d r.a s)
  | 2 => ifZero (r.d == 0#7) s (execBarWait r.a r.b s)
  | 3 => ifZero (r.b == 0#7) s (execBarArrwait r.d r.a s)
  | 4 => ifZero (r.d == 0#7) s (execBarExpect r.a r.b s)
  | 5 => execBarTrywait r.d r.a r.b s
  | 6 => ifZero (r.d == 0#7) s (execBarWaitp r.a r.b s)
  | 7 => ifZero (r.b == 0#7) s (execBarDrop r.d r.a s)
  | _ => issueIllegal s

/-- Major 0x6C (R36). -/
def run6C (r : Raw) (s : State) : Out :=
  match (r.mi).toNat with
  | 0 => ifZero (r.d == 0#7) s (execSemInit r.a r.b s)
  | 1 => ifZero (r.d == 0#7 && r.b == 0#7) s (execSemP r.a s)
  | 2 => ifZero (r.d == 0#7 && r.b == 0#7) s (execSemV r.a s)
  | 3 => ifZero (r.b == 0#7) s (execSemTryp r.d r.a s)
  | _ => issueIllegal s

/-- Major 0x6D (R36). -/
def run6D (r : Raw) (s : State) : Out :=
  match (r.mi).toNat with
  | 0 => ifZero (r.d == 0#7 && r.b == 0#7) s (execSpawn r.a s)
  | 1 => ifZero (r.b == 0#7) s (execJdec r.d r.a s)
  | _ => issueIllegal s

/-- Major 0x6E (R36). -/
def run6E (r : Raw) (s : State) : Out :=
  match (r.mi).toNat with
  | 0 => execFalloc r.d r.a r.b s
  | 1 => ifZero (r.d == 0#7 && r.b == 0#7) s (execFfree r.a s)
  | 2 => ifZero (r.b == 0#7) s (execFquota r.d r.a s)
  | _ => issueIllegal s

/-- Major 0x6F (R36). -/
def run6F (r : Raw) (s : State) : Out :=
  match (r.mi).toNat with
  | 0 => ifZero (r.d == 0#7 && r.a == 0#7) s (execCreply r.b s)
  | 1 => ifZero (r.d == 0#7 && r.a == 0#7 && r.b == 0#7) s (execCdone s)
  | 2 => ifZero (r.d == 0#7 && r.b == 0#7) s (execCabort r.a s)
  | _ => issueIllegal s

/-- Major 0x70 (R36). -/
def run70 (r : Raw) (s : State) : Out :=
  ifZero (r.mi &&& 4#4 == 0#4) s (execMloopBf16 r.d r.a r.b (r.mi.extractLsb' 3 1) (r.mi.extractLsb' 1 1) (r.mi.extractLsb' 0 1) s)

/-- Major 0x71 (R36). -/
def run71 (r : Raw) (s : State) : Out :=
  ifZero (r.mi &&& 4#4 == 0#4) s (execMloopF16 r.d r.a r.b (r.mi.extractLsb' 3 1) (r.mi.extractLsb' 1 1) (r.mi.extractLsb' 0 1) s)

/-- Major 0x72 (R36). -/
def run72 (r : Raw) (s : State) : Out :=
  execMloopE4m3 r.d r.a r.b (r.mi.extractLsb' 3 1) (r.mi.extractLsb' 2 1) (r.mi.extractLsb' 1 1) (r.mi.extractLsb' 0 1) s

/-- Major 0x73 (R36). -/
def run73 (r : Raw) (s : State) : Out :=
  execMloopE5m2 r.d r.a r.b (r.mi.extractLsb' 3 1) (r.mi.extractLsb' 2 1) (r.mi.extractLsb' 1 1) (r.mi.extractLsb' 0 1) s

/-- Major 0x74 (R36). -/
def run74 (r : Raw) (s : State) : Out :=
  ifZero (r.mi &&& 4#4 == 0#4) s (execMloopI8 r.d r.a r.b (r.mi.extractLsb' 3 1) (r.mi.extractLsb' 1 1) (r.mi.extractLsb' 0 1) s)

/-- Major 0x75 (R36). -/
def run75 (r : Raw) (s : State) : Out :=
  execMloopCb4 r.d r.a r.b (r.mi.extractLsb' 3 1) (r.mi.extractLsb' 2 1) (r.mi.extractLsb' 1 1) (r.mi.extractLsb' 0 1) s

/-- Major 0x76 (R36). -/
def run76 (r : Raw) (s : State) : Out :=
  execMloopCb4bf r.d r.a r.b (r.mi.extractLsb' 3 1) (r.mi.extractLsb' 2 1) (r.mi.extractLsb' 1 1) (r.mi.extractLsb' 0 1) s

/-- Major 0x77 (R36). -/
def run77 (r : Raw) (s : State) : Out :=
  match (r.mi).toNat with
  | 0 => ifZero (r.a == 0#7 && r.b == 0#7) s (execMzero r.d s)
  | 1 => ifZero (r.d &&& 120#7 == 0#7 && r.b == 0#7) s (execMcb (r.d.extractLsb' 0 3) r.a s)
  | 2 => ifZero (r.a &&& 120#7 == 0#7 && r.b &&& 126#7 == 0#7) s (execMstat r.d (r.a.extractLsb' 0 3) (r.b.extractLsb' 0 1) s)
  | _ => issueIllegal s

/-- Major 0x78 (R36). -/
def run78 (r : Raw) (s : State) : Out :=
  match (r.mi).toNat with
  | 0 => ifZero (r.b &&& 126#7 == 0#7) s (execMdrainStoreF32 r.d r.a (r.b.extractLsb' 0 1) s)
  | 1 => ifZero (r.b &&& 126#7 == 0#7) s (execMdrainStoreBf16 r.d r.a (r.b.extractLsb' 0 1) s)
  | 2 => ifZero (r.b &&& 126#7 == 0#7) s (execMdrainStoreE4m3 r.d r.a (r.b.extractLsb' 0 1) s)
  | 3 => ifZero (r.b &&& 126#7 == 0#7) s (execMdrainAddF32 r.d r.a (r.b.extractLsb' 0 1) s)
  | 4 => ifZero (r.b &&& 126#7 == 0#7) s (execMdrainAddOrdered r.d r.a (r.b.extractLsb' 0 1) s)
  | _ => issueIllegal s

/-- Major 0x79 (R36). -/
def run79 (r : Raw) (s : State) : Out :=
  match (r.mi).toNat with
  | 0 => ifZero (r.d == 0#7 && r.b == 0#7) s (execMsave r.a s)
  | 1 => ifZero (r.d == 0#7 && r.b == 0#7) s (execMrestore r.a s)
  | _ => issueIllegal s

/-- Major 0x7F (R36). -/
def run7F (r : Raw) (s : State) : Out :=
  execClauseHeader (r.d ++ r.a.extractLsb' 2 5) (r.a.extractLsb' 0 2 ++ r.b.extractLsb' 5 2) (r.b.extractLsb' 1 4) (r.b.extractLsb' 0 1 ++ r.mi) s

/-- Issue the word `r` (R36); a major that the map does not list is illegal (R38). -/
def runMajor (r : Raw) (s : State) : Out :=
  match r.maj.toNat with
  | 0 => run00 r s
  | 1 => run01 r s
  | 2 => run02 r s
  | 3 => run03 r s
  | 4 => run04 r s
  | 5 => run05 r s
  | 6 => run06 r s
  | 7 => run07 r s
  | 8 => run08 r s
  | 9 => run09 r s
  | 10 => run0A r s
  | 11 => run0B r s
  | 12 => run0C r s
  | 13 => run0D r s
  | 14 => run0E r s
  | 16 => run10 r s
  | 17 => run11 r s
  | 18 => run12 r s
  | 19 => run13 r s
  | 20 => run14 r s
  | 21 => run15 r s
  | 22 => run16 r s
  | 23 => run17 r s
  | 24 => run18 r s
  | 25 => run19 r s
  | 26 => run1A r s
  | 27 => run1B r s
  | 28 => run1C r s
  | 29 => run1D r s
  | 30 => run1E r s
  | 31 => run1F r s
  | 32 => run20 r s
  | 33 => run21 r s
  | 34 => run22 r s
  | 35 => run23 r s
  | 36 => run24 r s
  | 37 => run25 r s
  | 38 => run26 r s
  | 39 => run27 r s
  | 40 => run28 r s
  | 41 => run29 r s
  | 42 => run2A r s
  | 43 => run2B r s
  | 44 => run2C r s
  | 45 => run2D r s
  | 46 => run2E r s
  | 47 => run2F r s
  | 48 => run30 r s
  | 49 => run31 r s
  | 52 => run34 r s
  | 53 => run35 r s
  | 54 => run36 r s
  | 55 => run37 r s
  | 56 => run38 r s
  | 57 => run39 r s
  | 58 => run3A r s
  | 59 => run3B r s
  | 60 => run3C r s
  | 61 => run3D r s
  | 62 => run3E r s
  | 63 => run3F r s
  | 64 => run40 r s
  | 65 => run41 r s
  | 66 => run42 r s
  | 72 => run48 r s
  | 73 => run49 r s
  | 74 => run4A r s
  | 75 => run4B r s
  | 76 => run4C r s
  | 77 => run4D r s
  | 78 => run4E r s
  | 80 => run50 r s
  | 81 => run51 r s
  | 82 => run52 r s
  | 83 => run53 r s
  | 84 => run54 r s
  | 85 => run55 r s
  | 86 => run56 r s
  | 87 => run57 r s
  | 88 => run58 r s
  | 89 => run59 r s
  | 90 => run5A r s
  | 91 => run5B r s
  | 92 => run5C r s
  | 93 => run5D r s
  | 94 => run5E r s
  | 95 => run5F r s
  | 96 => run60 r s
  | 97 => run61 r s
  | 98 => run62 r s
  | 99 => run63 r s
  | 100 => run64 r s
  | 101 => run65 r s
  | 102 => run66 r s
  | 103 => run67 r s
  | 104 => run68 r s
  | 105 => run69 r s
  | 106 => run6A r s
  | 107 => run6B r s
  | 108 => run6C r s
  | 109 => run6D r s
  | 110 => run6E r s
  | 111 => run6F r s
  | 112 => run70 r s
  | 113 => run71 r s
  | 114 => run72 r s
  | 115 => run73 r s
  | 116 => run74 r s
  | 117 => run75 r s
  | 118 => run76 r s
  | 119 => run77 r s
  | 120 => run78 r s
  | 121 => run79 r s
  | 127 => run7F r s
  | _ => issueIllegal s

/-- Issue a word. -/
def runWord (w : Word) (s : State) : Out := runMajor (Raw.ofWord w) s

end Sys2Proof.Machine
end

