-- ==== Sys2Proof/Machine/Schedule.lean ====
section
/-!
DEFINITION. Which stream a port serves (spec/12_waves_streams_barriers.md, R281 to R285), fetching the next word, and the steps that the module can take of
itself.
-/
namespace Sys2Proof.Machine

/-! ## Issue (R281 to R285) -/

/-- A stream that holds at a word tries it again when something has changed since (M). -/
def State.retries (s : State) (st : Stream) : Bool :=
  match st.wait with
  | none => true
  | some ⟨.poll _ _ n, _⟩ => n != s.stamp
  | some _ => false

/-- May a stream in the middle of its clause issue its next word? -/
def State.midClause (s : State) (w : Wave) (cs : Bool) : Bool :=
  (w.stream cs).clause.isSome && s.mayIssue w cs && s.retries (w.stream cs)

/-- Is this hold one that leaves a split not ready (R269): anything that holds the first word of its clause without the word having asked for something?
A claim of the engine is asked for. -/
def holdsSplit (kind : Nat) : Bool := kind != 4

/-- What would hold the first word of the next clause of a split now: a full queue, an arrival counter, a fence (R269). (DEDUCED, unsafe: notes/assumptions/18.md) -/
def State.firstHold (s : State) (k : Nat) (cs : Bool) (w : Wave) (slot : Nat) (p : Split) : Option (Nat × Nat) :=
  match ({ s with cur := ⟨k, cs, slot⟩ } : State).fetchHeader k cs w slot p with
  | .inr _ => none
  | .inl (h, t) =>
    match runWord h t with
    | .next t =>
      (match (t.wave? k).bind fun w => (w.stream cs).clause with
       | some cl =>
         (match cl.words with
          | x :: _ =>
            (match runWord x { t with cur := ⟨k, cs, cl.slot⟩ } with
             | .next u =>
               (match (((u.wave? k).bind fun w : Wave => (w.stream cs).wait).map fun x => x.what : Option WaitFor) with
                | some (.poll kind detail _) =>
                  -- a word that has just asked for a page's shadow is not passed over
                  if holdsSplit kind && u.lch.shadowWaits == t.lch.shadowWaits && u.aborts == t.aborts then some (kind, detail) else none
                | _ => none)
             | _ => none)
          | [] => none)
       | none => none)
    | _ => none

/-- The split that a stream serves next (R269): the first in slot order whose flags are clear and whose first word nothing holds. -/
def State.pickReady (s : State) (k : Nat) (cs : Bool) (w : Wave) : Option Nat :=
  let t := (w.stream cs).tab
  t.order.find? fun i => match t.slot i with
    | some p => s.splitReady k cs w p && (s.firstHold k cs w i p).isNone
    | none => false

/-- May a stream begin its next clause (R282)? -/
def State.readyClause (s : State) (k : Nat) (w : Wave) (cs : Bool) : Bool :=
  s.atBoundary w cs && s.retries (w.stream cs) && (s.pickReady k cs w).isSome

/-- The ready streams of a port, by wave slot from `last` + 1 round, A before C. -/
def State.portReady (s : State) (core pn last : Nat) : List (Nat × Bool × Wave) :=
  (((List.range 48).map fun i => (last + 1 + i) % 48).filter fun w => w % 4 == pn).flatMap fun slot =>
    match s.wave? (48 * core + slot) with
    | none => []
    | some w => ([false, true].filter fun cs => s.readyClause (48 * core + slot) w cs).map fun cs => (48 * core + slot, cs, w)

/-- The stream that a port serves at a clause boundary (R282, R284): a stream that has yielded comes after every other. -/
def State.pickStream (s : State) (core pn : Nat) : Option (Nat × Bool) :=
  let p := (s.core core).ports.getD pn Port.reset
  let all := s.portReady core pn 47
  let fresh := all.filter fun x => !(x.2.2.stream x.2.1).yielded
  let ok (x : Nat × Bool × Wave) : Bool := fresh.isEmpty || !(x.2.2.stream x.2.1).yielded
  let key (x : Nat × Bool × Wave) : Nat × Bool := (x.1, x.2.1)
  let combiner := all.filter fun x => ok x && x.2.2.batch.isSome
  let plain := fun (x : Nat × Bool × Wave) => ok x && x.2.2.batch.isNone && !(x.2.2.stream x.2.1).aged
  let owed := p.afterBatch.find? fun k => all.any fun x => ok x && key x == k
  let old := p.aged.find? fun k => all.any fun x => ok x && key x == k
  let loader := (s.portReady core pn p.lastLoader).find? fun x => plain x && !x.2.1 && !x.2.2.a.storer
  let storer := (s.portReady core pn p.lastStorer).find? fun x => plain x && !x.2.1 && x.2.2.a.storer
  let computer := (s.portReady core pn p.lastComputer).find? fun x => plain x && x.2.1
  match owed, combiner.head? with
  | some k, _ => some k
  | none, some x => some (key x)
  | none, none =>
    match old with
    | some k => some k
    | none => (loader.orElse fun _ => storer.orElse fun _ => computer).map key

/-- The streams of a port that may issue a word now: those in the middle of a clause, and, unless one of them holds the port, the one that the port picks
(R281, R282). Which of several goes first is open. -/
def State.portStreams (s : State) (core pn : Nat) : List (Nat × Bool) :=
  let mid := (((List.range 48).filter fun w => w % 4 == pn).flatMap fun slot =>
    match s.wave? (48 * core + slot) with
    | none => []
    | some w => ([false, true].filter fun cs => s.midClause w cs).map fun cs => (48 * core + slot, cs))
  -- two clauses of one wave may begin in the same cycle (R286)
  let both := ((List.range 48).filter fun w => w % 4 == pn).flatMap fun slot =>
    match s.wave? (48 * core + slot) with
    | none => []
    | some w => match w.raised with
      | some (c, _, n, _) => if n = s.cycle && (w.stream c).clause.isSome && s.readyClause (48 * core + slot) w (!c) then [(48 * core + slot, !c)] else []
      | none => []
  if mid.isEmpty then (s.pickStream core pn).toList else mid ++ both

/-- Every stream that may issue now. -/
def State.issueStreams (s : State) : List (Nat × Bool) :=
  ((s.waves.map fun x => (coreOf x.1, portOf x.1)).dedup).flatMap fun x => s.portStreams x.1 x.2

/-- A stream issues: the next word of its clause, or, at a clause boundary, the header of the split that it serves next (R20, R24, R269). -/
def State.issueAt (s : State) (k : Nat) (cs : Bool) : Out :=
  match s.wave? k with
  | none => .next s
  | some w =>
    match (w.stream cs).clause with
    | some cl =>
      (match cl.words with
       | x :: _ => runWord x { s with cur := ⟨k, cs, cl.slot⟩ }
       | [] => .next s)
    | none =>
      match s.pickReady k cs w with
      | none => .next s
      | some slot =>
        match (w.stream cs).tab.slot slot with
        | none => .next s
        | some p =>
          match ({ s with cur := ⟨k, cs, slot⟩ } : State).fetchHeader k cs w slot p with
          | .inr s => .next s
          | .inl (h, s) => runWord h s

/-- Is a word of this major a lane instruction (R36)? -/
def laneMajor (m : Nat) : Bool :=
  (decide (0x20 ≤ m) && decide (m ≤ 0x5B)) || (decide (0x60 ≤ m) && decide (m ≤ 0x65)) || m == 0x67

/-- Did the stream that issued hold at its word? -/
def State.holds (s : State) (n k : Nat) (cs : Bool) : Bool :=
  match (s.wave? k).bind fun w => (w.stream cs).wait with
  | some ⟨.poll _ _ m, _⟩ => m == n
  | _ => false

/-- The word that a stream issues next, none for a clause header. -/
def State.nextWord (s : State) (k : Nat) (cs : Bool) : Option Word :=
  ((s.wave? k).bind fun w => (w.stream cs).clause).bind fun c => c.words.head?

/-- Count what has issued (R376): a clause, whose header has begun it, or a lane word; `x` is the word that was next. (DESIGN CHOICE, unsafe: notes/assumptions/96.md) -/
def State.countIssue (s : State) (k : Nat) (cs : Bool) (x : Option Word) : State :=
  match x with
  | some w => if laneMajor (wordMajor w) then s.count (srcCore (coreOf k)) 0x102 else s
  | none => if ((s.wave? k).bind fun w => (w.stream cs).clause).isSome then s.count (srcCore (coreOf k)) 0x101 else s

/-! ## Cycles (R382) -/

/-- The WAIT flags of the header that a stream serves next (R24, R269), where it can be read. -/
def State.nextWait (s : State) (k : Nat) (w : Wave) (cs : Bool) : Option (BitVec 12) :=
  let t := (w.stream cs).tab
  ((t.order.filterMap t.slot).head?.bind fun p => s.peekWord k cs w p.pc).map fun h => h.extractLsb' 13 12

/-- What a stream with no ready split waits for: what holds the first word of a split, else the flags of its next header (R308, R393). -/
def State.boundaryWait (s : State) (k : Nat) (w : Wave) (cs : Bool) : Option (Nat × Nat) :=
  let t := (w.stream cs).tab
  let held := t.order.findSome? fun i => match t.slot i with
    | some p => if s.splitReady k cs w p then s.firstHold k cs w i p else none
    | none => none
  match held with
  | some x => some x
  | none => (s.nextWait k w cs).map fun m => (9, m.toNat)

/-- A stream's ready time at a cycle (R284): from the first cycle in which it is ready to begin a clause. One at a clause boundary with no split ready
waits (R308). -/
def State.readyNow (s : State) (k : Nat) (w : Wave) (cs : Bool) : Stream :=
  let st := w.stream cs
  if s.atBoundary w cs then
    if (s.pickReady k cs w).isSome then
      (match st.readySince with
       | some _ => st
       | none => { st with readySince := some (BitVec.ofNat 64 s.cycle), wait := none })
    else match s.boundaryWait k w cs with
      | some m => { st with readySince := none, wait := some ((WaitFor.poll m.1 m.2 s.stamp).from_ st.wait s.gtc) }
      | none => { st with readySince := none }
  else if st.clause.isNone then { st with readySince := none } else st

/-- One cycle of the cores that have waves is counted, and their streams' wait cycles. -/
def State.cyclesCounted (s : State) : State :=
  let cores := (s.waves.map fun x => coreOf x.1).dedup
  let s := cores.foldl (fun s c => s.count (srcCore c) 0x100) s
  s.waves.foldl (fun s x => [x.2.a, x.2.c].foldl (fun s st => if st.wait.isSome then s.count (srcCore (coreOf x.1)) 0x109 else s) s) s

/-- What the end of a cycle does, its GTC ticks one by one: the Curfews of each tick (R404), the promises of the cycle
(R303), and in the next tick the engines' renewal of those that have passed (R465). -/
def State.passTicks (s : State) : Nat → State
  | 0 => s.promisesPass
  | 1 =>
    let s := s.curfewsExpire.promisesPass
    ({ s with lastGtc := s.gtc, gtc := s.gtc + 1 } : State).promisesRenew
  | n + 2 =>
    let s := s.curfewsExpire
    (({ s with lastGtc := s.gtc, gtc := s.gtc + 1 } : State).promisesRenew).passTicks (n + 1)

/-- CORE_CYCLES (R369, R382): one cycle of the module, in which the GTC advances by `ticks`. (DESIGN CHOICE, safe: notes/assumptions/5.md) -/
def execCoreCycles (ticks : Nat) (s : State) : Out :=
  let s := ((s.cyclesCounted.passTicks ticks).logReports).graphsTested
  let s : State := { s with cycle := s.cycle + 1, inCycle := [], evr := { s.evr with counted := [] } }
  let s : State := { s with waves := s.waves.map fun x => (x.1, { x.2 with a := s.readyNow x.1 x.2 false, c := s.readyNow x.1 x.2 true }) }
  .next s.streamsAge

/-! ## What the module does of itself (M, notes/assumptions/15.md) -/

/-- A step that may come next. -/
def may (c : Bool) (f : State → Out) : List (State → Out) := if c then [f] else []

/-- Steps of waves and of the parts of a core. -/
def State.waveSteps (s : State) : List (State → Out) :=
  s.waves.flatMap fun x =>
    (x.2.late.filter fun l => !l.engine && !l.done).map (fun l => execLongLatencyWrite x.1 l.id) ++
    may x.2.deferredReady (execDeferredTrap x.1) ++
    [false, true].flatMap fun cs =>
      may (match (x.2.stream cs).wait with | some ⟨.sleep t, _⟩ => decide (t.toNat ≤ s.gtc.toNat) | _ => false) (execSleepWake x.1 cs) ++
      may (match (x.2.stream cs).wait with | some ⟨.barrier _ _ true _, _⟩ => !cs | _ => false) (execPromisePass x.1) ++
      may (match (x.2.stream cs).readySince with
        | some t => !(x.2.stream cs).aged && decide (t.toNat + 256 ≤ s.cycle)
        | none => false) (execStreamAges x.1 cs)

def State.coreSteps (s : State) : List (State → Out) :=
  s.cores.flatMap fun x =>
    let g := x.2.engine
    may (match x.2.vacq with | r :: _ => decide (r.n ≤ x.2.freeBlocks.length) | [] => false) (execVregGrant x.1) ++
    may (g.holder.isNone && !g.claim.isEmpty) (execMatrixClaimPass x.1) ++
    (match g.queue with
     | [] => []
     | e :: _ =>
       if e.started then [execMloopKstepEnd x.1, execDrainTicketRead x.1, execEngineEntryComplete x.1] else [execEngineEntryStart x.1]) ++
    may (!x.2.calls.isEmpty) (execBatchForm x.1)

/-- Steps of accesses, home units and calls. -/
def State.memSteps (s : State) : List (State → Out) :=
  (s.flight.flatMap fun a => match a.st with
    | .waiting => may (a.sent.isNone && !(s.spillWait.any fun x => x.id == a.id) && !(a.after.any s.unperformed)) (execHomeUnitRequest a.id)
    | .performed _ => may (!byEngine a.wave) (execLoadLand a.id)
    | .failed _ => may (!byEngine a.wave) (execLoadError a.id)) ++
  (s.homeOps.map fun h => match h.reply, h.cls with
    | some _, _ => execHomeReplyArrival h.op
    | none, 0 => execBarrierHomeOp h.op
    | none, 1 => execSemHomeOp h.op
    | none, _ => execJdecHomeOp h.op) ++
  s.flips.map (fun f => execFlipWake f.core f.key) ++
  (s.walks.filter s.walkRuns).map (fun w => execPageWalkDone w.id) ++
  ((s.callSends.filter fun c => !c.arrived).map fun c => execCalloRequestArrival c.op) ++
  s.callReplies.map (fun r => execCalloReplyLand r.op)

/-- Steps of the engines and of collectives. -/
def State.engineSteps (s : State) : List (State → Out) :=
  (s.cmds.flatMap fun c => match c.2.st with
    | .issued => if c.2.kind ≤ 1 then [execCopyAccept c.1] else if c.2.kind = 2 then [execGpoolAccept c.1] else [execCollAccept c.1]
    | _ => if c.2.fin.isSome then [execEngineLinePerformed c.1 0] else c.2.pieces.map fun p => execEngineLinePerformed c.1 p) ++
  (s.collIn.map fun m => if m.kind ≤ 1 then execCollDataArrival m.id else if m.kind = 2 then execCollAck m.id else execCollEndMessage m.id) ++
  (s.colls.flatMap fun x => may (!x.2.reported && decide (x.2.deadline ≤ s.lastGtc.toNat)) (execCurfewExpiry x.1)) ++
  (s.waitRegs.probes.flatMap fun p =>
    if p.reply.isSome then [execCurfewProbeReply p.id] else may (decide (p.expiry.toNat + 1250000 ≤ s.gtc.toNat)) (execCurfewProbeTimeout p.id)) ++
  (match s.waitRegs.gather with
   | none => []
   | some g => (g.waits.filter fun w => decide (w.2.2.toNat + 1250000 ≤ s.gtc.toNat)).map fun w => execGatherDeviceTimeout w.1)

/-- Steps of the launcher. -/
def State.launchSteps (s : State) : List (State → Out) :=
  (if s.lch.ready.isEmpty then [] else (List.range 320).flatMap fun c => [execBlockDispatch c, execPreemptRestore c]) ++
  (s.lch.ready.flatMap fun r => [execRecordLift r.id, execReservationWait r.id, execPreemptTrigger r.id]) ++
  (s.lch.victims.map fun v => execPreemptSave v.block) ++
  (s.lch.blocks.map fun b => execBlockLeave b.1) ++
  may (!s.lch.waiting.isEmpty) execSpawnRingCopy ++
  (s.lch.tasks.flatMap fun t => may t.2.det (execDetEpochApply t.1) ++ may (!t.2.retired) (execTaskRetire t.1)) ++
  s.aborts.map (fun a => execTaskAbort a.1)

/-- Steps of translation, security, the recorder, recovery and the fabric. -/
def State.systemSteps (s : State) : List (State → Out) :=
  may (!s.faultQ.isEmpty) execFaultRecordWrite ++
  (s.silent.map fun f => execFaultServiceDuty f.token) ++
  may (!s.invals.isEmpty) execInvalidationDone ++
  (if s.sec.cmds.isEmpty then [] else [execKeyInstall, execKeyRetire, execFrameBind, execFrameUnbind, execRawcopy]) ++
  (if s.snap.state = 1 then execSnapshotDrainDone :: (List.range s.snapCount).map execSnapshotStageDone else []) ++
  (match s.rebuild with
   | none => []
   | some r => (r.waits.filter fun w => decide ((s.gtc - w.2).toNat ≥ 1250000)).map fun w => execRebuildAckTimeout w.1) ++
  ((s.rebuildIn.map fun r => r.pkt.srcDev).dedup.map execRebuildListArrival) ++
  may ((firstHanded s.evq).any fun e => e.gtc != s.gtc) execEventHandoff ++
  may (!s.evr.mgmt.isEmpty || s.evr.hubs.any fun h => !h.2.buf.isEmpty) (execDuskDrain 1) ++
  may (s.evr.hubs.any fun h => !h.2.buf.isEmpty) (execDuskDrain 3) ++
  may (s.dpr.getLsbD 7 && decide (s.evr.hostNext < s.evr.wptr)) execTraceDrainCopy ++
  (s.traceOut.map fun c => execTraceChunkWrite c.wave c.cs) ++
  (s.fab.links.flatMap fun l => may (l.2.state == 1) (execLinkTrainDone l.1) ++
    may ((l.2.state == 1 || l.2.state == 5) && decide ((s.gtc - l.2.trainSince).toNat ≥ 1250000)) (execLinkTrainTimeout l.1)) ++
  may (s.fab.inbox.any fun p => isReply p.2) execFabricReplyArrival ++
  may (s.fab.inbox.any fun p => !isReply p.2) execFabricRequestArrival ++
  (s.fab.txns.flatMap fun t => may (s.txnDue t) (execE2eTimerExpiry t.id) ++
    may (match t.busy with | some x => decide ((s.gtc - x).toNat ≥ 2500) | none => false) (execBusyResend t.id)) ++
  may (s.fab.filter.any fun x => decide ((s.gtc - BitVec.ofNat 64 x.1.2.2.2).toInt ≥ 2500000)) execFilterKeyExpire ++
  may s.fab.fence.isSome execMapFenceDone ++
  ((s.spillWait.map fun x => mcOf x.key).dedup.map execSpillFreed)

/-- Every step that the module may take of itself now, but for a word's issue; some of them find that they have nothing to do yet. (DESIGN CHOICE, unsafe: notes/assumptions/15.md) -/
def State.ownSteps (s : State) : List (State → Out) :=
  s.waveSteps ++ s.coreSteps ++ s.memSteps ++ s.engineSteps ++ s.launchSteps ++ s.systemSteps

end Sys2Proof.Machine
end

