-- ==== Sys2Proof/Machine/Dispatch.lean ====
section
/-! DEFINITION. One arm for every step of spec/opcode_table.json. -/
namespace Sys2Proof.Machine

def exec (i : Instr) (s : State) : Host.Outcome State Fault Refusal :=
  match i with
  | .nop => Sys2Proof.Machine.execNop s
  | .yield => Sys2Proof.Machine.execYield s
  | .exit => Sys2Proof.Machine.execExit s
  | .tret => Sys2Proof.Machine.execTret s
  | .roleL => Sys2Proof.Machine.execRoleL s
  | .roleS => Sys2Proof.Machine.execRoleS s
  | .flusha => Sys2Proof.Machine.execFlusha s
  | .br c o => Sys2Proof.Machine.execBr c o s
  | .call o => Sys2Proof.Machine.execCall o s
  | .jmpi a => Sys2Proof.Machine.execJmpi a s
  | .calli a => Sys2Proof.Machine.execCalli a s
  | .ret => Sys2Proof.Machine.execRet s
  | .jtab d a b t => Sys2Proof.Machine.execJtab d a b t s
  | .fork d t i_ => Sys2Proof.Machine.execFork d t i_ s
  | .join t => Sys2Proof.Machine.execJoin t s
  | .mpush a => Sys2Proof.Machine.execMpush a s
  | .melse => Sys2Proof.Machine.execMelse s
  | .mpop => Sys2Proof.Machine.execMpop s
  | .mset a => Sys2Proof.Machine.execMset a s
  | .mget d => Sys2Proof.Machine.execMget d s
  | .trap n => Sys2Proof.Machine.execTrap n s
  | .waita c t => Sys2Proof.Machine.execWaita c t s
  | .waitf f => Sys2Proof.Machine.execWaitf f s
  | .sleep a => Sys2Proof.Machine.execSleep a s
  | .mfsr d n => Sys2Proof.Machine.execMfsr d n s
  | .mtsr a n => Sys2Proof.Machine.execMtsr a n s
  | .evt a b => Sys2Proof.Machine.execEvt a b s
  | .causeSet a => Sys2Proof.Machine.execCauseSet a s
  | .causeGet d => Sys2Proof.Machine.execCauseGet d s
  | .trcOn a => Sys2Proof.Machine.execTrcOn a s
  | .trcOff => Sys2Proof.Machine.execTrcOff s
  | .sadd d a b => Sys2Proof.Machine.execSadd d a b s
  | .ssub d a b => Sys2Proof.Machine.execSsub d a b s
  | .sand d a b => Sys2Proof.Machine.execSand d a b s
  | .sor d a b => Sys2Proof.Machine.execSor d a b s
  | .sxor d a b => Sys2Proof.Machine.execSxor d a b s
  | .sshl d a b => Sys2Proof.Machine.execSshl d a b s
  | .sshr d a b => Sys2Proof.Machine.execSshr d a b s
  | .ssar d a b => Sys2Proof.Machine.execSsar d a b s
  | .smin d a b => Sys2Proof.Machine.execSmin d a b s
  | .smax d a b => Sys2Proof.Machine.execSmax d a b s
  | .sminn d a b => Sys2Proof.Machine.execSminn d a b s
  | .smaxn d a b => Sys2Proof.Machine.execSmaxn d a b s
  | .smul d a b => Sys2Proof.Machine.execSmul d a b s
  | .smulh d a b => Sys2Proof.Machine.execSmulh d a b s
  | .smulhn d a b => Sys2Proof.Machine.execSmulhn d a b s
  | .sandn d a b => Sys2Proof.Machine.execSandn d a b s
  | .saddi d a i_ => Sys2Proof.Machine.execSaddi d a i_ s
  | .sandi d a i_ => Sys2Proof.Machine.execSandi d a i_ s
  | .sori d a i_ => Sys2Proof.Machine.execSori d a i_ s
  | .sxori d a i_ => Sys2Proof.Machine.execSxori d a i_ s
  | .sshlImm d a n => Sys2Proof.Machine.execSshlImm d a n s
  | .sshrImm d a n => Sys2Proof.Machine.execSshrImm d a n s
  | .ssarImm d a n => Sys2Proof.Machine.execSsarImm d a n s
  | .srot d a n => Sys2Proof.Machine.execSrot d a n s
  | .smovi d i_ => Sys2Proof.Machine.execSmovi d i_ s
  | .smovhi d i_ => Sys2Proof.Machine.execSmovhi d i_ s
  | .scmp a b => Sys2Proof.Machine.execScmp a b s
  | .scmpN a b => Sys2Proof.Machine.execScmpN a b s
  | .scmpi a i_ => Sys2Proof.Machine.execScmpi a i_ s
  | .scmpiN a i_ => Sys2Proof.Machine.execScmpiN a i_ s
  | .saddp d a b p s_ => Sys2Proof.Machine.execSaddp d a b p s_ s
  | .ssel d a b c => Sys2Proof.Machine.execSsel d a b c s
  | .smov d a => Sys2Proof.Machine.execSmov d a s
  | .snot d a => Sys2Proof.Machine.execSnot d a s
  | .sneg d a => Sys2Proof.Machine.execSneg d a s
  | .sclz d a => Sys2Proof.Machine.execSclz d a s
  | .spopc d a => Sys2Proof.Machine.execSpopc d a s
  | .sbrev d a => Sys2Proof.Machine.execSbrev d a s
  | .ssext8 d a => Sys2Proof.Machine.execSsext8 d a s
  | .ssext16 d a => Sys2Proof.Machine.execSsext16 d a s
  | .sdivi d a b => Sys2Proof.Machine.execSdivi d a b s
  | .sdivn d a b => Sys2Proof.Machine.execSdivn d a b s
  | .sremi d a b => Sys2Proof.Machine.execSremi d a b s
  | .sremn d a b => Sys2Proof.Machine.execSremn d a b s
  | .qpush a => Sys2Proof.Machine.execQpush a s
  | .qpop d => Sys2Proof.Machine.execQpop d s
  | .qpeek d => Sys2Proof.Machine.execQpeek d s
  | .qlen d => Sys2Proof.Machine.execQlen d s
  | .vacqB a => Sys2Proof.Machine.execVacqB a s
  | .vacqT d a => Sys2Proof.Machine.execVacqT d a s
  | .vrel a => Sys2Proof.Machine.execVrel a s
  | .vwin a => Sys2Proof.Machine.execVwin a s
  | .vregGrant core => Sys2Proof.Machine.execVregGrant core s
  | .vadd d a b => Sys2Proof.Machine.execVadd d a b s
  | .vsub d a b => Sys2Proof.Machine.execVsub d a b s
  | .vand d a b => Sys2Proof.Machine.execVand d a b s
  | .vor d a b => Sys2Proof.Machine.execVor d a b s
  | .vxor d a b => Sys2Proof.Machine.execVxor d a b s
  | .vshl d a b => Sys2Proof.Machine.execVshl d a b s
  | .vshr d a b => Sys2Proof.Machine.execVshr d a b s
  | .vsar d a b => Sys2Proof.Machine.execVsar d a b s
  | .vmin d a b => Sys2Proof.Machine.execVmin d a b s
  | .vmax d a b => Sys2Proof.Machine.execVmax d a b s
  | .vminn d a b => Sys2Proof.Machine.execVminn d a b s
  | .vmaxn d a b => Sys2Proof.Machine.execVmaxn d a b s
  | .vmul d a b => Sys2Proof.Machine.execVmul d a b s
  | .vmulh d a b => Sys2Proof.Machine.execVmulh d a b s
  | .vmulhn d a b => Sys2Proof.Machine.execVmulhn d a b s
  | .vandn d a b => Sys2Proof.Machine.execVandn d a b s
  | .vaddS d a b => Sys2Proof.Machine.execVaddS d a b s
  | .vsubS d a b => Sys2Proof.Machine.execVsubS d a b s
  | .vandS d a b => Sys2Proof.Machine.execVandS d a b s
  | .vorS d a b => Sys2Proof.Machine.execVorS d a b s
  | .vxorS d a b => Sys2Proof.Machine.execVxorS d a b s
  | .vshlS d a b => Sys2Proof.Machine.execVshlS d a b s
  | .vshrS d a b => Sys2Proof.Machine.execVshrS d a b s
  | .vsarS d a b => Sys2Proof.Machine.execVsarS d a b s
  | .vminS d a b => Sys2Proof.Machine.execVminS d a b s
  | .vmaxS d a b => Sys2Proof.Machine.execVmaxS d a b s
  | .vminnS d a b => Sys2Proof.Machine.execVminnS d a b s
  | .vmaxnS d a b => Sys2Proof.Machine.execVmaxnS d a b s
  | .vmulS d a b => Sys2Proof.Machine.execVmulS d a b s
  | .vmulhS d a b => Sys2Proof.Machine.execVmulhS d a b s
  | .vmulhnS d a b => Sys2Proof.Machine.execVmulhnS d a b s
  | .vandnS d a b => Sys2Proof.Machine.execVandnS d a b s
  | .vaddi d a i_ => Sys2Proof.Machine.execVaddi d a i_ s
  | .vandi d a i_ => Sys2Proof.Machine.execVandi d a i_ s
  | .vori d a i_ => Sys2Proof.Machine.execVori d a i_ s
  | .vxori d a i_ => Sys2Proof.Machine.execVxori d a i_ s
  | .vshlImm d a n => Sys2Proof.Machine.execVshlImm d a n s
  | .vshrImm d a n => Sys2Proof.Machine.execVshrImm d a n s
  | .vsarImm d a n => Sys2Proof.Machine.execVsarImm d a n s
  | .vrot d a n => Sys2Proof.Machine.execVrot d a n s
  | .vmovi d i_ => Sys2Proof.Machine.execVmovi d i_ s
  | .madloI32 d a b => Sys2Proof.Machine.execMadloI32 d a b s
  | .madhiI32 d a b => Sys2Proof.Machine.execMadhiI32 d a b s
  | .madloN32 d a b => Sys2Proof.Machine.execMadloN32 d a b s
  | .madhiN32 d a b => Sys2Proof.Machine.execMadhiN32 d a b s
  | .vcmpEq d a b => Sys2Proof.Machine.execVcmpEq d a b s
  | .vcmpNe d a b => Sys2Proof.Machine.execVcmpNe d a b s
  | .vcmpLt d a b => Sys2Proof.Machine.execVcmpLt d a b s
  | .vcmpLe d a b => Sys2Proof.Machine.execVcmpLe d a b s
  | .vcmpGt d a b => Sys2Proof.Machine.execVcmpGt d a b s
  | .vcmpGe d a b => Sys2Proof.Machine.execVcmpGe d a b s
  | .vcmpLtn d a b => Sys2Proof.Machine.execVcmpLtn d a b s
  | .vcmpLen d a b => Sys2Proof.Machine.execVcmpLen d a b s
  | .vcmpGtn d a b => Sys2Proof.Machine.execVcmpGtn d a b s
  | .vcmpGen d a b => Sys2Proof.Machine.execVcmpGen d a b s
  | .vcmpsEq d a b => Sys2Proof.Machine.execVcmpsEq d a b s
  | .vcmpsNe d a b => Sys2Proof.Machine.execVcmpsNe d a b s
  | .vcmpsLt d a b => Sys2Proof.Machine.execVcmpsLt d a b s
  | .vcmpsLe d a b => Sys2Proof.Machine.execVcmpsLe d a b s
  | .vcmpsGt d a b => Sys2Proof.Machine.execVcmpsGt d a b s
  | .vcmpsGe d a b => Sys2Proof.Machine.execVcmpsGe d a b s
  | .vcmpsLtn d a b => Sys2Proof.Machine.execVcmpsLtn d a b s
  | .vcmpsLen d a b => Sys2Proof.Machine.execVcmpsLen d a b s
  | .vcmpsGtn d a b => Sys2Proof.Machine.execVcmpsGtn d a b s
  | .vcmpsGen d a b => Sys2Proof.Machine.execVcmpsGen d a b s
  | .vsel d a b p => Sys2Proof.Machine.execVsel d a b p s
  | .vmov d a => Sys2Proof.Machine.execVmov d a s
  | .vnot d a => Sys2Proof.Machine.execVnot d a s
  | .vneg d a => Sys2Proof.Machine.execVneg d a s
  | .vabs d a => Sys2Proof.Machine.execVabs d a s
  | .vclz d a => Sys2Proof.Machine.execVclz d a s
  | .vpopc d a => Sys2Proof.Machine.execVpopc d a s
  | .vbrev d a => Sys2Proof.Machine.execVbrev d a s
  | .vsext8 d a => Sys2Proof.Machine.execVsext8 d a s
  | .vsext16 d a => Sys2Proof.Machine.execVsext16 d a s
  | .vzext8 d a => Sys2Proof.Machine.execVzext8 d a s
  | .vzext16 d a => Sys2Proof.Machine.execVzext16 d a s
  | .vlane d => Sys2Proof.Machine.execVlane d s
  | .vbfeN d a b => Sys2Proof.Machine.execVbfeN d a b s
  | .vbfeI d a b => Sys2Proof.Machine.execVbfeI d a b s
  | .vbfi d a b => Sys2Proof.Machine.execVbfi d a b s
  | .vleaN d a b s_ => Sys2Proof.Machine.execVleaN d a b s_ s
  | .vleaI d a b s_ => Sys2Proof.Machine.execVleaI d a b s_ s
  | .vrand d a b w => Sys2Proof.Machine.execVrand d a b w s
  | .pand d a b => Sys2Proof.Machine.execPand d a b s
  | .por d a b => Sys2Proof.Machine.execPor d a b s
  | .pxor d a b => Sys2Proof.Machine.execPxor d a b s
  | .pandn d a b => Sys2Proof.Machine.execPandn d a b s
  | .porn d a b => Sys2Proof.Machine.execPorn d a b s
  | .pnot d a => Sys2Proof.Machine.execPnot d a s
  | .pmov d a => Sys2Proof.Machine.execPmov d a s
  | .pset d => Sys2Proof.Machine.execPset d s
  | .pclr d => Sys2Proof.Machine.execPclr d s
  | .ptov d a => Sys2Proof.Machine.execPtov d a s
  | .vtop d a => Sys2Proof.Machine.execVtop d a s
  | .fadd d a b => Sys2Proof.Machine.execFadd d a b s
  | .fsub d a b => Sys2Proof.Machine.execFsub d a b s
  | .fmul d a b => Sys2Proof.Machine.execFmul d a b s
  | .fmin d a b => Sys2Proof.Machine.execFmin d a b s
  | .fmax d a b => Sys2Proof.Machine.execFmax d a b s
  | .fcopysign d a b => Sys2Proof.Machine.execFcopysign d a b s
  | .faddS d a b => Sys2Proof.Machine.execFaddS d a b s
  | .fsubS d a b => Sys2Proof.Machine.execFsubS d a b s
  | .fmulS d a b => Sys2Proof.Machine.execFmulS d a b s
  | .fminS d a b => Sys2Proof.Machine.execFminS d a b s
  | .fmaxS d a b => Sys2Proof.Machine.execFmaxS d a b s
  | .fcopysignS d a b => Sys2Proof.Machine.execFcopysignS d a b s
  | .ffma d a b r => Sys2Proof.Machine.execFfma d a b r s
  | .ffmaNeg d a b r => Sys2Proof.Machine.execFfmaNeg d a b r s
  | .ffmaSub d a b r => Sys2Proof.Machine.execFfmaSub d a b r s
  | .ffmaNegsub d a b r => Sys2Proof.Machine.execFfmaNegsub d a b r s
  | .ffmas d a b r => Sys2Proof.Machine.execFfmas d a b r s
  | .ffmasNeg d a b r => Sys2Proof.Machine.execFfmasNeg d a b r s
  | .ffmasSub d a b r => Sys2Proof.Machine.execFfmasSub d a b r s
  | .ffmasNegsub d a b r => Sys2Proof.Machine.execFfmasNegsub d a b r s
  | .fcmpEq d a b => Sys2Proof.Machine.execFcmpEq d a b s
  | .fcmpNe d a b => Sys2Proof.Machine.execFcmpNe d a b s
  | .fcmpLt d a b => Sys2Proof.Machine.execFcmpLt d a b s
  | .fcmpLe d a b => Sys2Proof.Machine.execFcmpLe d a b s
  | .fcmpGt d a b => Sys2Proof.Machine.execFcmpGt d a b s
  | .fcmpGe d a b => Sys2Proof.Machine.execFcmpGe d a b s
  | .fcmpUnord d a b => Sys2Proof.Machine.execFcmpUnord d a b s
  | .fcmpOrd d a b => Sys2Proof.Machine.execFcmpOrd d a b s
  | .frcp d a => Sys2Proof.Machine.execFrcp d a s
  | .frsq d a => Sys2Proof.Machine.execFrsq d a s
  | .fsqrt d a => Sys2Proof.Machine.execFsqrt d a s
  | .fexp2 d a => Sys2Proof.Machine.execFexp2 d a s
  | .flog2 d a => Sys2Proof.Machine.execFlog2 d a s
  | .fsin d a => Sys2Proof.Machine.execFsin d a s
  | .fcos d a => Sys2Proof.Machine.execFcos d a s
  | .ftanh d a => Sys2Proof.Machine.execFtanh d a s
  | .fdiv d a b => Sys2Proof.Machine.execFdiv d a b s
  | .fcvtBf16F32 d a r => Sys2Proof.Machine.execFcvtBf16F32 d a r s
  | .fcvtF16F32 d a r => Sys2Proof.Machine.execFcvtF16F32 d a r s
  | .fcvtF32Bf16 d a r => Sys2Proof.Machine.execFcvtF32Bf16 d a r s
  | .fcvtF32F16 d a r => Sys2Proof.Machine.execFcvtF32F16 d a r s
  | .fcvtE4m3F32 d a r => Sys2Proof.Machine.execFcvtE4m3F32 d a r s
  | .fcvtE5m2F32 d a r => Sys2Proof.Machine.execFcvtE5m2F32 d a r s
  | .fcvtF32E4m3 d a r => Sys2Proof.Machine.execFcvtF32E4m3 d a r s
  | .fcvtF32E5m2 d a r => Sys2Proof.Machine.execFcvtF32E5m2 d a r s
  | .fcvtI32F32 d a r => Sys2Proof.Machine.execFcvtI32F32 d a r s
  | .fcvtN32F32 d a r => Sys2Proof.Machine.execFcvtN32F32 d a r s
  | .fcvtF32I32 d a r => Sys2Proof.Machine.execFcvtF32I32 d a r s
  | .fcvtF32N32 d a r => Sys2Proof.Machine.execFcvtF32N32 d a r s
  | .fcvtscE4m3F32 d a b k => Sys2Proof.Machine.execFcvtscE4m3F32 d a b k s
  | .fcvtscE5m2F32 d a b k => Sys2Proof.Machine.execFcvtscE5m2F32 d a b k s
  | .fcvtscF32E4m3 d a b k => Sys2Proof.Machine.execFcvtscF32E4m3 d a b k s
  | .fcvtscF32E5m2 d a b k => Sys2Proof.Machine.execFcvtscF32E5m2 d a b k s
  | .hadd2 d a b f => Sys2Proof.Machine.execHadd2 d a b f s
  | .hsub2 d a b f => Sys2Proof.Machine.execHsub2 d a b f s
  | .hmul2 d a b f => Sys2Proof.Machine.execHmul2 d a b f s
  | .hmin2 d a b f => Sys2Proof.Machine.execHmin2 d a b f s
  | .hmax2 d a b f => Sys2Proof.Machine.execHmax2 d a b f s
  | .hfma2 d a b f => Sys2Proof.Machine.execHfma2 d a b f s
  | .hfma2Neg d a b f => Sys2Proof.Machine.execHfma2Neg d a b f s
  | .hfma2Sub d a b f => Sys2Proof.Machine.execHfma2Sub d a b f s
  | .hfma2Negsub d a b f => Sys2Proof.Machine.execHfma2Negsub d a b f s
  | .dot2Bf16 d a b => Sys2Proof.Machine.execDot2Bf16 d a b s
  | .dot2F16 d a b => Sys2Proof.Machine.execDot2F16 d a b s
  | .dot4E4m3 d a b => Sys2Proof.Machine.execDot4E4m3 d a b s
  | .dot4E5m2 d a b => Sys2Proof.Machine.execDot4E5m2 d a b s
  | .dot4I8 d a b => Sys2Proof.Machine.execDot4I8 d a b s
  | .dot4N8 d a b => Sys2Proof.Machine.execDot4N8 d a b s
  | .dot8Cb4 d a b => Sys2Proof.Machine.execDot8Cb4 d a b s
  | .fclass d a => Sys2Proof.Machine.execFclass d a s
  | .frnd d a r => Sys2Proof.Machine.execFrnd d a r s
  | .fmovi d i_ => Sys2Proof.Machine.execFmovi d i_ s
  | .fscaleb d a b => Sys2Proof.Machine.execFscaleb d a b s
  | .fgetexp d a => Sys2Proof.Machine.execFgetexp d a s
  | .fgetmant d a => Sys2Proof.Machine.execFgetmant d a s
  | .shflIdx d a b => Sys2Proof.Machine.execShflIdx d a b s
  | .shflUp d a b => Sys2Proof.Machine.execShflUp d a b s
  | .shflDn d a b => Sys2Proof.Machine.execShflDn d a b s
  | .shflXor d a b => Sys2Proof.Machine.execShflXor d a b s
  | .shfliIdx d a n => Sys2Proof.Machine.execShfliIdx d a n s
  | .shfliUp d a n => Sys2Proof.Machine.execShfliUp d a n s
  | .shfliDn d a n => Sys2Proof.Machine.execShfliDn d a n s
  | .shfliXor d a n => Sys2Proof.Machine.execShfliXor d a n s
  | .voteAny d a => Sys2Proof.Machine.execVoteAny d a s
  | .voteAll d a => Sys2Proof.Machine.execVoteAll d a s
  | .voteBallot d a => Sys2Proof.Machine.execVoteBallot d a s
  | .voteUni d a => Sys2Proof.Machine.execVoteUni d a s
  | .voteElect d => Sys2Proof.Machine.execVoteElect d s
  | .reduceAddI32 d a => Sys2Proof.Machine.execReduceAddI32 d a s
  | .reduceAddF32 d a => Sys2Proof.Machine.execReduceAddF32 d a s
  | .reduceMinI d a => Sys2Proof.Machine.execReduceMinI d a s
  | .reduceMaxI d a => Sys2Proof.Machine.execReduceMaxI d a s
  | .reduceMinN d a => Sys2Proof.Machine.execReduceMinN d a s
  | .reduceMaxN d a => Sys2Proof.Machine.execReduceMaxN d a s
  | .reduceAnd d a => Sys2Proof.Machine.execReduceAnd d a s
  | .reduceOr d a => Sys2Proof.Machine.execReduceOr d a s
  | .reduceXor d a => Sys2Proof.Machine.execReduceXor d a s
  | .reduceMinF32 d a => Sys2Proof.Machine.execReduceMinF32 d a s
  | .reduceMaxF32 d a => Sys2Proof.Machine.execReduceMaxF32 d a s
  | .scanAddI32 d a e => Sys2Proof.Machine.execScanAddI32 d a e s
  | .scanAddF32 d a e => Sys2Proof.Machine.execScanAddF32 d a e s
  | .scanMinI d a e => Sys2Proof.Machine.execScanMinI d a e s
  | .scanMaxI d a e => Sys2Proof.Machine.execScanMaxI d a e s
  | .scanOr d a e => Sys2Proof.Machine.execScanOr d a e s
  | .matchLanes d a => Sys2Proof.Machine.execMatchLanes d a s
  | .rdlane d a b => Sys2Proof.Machine.execRdlane d a b s
  | .wrlane d a b => Sys2Proof.Machine.execWrlane d a b s
  | .bcast d a b => Sys2Proof.Machine.execBcast d a b s
  | .ldvN8 d a k o => Sys2Proof.Machine.execLdvN8 d a k o s
  | .ldvI8 d a k o => Sys2Proof.Machine.execLdvI8 d a k o s
  | .ldvN16 d a k o => Sys2Proof.Machine.execLdvN16 d a k o s
  | .ldvI16 d a k o => Sys2Proof.Machine.execLdvI16 d a k o s
  | .ldv32 d a k o => Sys2Proof.Machine.execLdv32 d a k o s
  | .ldv64 d a k o => Sys2Proof.Machine.execLdv64 d a k o s
  | .ldv128 d a k o => Sys2Proof.Machine.execLdv128 d a k o s
  | .stv8 d a k o => Sys2Proof.Machine.execStv8 d a k o s
  | .stv16 d a k o => Sys2Proof.Machine.execStv16 d a k o s
  | .stv32 d a k o => Sys2Proof.Machine.execStv32 d a k o s
  | .stv64 d a k o => Sys2Proof.Machine.execStv64 d a k o s
  | .stv128 d a k o => Sys2Proof.Machine.execStv128 d a k o s
  | .lds32 d a k o => Sys2Proof.Machine.execLds32 d a k o s
  | .lds64 d a k o => Sys2Proof.Machine.execLds64 d a k o s
  | .sts32 d a k o => Sys2Proof.Machine.execSts32 d a k o s
  | .sts64 d a k o => Sys2Proof.Machine.execSts64 d a k o s
  | .atomAddI32 s_ d a b => Sys2Proof.Machine.execAtomAddI32 s_ d a b s
  | .atomAddF32 s_ d a b => Sys2Proof.Machine.execAtomAddF32 s_ d a b s
  | .atomMinI s_ d a b => Sys2Proof.Machine.execAtomMinI s_ d a b s
  | .atomMaxI s_ d a b => Sys2Proof.Machine.execAtomMaxI s_ d a b s
  | .atomMinN s_ d a b => Sys2Proof.Machine.execAtomMinN s_ d a b s
  | .atomMaxN s_ d a b => Sys2Proof.Machine.execAtomMaxN s_ d a b s
  | .atomAnd s_ d a b => Sys2Proof.Machine.execAtomAnd s_ d a b s
  | .atomOr s_ d a b => Sys2Proof.Machine.execAtomOr s_ d a b s
  | .atomXor s_ d a b => Sys2Proof.Machine.execAtomXor s_ d a b s
  | .atomXchg s_ d a b => Sys2Proof.Machine.execAtomXchg s_ d a b s
  | .atomCas s_ d a b => Sys2Proof.Machine.execAtomCas s_ d a b s
  | .atomAddI64 s_ d a b => Sys2Proof.Machine.execAtomAddI64 s_ d a b s
  | .atomIncw s_ d a b => Sys2Proof.Machine.execAtomIncw s_ d a b s
  | .atomAddBf16x2 s_ d a b => Sys2Proof.Machine.execAtomAddBf16x2 s_ d a b s
  | .redAddI32 s_ a b => Sys2Proof.Machine.execRedAddI32 s_ a b s
  | .redAddF32 s_ a b => Sys2Proof.Machine.execRedAddF32 s_ a b s
  | .redMinI s_ a b => Sys2Proof.Machine.execRedMinI s_ a b s
  | .redMaxI s_ a b => Sys2Proof.Machine.execRedMaxI s_ a b s
  | .redMinN s_ a b => Sys2Proof.Machine.execRedMinN s_ a b s
  | .redMaxN s_ a b => Sys2Proof.Machine.execRedMaxN s_ a b s
  | .redAnd s_ a b => Sys2Proof.Machine.execRedAnd s_ a b s
  | .redOr s_ a b => Sys2Proof.Machine.execRedOr s_ a b s
  | .redXor s_ a b => Sys2Proof.Machine.execRedXor s_ a b s
  | .redXchg s_ a b => Sys2Proof.Machine.execRedXchg s_ a b s
  | .redCas s_ a b => Sys2Proof.Machine.execRedCas s_ a b s
  | .redAddI64 s_ a b => Sys2Proof.Machine.execRedAddI64 s_ a b s
  | .redIncw s_ a b => Sys2Proof.Machine.execRedIncw s_ a b s
  | .redAddBf16x2 s_ a b => Sys2Proof.Machine.execRedAddBf16x2 s_ a b s
  | .callo d a b => Sys2Proof.Machine.execCallo d a b s
  | .fenceAcq s_ => Sys2Proof.Machine.execFenceAcq s_ s
  | .fenceRel s_ => Sys2Proof.Machine.execFenceRel s_ s
  | .fenceAcqrel s_ => Sys2Proof.Machine.execFenceAcqrel s_ s
  | .fenceSc s_ => Sys2Proof.Machine.execFenceSc s_ s
  | .fenceOpnd s_ => Sys2Proof.Machine.execFenceOpnd s_ s
  | .fenceFlush s_ => Sys2Proof.Machine.execFenceFlush s_ s
  | .fenceEng s_ => Sys2Proof.Machine.execFenceEng s_ s
  | .pft a h o => Sys2Proof.Machine.execPft a h o s
  | .copy d a b => Sys2Proof.Machine.execCopy d a b s
  | .copyNp d a b => Sys2Proof.Machine.execCopyNp d a b s
  | .gpool d a b => Sys2Proof.Machine.execGpool d a b s
  | .coll d a b => Sys2Proof.Machine.execColl d a b s
  | .barInit a b => Sys2Proof.Machine.execBarInit a b s
  | .barArrive d a => Sys2Proof.Machine.execBarArrive d a s
  | .barWait a b => Sys2Proof.Machine.execBarWait a b s
  | .barArrwait d a => Sys2Proof.Machine.execBarArrwait d a s
  | .barExpect a b => Sys2Proof.Machine.execBarExpect a b s
  | .barTrywait d a b => Sys2Proof.Machine.execBarTrywait d a b s
  | .barWaitp a b => Sys2Proof.Machine.execBarWaitp a b s
  | .barDrop d a => Sys2Proof.Machine.execBarDrop d a s
  | .semInit a b => Sys2Proof.Machine.execSemInit a b s
  | .semP a => Sys2Proof.Machine.execSemP a s
  | .semV a => Sys2Proof.Machine.execSemV a s
  | .semTryp d a => Sys2Proof.Machine.execSemTryp d a s
  | .spawn a => Sys2Proof.Machine.execSpawn a s
  | .jdec d a => Sys2Proof.Machine.execJdec d a s
  | .falloc d a b => Sys2Proof.Machine.execFalloc d a b s
  | .ffree a => Sys2Proof.Machine.execFfree a s
  | .fquota d a => Sys2Proof.Machine.execFquota d a s
  | .creply b => Sys2Proof.Machine.execCreply b s
  | .cdone => Sys2Proof.Machine.execCdone s
  | .cabort a => Sys2Proof.Machine.execCabort a s
  | .mloopBf16 d a b z q g => Sys2Proof.Machine.execMloopBf16 d a b z q g s
  | .mloopF16 d a b z q g => Sys2Proof.Machine.execMloopF16 d a b z q g s
  | .mloopE4m3 d a b z s_ q g => Sys2Proof.Machine.execMloopE4m3 d a b z s_ q g s
  | .mloopE5m2 d a b z s_ q g => Sys2Proof.Machine.execMloopE5m2 d a b z s_ q g s
  | .mloopI8 d a b z q g => Sys2Proof.Machine.execMloopI8 d a b z q g s
  | .mloopCb4 d a b z s_ q g => Sys2Proof.Machine.execMloopCb4 d a b z s_ q g s
  | .mloopCb4bf d a b z s_ q g => Sys2Proof.Machine.execMloopCb4bf d a b z s_ q g s
  | .mzero d => Sys2Proof.Machine.execMzero d s
  | .mcb s_ a => Sys2Proof.Machine.execMcb s_ a s
  | .mstat d w c => Sys2Proof.Machine.execMstat d w c s
  | .mdrainStoreF32 d a c => Sys2Proof.Machine.execMdrainStoreF32 d a c s
  | .mdrainStoreBf16 d a c => Sys2Proof.Machine.execMdrainStoreBf16 d a c s
  | .mdrainStoreE4m3 d a c => Sys2Proof.Machine.execMdrainStoreE4m3 d a c s
  | .mdrainAddF32 d a c => Sys2Proof.Machine.execMdrainAddF32 d a c s
  | .mdrainAddOrdered d a c => Sys2Proof.Machine.execMdrainAddOrdered d a c s
  | .msave a => Sys2Proof.Machine.execMsave a s
  | .mrestore a => Sys2Proof.Machine.execMrestore a s
  | .clauseHeader w x y l => Sys2Proof.Machine.execClauseHeader w x y l s
  | .streamAges wave cs => Sys2Proof.Machine.execStreamAges wave cs s
  | .longLatencyWrite wave id => Sys2Proof.Machine.execLongLatencyWrite wave id s
  | .loadLand id => Sys2Proof.Machine.execLoadLand id s
  | .loadError id => Sys2Proof.Machine.execLoadError id s
  | .deferredTrap wave => Sys2Proof.Machine.execDeferredTrap wave s
  | .homeUnitRequest id => Sys2Proof.Machine.execHomeUnitRequest id s
  | .spillFreed mc => Sys2Proof.Machine.execSpillFreed mc s
  | .barrierHomeOp op => Sys2Proof.Machine.execBarrierHomeOp op s
  | .flipWake core key => Sys2Proof.Machine.execFlipWake core key s
  | .semHomeOp op => Sys2Proof.Machine.execSemHomeOp op s
  | .jdecHomeOp op => Sys2Proof.Machine.execJdecHomeOp op s
  | .homeReplyArrival op => Sys2Proof.Machine.execHomeReplyArrival op s
  | .promisePass wave => Sys2Proof.Machine.execPromisePass wave s
  | .promiseRevise cmd => Sys2Proof.Machine.execPromiseRevise cmd s
  | .sleepWake wave cs => Sys2Proof.Machine.execSleepWake wave cs s
  | .matrixClaimPass core => Sys2Proof.Machine.execMatrixClaimPass core s
  | .engineEntryStart core => Sys2Proof.Machine.execEngineEntryStart core s
  | .mloopKstepEnd core => Sys2Proof.Machine.execMloopKstepEnd core s
  | .engineEntryComplete core => Sys2Proof.Machine.execEngineEntryComplete core s
  | .drainTicketRead core => Sys2Proof.Machine.execDrainTicketRead core s
  | .copyAccept cmd => Sys2Proof.Machine.execCopyAccept cmd s
  | .gpoolAccept cmd => Sys2Proof.Machine.execGpoolAccept cmd s
  | .engineLinePerformed cmd piece => Sys2Proof.Machine.execEngineLinePerformed cmd piece s
  | .collAccept cmd => Sys2Proof.Machine.execCollAccept cmd s
  | .collDataArrival id => Sys2Proof.Machine.execCollDataArrival id s
  | .collAck id => Sys2Proof.Machine.execCollAck id s
  | .collEndMessage id => Sys2Proof.Machine.execCollEndMessage id s
  | .curfewExpiry cmd => Sys2Proof.Machine.execCurfewExpiry cmd s
  | .curfewProbeReply id => Sys2Proof.Machine.execCurfewProbeReply id s
  | .curfewProbeTimeout id => Sys2Proof.Machine.execCurfewProbeTimeout id s
  | .calloRequestArrival op => Sys2Proof.Machine.execCalloRequestArrival op s
  | .batchForm core => Sys2Proof.Machine.execBatchForm core s
  | .calloReplyLand op => Sys2Proof.Machine.execCalloReplyLand op s
  | .detEpochApply task => Sys2Proof.Machine.execDetEpochApply task s
  | .doorbell v => Sys2Proof.Machine.execDoorbell v s
  | .blockDispatch core => Sys2Proof.Machine.execBlockDispatch core s
  | .recordLift id => Sys2Proof.Machine.execRecordLift id s
  | .reservationWait id => Sys2Proof.Machine.execReservationWait id s
  | .preemptTrigger id => Sys2Proof.Machine.execPreemptTrigger id s
  | .preemptSave block => Sys2Proof.Machine.execPreemptSave block s
  | .preemptRestore core => Sys2Proof.Machine.execPreemptRestore core s
  | .blockLeave block => Sys2Proof.Machine.execBlockLeave block s
  | .spawnRingCopy => Sys2Proof.Machine.execSpawnRingCopy s
  | .taskRetire task => Sys2Proof.Machine.execTaskRetire task s
  | .taskAbort task => Sys2Proof.Machine.execTaskAbort task s
  | .pageWalkDone id => Sys2Proof.Machine.execPageWalkDone id s
  | .faultRecordWrite => Sys2Proof.Machine.execFaultRecordWrite s
  | .faultServiceDuty token => Sys2Proof.Machine.execFaultServiceDuty token s
  | .migrationDuty tenant vpn frame => Sys2Proof.Machine.execMigrationDuty tenant vpn frame s
  | .trnInvalAll => Sys2Proof.Machine.execTrnInvalAll s
  | .trnInvalTenant tenant => Sys2Proof.Machine.execTrnInvalTenant tenant s
  | .trnInvalRange tenant npages vpn => Sys2Proof.Machine.execTrnInvalRange tenant npages vpn s
  | .invalidationDone => Sys2Proof.Machine.execInvalidationDone s
  | .faultRingHead v => Sys2Proof.Machine.execFaultRingHead v s
  | .replayToken token => Sys2Proof.Machine.execReplayToken token s
  | .replayPage tenant vpn => Sys2Proof.Machine.execReplayPage tenant vpn s
  | .replayTenant tenant => Sys2Proof.Machine.execReplayTenant tenant s
  | .replayFail token code => Sys2Proof.Machine.execReplayFail token code s
  | .keyInstall => Sys2Proof.Machine.execKeyInstall s
  | .keyRetire => Sys2Proof.Machine.execKeyRetire s
  | .frameBind => Sys2Proof.Machine.execFrameBind s
  | .frameUnbind => Sys2Proof.Machine.execFrameUnbind s
  | .rawcopy => Sys2Proof.Machine.execRawcopy s
  | .avquotaWrite v => Sys2Proof.Machine.execAvquotaWrite v s
  | .snapshotStart v => Sys2Proof.Machine.execSnapshotStart v s
  | .snapshotAbort => Sys2Proof.Machine.execSnapshotAbort s
  | .snapshotStageDone entry => Sys2Proof.Machine.execSnapshotStageDone entry s
  | .snapshotDrainDone => Sys2Proof.Machine.execSnapshotDrainDone s
  | .groupReload group => Sys2Proof.Machine.execGroupReload group s
  | .groupRebuild v => Sys2Proof.Machine.execGroupRebuild v s
  | .rebuildListArrival dev => Sys2Proof.Machine.execRebuildListArrival dev s
  | .rebuildAckTimeout dev => Sys2Proof.Machine.execRebuildAckTimeout dev s
  | .waitSnapshot v => Sys2Proof.Machine.execWaitSnapshot v s
  | .waitGather v => Sys2Proof.Machine.execWaitGather v s
  | .gatherDeviceTimeout dev => Sys2Proof.Machine.execGatherDeviceTimeout dev s
  | .curfewRingHead v => Sys2Proof.Machine.execCurfewRingHead v s
  | .errorLogHead log v => Sys2Proof.Machine.execErrorLogHead log v s
  | .hostRingHead v => Sys2Proof.Machine.execHostRingHead v s
  | .errorInjectArm v => Sys2Proof.Machine.execErrorInjectArm v s
  | .errorReport log chan loc uncorr => Sys2Proof.Machine.execErrorReport log chan loc uncorr s
  | .eventHandoff => Sys2Proof.Machine.execEventHandoff s
  | .duskDrain ch => Sys2Proof.Machine.execDuskDrain ch s
  | .traceDrainCopy => Sys2Proof.Machine.execTraceDrainCopy s
  | .traceChunkWrite wave cs => Sys2Proof.Machine.execTraceChunkWrite wave cs s
  | .flitReceive link body crc fec => Sys2Proof.Machine.execFlitReceive link body crc fec s
  | .nakReceive link ackseq => Sys2Proof.Machine.execNakReceive link ackseq s
  | .laneFail link lanes => Sys2Proof.Machine.execLaneFail link lanes s
  | .linkTrainDone link => Sys2Proof.Machine.execLinkTrainDone link s
  | .linkTrainTimeout link => Sys2Proof.Machine.execLinkTrainTimeout link s
  | .linkCmd16 link failed => Sys2Proof.Machine.execLinkCmd16 link failed s
  | .linkCmdLow link failed => Sys2Proof.Machine.execLinkCmdLow link failed s
  | .linkCmdHigh link failed => Sys2Proof.Machine.execLinkCmdHigh link failed s
  | .linkKeyAgree link => Sys2Proof.Machine.execLinkKeyAgree link s
  | .linkRekey link => Sys2Proof.Machine.execLinkRekey link s
  | .fabricRequestArrival => Sys2Proof.Machine.execFabricRequestArrival s
  | .fabricReplyArrival => Sys2Proof.Machine.execFabricReplyArrival s
  | .busyResend txn => Sys2Proof.Machine.execBusyResend txn s
  | .e2eTimerExpiry txn => Sys2Proof.Machine.execE2eTimerExpiry txn s
  | .filterKeyExpire => Sys2Proof.Machine.execFilterKeyExpire s
  | .planeMapWrite v => Sys2Proof.Machine.execPlaneMapWrite v s
  | .mapFenceDone => Sys2Proof.Machine.execMapFenceDone s
  | .planeDead plane => Sys2Proof.Machine.execPlaneDead plane s
  | .ptpMessage src ahead ps => Sys2Proof.Machine.execPtpMessage src ahead ps s
  | .hostBar2PaRequest port posted addr n data => Sys2Proof.Machine.execHostBar2PaRequest port posted addr n data s
  | .hostBar2PasidRequest port pasid posted va n data => Sys2Proof.Machine.execHostBar2PasidRequest port pasid posted va n data s
  | .hostAtomicop port pasid addr op n a b => Sys2Proof.Machine.execHostAtomicop port pasid addr op n a b s
  | .hostEarlyAccess port kind => Sys2Proof.Machine.execHostEarlyAccess port kind s
  | .attestationRequest nonce ekey port tenant => Sys2Proof.Machine.execAttestationRequest nonce ekey port tenant s
  | .ideTlpFail port code => Sys2Proof.Machine.execIdeTlpFail port code s
  | .ideKmMessage port m => Sys2Proof.Machine.execIdeKmMessage port m s
  | .powerOn ok => Sys2Proof.Machine.execPowerOn ok s
  | .warmReset ok => Sys2Proof.Machine.execWarmReset ok s
  | .firmwareReload ok => Sys2Proof.Machine.execFirmwareReload ok s
  | .flrH0 => Sys2Proof.Machine.execFlrH0 s
  | .flrH1 => Sys2Proof.Machine.execFlrH1 s
  | .thermalTrip temp => Sys2Proof.Machine.execThermalTrip temp s
  | .junctionThrottle die temp level => Sys2Proof.Machine.execJunctionThrottle die temp level s
  | .powerCapAdjust watts level => Sys2Proof.Machine.execPowerCapAdjust watts level s
  | .devnoWrite v => Sys2Proof.Machine.execDevnoWrite v s
  | .recoveryGo v => Sys2Proof.Machine.execRecoveryGo v s
  | .registerWrite port off size v => Sys2Proof.Machine.execRegisterWrite port off size v s
  | .powerRemoval => Sys2Proof.Machine.execPowerRemoval s
  | .throttleEnd die temp => Sys2Proof.Machine.execThrottleEnd die temp s
  | .coreCycles ticks => Sys2Proof.Machine.execCoreCycles ticks s

end Sys2Proof.Machine
end

