-- ==== Sys2Proof/Machine/Step.lean ====
section
/-!
DEFINITION. One step of the module: the next turn of the tape, or, with an empty tape, a free choice among what may come next
(notes/assumptions/1.md, 15.md).
-/
namespace Sys2Proof.Machine

/-- What goes out after each step: replies, messages, packets (M); and the counters of the model. `moved`: something has changed, so streams that hold try
their words again. -/
def State.settle (s : State) (moved : Bool) : State :=
  let s := (((if s.remoteReplies.isEmpty then s else s.flushReplies).flushColl s.collOut.length).waitsSettle.fabSettle).deferSettle.abortSettle
  { s with free := s.free + 1, stamp := if moved then s.stamp + 1 else s.stamp }

/-- Settle after a step. -/
def settled (moved : State → Bool) (o : Out) : Out :=
  match o with
  | .next s => .next (s.settle (moved s))
  | .fault f => .fault f
  | .refused r => .refused r

/-- A step that is not a word. -/
def State.own (s : State) (f : State → Out) : Out := settled (fun _ => true) (f s)

/-- A stream issues a word. -/
def State.issueStep (s : State) (k : Nat) (cs : Bool) : Out :=
  settled (fun t => !t.holds s.stamp k cs) (match s.issueAt k cs with
    | .next t => .next (if t.holds s.stamp k cs then t else t.countIssue k cs (s.nextWord k cs))
    | o => o)

/-- A step of the table that has no word happens. (DESIGN CHOICE, safe: notes/assumptions/1.md) -/
def State.eventStep (s : State) (i : Instr) : Out := if i.hasWord then s.own .next else s.own (exec i)

/-- A turn of the tape. One that cannot happen changes nothing. (DESIGN CHOICE, safe: notes/assumptions/1.md) -/
def State.turn (s : State) (t : Turn) : Out :=
  match t with
  | .event i => s.eventStep i
  | .issue k cs => if (s.portStreams (coreOf k) (portOf k)).contains (k, cs) then s.issueStep k cs else s.own .next
  | .evict c line => s.own fun s => .next (s.nearDrop c line)
  | .upset mark u => s.own fun s => .next { s with marks := tabPut s.marks mark (s.mark (if isHbmKey mark then 6 else 0) u false) }
  | .outside key b => s.own fun s => .next (if isPostedKey key then { s with mem := memPut s.mem key b } else s)
  | .read off size => s.own fun s => .next (s.regReads off size)
  | .avenue base a => s.own fun s =>
      .next { s with fab := { s.fab with window := (match a with | some x => tabPut s.fab.window base x | none => tabErase s.fab.window base) } }

/-- Everything that may come next with an empty tape. (DESIGN CHOICE, safe: notes/assumptions/5.md) (DESIGN CHOICE, unsafe: notes/assumptions/15.md) -/
def State.choices (s : State) : List (State → Out) :=
  s.ownSteps.map (fun f s => s.own f) ++ s.issueStreams.map fun x s => s.issueStep x.1 x.2

/-- With an empty tape: a stream's word, where that alone may come next; else a free choice among what may, time's passing with it; time passes where it is
nothing. (DESIGN CHOICE, safe: notes/assumptions/5.md) (DESIGN CHOICE, unsafe: notes/assumptions/15.md) -/
def State.chosen (s : State) : Out :=
  match s.choices with
  | [] => s.own (execCoreCycles 1)
  | f :: fs => if fs.isEmpty && s.ownSteps.isEmpty && s.inCycle.isEmpty then f s else ((f :: fs).getD (Config.freeNat s.free 9000 % (fs.length + 2)) fun s => s.own (execCoreCycles 1)) s

/-- One step. A module without power does nothing until POWER_ON (R447). (DESIGN CHOICE, safe: notes/assumptions/50.md) -/
def step (s : State) : Out :=
  match s.tape with
  | [] => if s.powered then s.chosen else .fault .noPower
  | t :: rest =>
    let s := { s with tape := rest }
    if s.powered then s.turn t
    else match t with
      | .event (.powerOn _) => s.turn t
      | _ => .fault .noPower

/-! ## A word where the next step fetches (DESIGN CHOICE, unsafe: notes/assumptions/4.md) -/

/-- The address of the code page that `withFetchWord` uses, its leaf: an executable RC page at PA 0x1_0000. (DESIGN CHOICE, unsafe: notes/assumptions/4.md) -/
def fetchPc : Nat := 0x10000
def fetchLeaf : DWord := 0x1000000B#64

/-- A wave of one stream with eight register blocks, at a word or, for a header, at a clause boundary. (DESIGN CHOICE, unsafe: notes/assumptions/4.md) -/
def fetchWave (w : Word) : Wave :=
  let all : Word := 0xFFFFFFFF#32
  let pc := BitVec.ofNat 64 fetchPc
  { Wave.empty with
    a := { Stream.empty with tab := SplitTab.empty.setSlot 0 (some ⟨pc, pc, all, all, [], []⟩),
                             clause := if isHeader w then none else some ⟨pc - 4#64, 0, [w], 15, 15, false⟩, launched := all, exited := false },
    blocks := (List.range 8).map fun i => i, task := 65536, block := 0, codeLo := pc - 4#64, codeHi := pc + 256#64 }

/-- The state with the word of `w` where `step` fetches: the next turn is the A-stream of wave slot 0 of core 0; the word lies in the clause that the stream
is in, and in memory at its PC, and a clause header at the PC of a stream that is at a clause boundary. (DESIGN CHOICE, unsafe: notes/assumptions/4.md) -/
def State.withFetchWord (s : State) (_nbits w : Nat) : State :=
  let x := BitVec.ofNat 32 w
  let e : PvtEntry := { PvtEntry.free with bound := true, tenant := 0, vpn := 1, version := 1, content := (0, 1, 1) }
  let c := s.core 0
  { s with tape := [.issue 0 false], powered := true, keyed := if s.keyed.contains 0 then s.keyed else 0 :: s.keyed,
           waves := tabPut s.waves 0 (fetchWave x),
           cores := tabPut s.cores 0 { c with freeBlocks := c.freeBlocks.filter fun b => decide (8 ≤ b),
                                              tlb := c.tlb.filter (fun t => !(t.covers 0 0 1)) ++ [⟨fetchLeaf, 3, 0, 0, 1, 0⟩] },
           pvt := tabPut s.pvt 1 e, mem := memPuts s.mem fetchPc (natToBytes 4 x.toNat) }

end Sys2Proof.Machine
end

