-- ==== Sys2Proof/Safety.lean ====
section
/-!
DEFINITION. The terms that claims use: a step that neither stops nor is refused, a word that issues, what it then gives, and what an observer of a
wave reads.
-/
namespace Sys2Proof.Machine

/-- The memory is in its canonical form. -/
def State.MemOk (s : State) : Prop := Memory.wf s.mem = true

/-- A step that neither stops nor is refused. -/
def runs (o : Out) : Prop := ∃ t, o = .next t

/-- The byte of memory at a key. -/
def State.byteAt (s : State) (k : Nat) : Byte := memGet s.mem k

/-! ## A word that issues (R18, R29, R38, R39, R76, R196, R232) -/

/-- Has a combiner wave issued its 4,096 instructions (R232)? -/
def Env.batchSpent (e : Env) : Bool :=
  match e.w.batch with
  | some b => decide (b.issued ≥ 4096)
  | none => false

/-- Is a word of this form illegal where it stands: its encoding, or a COMB word outside a combiner wave (R38, R234)? -/
def illegalHere (f : Form) (combiner : Bool) : Bool := f.check.isSome || (f.combOnly && !combiner)

/-- The stream at the cursor with a word of this form that passes every check: it may issue, its batch may go on, the encoding is legal, the stream class
and the register window are right, its operands have landed, and no source that it consumes is poisoned. The sources' latent errors have been found. -/
def State.admitted (s : State) (f : Form) : Option Env :=
  match s.env? with
  | none => none
  | some e =>
    if illegalHere f e.w.batch.isSome || (e.cs && f.aOnly) || !e.inWindow f.ops || e.batchSpent || (f.forbidden && e.w.batch.isSome) || !e.operandsLanded f.ops then none
    else
      let e := e.findVec ((f.ops.filter fun o => o.reads).flatMap e.places) e.exec
      if (e.poisoned ((f.ops.filter fun o => o.reads).flatMap e.places) e.exec).2.isSome then none else some e

/-- `i` issues at `s` with its checks passed; `e` is what it sees. -/
def Issues (i : Instr) (s : State) (e : Env) : Prop := s.admitted i.form = some e

/-- Wherever `i` issues, it completes: the next state is `t e`. -/
def Gives (i : Instr) (t : Env → State) : Prop := ∀ s e, Issues i s e → exec i s = .next (t e)

/-- Wherever `i` issues and `c` holds of what it sees, it completes: the next state is `t e`. -/
def GivesIf (i : Instr) (c : Env → Prop) (t : Env → State) : Prop := ∀ s e, Issues i s e → c e → exec i s = .next (t e)

/-- What SHFL reads: lane L's source by mode and n, if it lies in the wave (R275). -/
def shuffled (e : Env) (a : BitVec 7) (m : ShflMode) (n : Nat → Nat) (l : Nat) : Word :=
  match shflSource m l (n l) with
  | some j => e.readLane a j
  | none => e.v32 a l

/-- What a word sees once it has read lanes of another split: the latent errors of those that are live have been found (R273, R408). -/
def Env.found (e : Env) (a : BitVec 7) (m : Word) : Env :=
  match e.place? a.toNat with
  | some p => e.findVec [p] (m &&& e.w.live)
  | none => e

/-- R273, R275, R280: may the lanes of `m` be read: they have landed, and none that is live is found poisoned? -/
def readable (e : Env) (a : BitVec 7) (m : Word) : Prop :=
  e.landed a m = true ∧ ∀ p, e.place? a.toNat = some p → ((e.found a m).poisoned [p] ((m &&& e.w.live))).2 = none

/-- What SHFL gives, the latent errors of the lanes `lanes` that it reads having been found (R275, R408). -/
def shuffleFrom (e : Env) (d a : BitVec 7) (m : ShflMode) (n : Nat → Nat) (lanes : Word) : Env :=
  let x := e.found a lanes
  x.putV d x.exec (shuffled x a m n)

/-- The values of the active lanes, from lane 0 up. -/
def actives (e : Env) (a : BitVec 7) : List Word := (lanesOf e.exec).map (e.v32 a)

/-- Wherever `i` issues and `c` holds of what it sees, it takes a precise trap of this code and address. -/
def TrapsIf (i : Instr) (c : Env → Prop) (code : Nat) (addr : Env → DWord) : Prop :=
  ∀ s e, Issues i s e → c e → exec i s = e.trap code (addr e)

/-- JOIN finds its token active, with the stacks as they were at the FORK (R264). -/
def joins (e : Env) (t : BitVec 3) : Prop :=
  (e.tab.tok t.toNat).active = true ∧ e.sp.mstk.length = (e.tab.tok t.toNat).mstk.length ∧ e.sp.cstk.length = (e.tab.tok t.toNat).cstk.length

/-- The token with the issuing split's lanes arrived (R264). -/
def joined (e : Env) (t : BitVec 3) : Token :=
  { e.tab.tok t.toNat with arrb := (e.tab.tok t.toNat).arrb ||| e.sp.base, arre := (e.tab.tok t.toNat).arre ||| e.exec,
                           out := (e.tab.tok t.toNat).out ||| e.sp.base, jpc := e.pc }

/-- The active lanes of JTAB with their indices, lowest index first (R266). -/
def jtabLanes (e : Env) (a : BitVec 7) : List (Nat × Nat) :=
  ((lanesOf e.exec).map fun l => (l, (e.v32 a l).toNat)).mergeSort fun x y => decide (x.2 ≤ y.2)

/-- The lanes of JTAB whose index is at the bound or past it (R266). -/
def jtabBeyond (e : Env) (d a : BitVec 7) : List (Nat × Nat) :=
  ((lanesOf e.exec).map fun l => (l, (e.v32 a l).toNat)).filter fun x => decide ((e.s32 d).toNat ≤ x.2)

/-- The lanes of JTAB whose entry lies outside the code object (R266). -/
def jtabOutside (e : Env) (a b : BitVec 7) : List (Nat × Nat) :=
  ((lanesOf e.exec).map fun l => (l, (e.v32 a l).toNat)).filter fun x =>
    decide ((e.s64 b + BitVec.ofNat 64 (4 * x.2)).toNat < e.w.codeLo.toNat) ||
    decide ((e.s64 b + BitVec.ofNat 64 (4 * x.2)).toNat + 4 > e.w.codeHi.toNat)

/-- The split table after a JTAB with its first group at `v` and each other group placed, with the packet of each start (R266, R268, R390). -/
def jtabParts (e : Env) (t : BitVec 3) (v : DWord) (m : Word) (rest : List (DWord × Word)) : SplitTab × List (List Byte) :=
  let pkt (g : DWord × Word) (dest : Nat) : List Byte := pktHead 4 e.cl.slot 1 :: (bytes4 g.2 ++ bytes8 g.1 ++ [BitVec.ofNat 8 dest])
  let tab := if rest.isEmpty then e.tab else e.tab.widen t.toNat e.sp
  let own := e.sp.part v e.pc (e.sp.base &&& ~~~(rest.foldl (fun x g => x ||| g.2) 0#32)) m
  rest.foldl (fun (x : SplitTab × List (List Byte)) g =>
    let q := x.1.place (e.sp.part g.1 e.pc g.2 g.2)
    (q.1, x.2 ++ [pkt g q.2])) (tab.setSlot e.cl.slot (some own), [pkt (v, m) 0x20])

/-- JTAB's checks: an aligned table, indices below the bound, entries inside the code object (R266). -/
def jtabInside (e : Env) (d a b : BitVec 7) : Prop :=
  (e.s64 b).toNat % 4 = 0 ∧ ∀ l ∈ lanesOf e.exec, (e.v32 a l).toNat < (e.s32 d).toNat ∧
    e.w.codeLo.toNat ≤ (e.s64 b + BitVec.ofNat 64 (4 * (e.v32 a l).toNat)).toNat ∧
    (e.s64 b + BitVec.ofNat 64 (4 * (e.v32 a l).toNat)).toNat + 4 ≤ e.w.codeHi.toNat

/-- The word ends the clause and the split goes on at `pc`; the packet of the transfer comes before a handler that waits for the word starts (R391, R414). -/
def Env.jumped (e : Env) (pc : DWord) (pkt : List Byte) : State := e.leaveWith pc true fun s => s.tracePkt e.key e.cs pkt

/-- The word is done, with its packet before a handler that waits for it starts (R391, R414). -/
def Env.passed (e : Env) (pkt : List Byte) : State := e.leaveWith (e.pc + 4#64) false fun s => s.tracePkt e.key e.cs pkt

/-- The wave as MTSR writes it: an A-stream's write lets the C-stream issue nothing more in its cycle (R421). -/
def Env.lastWrite (e : Env) : Wave := if e.cs then e.w else { e.w with pause := some (true, e.s.cycle) }

/-- Does an armed injection name the entry that QPUSH writes (R413)? -/
def Env.pushHit (e : Env) : Bool := e.s.injectHit 4 e.core (queueLoc (if e.cs then 1 else 0) (slotOf e.key) e.outgoing.length)

/-- The log entry of an error found at the head of the stream's incoming queue (R408). -/
def Env.headReport (e : Env) (uncorr : Bool) : Env :=
  { e with s := e.s.report 4 e.core (queueLoc (if e.cs then 0 else 1) (slotOf e.key) 0) uncorr true false e.w.tenant e.w.causal }

/-! ## Gates of memory-class words (R185, R192, R207, R300, R474) -/

/-- What a memory-class word sees once no fence, no full operand log, and no held access that it must wait for, stops it (R185, R207, R341). -/
def Env.gated (e : Env) (c : MemClass) (ordered : Bool) : Option Env :=
  let s := e.s.fenceSettle e.key
  if s.fenceHolds e.key c || s.logFull e.core || (ordered && s.holdsAccess e.key) then none else some { e with s := s }

/-- The lanes of an access that pass the checks of R192 with no fault: aligned, legal addresses, which resolve, of kinds that go together, on pages that
hold no access of the wave; and what the word then sees. -/
def Env.lanesAt (e : Env) (d : Dir) (scope size : Nat) (release : Bool) (ls : List (Nat × Nat)) : Option (Env × List LaneOk) :=
  let asker := e.s.waveAsker e.key e.cs e.w
  let r := e.s.resolveLanes asker d scope ls
  let legal := ls.all fun x => x.2 % size == 0 && !vaBad x.2 && !(isAvenueVa x.2 && decide (scope < 4))
  let found := r.1.all fun x => match x.2.2 with | .ok _ _ _ => true | _ => false
  let kinds := r.1.filterMap fun x => match x.2.2 with | .ok _ k _ => some k | _ => none
  let kindsOk := (!release || kinds.all fun k => k != 2) && (!kinds.contains 1 || (kinds.all fun k => k == 1) && !e.s.holdsAny e.key)
  let apart := r.1.all fun x => (e.s.heldPages e.key (x.2.1 / 65536)).isEmpty
  let oks : List LaneOk := r.1.filterMap fun x => match x.2.2 with
    | .ok p k ds => some { lane := x.1, va := x.2.1, place := p, kind := k, disc := ds, joins := [] }
    | _ => none
  if legal && found && kindsOk && apart then
    some ({ e with s := { r.2 with walkRes := r.2.walkRes.filter fun x => x.asker != asker.id,
                                   lch := { r.2.lch with shadowWaits := r.2.lch.shadowWaits.filter fun x => x.1 != e.w.task } } },
      oks)
  else none

/-- The bytes of a record that a word reads at issue, where they can be read at once (R474). -/
def Env.recordAt (e : Env) (d : Dir) (va n : Nat) (look : Bool := false) : Option (Env × List Byte) :=
  match e.s.vaRead { e.s.waveAsker e.key e.cs e.w with look := look } d va n with
  | (.bytes b, s) => some ({ e with s := s }, b)
  | _ => none

/-- The memory key of the word that a synchronisation instruction names, where it passes the checks of R300 at once. -/
def Env.wordAt (e : Env) (a : DWord) : Option (Env × Nat) :=
  if a.toNat % 64 ≠ 0 || vaBad a.toNat || isAvenueVa a.toNat then none
  else match e.s.resolve (e.s.waveAsker e.key e.cs e.w) .store 99 a.toNat with
    | (.ok p _ _, s) => (homeable p).map fun key => ({ e with s := s }, key)
    | _ => none

/-- Accesses of one instruction put in flight: one for each lane that passed (R170). -/
def Env.started (e : Env) (one : Bool) (d : Dir) (scope : Nat) (oks : List LaneOk) (kind : Nat → AccessKind) (overlay : Nat → List (Nat × Byte)) : Env :=
  { e with s := e.s.newId.2 }.start one d scope e.s.newId.1 oks [] kind overlay

/-- Wherever `i` issues, no fence or held access stops it and `c` holds of what it then sees, it completes: the next state is `t` of that. -/
def GatedGives (i : Instr) (m : MemClass) (ordered : Bool) (c : Env → Prop) (t : Env → State) : Prop :=
  ∀ s e e', Issues i s e → e.gated m ordered = some e' → c e' → exec i s = .next (t e')

/-- The bytes of its own commit buffer that a load of a combiner wave sees, by lane (R233). -/
def buffered (e : Env) (ls : List (Nat × Nat)) (size lane : Nat) : List (Nat × Byte) :=
  match e.w.batch with
  | some b => b.overlay (((ls.find? fun x => x.1 == lane).map Prod.snd).getD 0) size
  | none => []

/-- A vector load of `size` bytes per lane into `ds`, counted on k (R193, R195). -/
def LoadsLanes (i : Instr) (size : Nat) (signed : Bool) (ds : Env → List LateDest) (a : BitVec 7) (k : BitVec 4) (o : BitVec 7) : Prop :=
  GivesIf i (fun e => e.exec = 0#32) (fun e => e.done) ∧
  ∀ s e e' e'' oks, Issues i s e → e.exec ≠ 0#32 → e.gated .load false = some e' → (e'.w.cnt.getD k.toNat []).length < 63 →
    e'.lanesAt .load 99 size false (e.laneAddrs a o size) = some (e'', oks) →
    exec i s = .next ({ (e''.started false .load 0 oks (fun _ => .load size signed (ds e)) (buffered e'' (e.laneAddrs a o size) size)) with
      w := e''.w.count1 k.toNat e''.s.nextId }.done)

/-- A scalar load of `size` bytes into `ds` (R194). -/
def LoadsScalar (i : Instr) (size : Nat) (ds : List LateDest) (a : BitVec 7) (k : BitVec 4) (o : BitVec 7) : Prop :=
  ∀ s e e' e'' oks, Issues i s e → e.gated .load false = some e' → (e'.w.cnt.getD k.toNat []).length < 63 →
    e'.lanesAt .load 99 size false [(0, (memAddr (e.s64 a) o size).toNat)] = some (e'', oks) →
    exec i s = .next ({ (e''.started true .load 0 oks (fun _ => .load size false ds) (buffered e'' [(0, (memAddr (e.s64 a) o size).toNat)] size)) with
      w := e''.w.count1 k.toNat e''.s.nextId }.done)

/-- The bytes of the registers from d up in a lane. -/
def storeBytes (e : Env) (d : BitVec 7) (size l : Nat) : List Byte :=
  ((List.range ((size + 3) / 4)).flatMap fun i => natToBytes 4 (e.v32i d i l).toNat).take size

/-- A vector store of `size` bytes per lane (R198). -/
def StoresLanes (i : Instr) (size : Nat) (d a : BitVec 7) (k : BitVec 4) (o : BitVec 7) : Prop :=
  GivesIf i (fun e => e.exec = 0#32) (fun e => e.done) ∧
  ∀ s e e' e'' oks, Issues i s e → e.exec ≠ 0#32 → e.w.batch = none → e.gated .held (k.getLsbD 3) = some e' →
    e'.lanesAt .store (k.toNat % 8) size (k.getLsbD 3) (e.laneAddrs a o size) = some (e'', oks) →
    exec i s = .next (e''.started false .store (k.toNat % 8) oks (fun l => .store (storeBytes e d size l) (k.getLsbD 3)) fun _ => []).done

/-- A store of a combiner wave goes into its commit buffer, inside the object's state and at most 128 entries (R232, R233). -/
def StoresBatch (i : Instr) (lanewise : Bool) (size : Nat) (ls : Env → List (Nat × Nat)) (data : Env → Nat → List Byte) : Prop :=
  ∀ s e b, Issues i s e → (lanewise = true → e.exec ≠ 0#32) → e.w.batch = some b →
    (∀ x ∈ ls e, x.2 % size = 0 ∧ b.stateVa.toNat ≤ x.2 ∧ x.2 + size ≤ b.stateVa.toNat + b.ssize) → (b.buffer (ls e) (data e)).entries ≤ 128 →
    exec i s = .next { e with w := { e.w with batch := some (b.buffer (ls e) (data e)) } }.done

/-- A scalar store (R198). -/
def StoresScalar (i : Instr) (size : Nat) (data : Env → List Byte) (a : BitVec 7) (k : BitVec 4) (o : BitVec 7) : Prop :=
  ∀ s e e' e'' oks, Issues i s e → e.w.batch = none → e.gated .held (k.getLsbD 3) = some e' →
    e'.lanesAt .store (k.toNat % 8) size (k.getLsbD 3) [(0, (memAddr (e.s64 a) o size).toNat)] = some (e'', oks) →
    exec i s = .next (e''.started true .store (k.toNat % 8) oks (fun _ => .store (data e) (k.getLsbD 3)) fun _ => []).done

/-- ATOM (R199, R201). -/
def Atomic (i : Instr) (minor size scope : Nat) (d a b : BitVec 7) : Prop :=
  GivesIf i (fun e => e.exec = 0#32) (fun e => e.done) ∧
  ∀ s e e' e'' oks, Issues i s e → e.exec ≠ 0#32 → e.gated .held false = some e' → (e'.w.cnt.getD 15 []).length < 63 →
    e'.lanesAt .atomic scope size false (e'.laneAddrs a 0#7 size) = some (e'', oks) →
    exec i s = .next ({ (e''.started false .atomic scope oks (fun l => .atomic minor (e''.atomOps minor b l).1 (e''.atomOps minor b l).2
        ((List.range (size / 4)).filterMap fun j => (e.place? (d.toNat + j)).map LateDest.vec)) fun _ => []) with
      w := e''.w.count1 15 e''.s.nextId }.done)

/-- RED outside a deterministic task (R202). -/
def Reduces (i : Instr) (minor size scope : Nat) (a b : BitVec 7) : Prop :=
  GivesIf i (fun e => e.exec = 0#32) (fun e => e.done) ∧
  ∀ s e e' e'' oks, Issues i s e → e.exec ≠ 0#32 → e.gated .held false = some e' → e'.det = false →
    e'.lanesAt .atomic scope size false (e'.laneAddrs a 0#7 size) = some (e'', oks) →
    exec i s = .next (e''.started false .atomic scope oks (fun l => .atomic minor (e''.atomOps minor b l).1 (e''.atomOps minor b l).2 []) fun _ => []).done

/-- A word that sends an operation to the home unit of the record at s[a] and waits for its reply (R300, R478). -/
def SendsHome (i : Instr) (cls minor : Nat) (ordered : Bool) (a : BitVec 7) (arg : Env → Word) (dest : BitVec 7) : Prop :=
  (∀ s e e' e'' key, Issues i s e → e.gated (if cls = 2 then .load else .held) ordered = some e' → e'.wordAt (e.s64 a) = some (e'', key) →
    exec i s = .next ({ e''.readsDone with s := { e''.readsDone.s with
      homeOps := e''.readsDone.s.homeOps ++ [(⟨e''.s.nextId, e''.key, cls, minor, key, e.s64 a, arg e, dest, e''.w.causal, e''.exec, none, none⟩ : HomeOp)],
      nextId := e''.s.nextId + 1 } }.await (.reply e''.s.nextId))) ∧
  ∀ s e e', Issues i s e → e.gated (if cls = 2 then .load else .held) ordered = some e' → (e.s64 a).toNat % 64 ≠ 0 →
    exec i s = e'.trap cMisaligned (e.s64 a)

/-- A command in its engine's queue, the A-stream waiting for its acceptance (R212). -/
def commandSent (kind : Nat) (engine : Env → Nat) (d a b : BitVec 7) (e : Env) : State :=
  { e with s := e.s.newId.2.setCmd e.s.nextId (e.newCmd kind (engine e) d (e.s64 a) (e.s64 b)) }.await (.accept e.s.nextId)

/-- FALLOC's request: a size of 1 to 2^48 − 2^16 bytes, and zeros where the field must be zero (R219). -/
def avSizeOk (x : DWord) : Bool :=
  !(x.toNat % 2 ^ 48 == 0) && decide (x.toNat % 2 ^ 48 ≤ 2 ^ 48 - 2 ^ 16) && x.toNat / 2 ^ 48 % 256 == 0 && x.toNat / 2 ^ 62 == 0

/-- A request to the Avenue has been sent, and the A-stream waits for the reply (R218); none while no fabric tag is free. -/
def avenueAsked (e : Env) (x : DWord) (what : Nat) (dest pred : BitVec 7) (trapq : Bool) : Option State :=
  (e.s.newTxn false (planeOfTenant e.w.tenant) (parityOf 10 e.w.tenant) (avPacket e.core e.w.tenant e.w.causal x what)
    (.avctl e.key what dest.toNat pred.toNat trapq)).map fun s => { e with s := s }.await (.reply e.s.nextId)

/-- The checks of R226 on the object's descriptor. -/
def calloAllowed (e : Env) (c : CombDesc) : Bool :=
  c.ok && c.tenant == e.w.tenant && c.admits e.s.device e.core && !isAvenueVa c.state && (!c.det || (e.det && c.homeDev == e.s.device))

/-- The requests of a CALLO on their way, counted on a14 (R225, R227). -/
def calloSent (e : Env) (c : CombDesc) (h : DWord) (d b : BitVec 7) : Env :=
  let e := e.readsDone
  let op := e.s.newId
  let x : CallSend := { op := op.1, dev := c.homeDev, home := c.homeCore, scope := c.scope, wave := e.key, after := e.s.releaseSet e.key c.scope,
                        arrived := false, reqs := e.callReqs op.1 h b c.det }
  let p : CallPend := { op := op.1, handle := h, dev := c.homeDev, home := c.homeCore, dest := (e.place? d.toNat).getD 0,
                        status := (e.place? (d.toNat + 1)).getD 0, lanes := e.exec, pc := e.pc, slot := e.cl.slot, det := c.det }
  { e with s := { op.2 with callSends := op.2.callSends ++ [x] }, w := { e.w.count1 14 op.1 with callo := (e.w.count1 14 op.1).callo ++ [p] } }

/-- CREPLY in the lanes of `p`: the batch's replies there are those lanes of v[b] (R235). -/
def replied (e : Env) (x : Batch) (p : Word) (b : BitVec 7) : Env :=
  { e with w := { e.w with batch := some { x with replies := x.replies.zipIdx.map fun (r : Word × Nat) => (if laneIn p r.2 then e.v32 b r.2 else r.1) } } }

/-- The latent errors of the sectors that a commit writes in part have been found (R158, R408). -/
def commitFound (e : Env) (s : State) (ks : List (Nat × Byte)) : State :=
  ks.foldl (fun (s : State) (k : Nat × Byte) => s.findPart k.1 1 e.w.tenant e.w.causal) s

/-- A committed batch (R236): its bytes written, the descriptor's busy byte cleared and its batch count raised, every caller answered. -/
def batchCommitted (e : Env) (s : State) (b : Batch) (ks : List (Nat × Byte)) : State :=
  let s := ks.foldl (fun (s : State) (k : Nat × Byte) =>
    (((s.storeInWindows k.1 1).plainWrite k.1 [k.2]).writeServed k.1 (srcCore e.core)).nearStore e.core (.mem k.1) [k.2]) s
  let s := s.descEnd e.core b e.w.causal none
  let s := b.reqs.zipIdx.foldl (fun (s : State) (r : CallReq × Nat) => s.sendReply r.1 b.scope (b.replies.getD r.2 0#32) (callStatus r.2 0 0)) s
  (s.freeBatch e.key b.descKey).flushReplies

/-! ## Words of the matrix engine (R115 to R121, R126) -/

/-- May the wave's block use the engine now: it holds it, or nobody does and it is the block's turn (R115)? -/
def Env.mayClaim (e : Env) : Bool :=
  match (e.s.engine e.core).holder with
  | some b => b == e.w.block
  | none => (e.s.engine e.core).claim.headD e.w.block == e.w.block

/-- A 64-byte record of the Plaza, as the engine sees it once the stores of the FENCE.OPNDs before it have been performed, that passes its checks
(R121, R123, R124, R141). -/
def Env.mxRecordAt (e : Env) (va : Nat) (ok : List Byte → Bool) (ranges : List Byte → List (Nat × Nat)) : Option (List Byte) :=
  let key := plazaOf e.w.redirect (va - plazaWin)
  let b := e.s.plazaSeen e.opndSeen e.core key 64 50000
  if isPlazaVa va && va % 64 == 0 && plazaUsed va 64 && e.opndAfter.all (fun i => !e.s.unperformed i) && ((e.mxFound va).s.readError key 64).isNone && ok b &&
    (ranges b).all (fun r => plazaUsed r.1 r.2) &&
    ((va, 64) :: ranges b).all (fun r => (e.mxFound va).s.plazaOwned e.w.redirect e.w.tenant r.1 r.2)
  then some b else none

/-- The entry that a word puts last into the engine queue (R118). -/
def Env.engineEntry (e : Env) (op : EngineOp) : EngineEntry :=
  { id := e.s.nextId, wave := e.key, block := e.w.block, task := e.w.task, tenant := e.w.tenant, causal := e.w.causal, cs := e.cs,
    tracks := if e.cl.sety < 12 ∨ e.cl.sety = 15 then [⟨e.key, e.cs, e.cl.sety⟩] else [], pc := e.pc, slot := e.cl.slot, lanes := e.exec, op := op,
    started := false, phase := 0, redirect := e.w.redirect, places := [], after := e.opndAfter, bad := false, held := false,
    fenced := e.key, upto := e.opndUpto, seen := e.opndSeen }

/-- The block holds the engine, whose queue has the entry, and whose windows have what the entry reads, writes and spoils (R115, R118, R126). -/
def Env.entered (e : Env) (op : EngineOp) (reads writes : List (Nat × Nat)) (elems : List Nat) (book : Option Nat)
    (vreads vwrites : List (Nat × Nat) := []) : Env :=
  let g := e.s.engine e.core
  let x := e.engineEntry op
  let g := { g with holder := some e.w.block, claim := g.claim.filter (· ≠ e.w.block), queue := g.queue ++ [x],
                    windows := (g.windows.filter fun y => e.s.newId.2.windowOpen g y) ++
                      [⟨x.id, x.tracks, reads, writes, elems, book, false, x.tenant, (e.s.waveAsker e.key e.cs e.w).tag, x.redirect, vreads, vwrites⟩] }
  let s := (e.s.newId.2.setEngine e.core g).injectAt 4 e.core (queueLoc 4 0 (g.queue.length - 1)) (engineMark x.id)
  let e := { e with s := s, w := if e.cl.off then e.w.flagUp e.cl.sety 1 else e.w }
  if e.cl.sety = 15 then e.setSt fun st => { st with llHold := st.llHold + 1 } else e

/-- The claim is the block's, and the queue has room. -/
def Env.engineFree (e : Env) : Prop := e.mayClaim = true ∧ (e.s.engine e.core).queue.length < 8

/-- The loop of MLOOP: all K-steps, or those that s[B] names (R133). -/
def mloopOf (e : Env) (fmt minor : Nat) (d b : BitVec 7) (r : List Byte) : LoopRec :=
  let l : LoopRec := ⟨fmt, minor, e.s32 d, r, 0, 0⟩
  if b.toNat = 127 then { l with stop := l.steps }
  else { l with next := (e.s32 b).toNat / 65536, stop := (e.s32 b).toNat / 65536 + (e.s32 b).toNat % 65536 }

/-- MLOOP of a format: with the claim, a legal descriptor, a gang of four where it is a quad loop and a legal record, the loop enters the queue (R133). -/
def Loops (i : Instr) (fmt minor : Nat) (d a b : BitVec 7) : Prop :=
  (∀ s e r, Issues i s e → e.mayClaim = true → (e.mxFound (e.s64 a).toNat).engineFree → descOk (e.s32 d) (some (fmt == 4)) = true → (mxQuad minor = true → e.s.gangOfFour e.w.block = true) →
    e.mxRecordAt (e.s64 a).toNat (fun r => (mloopOf e fmt minor d b r).fieldsOk && decide ((mloopOf e fmt minor d b r).stop ≤ (mloopOf e fmt minor d b r).steps))
      (fun r => (mloopOf e fmt minor d b r).ranges e.core) = some r →
    exec i s = .next ((e.mxFound (e.s64 a).toNat).entered (.loop (mloopOf e fmt minor d b r) none)
      ((e.mxFound (e.s64 a).toNat).s.loopReads e.core e.w.redirect (e.mxFound (e.s64 a).toNat).opndSeen (mloopOf e fmt minor d b r)) [] (if (mloopOf e fmt minor d b r).next < (mloopOf e fmt minor d b r).stop then tileElems (e.s32 d) else []) none).done) ∧
  TrapsIf i (fun e => e.mayClaim = true ∧ descOk (e.s32 d) (some (fmt == 4)) = false) cMxAccRange (fun _ => 0#64)

/-- MDRAIN (R142). -/
def Drains (i : Instr) (kind : Nat) (d a : BitVec 7) (clr : Bool) : Prop :=
  ∀ s e e' r, Issues i s e → e.gated .load false = some e' → e'.mayClaim = true → (e'.mxFound (e'.s64 a).toNat).engineFree →
    descOk (e'.s32 d) (if kind = 1 ∨ kind = 2 then some false else none) = true →
    e'.mxRecordAt (e'.s64 a).toNat (drainOk kind) (fun _ => []) = some r →
    exec i s = .next ((e'.mxFound (e'.s64 a).toNat).entered (.drain kind clr (e'.s32 d) r) [] [] (if clr then tileElems (e'.s32 d) else []) none []
      ((List.range (descM (e'.s32 d))).map fun m => (drainDest r + m * drainLdd r, drainSize kind * descN (e'.s32 d)))).done


/-! ## Steps without a word -/

/-- Wherever `c` holds, the step `i` completes: the next state is `t`. -/
def Does (i : Instr) (c : State → Prop) (t : State → State) : Prop := ∀ s, c s → exec i s = .next (t s)

/-- No access of this list has still to be performed. -/
def State.settled (s : State) (ids : List Nat) : Prop := ∀ i ∈ ids, s.unperformed i = false

/-- The oldest security command, as read, is a legal command of operation `op` (R363). -/
def State.keyCommand (s : State) (op : Nat) (c : SecCmd) (t : State) : Prop :=
  s.secHead (fun _ => true) = some (c, t) ∧ c.op = op ∧ c.ok = true

/-- A page of a snapshot is to be staged: a write waits for it and its turn to drain has not come (R439). -/
def State.stages (s : State) (i : Nat) (e : SnapEnt) (t : State) : Prop :=
  s.snap.state = 1 ∧ s.snap.mode = false ∧ s.snap.cur < i ∧ s.snapEnt i = some (e, t) ∧ e.st = 0 ∧ t.snapWanted e = true ∧
  t.snapLate e.tenant e.src = false

/-- The page of a snapshot whose turn it is to drain has not drained yet (R439). -/
def State.drains (s : State) (e : SnapEnt) (t : State) : Prop :=
  s.snap.state = 1 ∧ s.snapEnt s.snap.cur = some (e, t) ∧ e.st < 2 ∧ t.snapLate e.tenant e.src = false

/-- Where a drain reads from: the stage of a staged page, else its source (R439). -/
def SnapEnt.from_ (e : SnapEnt) : Nat := if e.st = 1 then e.stage else e.src

/-- The 192 bytes `b` of a security command's blob are at a multiple of 64 and can be read; their correctable errors have been found (R353, R408). -/
def State.blobRead (s : State) (c : SecCmd) (b : List Byte) (u : State) : Prop :=
  c.blob % 64 = 0 ∧ ∃ t, (List.range 3).foldl (fun (o : Option State) i => o.bind fun s => s.sysCheck (c.blob + 64 * i)) (some s) = some t ∧
    t.readError c.blob 192 = none ∧ memGets t.mem c.blob 192 = b ∧ t.findErrors c.blob 192 0 0#64 = u

/-- A command's promise is written and its event emitted (R465). -/
def State.promised (s : State) (c : Cmd) (key t : Nat) : State :=
  ((s.put (key + 24) 8 t).writeServed key c.source).emit c.source 0x021 c.tenant c.causal (BitVec.ofNat 64 t)

/-- A piece of a command may go: the command runs, the piece is left, nothing it must follow or that it waits for is open (R186, R215, R336). -/
def State.lineRuns (s : State) (cmd piece : Nat) (c : Cmd) : Prop :=
  s.cmd? cmd = some c ∧ c.fin = none ∧ c.owed.contains piece = false ∧ c.st = .running ∧ c.pieces.contains piece = true ∧ s.settled c.after ∧ s.heldFor (.line cmd piece) = false ∧
  (s.fab.txns.any fun t => t.what == .line cmd piece) = false ∧ s.tteFull (quadOf c.core) = false ∧
  ∀ a, s.pieceLine cmd piece c = some a → s.lineBehind cmd c a = false

/-- A block whose waves have ended has given back its slots and registers, and the entries of it that can no longer pair are dropped (R115, R309). -/
def State.slotsFree (s : State) (k : Nat) (b : Block) : State := ((s.dropUnpairable b k).releaseSlots k b).dropUnpairable b k

/-- A spawned block of a task has left: its task counts one fewer, its join falls (R320, R321). -/
def State.blockGone (s : State) (b : Block) (t : Task) (causal : DWord) : State :=
  ((s.setTask b.task { t with spawned := t.spawned - 1 }).launcherJoin b.entry.join t.tenant b.task causal).endTask b.task

/-- A task's work is over: its blocks have left, it has no commands, and its last flush is applied (R322). -/
def State.taskOver (s : State) (k : Nat) (t : Task) : Prop :=
  s.task? k = some t ∧ t.retired = false ∧ t.dead = false ∧ tabGet? s.aborts k = none ∧ t.nblocks ≤ t.doneBlocks.length ∧ t.spawned = 0 ∧
  (s.lch.blocks.any fun b => b.2.task == k) = false ∧ (s.cmds.any fun c => c.2.task == k) = false ∧
  (s.lch.flushArea.filter fun x => x.2.task == k) = [] ∧ (s.flight.any fun a => a.wave == detWave k) = false

/-- Everything that a task holds in queues, buffers, shadows and saved blocks is gone (R428). -/
def State.taskDropped (s : State) (k : Nat) : State :=
  { s with cores := s.cores.map fun (c : Nat × CoreSt) => (c.1, { c.2 with det := c.2.det.filter fun d => d.task != k }),
           aborts := tabErase s.aborts k,
           lch := { s.lch with flushArea := s.lch.flushArea.filter fun x => x.2.task != k,
                               shadows := s.lch.shadows.filter fun x => x.task != k,
                               shadowWaits := s.lch.shadowWaits.filter fun x => x.1 != k,
                               rng := s.lch.rng.filter fun r => r.task != k,
                               saved := s.lch.saved.filter fun x => x.2.block.task != k,
                               ready := s.lch.ready.filter fun r => r.entry.task != k,
                               waiting := s.lch.waiting.filter fun r => r.entry.task != k } }


/-- What a turn adds to a word that has issued and does not hold: a word of a vector lane is counted (R376, kind 0x102). -/
def issued (stamp k : Nat) (cs : Bool) (x : Word) (o : Out) : Out :=
  match o with
  | .next t => .next (if t.holds stamp k cs then t else t.countIssue k cs (some x))
  | o => o

/-! ## Encodings, whole words, frames -/

/-- The words that compute in registers: the scalar words of majors 0x10 to 0x1D and the vector, predicate, floating-point and cross-lane words of majors
0x20 to 0x4E (R36). -/
def computes (w : Word) : Prop :=
  (0x10 ≤ (Raw.ofWord w).maj.toNat ∧ (Raw.ofWord w).maj.toNat ≤ 0x1D) ∨ (0x20 ≤ (Raw.ofWord w).maj.toNat ∧ (Raw.ofWord w).maj.toNat ≤ 0x4E)

/-- A word of the instruction set that stands inside a clause: every word but a clause header (R20, R24). -/
def inClause (i : Instr) : Prop :=
  (encodeRaw i).isSome = true ∧ ∀ w x y l, i ≠ .clauseHeader w x y l

/-- The checks of R39 before a word's own rules, in their order, with what each gives. -/
def checked (i : Instr) (s : State) (e : Env) : Prop :=
  let f := i.form
  let e' := e.findVec ((f.ops.filter fun o => o.reads).flatMap e.places) e.exec
  let q := e'.poisoned ((f.ops.filter fun o => o.reads).flatMap e'.places) e'.exec
  if illegalHere f e.w.batch.isSome then exec i s = e.trap cIllegal 0#64
  else if e.cs && f.aOnly then exec i s = e.trap cStreamClass 0#64
  else if !e.inWindow f.ops then exec i s = e.trap cRegWindow 0#64
  else if e.batchSpent then exec i s = e.batchFault cCombLimit
  else if f.forbidden && e.w.batch.isSome then exec i s = e.batchFault cCombForbidden
  else if !e.operandsLanded f.ops then exec i s = e.hold 0 0
  else match q.2 with
    | some (p, l) => exec i s = e'.trapWith cRfUncorrectable (e'.loc0 p l) q.1
    | none => Issues i s e'

/-- A wave right after its handler has started (R415): the trap registers written, the context saved, one split at the vector. -/
def trapped (w : Wave) (cs : Bool) (slot : Nat) (pc : DWord) (code : Nat) (addr : DWord) (lanes : Word) (kind : Nat) : Wave :=
  { w with trapCode := BitVec.ofNat 32 ((if cs then 4096 else 0) + kind * 1024 + slot * 256 + code), trapAddr := addr, trapLanes := lanes, trapPc := pc,
           ctx := some { aTab := w.a.tab, cTab := w.c.tab, z := w.a.z, n := w.a.n, c := w.a.c, v := w.a.v, aClause := w.a.clause, cClause := w.c.clause,
                         aWait := w.a.wait, aExited := w.a.exited },
           a := { w.a with tab := SplitTab.empty.setSlot 0 (some ⟨w.trapVector, 0#64, w.live, w.live, [], []⟩), clause := none, wait := none,
                           exited := false } }
end Sys2Proof.Machine
end

