-- ==== Sys2Proof/Certificates/Slice0/Obligations.lean ====
section
/-!
DEFINITION. The statements for the provers.
-/
open Sys2Proof Sys2Proof.Machine

/-- R80: each scalar ALU instruction writes its result to d and the stream goes on; d = 127 discards it (`put32`). -/
def Obligations.ScalarAlu : Prop :=
  ∀ d a b : BitVec 7,
  Gives (.sadd d a b) (fun e => (e.put32 d ((e.s32 a) + (e.s32 b))).done) ∧
  Gives (.ssub d a b) (fun e => (e.put32 d ((e.s32 a) - (e.s32 b))).done) ∧
  Gives (.sand d a b) (fun e => (e.put32 d ((e.s32 a) &&& (e.s32 b))).done) ∧
  Gives (.sor d a b) (fun e => (e.put32 d ((e.s32 a) ||| (e.s32 b))).done) ∧
  Gives (.sxor d a b) (fun e => (e.put32 d ((e.s32 a) ^^^ (e.s32 b))).done) ∧
  Gives (.sshl d a b) (fun e => (e.put32 d (if (e.s32 b).toNat % 256 < 32 then (e.s32 a) <<< ((e.s32 b).toNat % 256) else 0#32)).done) ∧
  Gives (.sshr d a b) (fun e => (e.put32 d (if (e.s32 b).toNat % 256 < 32 then (e.s32 a) >>> ((e.s32 b).toNat % 256) else 0#32)).done) ∧
  Gives (.ssar d a b) (fun e => (e.put32 d (if (e.s32 b).toNat % 256 < 32 then (e.s32 a).sshiftRight ((e.s32 b).toNat % 256) else if (e.s32 a).msb then 0xFFFFFFFF#32 else 0#32)).done) ∧
  Gives (.smin d a b) (fun e => (e.put32 d (if (e.s32 a).toInt ≤ (e.s32 b).toInt then (e.s32 a) else (e.s32 b))).done) ∧
  Gives (.smax d a b) (fun e => (e.put32 d (if (e.s32 a).toInt ≤ (e.s32 b).toInt then (e.s32 b) else (e.s32 a))).done) ∧
  Gives (.sminn d a b) (fun e => (e.put32 d (if (e.s32 a).toNat ≤ (e.s32 b).toNat then (e.s32 a) else (e.s32 b))).done) ∧
  Gives (.smaxn d a b) (fun e => (e.put32 d (if (e.s32 a).toNat ≤ (e.s32 b).toNat then (e.s32 b) else (e.s32 a))).done) ∧
  Gives (.smul d a b) (fun e => (e.put32 d ((e.s32 a) * (e.s32 b))).done) ∧
  Gives (.smulh d a b) (fun e => (e.put32 d (BitVec.ofInt 32 ((e.s32 a).toInt * (e.s32 b).toInt / 2 ^ 32))).done) ∧
  Gives (.smulhn d a b) (fun e => (e.put32 d (BitVec.ofNat 32 ((e.s32 a).toNat * (e.s32 b).toNat / 2 ^ 32))).done) ∧
  Gives (.sandn d a b) (fun e => (e.put32 d ((e.s32 a) &&& ~~~(e.s32 b))).done)

/-- R81, R82, R87 and MGET (R261): scalar immediates, moves and one-operand instructions. -/
def Obligations.ScalarMoves : Prop :=
  ∀ (d a : BitVec 7) (i : BitVec 11) (n : BitVec 5) (j : BitVec 18),
  Gives (.saddi d a i) (fun e => (e.put32 d (e.s32 a + immS i)).done) ∧
  Gives (.sandi d a i) (fun e => (e.put32 d (e.s32 a &&& immZ i)).done) ∧
  Gives (.sori d a i) (fun e => (e.put32 d (e.s32 a ||| immZ i)).done) ∧
  Gives (.sxori d a i) (fun e => (e.put32 d (e.s32 a ^^^ immZ i)).done) ∧
  Gives (.sshlImm d a n) (fun e => (e.put32 d (e.s32 a <<< n.toNat)).done) ∧
  Gives (.sshrImm d a n) (fun e => (e.put32 d (e.s32 a >>> n.toNat)).done) ∧
  Gives (.ssarImm d a n) (fun e => (e.put32 d ((e.s32 a).sshiftRight n.toNat)).done) ∧
  Gives (.srot d a n) (fun e => (e.put32 d ((e.s32 a).rotateLeft n.toNat)).done) ∧
  Gives (.smovi d j) (fun e => (e.put32 d (immS j)).done) ∧
  Gives (.smovhi d j) (fun e => (e.put32 d (j ++ (e.s32 d).extractLsb' 0 14)).done) ∧
  Gives (.smov d a) (fun e => (e.put32 d (e.s32 a)).done) ∧
  Gives (.snot d a) (fun e => (e.put32 d (~~~(e.s32 a))).done) ∧
  Gives (.sneg d a) (fun e => (e.put32 d (0#32 - e.s32 a)).done) ∧
  Gives (.sclz d a) (fun e => (e.put32 d (clz (e.s32 a))).done) ∧
  Gives (.spopc d a) (fun e => (e.put32 d (popc (e.s32 a))).done) ∧
  Gives (.sbrev d a) (fun e => (e.put32 d ((e.s32 a).reverse)).done) ∧
  Gives (.ssext8 d a) (fun e => (e.put32 d (((e.s32 a).extractLsb' 0 8).signExtend 32)).done) ∧
  Gives (.ssext16 d a) (fun e => (e.put32 d (((e.s32 a).extractLsb' 0 16).signExtend 32)).done) ∧
  Gives (.mget d) (fun e => (e.put32 d (e.exec)).done)

/-- R89, R80: the vector ALU instructions, lane by lane, in the active lanes only. -/
def Obligations.VectorAlu : Prop :=
  ∀ d a b : BitVec 7,
  Gives (.vadd d a b) (fun e => (e.putV d e.exec fun l => (e.v32 a l) + (e.v32 b l)).done) ∧
  Gives (.vsub d a b) (fun e => (e.putV d e.exec fun l => (e.v32 a l) - (e.v32 b l)).done) ∧
  Gives (.vand d a b) (fun e => (e.putV d e.exec fun l => (e.v32 a l) &&& (e.v32 b l)).done) ∧
  Gives (.vor d a b) (fun e => (e.putV d e.exec fun l => (e.v32 a l) ||| (e.v32 b l)).done) ∧
  Gives (.vxor d a b) (fun e => (e.putV d e.exec fun l => (e.v32 a l) ^^^ (e.v32 b l)).done) ∧
  Gives (.vshl d a b) (fun e => (e.putV d e.exec fun l => if (e.v32 b l).toNat % 256 < 32 then (e.v32 a l) <<< ((e.v32 b l).toNat % 256) else 0#32).done) ∧
  Gives (.vshr d a b) (fun e => (e.putV d e.exec fun l => if (e.v32 b l).toNat % 256 < 32 then (e.v32 a l) >>> ((e.v32 b l).toNat % 256) else 0#32).done) ∧
  Gives (.vsar d a b) (fun e => (e.putV d e.exec fun l => if (e.v32 b l).toNat % 256 < 32 then (e.v32 a l).sshiftRight ((e.v32 b l).toNat % 256) else if (e.v32 a l).msb then 0xFFFFFFFF#32 else 0#32).done) ∧
  Gives (.vmin d a b) (fun e => (e.putV d e.exec fun l => if (e.v32 a l).toInt ≤ (e.v32 b l).toInt then (e.v32 a l) else (e.v32 b l)).done) ∧
  Gives (.vmax d a b) (fun e => (e.putV d e.exec fun l => if (e.v32 a l).toInt ≤ (e.v32 b l).toInt then (e.v32 b l) else (e.v32 a l)).done) ∧
  Gives (.vminn d a b) (fun e => (e.putV d e.exec fun l => if (e.v32 a l).toNat ≤ (e.v32 b l).toNat then (e.v32 a l) else (e.v32 b l)).done) ∧
  Gives (.vmaxn d a b) (fun e => (e.putV d e.exec fun l => if (e.v32 a l).toNat ≤ (e.v32 b l).toNat then (e.v32 b l) else (e.v32 a l)).done) ∧
  Gives (.vmul d a b) (fun e => (e.putV d e.exec fun l => (e.v32 a l) * (e.v32 b l)).done) ∧
  Gives (.vmulh d a b) (fun e => (e.putV d e.exec fun l => BitVec.ofInt 32 ((e.v32 a l).toInt * (e.v32 b l).toInt / 2 ^ 32)).done) ∧
  Gives (.vmulhn d a b) (fun e => (e.putV d e.exec fun l => BitVec.ofNat 32 ((e.v32 a l).toNat * (e.v32 b l).toNat / 2 ^ 32)).done) ∧
  Gives (.vandn d a b) (fun e => (e.putV d e.exec fun l => (e.v32 a l) &&& ~~~(e.v32 b l)).done)

/-- R90, R80: the vector ALU instructions with a scalar second operand. -/
def Obligations.VectorScalarAlu : Prop :=
  ∀ d a b : BitVec 7,
  Gives (.vaddS d a b) (fun e => (e.putV d e.exec fun l => (e.v32 a l) + (e.s32 b)).done) ∧
  Gives (.vsubS d a b) (fun e => (e.putV d e.exec fun l => (e.v32 a l) - (e.s32 b)).done) ∧
  Gives (.vandS d a b) (fun e => (e.putV d e.exec fun l => (e.v32 a l) &&& (e.s32 b)).done) ∧
  Gives (.vorS d a b) (fun e => (e.putV d e.exec fun l => (e.v32 a l) ||| (e.s32 b)).done) ∧
  Gives (.vxorS d a b) (fun e => (e.putV d e.exec fun l => (e.v32 a l) ^^^ (e.s32 b)).done) ∧
  Gives (.vshlS d a b) (fun e => (e.putV d e.exec fun l => if (e.s32 b).toNat % 256 < 32 then (e.v32 a l) <<< ((e.s32 b).toNat % 256) else 0#32).done) ∧
  Gives (.vshrS d a b) (fun e => (e.putV d e.exec fun l => if (e.s32 b).toNat % 256 < 32 then (e.v32 a l) >>> ((e.s32 b).toNat % 256) else 0#32).done) ∧
  Gives (.vsarS d a b) (fun e => (e.putV d e.exec fun l => if (e.s32 b).toNat % 256 < 32 then (e.v32 a l).sshiftRight ((e.s32 b).toNat % 256) else if (e.v32 a l).msb then 0xFFFFFFFF#32 else 0#32).done) ∧
  Gives (.vminS d a b) (fun e => (e.putV d e.exec fun l => if (e.v32 a l).toInt ≤ (e.s32 b).toInt then (e.v32 a l) else (e.s32 b)).done) ∧
  Gives (.vmaxS d a b) (fun e => (e.putV d e.exec fun l => if (e.v32 a l).toInt ≤ (e.s32 b).toInt then (e.s32 b) else (e.v32 a l)).done) ∧
  Gives (.vminnS d a b) (fun e => (e.putV d e.exec fun l => if (e.v32 a l).toNat ≤ (e.s32 b).toNat then (e.v32 a l) else (e.s32 b)).done) ∧
  Gives (.vmaxnS d a b) (fun e => (e.putV d e.exec fun l => if (e.v32 a l).toNat ≤ (e.s32 b).toNat then (e.s32 b) else (e.v32 a l)).done) ∧
  Gives (.vmulS d a b) (fun e => (e.putV d e.exec fun l => (e.v32 a l) * (e.s32 b)).done) ∧
  Gives (.vmulhS d a b) (fun e => (e.putV d e.exec fun l => BitVec.ofInt 32 ((e.v32 a l).toInt * (e.s32 b).toInt / 2 ^ 32)).done) ∧
  Gives (.vmulhnS d a b) (fun e => (e.putV d e.exec fun l => BitVec.ofNat 32 ((e.v32 a l).toNat * (e.s32 b).toNat / 2 ^ 32)).done) ∧
  Gives (.vandnS d a b) (fun e => (e.putV d e.exec fun l => (e.v32 a l) &&& ~~~(e.s32 b)).done)

/-- R90, R94, R109 and FMOVI (R37): vector immediates, moves and one-operand instructions. -/
def Obligations.VectorMoves : Prop :=
  ∀ (d a : BitVec 7) (i : BitVec 11) (n : BitVec 5) (j : BitVec 18),
  Gives (.vaddi d a i) (fun e => (e.putV d e.exec fun l => e.v32 a l + immS i).done) ∧
  Gives (.vandi d a i) (fun e => (e.putV d e.exec fun l => e.v32 a l &&& immZ i).done) ∧
  Gives (.vori d a i) (fun e => (e.putV d e.exec fun l => e.v32 a l ||| immZ i).done) ∧
  Gives (.vxori d a i) (fun e => (e.putV d e.exec fun l => e.v32 a l ^^^ immZ i).done) ∧
  Gives (.vshlImm d a n) (fun e => (e.putV d e.exec fun l => e.v32 a l <<< n.toNat).done) ∧
  Gives (.vshrImm d a n) (fun e => (e.putV d e.exec fun l => e.v32 a l >>> n.toNat).done) ∧
  Gives (.vsarImm d a n) (fun e => (e.putV d e.exec fun l => (e.v32 a l).sshiftRight n.toNat).done) ∧
  Gives (.vrot d a n) (fun e => (e.putV d e.exec fun l => (e.v32 a l).rotateLeft n.toNat).done) ∧
  Gives (.vmovi d j) (fun e => (e.putV d e.exec fun _ => immS j).done) ∧
  Gives (.vmov d a) (fun e => (e.putV d e.exec fun l => e.v32 a l).done) ∧
  Gives (.vnot d a) (fun e => (e.putV d e.exec fun l => ~~~(e.v32 a l)).done) ∧
  Gives (.vneg d a) (fun e => (e.putV d e.exec fun l => 0#32 - e.v32 a l).done) ∧
  Gives (.vabs d a) (fun e => (e.putV d e.exec fun l => if 0 ≤ (e.v32 a l).toInt then e.v32 a l else 0#32 - e.v32 a l).done) ∧
  Gives (.vclz d a) (fun e => (e.putV d e.exec fun l => clz (e.v32 a l)).done) ∧
  Gives (.vpopc d a) (fun e => (e.putV d e.exec fun l => popc (e.v32 a l)).done) ∧
  Gives (.vbrev d a) (fun e => (e.putV d e.exec fun l => (e.v32 a l).reverse).done) ∧
  Gives (.vsext8 d a) (fun e => (e.putV d e.exec fun l => ((e.v32 a l).extractLsb' 0 8).signExtend 32).done) ∧
  Gives (.vsext16 d a) (fun e => (e.putV d e.exec fun l => ((e.v32 a l).extractLsb' 0 16).signExtend 32).done) ∧
  Gives (.vzext8 d a) (fun e => (e.putV d e.exec fun l => ((e.v32 a l).extractLsb' 0 8).zeroExtend 32).done) ∧
  Gives (.vzext16 d a) (fun e => (e.putV d e.exec fun l => ((e.v32 a l).extractLsb' 0 16).zeroExtend 32).done) ∧
  Gives (.vlane d) (fun e => (e.putV d e.exec fun l => BitVec.ofNat 32 l).done) ∧
  Gives (.fclass d a) (fun e => (e.putV d e.exec fun l => BitVec.ofNat 32 (fClass (e.v32 a l).toNat)).done) ∧
  Gives (.fmovi d j) (fun e => (e.putV d e.exec fun _ => j ++ 0#14).done)

/-- R92: integer compares write one bit per active lane of a predicate. -/
def Obligations.VectorCompares : Prop :=
  ∀ d a b : BitVec 7,
  Gives (.vcmpEq d a b) (fun e => (e.putP d e.exec (maskOf fun l => (e.v32 a l) == (e.v32 b l))).done) ∧
  Gives (.vcmpsEq d a b) (fun e => (e.putP d e.exec (maskOf fun l => (e.v32 a l) == (e.s32 b))).done) ∧
  Gives (.vcmpNe d a b) (fun e => (e.putP d e.exec (maskOf fun l => (e.v32 a l) != (e.v32 b l))).done) ∧
  Gives (.vcmpsNe d a b) (fun e => (e.putP d e.exec (maskOf fun l => (e.v32 a l) != (e.s32 b))).done) ∧
  Gives (.vcmpLt d a b) (fun e => (e.putP d e.exec (maskOf fun l => decide ((e.v32 a l).toInt < (e.v32 b l).toInt))).done) ∧
  Gives (.vcmpsLt d a b) (fun e => (e.putP d e.exec (maskOf fun l => decide ((e.v32 a l).toInt < (e.s32 b).toInt))).done) ∧
  Gives (.vcmpLe d a b) (fun e => (e.putP d e.exec (maskOf fun l => decide ((e.v32 a l).toInt ≤ (e.v32 b l).toInt))).done) ∧
  Gives (.vcmpsLe d a b) (fun e => (e.putP d e.exec (maskOf fun l => decide ((e.v32 a l).toInt ≤ (e.s32 b).toInt))).done) ∧
  Gives (.vcmpGt d a b) (fun e => (e.putP d e.exec (maskOf fun l => decide ((e.v32 b l).toInt < (e.v32 a l).toInt))).done) ∧
  Gives (.vcmpsGt d a b) (fun e => (e.putP d e.exec (maskOf fun l => decide ((e.s32 b).toInt < (e.v32 a l).toInt))).done) ∧
  Gives (.vcmpGe d a b) (fun e => (e.putP d e.exec (maskOf fun l => decide ((e.v32 b l).toInt ≤ (e.v32 a l).toInt))).done) ∧
  Gives (.vcmpsGe d a b) (fun e => (e.putP d e.exec (maskOf fun l => decide ((e.s32 b).toInt ≤ (e.v32 a l).toInt))).done) ∧
  Gives (.vcmpLtn d a b) (fun e => (e.putP d e.exec (maskOf fun l => decide ((e.v32 a l).toNat < (e.v32 b l).toNat))).done) ∧
  Gives (.vcmpsLtn d a b) (fun e => (e.putP d e.exec (maskOf fun l => decide ((e.v32 a l).toNat < (e.s32 b).toNat))).done) ∧
  Gives (.vcmpLen d a b) (fun e => (e.putP d e.exec (maskOf fun l => decide ((e.v32 a l).toNat ≤ (e.v32 b l).toNat))).done) ∧
  Gives (.vcmpsLen d a b) (fun e => (e.putP d e.exec (maskOf fun l => decide ((e.v32 a l).toNat ≤ (e.s32 b).toNat))).done) ∧
  Gives (.vcmpGtn d a b) (fun e => (e.putP d e.exec (maskOf fun l => decide ((e.v32 b l).toNat < (e.v32 a l).toNat))).done) ∧
  Gives (.vcmpsGtn d a b) (fun e => (e.putP d e.exec (maskOf fun l => decide ((e.s32 b).toNat < (e.v32 a l).toNat))).done) ∧
  Gives (.vcmpGen d a b) (fun e => (e.putP d e.exec (maskOf fun l => decide ((e.v32 b l).toNat ≤ (e.v32 a l).toNat))).done) ∧
  Gives (.vcmpsGen d a b) (fun e => (e.putP d e.exec (maskOf fun l => decide ((e.s32 b).toNat ≤ (e.v32 a l).toNat))).done)

/-- R98, R99, R93, R276, R279, R280: predicate logic, VSEL, votes, MATCH and WRLANE; the words of the votes and of MATCH. WRLANE waits for the one element that it
writes. -/
def Obligations.PredicatesAndVotes : Prop :=
  ∀ (d a b : BitVec 7) (p : BitVec 4),
  Gives (.pand d a b) (fun e => (e.putP d e.exec (e.p32 a &&& e.p32 b)).done) ∧
  Gives (.por d a b) (fun e => (e.putP d e.exec (e.p32 a ||| e.p32 b)).done) ∧
  Gives (.pxor d a b) (fun e => (e.putP d e.exec (e.p32 a ^^^ e.p32 b)).done) ∧
  Gives (.pandn d a b) (fun e => (e.putP d e.exec (e.p32 a &&& ~~~(e.p32 b))).done) ∧
  Gives (.porn d a b) (fun e => (e.putP d e.exec (e.p32 a ||| ~~~(e.p32 b))).done) ∧
  Gives (.pnot d a) (fun e => (e.putP d e.exec (~~~(e.p32 a))).done) ∧
  Gives (.pmov d a) (fun e => (e.putP d e.exec (e.p32 a)).done) ∧
  Gives (.pset d) (fun e => (e.putP d e.exec (0xFFFFFFFF#32)).done) ∧
  Gives (.pclr d) (fun e => (e.putP d e.exec (0#32)).done) ∧
  Gives (.ptov d a) (fun e => (e.putV d e.exec fun l => if laneIn (e.p32 a) l then 1#32 else 0#32).done) ∧
  Gives (.vtop d a) (fun e => (e.putP d e.exec (maskOf fun l => e.v32 a l != 0#32)).done) ∧
  Gives (.vsel d a b p) (fun e => (e.putV d e.exec fun l => if laneIn (e.p32 (p.zeroExtend 7)) l then e.v32 a l else e.v32 b l).done) ∧
  Gives (.voteAny d a) (fun e => (e.putP d e.exec (if e.p32 a &&& e.exec = 0#32 then 0#32 else 0xFFFFFFFF#32)).done) ∧
  Gives (.voteAll d a) (fun e => (e.putP d e.exec (if e.exec &&& ~~~(e.p32 a) = 0#32 then 0xFFFFFFFF#32 else 0#32)).done) ∧
  Gives (.voteBallot d a) (fun e => (e.putV d e.exec fun _ => e.p32 a &&& e.exec).done) ∧
  Gives (.voteUni d a) (fun e => (e.putP d e.exec (if ∀ x ∈ e.activeVals a, x = (e.activeVals a).headD 0#32 then 0xFFFFFFFF#32 else 0#32)).done) ∧
  Gives (.voteElect d) (fun e => (e.putP d e.exec (maskOf fun l => l == (lanesOf e.exec).headD 0)).done) ∧
  Gives (.matchLanes d a) (fun e => (e.putV d e.exec fun l => maskOf fun j => laneIn e.exec j && e.v32 a j == e.v32 a l).done) ∧
  -- WRLANE waits for the one element that it writes, and for no other (R196, R272)
  GivesIf (.wrlane d a b) (fun e => e.landed d (e.exec &&& BitVec.ofNat 32 (2 ^ ((e.s32 b).toNat % 32))) = true)
    (fun e => (e.putV d (e.exec &&& BitVec.ofNat 32 (2 ^ ((e.s32 b).toNat % 32))) fun _ => e.s32 a).done) ∧
  (∀ s e, Issues (.wrlane d a b) s e → e.landed d (e.exec &&& BitVec.ofNat 32 (2 ^ ((e.s32 b).toNat % 32))) = false →
    exec (.wrlane d a b) s = e.hold 0 0) ∧
  encode (.voteAny d a) = 0x4A#7 ++ d ++ a ++ 0#7 ++ 0#4 ∧
  encode (.voteAll d a) = 0x4A#7 ++ d ++ a ++ 0#7 ++ 1#4 ∧
  encode (.voteBallot d a) = 0x4A#7 ++ d ++ a ++ 0#7 ++ 2#4 ∧
  encode (.voteUni d a) = 0x4A#7 ++ d ++ a ++ 0#7 ++ 3#4 ∧
  encode (.voteElect d) = 0x4A#7 ++ d ++ 0#7 ++ 0#7 ++ 4#4 ∧
  encode (.matchLanes d a) = 0x4D#7 ++ d ++ a ++ 0#7 ++ 0#4

/-- R83 to R86: the compares set the stream's condition codes and nothing else; SADDP adds in 64 bits; SSEL selects by Cond. -/
def Obligations.ScalarComparesAndPairs : Prop :=
  ∀ (d a b : BitVec 7) (i : BitVec 11) (w : BitVec 2) (c : BitVec 4),
  Gives (.scmp a b) (fun e => (e.putCodes
    { z := e.s32 a == e.s32 b, n := (e.s32 a - e.s32 b).msb, c := decide ((e.s32 b).toNat ≤ (e.s32 a).toNat),
      v := decide ((e.s32 a).toInt - (e.s32 b).toInt < -2 ^ 31) || decide ((e.s32 a).toInt - (e.s32 b).toInt > 2 ^ 31 - 1) }).done) ∧
  Gives (.scmpN a b) (fun e => (e.putCodes
    { z := e.s32 a == e.s32 b, n := decide ((e.s32 a).toNat < (e.s32 b).toNat), c := decide ((e.s32 b).toNat ≤ (e.s32 a).toNat), v := false }).done) ∧
  Gives (.scmpi a i) (fun e => (e.putCodes
    { z := e.s32 a == immS i, n := (e.s32 a - immS i).msb, c := decide ((immS i).toNat ≤ (e.s32 a).toNat),
      v := decide ((e.s32 a).toInt - (immS i).toInt < -2 ^ 31) || decide ((e.s32 a).toInt - (immS i).toInt > 2 ^ 31 - 1) }).done) ∧
  Gives (.scmpiN a i) (fun e => (e.putCodes
    { z := e.s32 a == immS i, n := decide ((e.s32 a).toNat < (immS i).toNat), c := decide ((immS i).toNat ≤ (e.s32 a).toNat), v := false }).done) ∧
  Gives (.saddp d a b 0#1 w) (fun e => (e.put64 d (e.s64 a + ((e.s32 b).zeroExtend 64 <<< w.toNat))).done) ∧
  Gives (.saddp d a b 1#1 w) (fun e => (e.put64 d (e.s64 a + (e.s64 b <<< w.toNat))).done) ∧
  Gives (.ssel d a b c) (fun e => (e.put32 d (if condHolds c.toNat e.codes e.exec then e.s32 a else e.s32 b)).done)

/-- R88, R78: the scalar divisions give late results, with the fixed results for a divisor of 0; they never trap. -/
def Obligations.ScalarDivisions : Prop :=
  ∀ d a b : BitVec 7,
  Gives (.sdivi d a b) (fun e => (e.putLateS d
    (if e.s32 b = 0#32 then 0xFFFFFFFF#32 else BitVec.ofInt 32 ((e.s32 a).toInt.tdiv (e.s32 b).toInt))).done) ∧
  Gives (.sdivn d a b) (fun e => (e.putLateS d (if e.s32 b = 0#32 then 0xFFFFFFFF#32 else e.s32 a / e.s32 b)).done) ∧
  Gives (.sremi d a b) (fun e => (e.putLateS d
    (if e.s32 b = 0#32 then e.s32 a else BitVec.ofInt 32 ((e.s32 a).toInt.tmod (e.s32 b).toInt))).done) ∧
  Gives (.sremn d a b) (fun e => (e.putLateS d (if e.s32 b = 0#32 then e.s32 a else e.s32 a % e.s32 b)).done)

/-- R91, R95 to R97: multiply-add, bit fields, lane addresses and counter-based random words, in the active lanes. -/
def Obligations.VectorWide : Prop :=
  ∀ (d a b : BitVec 7) (w : BitVec 2),
  Gives (.madloI32 d a b) (fun e => (e.putV d e.exec fun l => BitVec.ofInt 32 ((e.v32 a l).toInt * (e.v32 b l).toInt) + e.v32 d l).done) ∧
  Gives (.madhiI32 d a b) (fun e => (e.putV d e.exec fun l => BitVec.ofInt 32 ((e.v32 a l).toInt * (e.v32 b l).toInt / 2 ^ 32) + e.v32 d l).done) ∧
  Gives (.madloN32 d a b) (fun e => (e.putV d e.exec fun l => BitVec.ofNat 32 ((e.v32 a l).toNat * (e.v32 b l).toNat) + e.v32 d l).done) ∧
  Gives (.madhiN32 d a b) (fun e => (e.putV d e.exec fun l => BitVec.ofNat 32 ((e.v32 a l).toNat * (e.v32 b l).toNat / 2 ^ 32) + e.v32 d l).done) ∧
  Gives (.vbfeN d a b) (fun e => (e.putV d e.exec fun l =>
    BitVec.ofNat 32 ((e.v32 a l).toNat / 2 ^ ((e.v32 b l).toNat % 32) % 2 ^ min ((e.v32 b l).toNat / 256 % 64) 32)).done) ∧
  Gives (.vbfeI d a b) (fun e => (e.putV d e.exec fun l => vbfeI (e.v32 a l) (e.v32 b l)).done) ∧
  Gives (.vbfi d a b) (fun e => (e.putV d e.exec fun l =>
    let pos := (e.v32 b l).toNat % 32
    let m := BitVec.ofNat 32 ((2 ^ min ((e.v32 b l).toNat / 256 % 64) 32 - 1) * 2 ^ pos)
    (e.v32 d l &&& ~~~m) ||| ((e.v32 a l <<< pos) &&& m)).done) ∧
  Gives (.vleaN d a b w) (fun e =>
    let addr (l : Nat) : DWord := e.s64 a + ((e.v32 b l).zeroExtend 64 <<< w.toNat)
    ((e.putVi d 0 e.exec fun l => loHalf (addr l)).putVi d 1 e.exec fun l => hiHalf (addr l)).done) ∧
  Gives (.vleaI d a b w) (fun e =>
    let addr (l : Nat) : DWord := e.s64 a + ((e.v32 b l).signExtend 64 <<< w.toNat)
    ((e.putVi d 0 e.exec fun l => loHalf (addr l)).putVi d 1 e.exec fun l => hiHalf (addr l)).done) ∧
  Gives (.vrand d a b w) (fun e => (e.putV d e.exec fun l => vrand (e.s64 a) (e.v32 b l) w.toNat).done)

/-- R272 to R280: shuffles, RDLANE and BCAST read other lanes; a lane that has exited reads as 0. -/
def Obligations.CrossLane : Prop :=
  ∀ (d a b : BitVec 7) (n : BitVec 5),
  (∀ i m f, (i = Instr.shflIdx d a b ∧ m = .idx ∧ f = (fun e l => (Env.v32 e b l).toNat % 32)) ∨
      (i = .shflUp d a b ∧ m = .up ∧ f = (fun e l => (Env.v32 e b l).toNat % 32)) ∨
      (i = .shflDn d a b ∧ m = .dn ∧ f = (fun e l => (Env.v32 e b l).toNat % 32)) ∨
      (i = .shflXor d a b ∧ m = .xor ∧ f = (fun e l => (Env.v32 e b l).toNat % 32)) ∨
      (i = .shfliIdx d a n ∧ m = .idx ∧ f = (fun _ _ => n.toNat)) ∨ (i = .shfliUp d a n ∧ m = .up ∧ f = (fun _ _ => n.toNat)) ∨
      (i = .shfliDn d a n ∧ m = .dn ∧ f = (fun _ _ => n.toNat)) ∨ (i = .shfliXor d a n ∧ m = .xor ∧ f = (fun _ _ => n.toNat)) →
    GivesIf i (fun e => readable e a (maskOf fun j => (lanesOf e.exec).any fun l => ((shflSource m l (f e l)).getD l) == j))
      (fun e => (shuffleFrom e d a m (f e) (maskOf fun j => (lanesOf e.exec).any fun l => ((shflSource m l (f e l)).getD l) == j)).done)) ∧
  GivesIf (.rdlane d a b) (fun e => e.exec = 0#32) (fun e => e.done) ∧
  GivesIf (.rdlane d a b) (fun e => e.exec ≠ 0#32 ∧ readable e a (BitVec.ofNat 32 (2 ^ ((e.s32 b).toNat % 32))))
    (fun e =>
      let x := e.found a (BitVec.ofNat 32 (2 ^ ((e.s32 b).toNat % 32)))
      (x.put32 d (x.readLane a ((e.s32 b).toNat % 32))).done) ∧
  GivesIf (.bcast d a b) (fun e => e.exec = 0#32) (fun e => e.done) ∧
  GivesIf (.bcast d a b) (fun e => e.exec ≠ 0#32 ∧ readable e a (BitVec.ofNat 32 (2 ^ ((e.s32 b).toNat % 32))))
    (fun e =>
      let x := e.found a (BitVec.ofNat 32 (2 ^ ((e.s32 b).toNat % 32)))
      (x.putV d x.exec fun _ => x.readLane a ((e.s32 b).toNat % 32)).done)

/-- R277, R278, R78: reductions and scans over the active lanes give late results; the FP32 sum adds along the tree of R68. -/
def Obligations.Reductions : Prop :=
  ∀ (d a : BitVec 7) (x : BitVec 1),
  Gives (.reduceAddI32 d a) (fun e => (e.putLateV d (fun _ => (actives e a).foldl (· + ·) 0#32) 0#32).done) ∧
  Gives (.reduceAnd d a) (fun e => (e.putLateV d (fun _ => reduceInt .and (actives e a)) 0#32).done) ∧
  Gives (.reduceOr d a) (fun e => (e.putLateV d (fun _ => (actives e a).foldl (· ||| ·) 0#32) 0#32).done) ∧
  Gives (.reduceXor d a) (fun e => (e.putLateV d (fun _ => (actives e a).foldl (· ^^^ ·) 0#32) 0#32).done) ∧
  Gives (.reduceMinI d a) (fun e => (e.putLateV d (fun _ => reduceInt .min (actives e a)) 0#32).done) ∧
  Gives (.reduceMaxI d a) (fun e => (e.putLateV d (fun _ => reduceInt .max (actives e a)) 0#32).done) ∧
  Gives (.reduceMinN d a) (fun e => (e.putLateV d (fun _ => reduceInt .minn (actives e a)) 0#32).done) ∧
  Gives (.reduceMaxN d a) (fun e => (e.putLateV d (fun _ => reduceInt .maxn (actives e a)) 0#32).done) ∧
  Gives (.reduceAddF32 d a) (fun e =>
    let leaves := (List.range 32).map fun l => if laneIn e.exec l then some (⟨(e.v32 a l).toNat, 0#32⟩ : Rounded) else none
    let r := (treeSum leaves).getD ⟨0, 0#32⟩
    (e.putLateV d (fun _ => BitVec.ofNat 32 (canonNan r.bits)) r.flags).done) ∧
  Gives (.reduceMinF32 d a) (fun e =>
    let r := ((actives e a).drop 1).foldl (fun x y => fMinMax Fmt.f32 false x y.toNat) ((actives e a).headD 0#32).toNat
    (e.putLateV d (fun _ => BitVec.ofNat 32 (canonNan r)) 0#32).done) ∧
  Gives (.reduceMaxF32 d a) (fun e =>
    let r := ((actives e a).drop 1).foldl (fun x y => fMinMax Fmt.f32 true x y.toNat) ((actives e a).headD 0#32).toNat
    (e.putLateV d (fun _ => BitVec.ofNat 32 (canonNan r)) 0#32).done) ∧
  Gives (.scanAddI32 d a x) (fun e => (e.scan d a (x = 1#1) 0 (scanInt .add)).done) ∧
  Gives (.scanMinI d a x) (fun e => (e.scan d a (x = 1#1) 0x7FFFFFFF (scanInt .min)).done) ∧
  Gives (.scanMaxI d a x) (fun e => (e.scan d a (x = 1#1) 0x80000000 (scanInt .max)).done) ∧
  Gives (.scanOr d a x) (fun e => (e.scan d a (x = 1#1) 0 (scanInt .or)).done) ∧
  -- every result of a floating-point scan is canonical, the lowest lane's too; every step's flags are raised (R56, R278)
  Gives (.scanAddF32 d a x) (fun e =>
    let rs := scanList scanF32 ((lanesOf e.exec).map fun l => (l, (e.v32 a l).toNat)) none
    (e.putLateV d (fun l => BitVec.ofNat 32 (canonNan (scanResult rs (x = 1#1) 0 l).toNat)) (rs.foldl (fun f r => f ||| r.2.2.flags) 0#32)).done)

/-- R56 to R65, R100 to R102, R112: FP32 arithmetic in the active lanes. Each result is the exact value rounded once under DRM, or the mode that the word names, and its flags are sticky (`putRounded`). -/
def Obligations.FloatArithmetic : Prop :=
  ∀ (d a b : BitVec 7) (r : BitVec 2),
  Gives (.fadd d a b) (fun e => (e.putRounded d (roundLane Fmt.f32 e.drm e.exec fun l => fAdd e.drm (e.f32 a l) (e.f32 b l))).done) ∧
  Gives (.fsub d a b) (fun e => (e.putRounded d (roundLane Fmt.f32 e.drm e.exec fun l => fAdd e.drm (e.f32 a l) (e.f32 b l).negate)).done) ∧
  Gives (.fmul d a b) (fun e => (e.putRounded d (roundLane Fmt.f32 e.drm e.exec fun l => fOp .mul e.drm (e.f32 a l) (e.f32 b l))).done) ∧
  Gives (.fmin d a b) (fun e => (e.putV d e.exec fun l => BitVec.ofNat 32 (fMinMax Fmt.f32 false (e.v32 a l).toNat (e.v32 b l).toNat)).done) ∧
  Gives (.fmax d a b) (fun e => (e.putV d e.exec fun l => BitVec.ofNat 32 (fMinMax Fmt.f32 true (e.v32 a l).toNat (e.v32 b l).toNat)).done) ∧
  Gives (.fcopysign d a b) (fun e => (e.putV d e.exec fun l => if (e.f32 a l).isNan then BitVec.ofNat 32 Fmt.f32.nanBits else (e.v32 b l).extractLsb' 31 1 ++ (e.v32 a l).extractLsb' 0 31).done) ∧
  Gives (.faddS d a b) (fun e => (e.putRounded d (roundLane Fmt.f32 e.drm e.exec fun l => fAdd e.drm (e.f32 a l) (e.fs32 b))).done) ∧
  Gives (.fsubS d a b) (fun e => (e.putRounded d (roundLane Fmt.f32 e.drm e.exec fun l => fAdd e.drm (e.f32 a l) (e.fs32 b).negate)).done) ∧
  Gives (.fmulS d a b) (fun e => (e.putRounded d (roundLane Fmt.f32 e.drm e.exec fun l => fOp .mul e.drm (e.f32 a l) (e.fs32 b))).done) ∧
  Gives (.fminS d a b) (fun e => (e.putV d e.exec fun l => BitVec.ofNat 32 (fMinMax Fmt.f32 false (e.v32 a l).toNat (e.s32 b).toNat)).done) ∧
  Gives (.fmaxS d a b) (fun e => (e.putV d e.exec fun l => BitVec.ofNat 32 (fMinMax Fmt.f32 true (e.v32 a l).toNat (e.s32 b).toNat)).done) ∧
  Gives (.fcopysignS d a b) (fun e => (e.putV d e.exec fun l => if (e.f32 a l).isNan then BitVec.ofNat 32 Fmt.f32.nanBits else (e.s32 b).extractLsb' 31 1 ++ (e.v32 a l).extractLsb' 0 31).done) ∧
  Gives (.ffma d a b r) (fun e => (e.putRounded d (roundLane Fmt.f32 (Rm.ofCode r.toNat) e.exec fun l => fFma (Rm.ofCode r.toNat) false false (e.f32 a l) (e.f32 b l) (e.f32 d l))).done) ∧
  Gives (.ffmaNeg d a b r) (fun e => (e.putRounded d (roundLane Fmt.f32 (Rm.ofCode r.toNat) e.exec fun l => fFma (Rm.ofCode r.toNat) true false (e.f32 a l) (e.f32 b l) (e.f32 d l))).done) ∧
  Gives (.ffmaSub d a b r) (fun e => (e.putRounded d (roundLane Fmt.f32 (Rm.ofCode r.toNat) e.exec fun l => fFma (Rm.ofCode r.toNat) false true (e.f32 a l) (e.f32 b l) (e.f32 d l))).done) ∧
  Gives (.ffmaNegsub d a b r) (fun e => (e.putRounded d (roundLane Fmt.f32 (Rm.ofCode r.toNat) e.exec fun l => fFma (Rm.ofCode r.toNat) true true (e.f32 a l) (e.f32 b l) (e.f32 d l))).done) ∧
  Gives (.ffmas d a b r) (fun e => (e.putRounded d (roundLane Fmt.f32 (Rm.ofCode r.toNat) e.exec fun l => fFma (Rm.ofCode r.toNat) false false (e.f32 a l) (e.fs32 b) (e.f32 d l))).done) ∧
  Gives (.ffmasNeg d a b r) (fun e => (e.putRounded d (roundLane Fmt.f32 (Rm.ofCode r.toNat) e.exec fun l => fFma (Rm.ofCode r.toNat) true false (e.f32 a l) (e.fs32 b) (e.f32 d l))).done) ∧
  Gives (.ffmasSub d a b r) (fun e => (e.putRounded d (roundLane Fmt.f32 (Rm.ofCode r.toNat) e.exec fun l => fFma (Rm.ofCode r.toNat) false true (e.f32 a l) (e.fs32 b) (e.f32 d l))).done) ∧
  Gives (.ffmasNegsub d a b r) (fun e => (e.putRounded d (roundLane Fmt.f32 (Rm.ofCode r.toNat) e.exec fun l => fFma (Rm.ofCode r.toNat) true true (e.f32 a l) (e.fs32 b) (e.f32 d l))).done) ∧
  Gives (.fcmpEq d a b) (fun e => (e.putP d e.exec (maskOf fun l => fCmpHolds .eq (e.f32 a l) (e.f32 b l))).done) ∧
  Gives (.fcmpNe d a b) (fun e => (e.putP d e.exec (maskOf fun l => fCmpHolds .ne (e.f32 a l) (e.f32 b l))).done) ∧
  Gives (.fcmpLt d a b) (fun e => (e.putP d e.exec (maskOf fun l => fCmpHolds .lt (e.f32 a l) (e.f32 b l))).done) ∧
  Gives (.fcmpLe d a b) (fun e => (e.putP d e.exec (maskOf fun l => fCmpHolds .le (e.f32 a l) (e.f32 b l))).done) ∧
  Gives (.fcmpGt d a b) (fun e => (e.putP d e.exec (maskOf fun l => fCmpHolds .gt (e.f32 a l) (e.f32 b l))).done) ∧
  Gives (.fcmpGe d a b) (fun e => (e.putP d e.exec (maskOf fun l => fCmpHolds .ge (e.f32 a l) (e.f32 b l))).done) ∧
  Gives (.fcmpUnord d a b) (fun e => (e.putP d e.exec (maskOf fun l => fCmpHolds .unord (e.f32 a l) (e.f32 b l))).done) ∧
  Gives (.fcmpOrd d a b) (fun e => (e.putP d e.exec (maskOf fun l => fCmpHolds .ord (e.f32 a l) (e.f32 b l))).done) ∧
  Gives (.fscaleb d a b) (fun e => (e.putRounded d (roundLane Fmt.f32 e.drm e.exec fun l => ⟨(e.f32 a l).scale (e.v32 b l).toInt, 0#32⟩)).done) ∧
  Gives (.fgetexp d a) (fun e => (e.putRounded d fun l => fGetExp (e.v32 a l).toNat).done) ∧
  Gives (.fgetmant d a) (fun e => (e.putRounded d fun l => fGetMant (e.v32 a l).toNat).done)

/-- R66, R103 to R105, R110: the special functions and the division give late results; conversions round once.
The model's choices in it: notes/assumptions/10.md, notes/assumptions/51.md. -/
def Obligations.FloatFunctions : Prop :=
  ∀ (d a b : BitVec 7) (r : BitVec 3) (k : BitVec 2),
  Gives (.frcp d a) (fun e => (e.sfu d fun l => fRcpEval (e.v32 a l).toNat).done) ∧
  Gives (.frsq d a) (fun e => (e.sfu d fun l => fRsqEval (e.v32 a l).toNat).done) ∧
  Gives (.fsqrt d a) (fun e => (e.sfu d fun l => fSqrtEval (e.v32 a l).toNat).done) ∧
  Gives (.fexp2 d a) (fun e => (e.sfu d fun l => sfuEval .exp2 (e.v32 a l).toNat).done) ∧
  Gives (.flog2 d a) (fun e => (e.sfu d fun l => sfuEval .log2 (e.v32 a l).toNat).done) ∧
  Gives (.fsin d a) (fun e => (e.sfu d fun l => sfuEval .sin (e.v32 a l).toNat).done) ∧
  Gives (.fcos d a) (fun e => (e.sfu d fun l => sfuEval .cos (e.v32 a l).toNat).done) ∧
  Gives (.ftanh d a) (fun e => (e.sfu d fun l => sfuEval .tanh (e.v32 a l).toNat).done) ∧
  Gives (.fdiv d a b) (fun e => (e.sfu d fun l => fDivEval (e.v32 a l).toNat (e.v32 b l).toNat).done) ∧
  Gives (.fcvtBf16F32 d a r) (fun e => (e.putRounded d (roundLane Fmt.bf16 (Rm.ofCode r.toNat) e.exec fun l => ⟨e.f32 a l, 0#32⟩)).done) ∧
  Gives (.fcvtF32Bf16 d a r) (fun e => (e.putRounded d fun l => roundTo Fmt.f32 .rne (Fmt.bf16.decode ((e.v32 a l).toNat % 2 ^ Fmt.bf16.width)) 0).done) ∧
  Gives (.fcvtF16F32 d a r) (fun e => (e.putRounded d (roundLane Fmt.f16 (Rm.ofCode r.toNat) e.exec fun l => ⟨e.f32 a l, 0#32⟩)).done) ∧
  Gives (.fcvtF32F16 d a r) (fun e => (e.putRounded d fun l => roundTo Fmt.f32 .rne (Fmt.f16.decode ((e.v32 a l).toNat % 2 ^ Fmt.f16.width)) 0).done) ∧
  Gives (.fcvtE4m3F32 d a r) (fun e => (e.putRounded d (roundLane Fmt.e4m3 (Rm.ofCode r.toNat) e.exec fun l => ⟨e.f32 a l, 0#32⟩)).done) ∧
  Gives (.fcvtF32E4m3 d a r) (fun e => (e.putRounded d fun l => roundTo Fmt.f32 .rne (Fmt.e4m3.decode ((e.v32 a l).toNat % 2 ^ Fmt.e4m3.width)) 0).done) ∧
  Gives (.fcvtE5m2F32 d a r) (fun e => (e.putRounded d (roundLane Fmt.e5m2 (Rm.ofCode r.toNat) e.exec fun l => ⟨e.f32 a l, 0#32⟩)).done) ∧
  Gives (.fcvtF32E5m2 d a r) (fun e => (e.putRounded d fun l => roundTo Fmt.f32 .rne (Fmt.e5m2.decode ((e.v32 a l).toNat % 2 ^ Fmt.e5m2.width)) 0).done) ∧
  Gives (.fcvtI32F32 d a r) (fun e => (e.cvtInt d a true r).done) ∧
  Gives (.fcvtN32F32 d a r) (fun e => (e.cvtInt d a false r).done) ∧
  Gives (.fcvtF32I32 d a r) (fun e => (e.putRounded d (roundLane Fmt.f32 (Rm.ofCode r.toNat) e.exec fun l => ⟨FVal.ofInt (e.v32 a l).toInt, 0#32⟩)).done) ∧
  Gives (.fcvtF32N32 d a r) (fun e => (e.putRounded d (roundLane Fmt.f32 (Rm.ofCode r.toNat) e.exec fun l => ⟨FVal.ofNat (e.v32 a l).toNat, 0#32⟩)).done) ∧
  Gives (.frnd d a r) (fun e => (e.frnd d a (Rm.ofCode r.toNat)).done) ∧
  GivesIf (.fcvtscE4m3F32 d a b k) (fun e => readable e b (scaleLanes e.exec)) (fun e => ((e.found b (scaleLanes e.exec)).cvtScTo d a b k.toNat Fmt.e4m3).done) ∧
  GivesIf (.fcvtscF32E4m3 d a b k) (fun e => readable e b (scaleLanes e.exec)) (fun e => ((e.found b (scaleLanes e.exec)).cvtScFrom d a b k.toNat Fmt.e4m3).done) ∧
  GivesIf (.fcvtscE5m2F32 d a b k) (fun e => readable e b (scaleLanes e.exec)) (fun e => ((e.found b (scaleLanes e.exec)).cvtScTo d a b k.toNat Fmt.e5m2).done) ∧
  GivesIf (.fcvtscF32E5m2 d a b k) (fun e => readable e b (scaleLanes e.exec)) (fun e => ((e.found b (scaleLanes e.exec)).cvtScFrom d a b k.toNat Fmt.e5m2).done)

/-- R70, R106 to R108: packed halves and dot products, each element or sum rounded once.
The model's choices in it: notes/assumptions/52.md. -/
def Obligations.PackedAndDots : Prop :=
  ∀ (d a b : BitVec 7) (f : BitVec 1),
  Gives (.hadd2 d a b f) (fun e => (e.packed d (halfFmt f) fun i l => fAdd e.drm (e.half (halfFmt f) a i l) (e.half (halfFmt f) b i l)).done) ∧
  Gives (.hsub2 d a b f) (fun e => (e.packed d (halfFmt f) fun i l => fAdd e.drm (e.half (halfFmt f) a i l) (e.half (halfFmt f) b i l).negate).done) ∧
  Gives (.hmul2 d a b f) (fun e => (e.packed d (halfFmt f) fun i l => fOp .mul e.drm (e.half (halfFmt f) a i l) (e.half (halfFmt f) b i l)).done) ∧
  Gives (.hmin2 d a b f) (fun e => (e.putV d e.exec fun l => halfMinMax (halfFmt f) false (e.v32 a l) (e.v32 b l)).done) ∧
  Gives (.hmax2 d a b f) (fun e => (e.putV d e.exec fun l => halfMinMax (halfFmt f) true (e.v32 a l) (e.v32 b l)).done) ∧
  Gives (.hfma2 d a b f) (fun e => (e.packed d (halfFmt f) fun i l => fFma e.drm false false (e.half (halfFmt f) a i l) (e.half (halfFmt f) b i l) (e.half (halfFmt f) d i l)).done) ∧
  Gives (.hfma2Neg d a b f) (fun e => (e.packed d (halfFmt f) fun i l => fFma e.drm true false (e.half (halfFmt f) a i l) (e.half (halfFmt f) b i l) (e.half (halfFmt f) d i l)).done) ∧
  Gives (.hfma2Sub d a b f) (fun e => (e.packed d (halfFmt f) fun i l => fFma e.drm false true (e.half (halfFmt f) a i l) (e.half (halfFmt f) b i l) (e.half (halfFmt f) d i l)).done) ∧
  Gives (.hfma2Negsub d a b f) (fun e => (e.packed d (halfFmt f) fun i l => fFma e.drm true true (e.half (halfFmt f) a i l) (e.half (halfFmt f) b i l) (e.half (halfFmt f) d i l)).done) ∧
  Gives (.dot2Bf16 d a b) (fun e => (e.dot d a b 2 16 Fmt.bf16.decode Fmt.bf16.decode).done) ∧
  Gives (.dot2F16 d a b) (fun e => (e.dot d a b 2 16 Fmt.f16.decode Fmt.f16.decode).done) ∧
  Gives (.dot4E4m3 d a b) (fun e => (e.dot d a b 4 8 Fmt.e4m3.decode Fmt.e4m3.decode).done) ∧
  Gives (.dot4E5m2 d a b) (fun e => (e.dot d a b 4 8 Fmt.e5m2.decode Fmt.e5m2.decode).done) ∧
  -- a block that does not hold the engine has loaded no codebook: every entry is +0 (R108, R115)
  GivesIf (.dot8Cb4 d a b) (fun e => (e.s.core e.core).engine.holder = some e.w.block)
    (fun e => (e.dot d a b 8 4 ((e.s.core e.core).book 0) ((e.s.core e.core).book 1)).done) ∧
  GivesIf (.dot8Cb4 d a b) (fun e => (e.s.core e.core).engine.holder ≠ some e.w.block)
    (fun e => (e.dot d a b 8 4 (fun _ => .zero false) (fun _ => .zero false)).done) ∧
  Gives (.dot4I8 d a b) (fun e => (e.putV d e.exec fun l => dotInt true (e.v32 d l) (e.v32 a l) (e.v32 b l)).done) ∧
  Gives (.dot4N8 d a b) (fun e => (e.putV d e.exec fun l => dotInt false (e.v32 d l) (e.v32 a l) (e.v32 b l)).done)

/-- R20 to R22, R258 to R260: branches, calls and returns. The clause ends; a taken conditional or indirect transfer leaves its packet in a branch trace. -/
def Obligations.Transfers : Prop :=
  ∀ (a : BitVec 7) (c : BitVec 5) (o : BitVec 20),
  GivesIf (.br c o) (fun _ => c = 0#5) (fun e => e.jump (e.pc + (o.signExtend 64 <<< 2))) ∧
  GivesIf (.br c o) (fun e => c ≠ 0#5 ∧ e.cond c.toNat = true)
    (fun e => e.jumped (e.pc + (o.signExtend 64 <<< 2)) [pktHead 2 e.cl.slot 1]) ∧
  GivesIf (.br c o) (fun e => c ≠ 0#5 ∧ e.cond c.toNat = false) (fun e => e.jumped (e.pc + 4#64) [pktHead 2 e.cl.slot 0]) ∧
  GivesIf (.call o) (fun e => e.sp.cstk.length < 8)
    (fun e => (e.setSplit fun p => { p with cstk := (e.pc + 4#64) :: p.cstk }).jump (e.pc + (o.signExtend 64 <<< 2))) ∧
  GivesIf (.jmpi a) (fun e => (e.s64 a).toNat % 4 = 0)
    (fun e => e.jumped (e.s64 a) (pktHead 6 e.cl.slot 0 :: bytes8 (e.s64 a))) ∧
  GivesIf (.calli a) (fun e => e.sp.cstk.length < 8 ∧ (e.s64 a).toNat % 4 = 0)
    (fun e => (e.setSplit fun p => { p with cstk := (e.pc + 4#64) :: p.cstk }).jumped (e.s64 a) (pktHead 6 e.cl.slot 0 :: bytes8 (e.s64 a))) ∧
  GivesIf .ret (fun e => e.sp.cstk ≠ [] ∧ (e.sp.cstk.headD 0#64).toNat % 4 = 0)
    (fun e => (e.setSplit fun p => { p with cstk := p.cstk.tail }).jumped (e.sp.cstk.headD 0#64)
      (pktHead 6 e.cl.slot 0 :: bytes8 (e.sp.cstk.headD 0#64))) ∧
  TrapsIf (.call o) (fun e => 8 ≤ e.sp.cstk.length) cStackLimit (fun _ => 0#64) ∧
  TrapsIf (.calli a) (fun e => 8 ≤ e.sp.cstk.length) cStackLimit (fun _ => 0#64) ∧
  TrapsIf .ret (fun e => e.sp.cstk = []) cStackLimit (fun _ => 0#64) ∧
  TrapsIf (.jmpi a) (fun e => (e.s64 a).toNat % 4 ≠ 0) cMisaligned (fun e => e.s64 a) ∧
  encode (.br c o) = 0x01#7 ++ c ++ o ∧ encode (.call o) = 0x02#7 ++ 0#5 ++ o

/-- R261: the mask stack. A push past 16 entries, and a pop or else of an empty stack, trap with STACK_LIMIT. -/
def Obligations.MaskStack : Prop :=
  ∀ a : BitVec 7,
  GivesIf (.mpush a) (fun e => e.sp.mstk.length < 16) (fun e =>
    (e.setSplit fun p => { p with mstk := p.exec :: p.mstk, exec := p.exec &&& e.p32 a }).passed (pktHead 3 e.cl.slot 0 :: bytes4 (e.exec &&& e.p32 a))) ∧
  GivesIf .melse (fun e => e.sp.mstk ≠ []) (fun e =>
    (e.setSplit fun p => { p with exec := e.sp.mstk.headD 0#32 &&& ~~~p.exec }).passed (pktHead 3 e.cl.slot 0 :: bytes4 (e.sp.mstk.headD 0#32 &&& ~~~e.exec))) ∧
  GivesIf .mpop (fun e => e.sp.mstk ≠ []) (fun e =>
    (e.setSplit fun p => { p with exec := e.sp.mstk.headD 0#32, mstk := p.mstk.tail }).passed (pktHead 3 e.cl.slot 0 :: bytes4 (e.sp.mstk.headD 0#32))) ∧
  Gives (.mset a) (fun e =>
    (e.setSplit fun p => { p with exec := e.s32 a &&& p.base }).passed (pktHead 3 e.cl.slot 0 :: bytes4 (e.s32 a &&& e.sp.base))) ∧
  TrapsIf (.mpush a) (fun e => 16 ≤ e.sp.mstk.length) cStackLimit (fun _ => 0#64) ∧
  TrapsIf .melse (fun e => e.sp.mstk = []) cStackLimit (fun _ => 0#64) ∧
  TrapsIf .mpop (fun e => e.sp.mstk = []) cStackLimit (fun _ => 0#64)

/-- R262 to R268: FORK divides the split by a predicate, JOIN gathers it again; JTAB divides it by target.
The model's choices in it: notes/assumptions/24.md, notes/assumptions/91.md. -/
def Obligations.ForkAndJoin : Prop :=
  ∀ (d a b : BitVec 7) (t : BitVec 3) (i : BitVec 11),
  -- FORK: no lane active; no lane or every lane taken; both parts, the taken one placed in a slot or the pending list
  GivesIf (.fork d t i) (fun e => e.exec = 0#32) (fun e => e.jump (e.pc + 4#64)) ∧
  GivesIf (.fork d t i) (fun e => e.exec ≠ 0#32 ∧ e.exec &&& e.p32 d = 0#32)
    (fun e => e.jumped (e.pc + 4#64) (pktHead 4 e.cl.slot 0 :: (bytes4 0#32 ++ [255#8]))) ∧
  GivesIf (.fork d t i) (fun e => e.exec ≠ 0#32 ∧ e.exec &&& e.p32 d = e.exec)
    (fun e => e.jumped (e.pc + (i.signExtend 64 <<< 2)) (pktHead 4 e.cl.slot 0 :: (bytes4 e.exec ++ [255#8]))) ∧
  GivesIf (.fork d t i) (fun e => e.exec &&& e.p32 d ≠ 0#32 ∧ e.exec &&& ~~~(e.p32 d) ≠ 0#32 ∧ (e.tab.freeSlot.isSome ∨ e.tab.pend.length < 16))
    (fun e =>
      let taken := e.exec &&& e.p32 d
      let own := e.sp.part e.pc e.sp.src (e.sp.base &&& ~~~taken) (e.exec &&& ~~~(e.p32 d))
      let r := ((e.tab.widen t.toNat e.sp).setSlot e.cl.slot (some own)).place (e.sp.part (e.pc + (i.signExtend 64 <<< 2)) e.pc taken taken)
      (e.setTab r.1).jumped (e.pc + 4#64) (pktHead 4 e.cl.slot 0 :: (bytes4 taken ++ [BitVec.ofNat 8 r.2]))) ∧
  TrapsIf (.fork d t i) (fun e => e.exec &&& e.p32 d ≠ 0#32 ∧ e.exec &&& ~~~(e.p32 d) ≠ 0#32 ∧ e.tab.freeSlot = none ∧ 16 ≤ e.tab.pend.length)
    cStackLimit (fun _ => 0#64) ∧
  -- JOIN: an idle token; stacks that differ; the last group; an earlier one
  GivesIf (.join t) (fun e => (e.tab.tok t.toNat).active = false) (fun e => e.jump (e.pc + 4#64)) ∧
  TrapsIf (.join t) (fun e => (e.tab.tok t.toNat).active = true ∧
      (e.sp.mstk.length ≠ (e.tab.tok t.toNat).mstk.length ∨ e.sp.cstk.length ≠ (e.tab.tok t.toNat).cstk.length)) cStackLimit (fun _ => 0#64) ∧
  GivesIf (.join t) (fun e => joins e t ∧ (joined e t).complete = true) (fun e =>
    let m := (joined e t).merged (e.pc + 4#64)
    let tab := { (e.tab.setTok t.toNat Token.idle) with merges := e.tab.merges.filter (· ≠ t.toNat) }
    (({ e with sp := m }).setTab (tab.setSlot e.cl.slot (some m))).jumped (e.pc + 4#64)
      (pktHead 5 e.cl.slot 1 :: BitVec.ofNat 8 t.toNat :: bytes4 m.exec)) ∧
  GivesIf (.join t) (fun e => joins e t ∧ (joined e t).complete = false)
    (fun e => e.leaveSlot (e.tab.setTok t.toNat (joined e t)) [BitVec.ofNat 8 (5 * 16 + e.cl.slot * 4), BitVec.ofNat 8 t.toNat]) ∧
  -- JTAB: no lane active; one group of lanes for each value read, the first where the split stands, the others placed; a word of the table that cannot
  -- be read; no room for the groups; a table that is not aligned; an index past the bound; an entry outside the code object
  GivesIf (.jtab d a b t) (fun e => e.exec = 0#32 ∧ (e.s64 b).toNat % 4 = 0) (fun e => e.jump (e.pc + 4#64)) ∧
  (∀ s e xs s' v m rest, Issues (.jtab d a b t) s e → jtabInside e d a b →
    e.jtabEntries (e.s64 b) (jtabLanes e a) [] e.s = .inl (xs, s') → jtabGroups xs = (v, m) :: rest →
    rest.length ≤ e.tab.freeCount + (16 - e.tab.pend.length) →
    exec (.jtab d a b t) s = .next ((({ e with s := s' } : Env).setTab (jtabParts e t v m rest).1).readsDone.leaveWith v true fun s =>
      (jtabParts e t v m rest).2.foldl (fun s p => s.tracePkt e.key e.cs p) s)) ∧
  (∀ s e xs s', Issues (.jtab d a b t) s e → jtabInside e d a b → e.jtabEntries (e.s64 b) (jtabLanes e a) [] e.s = .inl (xs, s') →
    e.tab.freeCount + 1 + (16 - e.tab.pend.length) < (jtabGroups xs).length →
    exec (.jtab d a b t) s = ({ e with s := s' } : Env).trap cStackLimit (e.s64 b)) ∧
  (∀ s e s', Issues (.jtab d a b t) s e → jtabInside e d a b → e.jtabEntries (e.s64 b) (jtabLanes e a) [] e.s = .inr s' →
    exec (.jtab d a b t) s = .next s') ∧
  (∀ s e, Issues (.jtab d a b t) s e → (e.s64 b).toNat % 4 = 0 → jtabBeyond e d a ≠ [] →
    exec (.jtab d a b t) s = e.trapWith cJtabBound (e.s64 b) (lanesMask (jtabBeyond e d a))) ∧
  (∀ s e, Issues (.jtab d a b t) s e → (e.s64 b).toNat % 4 = 0 → jtabBeyond e d a = [] → jtabOutside e a b ≠ [] →
    exec (.jtab d a b t) s = e.trapWith cPermission (BitVec.ofNat 64 (((jtabOutside e a b).map fun x =>
      (e.s64 b + BitVec.ofNat 64 (4 * x.2)).toNat).foldl min (2 ^ 64 - 1))) (lanesMask (jtabOutside e a b))) ∧
  TrapsIf (.jtab d a b t) (fun e => (e.s64 b).toNat % 4 ≠ 0) cMisaligned (fun e => e.s64 b) ∧
  encode (.join t) = 0x06#7 ++ 0#22 ++ t

/-- R40, R283, R285, R287, R289, R306, R326: NOP, YIELD, the roles, FLUSHA, and the waits on flags, counters and the GTC, which pass at once where
there is nothing to wait for and hold or end the wait otherwise. -/
def Obligations.WaveControl : Prop :=
  ∀ (a : BitVec 7) (c : BitVec 4) (t : BitVec 6) (f : BitVec 12),
  Gives .nop Env.done ∧
  encode .nop = 0#32 ∧
  Gives .yield (fun e => (e.setSt fun st => { st with readySince := none, yielded := true }).done) ∧
  Gives .roleL (fun e => (e.setSt fun st => { st with storer := false }).done) ∧
  Gives .roleS (fun e => (e.setSt fun st => { st with storer := true }).done) ∧
  GivesIf .flusha (fun e => e.det = false) Env.done ∧
  GivesIf .flusha (fun e => e.det = true) (fun e =>
    let t := { e with w := { e.w with flushes := e.w.flushes + 1 } }.done
    ((t.wave? e.key).map t.flushWave).getD t) ∧
  GivesIf (.waita c t) (fun e => (e.w.cnt.getD c.toNat []).length ≤ t.toNat) (fun e => (e.counted c.toNat).done) ∧
  GivesIf (.waitf f) (fun e => ∀ i < 12, f.getLsbD i = true → e.w.flags.getD i 0 = 0) Env.done ∧
  (∀ s e, Issues (.waitf f) s e → (∃ i < 12, f.getLsbD i = true ∧ e.w.flags.getD i 0 ≠ 0) → exec (.waitf f) s = e.hold 9 f.toNat) ∧
  GivesIf (.sleep a) (fun e => (e.s64 a).toNat ≤ e.s.gtc.toNat) Env.done ∧
  GivesIf (.sleep a) (fun e => e.s.gtc.toNat < (e.s64 a).toNat) (fun e => e.await (.sleep (e.s64 a)))

/-- R34, R35, R63, R65, R384 to R386, R421: the system registers, software events, causal identifiers and the branch trace's switches. A register number that is
not listed, and a rounding code above 4, trap with ILLEGAL_ENCODING. Of two writes in one cycle the A-stream's remains, and flags raised in the cycle are ORed
into the written FPFLAGS. -/
def Obligations.SystemRegisters : Prop :=
  ∀ (d a b : BitVec 7) (n : BitVec 11),
  GivesIf (.mfsr d n) (fun e => n.toNat ≠ 0x010 ∧ e.sysReg n.toNat ≠ none) (fun e => (e.put32 d ((e.sysReg n.toNat).getD 0#32)).done) ∧
  GivesIf (.mfsr d n) (fun _ => n.toNat = 0x010)
    (fun e => ((e.setSt fun st => { st with gtcHi := hiHalf e.s.gtc }).put32 d (loHalf e.s.gtc)).done) ∧
  (∀ s e, s.env? = some e → e.sysReg n.toNat = none → exec (.mfsr d n) s = e.trap cIllegal 0#64) ∧
  -- flags that results raise in the cycle are ORed into the value written (R65); of two writes in one cycle the A-stream's remains (R421)
  GivesIf (.mtsr a n) (fun _ => n.toNat = 0x020)
    (fun e => { e with w := { e.lastWrite with fpFlags := (e.s32 a &&& 31#32) ||| e.lastWrite.fpOthers e.cs e.s.cycle } }.done) ∧
  GivesIf (.mtsr a n) (fun e => n.toNat = 0x021 ∧ (e.s32 a).toNat % 8 < 5)
    (fun e => { e with w := { e.lastWrite with fpMode := e.s32 a &&& 7#32 } }.done) ∧
  TrapsIf (.mtsr a n) (fun e => n.toNat = 0x021 ∧ 5 ≤ (e.s32 a).toNat % 8) cIllegal (fun _ => 0#64) ∧
  GivesIf (.mtsr a n) (fun _ => n.toNat = 0x036)
    (fun e => { e with w := { e.lastWrite with trapVector := hiHalf e.w.trapVector ++ (e.s32 a &&& ~~~3#32) } }.done) ∧
  GivesIf (.mtsr a n) (fun _ => n.toNat = 0x037)
    (fun e => { e with w := { e.lastWrite with trapVector := (e.s32 a &&& 0xFFFFFF#32) ++ loHalf e.w.trapVector } }.done) ∧
  (∀ s e, s.env? = some e → n.toNat ≠ 0x020 ∧ n.toNat ≠ 0x021 ∧ n.toNat ≠ 0x036 ∧ n.toNat ≠ 0x037 → exec (.mtsr a n) s = e.trap cIllegal 0#64) ∧
  Gives (.evt a b) (fun e => e.done.emit (srcCore e.core) (0xF00 + (e.s32 b).toNat % 256) e.w.tenant e.w.causal (e.s64 a)) ∧
  GivesIf (.causeSet a) (fun e => e.s64 a ≠ 0#64) (fun e => { e with w := { e.w with causal := e.s64 a, pause := some (!e.cs, e.s.cycle) } }.done) ∧
  GivesIf (.causeSet a) (fun e => e.s64 a = 0#64)
    (fun e => { e with s := (e.s.freshId (srcCore e.core)).2, w := { e.w with causal := (e.s.freshId (srcCore e.core)).1, pause := some (!e.cs, e.s.cycle) } }.done) ∧
  Gives (.causeGet d) (fun e => (e.put64 d e.w.causal).done) ∧
  GivesIf (.trcOn a) (fun e => (e.s64 a).toNat % 64 = 0) (fun e =>
    let s := e.done.traceEnd e.key e.cs e.cl.slot 0
    let t : TraceSt :=
      { desc := e.s64 a, epoch := BitVec.ofNat 32 s.traceEpoch, seq := 0, data := [], resync := false, needSync := true, lastTick := s.gtc,
        lastSync := s.gtc, count := 0, dropped := [], discard := false, lastSlot := 0, synced := false }
    { s with traceEpoch := s.traceEpoch + 1 }.updWave e.key fun w => w.updStream e.cs fun st => { st with trace := some t }) ∧
  TrapsIf (.trcOn a) (fun e => (e.s64 a).toNat % 64 ≠ 0) cMisaligned (fun e => e.s64 a) ∧
  Gives .trcOff (fun e => e.done.traceEnd e.key e.cs e.cl.slot 0) ∧
  -- the numbers of R34's table
  (∀ (e : Env) k, (e.sysReg k).isSome = ([0, 1, 2, 3, 4, 5, 6, 7, 8, 0x10, 0x11, 0x20, 0x21, 0x30, 0x31, 0x32, 0x33, 0x34, 0x35, 0x36, 0x37, 0x40, 0x41,
    0x50, 0x51, 0x60, 0x61].contains k))

/-- R415, R417 to R420, R256, R321: TRAP, the return from a handler and EXIT, in a handler and outside one.
The model's choices in it: notes/assumptions/67.md. -/
def Obligations.TrapsAndExit : Prop :=
  ∀ n : BitVec 7,
  Gives (.trap n) (fun e => e.s.takeTrap e.key e.cs e.cl.slot e.pc (0x80 + n.toNat) 0#64 e.exec 1) ∧
  TrapsIf .tret (fun e => e.w.ctx = none) cIllegal (fun _ => 0#64) ∧
  -- a deferred trap's handler returns: the task aborts with its code (R418)
  GivesIf .tret (fun e => e.w.ctx.isSome ∧ e.w.trapCode.toNat / 1024 % 4 = 2)
    (fun e => (e.s.setWave e.key e.w).abortTask e.w.task (e.w.trapCode.toNat % 256)) ∧
  -- a precise trap's handler returns to the word that trapped; a software trap's, to the word after TRAP in the stream that issued it
  (∀ s e c, Issues .tret s e → e.w.ctx = some c → e.w.trapCode.toNat / 1024 % 4 ≠ 2 →
    exec .tret s = .next (
      let soft := decide (e.w.trapCode.toNat / 1024 % 4 = 1)
      let rA := if soft && !e.w.trapCode.getLsbD 12 then advance c.aTab c.aClause else (c.aTab, c.aClause)
      let rC := if soft && e.w.trapCode.getLsbD 12 then advance c.cTab c.cClause else (c.cTab, c.cClause)
      let w := { e.w with a := { e.w.a with tab := rA.1, clause := rA.2, wait := c.aWait, exited := c.aExited, z := c.z, n := c.n, c := c.c, v := c.v },
                          c := { e.w.c with tab := rC.1, clause := rC.2 }, ctx := none }
      let pkt := [pktHead 7 e.cl.slot (if soft then 2 else 1)]
      (((e.s.setWave e.key w).tracePkt e.key false pkt).tracePkt e.key true pkt).takeDeferred e.key true)) ∧
  GivesIf .exit (fun e => e.w.ctx.isSome) (fun e => (e.s.setWave e.key e.w).exitHandler e.key e.cl.slot) ∧
  -- the split's lanes leave its stream: its slot empties, other splits and pending groups lose them, and an empty stream has exited
  GivesIf .exit (fun e => e.w.ctx = none) (fun e =>
    let w := e.w.updStream e.cs fun st => { st with launched := st.launched &&& ~~~e.sp.base }
    let t := SplitTab.clearLanes e.sp.base ((w.stream e.cs).tab.setSlot e.cl.slot none)
    let w := w.updStream e.cs fun st => { st with tab := t.1, clause := none }
    ((((e.s.setWave e.key w).traceStarts e.key e.cs t.1 t.2).exitCheck e.key e.cs e.cl.slot).enterHandler e.key))

/-- R290 to R296, R412: the queues between the streams, and register blocks. A poisoned head traps with POISON, a correctable one is corrected; VREL waits for
what is pending on the blocks it releases.
The model's choices in it: notes/assumptions/25.md, notes/assumptions/71.md. -/
def Obligations.QueuesAndBlocks : Prop :=
  ∀ d a : BitVec 7,
  GivesIf (.qpush a) (fun e => e.w.single = false ∧ e.outgoing.length < 16 ∧ e.pushHit = false)
    (fun e => (e.setOutgoing (e.outgoing ++ [⟨e.s32 a, false, none, e.s.free⟩])).done) ∧
  -- an error injected at the entry stays with it, and the injection is spent (R413)
  GivesIf (.qpush a) (fun e => e.w.single = false ∧ e.outgoing.length < 16 ∧ e.pushHit = true) (fun e =>
    let x := e.setOutgoing (e.outgoing ++ [(⟨e.s32 a, false, some e.s.inj.uncorr, e.s.free⟩ : QEntry)])
    { x with s := { x.s with inj := { x.s.inj with arm := false } } }.done) ∧
  (∀ s e, Issues (.qpush a) s e → e.w.single = false → 16 ≤ e.outgoing.length → exec (.qpush a) s = e.hold 6 (if e.cs then 0 else 1)) ∧
  (∀ s e x rest, Issues (.qpop d) s e → e.w.single = false → e.incoming = x :: rest → x.bad = false → x.inj = none →
    exec (.qpop d) s = .next (((e.setIncoming rest).put32 d x.val).synced x.at_).done) ∧
  (∀ s e x rest, Issues (.qpeek d) s e → e.w.single = false → e.incoming = x :: rest → x.bad = false → x.inj = none →
    exec (.qpeek d) s = .next ((e.setIncoming (x :: rest)).put32 d x.val).done) ∧
  -- an entry with a correctable error found in it is given corrected, with a log entry; a poisoned one, or one with an uncorrectable error, traps with
  -- POISON: QPOP has taken it, QPEEK leaves it poisoned (R408, R412)
  (∀ s e x rest, Issues (.qpop d) s e → e.w.single = false → e.incoming = x :: rest → x.bad = false → x.inj = some false →
    exec (.qpop d) s = .next ((((e.setIncoming rest).headReport false).put32 d x.val).synced x.at_).done) ∧
  (∀ s e x rest, Issues (.qpeek d) s e → e.w.single = false → e.incoming = x :: rest → x.bad = false → x.inj = some false →
    exec (.qpeek d) s = .next (((e.headReport false).setIncoming ({ x with inj := none } :: rest)).put32 d x.val).done) ∧
  (∀ s e x rest, Issues (.qpop d) s e → e.w.single = false → e.incoming = x :: rest → x.bad = true → x.inj = none →
    exec (.qpop d) s = (e.setIncoming rest).commit.trap cPoison 0#64) ∧
  (∀ s e x rest, Issues (.qpop d) s e → e.w.single = false → e.incoming = x :: rest → x.inj = some true →
    exec (.qpop d) s = ((e.setIncoming rest).headReport true).commit.trap cPoison 0#64) ∧
  (∀ s e x rest, Issues (.qpeek d) s e → e.w.single = false → e.incoming = x :: rest → x.bad = true → x.inj = none →
    exec (.qpeek d) s = (e.setIncoming (x :: rest)).commit.trap cPoison 0#64) ∧
  (∀ s e x rest, Issues (.qpeek d) s e → e.w.single = false → e.incoming = x :: rest → x.inj = some true →
    exec (.qpeek d) s = ((e.headReport true).setIncoming ({ x with bad := true, inj := none } :: rest)).commit.trap cPoison 0#64) ∧
  (∀ s e, Issues (.qpop d) s e → e.w.single = false → e.incoming = [] → exec (.qpop d) s = e.hold 6 (if e.cs then 0 else 1)) ∧
  (∀ s e, Issues (.qpeek d) s e → e.w.single = false → e.incoming = [] → exec (.qpeek d) s = e.hold 6 (if e.cs then 0 else 1)) ∧
  GivesIf (.qlen d) (fun e => e.w.single = false)
    (fun e => (e.put32 d (BitVec.ofNat 32 (e.incoming.length + 65536 * (16 - e.outgoing.length)))).done) ∧
  TrapsIf (.qpush a) (fun e => e.w.single = true) cIllegal (fun _ => 0#64) ∧
  TrapsIf (.qpop d) (fun e => e.w.single = true) cIllegal (fun _ => 0#64) ∧
  TrapsIf (.qpeek d) (fun e => e.w.single = true) cIllegal (fun _ => 0#64) ∧
  TrapsIf (.qlen d) (fun e => e.w.single = true) cIllegal (fun _ => 0#64) ∧
  -- VACQ and VREL of no blocks only complete
  GivesIf (.vacqB a) (fun e => (e.s32 a).toNat = 0 ∧ e.w.blocks.length + e.asked ≤ 32) Env.done ∧
  GivesIf (.vacqT d a) (fun e => (e.s32 a).toNat = 0 ∧ e.w.blocks.length + e.asked ≤ 32) Env.done ∧
  GivesIf (.vrel a) (fun e => (e.s32 a).toNat = 0) Env.done ∧
  -- VREL waits for the loads and late results of the registers it gives back
  (∀ s e, Issues (.vrel a) s e → 0 < (e.s32 a).toNat → (e.s32 a).toNat ≤ e.w.blocks.length →
    e.s.pendingFrom e.key e.w (16 * (e.w.blocks.length - (e.s32 a).toNat)) = true →
    exec (.vrel a) s = e.hold 15 (5 + 16 * (e.w.blocks.length - (e.s32 a).toNat))) ∧
  -- VACQ: the blocks are granted, or the stream waits for them (B) or reads 0 in p[D] (T)
  GivesIf (.vacqB a) (fun e => 0 < (e.s32 a).toNat ∧ e.w.blocks.length + (e.s32 a).toNat + e.asked ≤ 32 ∧ e.poolFits (e.s32 a).toNat = true)
    (fun e => e.done.grantBlocks e.key (e.s32 a).toNat) ∧
  GivesIf (.vacqB a) (fun e => 0 < (e.s32 a).toNat ∧ e.w.blocks.length + (e.s32 a).toNat + e.asked ≤ 32 ∧ e.poolFits (e.s32 a).toNat = false)
    (fun e => { e with s := e.s.setCore e.core { e.s.core e.core with vacq := (e.s.core e.core).vacq ++ [(⟨e.key, e.cs, (e.s32 a).toNat⟩ : BlockReq)] } }.await
      (.grant (e.s32 a).toNat)) ∧
  GivesIf (.vacqT d a) (fun e => 0 < (e.s32 a).toNat ∧ e.w.blocks.length + (e.s32 a).toNat + e.asked ≤ 32 ∧ e.poolFits (e.s32 a).toNat = true)
    (fun e => (e.putP d 0xFFFFFFFF#32 0xFFFFFFFF#32).done.grantBlocks e.key (e.s32 a).toNat) ∧
  GivesIf (.vacqT d a) (fun e => 0 < (e.s32 a).toNat ∧ e.w.blocks.length + (e.s32 a).toNat + e.asked ≤ 32 ∧ e.poolFits (e.s32 a).toNat = false)
    (fun e => (e.putP d 0xFFFFFFFF#32 0#32).done) ∧
  TrapsIf (.vacqB a) (fun e => 32 < e.w.blocks.length + (e.s32 a).toNat + e.asked) cVacqLimit (fun _ => 0#64) ∧
  TrapsIf (.vacqT d a) (fun e => 32 < e.w.blocks.length + (e.s32 a).toNat + e.asked) cVacqLimit (fun _ => 0#64) ∧
  GivesIf (.vrel a) (fun e => 0 < (e.s32 a).toNat ∧ (e.s32 a).toNat ≤ e.w.blocks.length ∧
      e.s.pendingFrom e.key e.w (16 * (e.w.blocks.length - (e.s32 a).toNat)) = false)
    (fun e =>
      let keep := e.w.blocks.length - (e.s32 a).toNat
      let late := e.w.late.filter fun l => match l.dest with | .vec q => decide (q < 16 * keep) | .scalar _ _ => true
      { e with s := e.s.setCore e.core ((e.s.core e.core).giveBlocks (e.w.blocks.drop keep)),
               w := { e.w.forget (16 * keep) with blocks := e.w.blocks.take keep, late := late } }.done) ∧
  TrapsIf (.vrel a) (fun e => e.w.blocks.length < (e.s32 a).toNat) cVacqLimit (fun _ => 0#64) ∧
  GivesIf (.vwin a) (fun e => (e.s32 a).toNat ≤ 31) (fun e => (e.setSt fun st => { st with vwin := (e.s32 a).toNat }).done) ∧
  TrapsIf (.vwin a) (fun e => 31 < (e.s32 a).toNat) cRegWindow (fun _ => 0#64)

/-- R192 to R196: a load whose lanes pass their checks puts one access per active lane in flight, counted on its arrival counter; its bytes are read later, at HOME_UNIT_REQUEST, and its registers written at LOAD_LAND. Under an all-zero exec a vector load has no effect.
The model's choices in it: notes/assumptions/26.md, notes/assumptions/70.md. -/
def Obligations.Loads : Prop :=
  ∀ (d a : BitVec 7) (k : BitVec 4) (o : BitVec 7),
  LoadsLanes (.ldvN8 d a k o) 1 false (fun e => (List.range 1).filterMap fun i => (e.place? (d.toNat + i)).map LateDest.vec) a k o ∧
  LoadsLanes (.ldvI8 d a k o) 1 true (fun e => (List.range 1).filterMap fun i => (e.place? (d.toNat + i)).map LateDest.vec) a k o ∧
  LoadsLanes (.ldvN16 d a k o) 2 false (fun e => (List.range 1).filterMap fun i => (e.place? (d.toNat + i)).map LateDest.vec) a k o ∧
  LoadsLanes (.ldvI16 d a k o) 2 true (fun e => (List.range 1).filterMap fun i => (e.place? (d.toNat + i)).map LateDest.vec) a k o ∧
  LoadsLanes (.ldv32 d a k o) 4 false (fun e => (List.range 1).filterMap fun i => (e.place? (d.toNat + i)).map LateDest.vec) a k o ∧
  LoadsLanes (.ldv64 d a k o) 8 false (fun e => (List.range 2).filterMap fun i => (e.place? (d.toNat + i)).map LateDest.vec) a k o ∧
  LoadsLanes (.ldv128 d a k o) 16 false (fun e => (List.range 4).filterMap fun i => (e.place? (d.toNat + i)).map LateDest.vec) a k o ∧
  LoadsScalar (.lds32 d a k o) 4 (if d.toNat ≥ 64 then [] else (List.range 1).map fun i => LateDest.scalar false (d.toNat + i)) a k o ∧
  LoadsScalar (.lds64 d a k o) 8 (if d.toNat ≥ 64 then [] else (List.range 2).map fun i => LateDest.scalar false (d.toNat + i)) a k o

/-- R192, R198: a store outside a combiner wave (in one, R233: it goes into the commit buffer) puts one access per active lane in flight, with the bytes of its registers, its scope k[2:0] and its release bit k[3]; memory changes later, when its home unit performs it.
The model's choices in it: notes/assumptions/26.md, notes/assumptions/70.md. -/
def Obligations.Stores : Prop :=
  ∀ (d a : BitVec 7) (k : BitVec 4) (o : BitVec 7),
  StoresLanes (.stv8 d a k o) 1 d a k o ∧
  StoresBatch (.stv8 d a k o) true 1 (fun e => e.laneAddrs a o 1) (fun e l => storeBytes e d 1 l) ∧
  StoresLanes (.stv16 d a k o) 2 d a k o ∧
  StoresBatch (.stv16 d a k o) true 2 (fun e => e.laneAddrs a o 2) (fun e l => storeBytes e d 2 l) ∧
  StoresLanes (.stv32 d a k o) 4 d a k o ∧
  StoresBatch (.stv32 d a k o) true 4 (fun e => e.laneAddrs a o 4) (fun e l => storeBytes e d 4 l) ∧
  StoresLanes (.stv64 d a k o) 8 d a k o ∧
  StoresBatch (.stv64 d a k o) true 8 (fun e => e.laneAddrs a o 8) (fun e l => storeBytes e d 8 l) ∧
  StoresLanes (.stv128 d a k o) 16 d a k o ∧
  StoresBatch (.stv128 d a k o) true 16 (fun e => e.laneAddrs a o 16) (fun e l => storeBytes e d 16 l) ∧
  StoresScalar (.sts32 d a k o) 4 (fun e => natToBytes 4 (e.s32 d).toNat) a k o ∧
  StoresBatch (.sts32 d a k o) false 4 (fun e => [(0, (memAddr (e.s64 a) o 4).toNat)]) (fun e _ => natToBytes 4 (e.s32 d).toNat) ∧
  StoresScalar (.sts64 d a k o) 8 (fun e => natToBytes 8 (e.s64 d).toNat) a k o ∧
  StoresBatch (.sts64 d a k o) false 8 (fun e => [(0, (memAddr (e.s64 a) o 8).toNat)]) (fun e _ => natToBytes 8 (e.s64 d).toNat)

/-- R199 to R203: ATOM and RED put one atomic access per active lane in flight; ATOM counts on a15 and returns the old value, RED returns nothing and, in a deterministic task, goes to the core's buffer instead.
The model's choices in it: notes/assumptions/26.md, notes/assumptions/70.md. -/
def Obligations.Atomics : Prop :=
  ∀ (w : BitVec 2) (x : BitVec 3) (d a b : BitVec 7),
  Atomic (.atomAddI32 w d a b) 0 4 (w.toNat + 2) d a b ∧
  Atomic (.atomAddF32 w d a b) 1 4 (w.toNat + 2) d a b ∧
  Atomic (.atomMinI w d a b) 2 4 (w.toNat + 2) d a b ∧
  Atomic (.atomMaxI w d a b) 3 4 (w.toNat + 2) d a b ∧
  Atomic (.atomMinN w d a b) 4 4 (w.toNat + 2) d a b ∧
  Atomic (.atomMaxN w d a b) 5 4 (w.toNat + 2) d a b ∧
  Atomic (.atomAnd w d a b) 6 4 (w.toNat + 2) d a b ∧
  Atomic (.atomOr w d a b) 7 4 (w.toNat + 2) d a b ∧
  Atomic (.atomXor w d a b) 8 4 (w.toNat + 2) d a b ∧
  Atomic (.atomXchg w d a b) 9 4 (w.toNat + 2) d a b ∧
  Atomic (.atomCas w d a b) 10 4 (w.toNat + 2) d a b ∧
  Atomic (.atomAddI64 w d a b) 11 8 (w.toNat + 2) d a b ∧
  Atomic (.atomIncw w d a b) 12 4 (w.toNat + 2) d a b ∧
  Atomic (.atomAddBf16x2 w d a b) 13 4 (w.toNat + 2) d a b ∧
  Reduces (.redAddI32 x a b) 0 4 (max 1 x.toNat) a b ∧
  Reduces (.redAddF32 x a b) 1 4 (max 1 x.toNat) a b ∧
  Reduces (.redMinI x a b) 2 4 (max 1 x.toNat) a b ∧
  Reduces (.redMaxI x a b) 3 4 (max 1 x.toNat) a b ∧
  Reduces (.redMinN x a b) 4 4 (max 1 x.toNat) a b ∧
  Reduces (.redMaxN x a b) 5 4 (max 1 x.toNat) a b ∧
  Reduces (.redAnd x a b) 6 4 (max 1 x.toNat) a b ∧
  Reduces (.redOr x a b) 7 4 (max 1 x.toNat) a b ∧
  Reduces (.redXor x a b) 8 4 (max 1 x.toNat) a b ∧
  Reduces (.redXchg x a b) 9 4 (max 1 x.toNat) a b ∧
  Reduces (.redCas x a b) 10 4 (max 1 x.toNat) a b ∧
  Reduces (.redAddI64 x a b) 11 8 (max 1 x.toNat) a b ∧
  Reduces (.redIncw x a b) 12 4 (max 1 x.toNat) a b ∧
  Reduces (.redAddBf16x2 x a b) 13 4 (max 1 x.toNat) a b

/-- R180, R206 to R208: a fence records the accesses and commands that it orders and the stream goes on; later words that it orders wait. PFT only prefetches.
The model's choices in it: notes/assumptions/6.md. -/
def Obligations.Fences : Prop :=
  ∀ (x : BitVec 3) (a : BitVec 7) (h : BitVec 2) (o : BitVec 7),
  GatedGives (.fenceAcq x) .load true (fun _ => x.toNat = 0) (fun e => e.done) ∧
  GatedGives (.fenceAcq x) .load true (fun _ => x.toNat ≠ 0)
    (fun e => ({ e with s := { e.s with fences := e.s.fences ++ [e.fenceOf 0 x.toNat], nextId := e.s.nextId + 1 } }.done).fenceSettle e.key) ∧
  GatedGives (.fenceRel x) .load true (fun _ => x.toNat = 0) (fun e => e.done) ∧
  GatedGives (.fenceRel x) .load true (fun _ => x.toNat ≠ 0)
    (fun e => ({ e with s := { e.s with fences := e.s.fences ++ [e.fenceOf 1 x.toNat], nextId := e.s.nextId + 1 } }.done).fenceSettle e.key) ∧
  GatedGives (.fenceAcqrel x) .load true (fun _ => x.toNat = 0) (fun e => e.done) ∧
  GatedGives (.fenceAcqrel x) .load true (fun _ => x.toNat ≠ 0)
    (fun e => ({ e with s := { e.s with fences := e.s.fences ++ [e.fenceOf 2 x.toNat], nextId := e.s.nextId + 1 } }.done).fenceSettle e.key) ∧
  GatedGives (.fenceSc x) .load true (fun _ => x.toNat = 0) (fun e => e.done) ∧
  GatedGives (.fenceSc x) .load true (fun _ => x.toNat ≠ 0)
    (fun e => ({ e with s := { e.s with fences := e.s.fences ++ [e.fenceOf 3 x.toNat], nextId := e.s.nextId + 1 } }.done).fenceSettle e.key) ∧
  GatedGives (.fenceOpnd x) .load true (fun _ => True)
    (fun e => ({ e with s := { e.s with fences := e.s.fences ++ [e.fenceOf 4 x.toNat], nextId := e.s.nextId + 1 } }.done).fenceSettle e.key) ∧
  GatedGives (.fenceFlush x) .load true (fun _ => True)
    (fun e => ({ e with s := { e.s with fences := e.s.fences ++ [e.fenceOf 5 x.toNat], nextId := e.s.nextId + 1 } }.done).fenceSettle e.key) ∧
  GatedGives (.fenceEng x) .load true (fun _ => True)
    (fun e => ({ e with s := { e.s with fences := e.s.fences ++ [e.fenceOf 6 x.toNat], nextId := e.s.nextId + 1 } }.done).fenceSettle e.key) ∧
  GatedGives (.pft a h o) .load false (fun _ => True) (fun e =>
    { e with s := (lanesOf e.exec).foldl (fun s l => { e with s := s }.prefetch h.toNat (memAddr (e.v64 a l) o 128).toNat) e.s }.done)

/-- R300, R303, R320, R478: a barrier, semaphore or JDEC word whose record passes its checks sends one operation to the home unit and waits for the reply (`barrierHomeOp`, `semHomeOp`, `jdecHomeOp` apply it, `homeReplyArrival` ends the wait). A misaligned word traps.
The model's choices in it: notes/assumptions/28.md. -/
def Obligations.BarriersAndSemaphores : Prop :=
  ∀ d a b : BitVec 7,
  SendsHome (.barInit a b) 0 0 false a (fun e => e.s32 b) 0#7 ∧
  SendsHome (.barArrive d a) 0 1 true a (fun _ => 0#32) d ∧
  SendsHome (.barWait a b) 0 2 true a (fun e => e.s32 b) 0#7 ∧
  SendsHome (.barArrwait d a) 0 3 true a (fun _ => 0#32) d ∧
  SendsHome (.barExpect a b) 0 4 false a (fun e => e.s32 b) 0#7 ∧
  SendsHome (.barTrywait d a b) 0 5 true a (fun e => e.s32 b) d ∧
  SendsHome (.barWaitp a b) 0 6 true a (fun e => e.s32 b) 0#7 ∧
  SendsHome (.barDrop d a) 0 7 true a (fun _ => 0#32) d ∧
  SendsHome (.semInit a b) 1 0 false a (fun e => e.s32 b) 0#7 ∧
  SendsHome (.semP a) 1 1 true a (fun _ => 0#32) 0#7 ∧
  SendsHome (.semV a) 1 2 true a (fun _ => 0#32) 0#7 ∧
  SendsHome (.semTryp d a) 1 3 true a (fun _ => 0#32) d ∧
  SendsHome (.jdec d a) 2 1 true a (fun _ => 0#32) d

/-- R212, R217, R245: COPY, COPY.NP, GPOOL and COLL enter the queue of the core's engine, where there is room, and the A-stream waits for acceptance.
The model's choices in it: notes/assumptions/33.md. -/
def Obligations.EngineCommands : Prop :=
  ∀ d a b : BitVec 7,
  GatedGives (.copy d a b) .held true (fun e => e.s.queued (srcOf 1 (ceOf e.core)) < 64) (commandSent 0 (fun e => ceOf e.core) d a b) ∧
  GatedGives (.copyNp d a b) .held true (fun e => e.s.queued (srcOf 1 (ceOf e.core)) < 64) (commandSent 1 (fun e => ceOf e.core) d a b) ∧
  GatedGives (.gpool d a b) .held true (fun e => e.s.queued (srcOf 2 (gpeOf e.core)) < 32) (commandSent 2 (fun e => gpeOf e.core) d a b) ∧
  GatedGives (.coll d a b) .held true (fun e => e.s.queued (srcOf 3 (cleOf e.core)) < 16) (commandSent 3 (fun e => cleOf e.core) d a b)

/-- R218 to R221: FALLOC, FFREE and FQUOTA send one packet to an Avenue plane and wait for its reply; FFREE first waits for its release set; a request with
a size or a field out of range traps.
The model's choices in it: notes/assumptions/22.md, notes/assumptions/27.md, notes/assumptions/62.md. -/
def Obligations.AvenueWords : Prop :=
  ∀ d a b : BitVec 7,
  (∀ s e e' t, Issues (.falloc d a b) s e → e.gated .load false = some e' → avSizeOk (e'.s64 a) = true →
    avenueAsked e' (e'.s64 a) 0 d b ((e'.s64 a).toNat.testBit 61) = some t → exec (.falloc d a b) s = .next t) ∧
  (∀ s e e', Issues (.falloc d a b) s e → e.gated .load false = some e' → avSizeOk (e'.s64 a) = false →
    exec (.falloc d a b) s = e'.trap cAvRequest 0#64) ∧
  (∀ s e e' t, Issues (.ffree a) s e → e.gated .held true = some e' → e'.s.releaseSet e'.key 4 = [] →
    e'.s.barred e'.key e'.s.nextId = false → avenueAsked e' (e'.s64 a) 1 0#7 0#7 false = some t → exec (.ffree a) s = .next t) ∧
  (∀ s e e', Issues (.ffree a) s e → e.gated .held true = some e' → e'.s.releaseSet e'.key 4 ≠ [] ∨ e'.s.barred e'.key e'.s.nextId = true →
    exec (.ffree a) s = e'.hold 15 2) ∧
  (∀ s e e' t, Issues (.fquota d a) s e → e.gated .load false = some e' → avenueAsked e' (e'.s64 a) (if a.toNat = 127 then 3 else 2) d 0#7 false = some t →
    exec (.fquota d a) s = .next t)

/-- R320: SPAWN reads its record, which its tenant may spawn, and puts it into the launcher's rings once its release set has been performed. -/
def Obligations.Spawns : Prop :=
  ∀ (a : BitVec 7) s e e' e'' rec_ s', Issues (.spawn a) s e → e.gated .load true = some e' → (e'.s64 a).toNat % 32 = 0 →
    vaBad (e'.s64 a).toNat = false → isAvenueVa (e'.s64 a).toNat = false → e'.recordAt .store (e'.s64 a).toNat 32 true = some (e'', rec_) →
    e''.s.spawnOk rec_ e''.w.tenant e''.w.task = (true, s') → s'.lch.ringFull (contRecOf rec_).level = false → s'.releaseSet e''.key 3 = [] →
    s'.barred e''.key s'.nextId = false → exec (.spawn a) s = .next { e'' with s := (s'.dropReads e''.askerId).spawn rec_ e''.w.task }.done

/-- R225 to R227, R233 to R238: CALLO sends one request per active lane to the object's home; CREPLY sets replies, CDONE commits and answers, CABORT
faults the batch; outside a batch the three trap. -/
def Obligations.CombinerWords : Prop :=
  ∀ d a b : BitVec 7,
  GivesIf (.callo d a b) (fun e => e.exec = 0#32 ∧ e.w.batch = none) Env.done ∧
  (∀ s e e' e'' rec_, Issues (.callo d a b) s e → e.exec ≠ 0#32 → e.w.batch = none → e.gated .held true = some e' → (e'.s64 a).toNat % 64 = 0 →
    e'.recordAt .load (e'.s64 a).toNat 32 = some (e'', rec_) → calloAllowed e'' (combDescOf rec_) = true → (e''.w.cnt.getD 14 []).length < 63 →
    exec (.callo d a b) s = .next (calloSent e'' (combDescOf rec_) (e'.s64 a) d b).done) ∧
  -- outside a combiner wave the three COMB words are illegal, before every other check (R39, R234)
  (∀ s e, s.env? = some e → e.w.batch = none → exec (.creply b) s = e.trap cIllegal 0#64 ∧ exec .cdone s = e.trap cIllegal 0#64 ∧
    exec (.cabort a) s = e.trap cIllegal 0#64) ∧
  (∀ s e e' x, Issues (.creply b) s e → e.w.batch = some x → e.gated .load false = some e' → readable e' b (e'.w.preds.getD 0 0#32) →
    exec (.creply b) s = .next (replied (e'.found b (e'.w.preds.getD 0 0#32)) x (e'.w.preds.getD 0 0#32) b).done) ∧
  (∀ s e e' x s' ks, Issues .cdone s e → e.w.batch = some x → e.gated .load false = some e' →
    e'.s.commitXlat (e'.s.waveAsker e'.key e'.cs e'.w) x.scope x.commit [] = (.ok ks, s') →
    (∀ k ∈ ks, (commitFound e' s' ks).writeError k.1 1 = none ∧ (commitFound e' s' ks).writeLateIn k.1 (srcCore e'.core) = false ∧
      (commitFound e' s' ks).needsSpill k.1 [k.2] = false) → exec .cdone s = .next (batchCommitted e' (commitFound e' s' ks) x ks)) ∧
  (∀ s e e' x, Issues (.cabort a) s e → e.w.batch = some x → e.gated .load false = some e' →
    exec (.cabort a) s = .next (e'.s.faultBatch e'.key e'.w x ((e'.s32 a).toNat % 256)))

/-- R24, R27: a header whose clause is whole and legal, and whose WAIT flags are clear, issues its clause.
The model's choices in it: notes/assumptions/23.md, notes/assumptions/66.md. -/
def Obligations.ClauseHeaders : Prop :=
  ∀ (w : BitVec 12) (x y : BitVec 4) (l : BitVec 5) s v p b s', s.wave? s.cur.wave = some v → (v.stream s.cur.cs).tab.slot s.cur.slot = some p →
    s.atBoundary v s.cur.cs = true → p.pc.toNat + 8 + 4 * l.toNat ≤ v.codeHi.toNat →
    s.fetchCode s.cur.wave s.cur.cs v s.cur.slot p.pc p.exec (p.pc.toNat + 4) (4 * (l.toNat + 1)) = .inl (b, s') →
    (badWord 0 (wordsOf (l.toNat + 1) b) = none → (x.toNat < 12 ∨ x.toNat = 15) → (y.toNat < 12 ∨ y.toNat = 15) →
      s'.flagsMet v s.cur.cs w = true →
      exec (.clauseHeader w x y l) s =
        .next (s'.issueClause s.cur.wave s.cur.cs s.cur.slot p.pc x.toNat y.toNat (wordsOf (l.toNat + 1) b))) ∧
    (∀ i, badWord 0 (wordsOf (l.toNat + 1) b) = some i → exec (.clauseHeader w x y l) s =
        .next (s'.takeTrap s.cur.wave s.cur.cs s.cur.slot p.pc cClauseForm (p.pc + BitVec.ofNat 64 (4 + 4 * i)) p.exec 0)) ∧
    (badWord 0 (wordsOf (l.toNat + 1) b) = none → ¬((x.toNat < 12 ∨ x.toNat = 15) ∧ (y.toNat < 12 ∨ y.toNat = 15)) →
      exec (.clauseHeader w x y l) s = .next (s'.takeTrap s.cur.wave s.cur.cs s.cur.slot p.pc cIllegal 0#64 p.exec 0))

/-- R133 to R135, R471, R472: each MLOOP enters its loop into the engine queue; an illegal descriptor traps.
The model's choices in it: notes/assumptions/29.md, notes/assumptions/68.md, notes/assumptions/69.md. -/
def Obligations.MatrixLoops : Prop :=
  ∀ (d a b : BitVec 7) (z c q g : BitVec 1),
  Loops (.mloopBf16 d a b z q g) 0 (minorOf z 0#1 q g) d a b ∧
  Loops (.mloopF16 d a b z q g) 1 (minorOf z 0#1 q g) d a b ∧
  Loops (.mloopE4m3 d a b z c q g) 2 (minorOf z c q g) d a b ∧
  Loops (.mloopE5m2 d a b z c q g) 3 (minorOf z c q g) d a b ∧
  Loops (.mloopI8 d a b z q g) 4 (minorOf z 0#1 q g) d a b ∧
  Loops (.mloopCb4 d a b z c q g) 5 (minorOf z c q g) d a b ∧
  Loops (.mloopCb4bf d a b z c q g) 6 (minorOf z c q g) d a b

/-- R138 to R146: the other words of the matrix engine enter its queue.
The model's choices in it: notes/assumptions/29.md, notes/assumptions/68.md, notes/assumptions/69.md. -/
def Obligations.MatrixWords : Prop :=
  ∀ (d a : BitVec 7) (n w : BitVec 3) (c : BitVec 1),
  GivesIf (.mzero d) (fun e => e.engineFree ∧ descOk (e.s32 d) none = true)
    (fun e => (e.entered (.zero (e.s32 d)) [] [] (tileElems (e.s32 d)) none).done) ∧
  TrapsIf (.mzero d) (fun e => e.mayClaim = true ∧ descOk (e.s32 d) none = false) cMxAccRange (fun _ => 0#64) ∧
  (∀ s e e' key kind s', Issues (.mcb n a) s e → e.gated .load false = some e' → e'.engineFree → (e'.s64 a).toNat % 32 = 0 →
    e'.s.resolve (e'.s.waveAsker e'.key e'.cs e'.w) .load 99 (e'.s64 a).toNat = (.ok (.mem key) kind false, s') →
    (({ e' with s := s' } : Env).readsDone).engineFree →
    exec (.mcb n a) s = .next (({ e' with s := s' }.readsDone.entered (.mcb n.toNat (e'.s64 a) (.mem key) kind false) [(key, 32)] [] [] (some n.toNat)).done)) ∧
  -- MSTAT's destination is a late result that the engine writes
  GivesIf (.mstat d w c) Env.engineFree (fun e =>
    let e' := { e with s := e.s.newId.2 }.entered (.mstat e.s.nextId w.toNat (c == 1#1)) [] [] [] none
    { e' with w := { e'.w.clobber (.scalar e.cs d.toNat) 1#32 with late := e'.w.late ++ [({ id := e.s.nextId, cs := e.cs, dest := .scalar e.cs d.toNat, mask := 1#32, vals := Lanes.zero, clob := 0#32, fp := 0#32, flag := e.cl.sety, engine := true, done := false, pick := 0#32 } : Late)] } }.done) ∧
  Drains (.mdrainStoreF32 d a c) 0 d a (c == 1#1) ∧
  Drains (.mdrainStoreBf16 d a c) 1 d a (c == 1#1) ∧
  Drains (.mdrainStoreE4m3 d a c) 2 d a (c == 1#1) ∧
  Drains (.mdrainAddF32 d a c) 3 d a (c == 1#1) ∧
  Drains (.mdrainAddOrdered d a c) 4 d a (c == 1#1) ∧
  GatedGives (.msave a) .load false (fun e => e.engineFree ∧ (e.s64 a).toNat % 1024 = 0) (fun e => (e.entered (.save (e.s64 a) none) [] [] [] none).done) ∧
  GatedGives (.mrestore a) .load false (fun e => e.engineFree ∧ (e.s64 a).toNat % 1024 = 0) (fun e => (e.entered (.restore (e.s64 a)) [] [] [] none).done)


/-- R78, R196, R284, R293, R306, R417: a stream waits for registers or a time, ages, or takes a late result or a deferred trap.
The model's choices in it: notes/assumptions/49.md, notes/assumptions/53.md, notes/assumptions/54.md, notes/assumptions/96.md. -/
def Obligations.StreamEvents : Prop :=
  (∀ core r rest, Does (.vregGrant core) (fun s => (s.core core).vacq = r :: rest ∧ r.n ≤ (s.core core).freeBlocks.length) fun s =>
    ((s.setCore core { s.core core with vacq := rest }).grantBlocks r.wave r.n).finishWord r.wave r.cs
      (((s.wave? r.wave).bind fun w => w.whichWait r.cs fun x => match x with | .grant _ => true | _ => false).getD false) id) ∧
  (∀ wave i w l, Does (.longLatencyWrite wave i) (fun s => s.wave? wave = some w ∧ w.late.find? (fun x => x.id == i && !x.engine && !x.done) = some l)
    fun s => s.writeLate wave w l) ∧
  (∀ wave w d rest, Does (.deferredTrap wave) (fun s => s.wave? wave = some w ∧ w.deferred = d :: rest ∧ w.deferredReady = true ∧
      w.batch = none ∧ tabGet? s.aborts w.task = none)
    fun s => ((s.dropBarred wave d.op).updWave wave fun v => { v with deferred := rest }).takeTrap wave d.cs d.slot d.pc d.code d.addr d.lanes 2) ∧
  (∀ wave cs w t x, Does (.sleepWake wave cs) (fun s => s.wave? wave = some w ∧ t.toNat ≤ s.gtc.toNat ∧
      (∀ f : WaitFor → Bool, f (.sleep t) = true → w.whichWait cs f = some x)) fun s => s.finishWord wave cs x id) ∧
  (∀ wave cs w t, Does (.streamAges wave cs) (fun s => s.wave? wave = some w ∧ (w.stream cs).readySince = some t ∧ (w.stream cs).aged = false ∧
      t.toNat + 256 ≤ s.cycle ∧ s.atBoundary w cs = true ∧ (s.pickSplit wave cs w).isSome = true)
    fun s => ((s.updPort (coreOf wave) (portOf wave) fun p => { p with aged := p.aged ++ [(wave, cs)] }).setWave wave
      (w.updStream cs fun st => { st with aged := true })).count (srcCore (coreOf wave)) 0x108)

/-- R160, R172, R195, R197, R200, R204: an access in flight is performed at its home unit once what it waits for has been, an atomic's lanes on one word as one
run, and lands, or ends with an error; freed spill space tries a waiting write again.
The model's choices in it: notes/assumptions/6.md, notes/assumptions/19.md, notes/assumptions/55.md, notes/assumptions/86.md. -/
def Obligations.MemoryEvents : Prop :=
  (∀ i a key n signed ds, Does (.homeUnitRequest i) (fun s => s.flight.find? (fun a => a.id == i) = some a ∧ a.st = .waiting ∧ a.sent = none ∧
      s.settled a.after ∧ a.place = .mem key ∧ a.kind = .load n signed ds) fun s => (s.applyAccess a key).heldPrune) ∧
  (∀ i a key data rel, Does (.homeUnitRequest i) (fun s => s.flight.find? (fun a => a.id == i) = some a ∧ a.st = .waiting ∧ a.sent = none ∧
      s.settled a.after ∧ a.place = .mem key ∧ a.kind = .store data rel ∧ (rel = true → s.barred a.wave a.op = false) ∧
      s.writeLateIn key (srcCore a.core) = false) fun s => ((s.applyAccess a key).writeServed key (srcCore a.core)).heldPrune) ∧
  (∀ i a key m b v ds, Does (.homeUnitRequest i) (fun s => s.flight.find? (fun a => a.id == i) = some a ∧ a.st = .waiting ∧ a.sent = none ∧
      (∀ x ∈ s.mates a, s.settled x.after) ∧ a.place = .mem key ∧ a.kind = .atomic m b v ds ∧ s.writeLateIn key (srcCore a.core) = false)
    fun s => ((s.applyGroup a (s.mates a) key).writeServed key (srcCore a.core)).heldPrune) ∧
  (∀ i a n signed ds v w, Does (.loadLand i) (fun s => s.flight.find? (fun a => a.id == i) = some a ∧ a.st = .performed v ∧ a.kind = .load n signed ds ∧
      byEngine a.wave = false ∧ s.wave? a.wave = some w) fun s =>
    let s := ds.foldl (fun (s : State) d => match d with
      | .vec p => s.wroteVec a.core w p (BitVec.ofNat 32 (2 ^ a.lane))
      | .scalar _ _ => s) s
    (((s.dropAccess i).updWave a.wave fun w => w.landLane s.free s.cycle a.op a.lane ds (landWords a.kind v)).landCheck a.wave a.op).reap a.wave) ∧
  (∀ i a c w, Does (.loadError i) (fun s => s.flight.find? (fun a => a.id == i) = some a ∧ a.st = .failed c ∧ byEngine a.wave = false ∧
      (((s.dropAccess i).deferTrap a c).updWave a.wave fun w => w.endCross a.lane a.kind.dests).wave? a.wave = some w ∧ w.batch = none)
    fun s => (((s.dropAccess i).deferTrap a c).updWave a.wave fun w => w.endCross a.lane a.kind.dests).reap a.wave) ∧
  (∀ mc x, Does (.spillFreed mc) (fun s => s.spillWait = [x] ∧ mcOf x.key = mc) fun s => s.perform x.id) ∧
  (∀ mc, Does (.spillFreed mc) (fun s => ∀ x ∈ s.spillWait, mcOf x.key ≠ mc) id)

/-- R298 to R306, R320, R478: the home unit applies an operation once; its reply ends the wait; a flip wakes the waiters of a core whose phase it passes; a missed
promise traps.
The model's choices in it: notes/assumptions/28.md, notes/assumptions/92.md. -/
def Obligations.HomeEvents : Prop :=
  (∀ op h, Does (.barrierHomeOp op) (fun s => s.homeOp? op = some h ∧ h.cls = 0 ∧ h.reply = none ∧ s.behind h.wave (.mem h.key) 64 = false ∧
      s.writeLateIn h.key (srcCore (coreOf h.wave)) = false)
    fun s => (s.barApply h (s.tenantOf h.wave)).writeServed h.key (srcCore (coreOf h.wave))) ∧
  (∀ op h, Does (.semHomeOp op) (fun s => s.homeOp? op = some h ∧ h.cls = 1 ∧ h.reply = none ∧
      (h.minor = 1 → (s.waiters.any fun w => w.key == h.key && w.wave == h.wave) = false) ∧ s.behind h.wave (.mem h.key) 64 = false ∧
      s.writeLateIn h.key (srcCore (coreOf h.wave)) = false)
    fun s => (s.semApply h (s.tenantOf h.wave)).writeServed h.key (srcCore (coreOf h.wave))) ∧
  (∀ op h w, Does (.jdecHomeOp op) (fun s => s.homeOp? op = some h ∧ h.cls = 2 ∧ h.reply = none ∧ s.releaseSet h.wave 3 = [] ∧
      s.barred h.wave op = false ∧ s.behind h.wave (.mem h.key) 64 = false ∧ s.writeLateIn h.key (srcCore (coreOf h.wave)) = false ∧
      (s.findErrors h.key 64 (s.tenantOf h.wave) h.causal).readError h.key 64 = none ∧
      (s.findErrors h.key 64 (s.tenantOf h.wave) h.causal).wave? h.wave = some w) fun s =>
    let r := (s.findErrors h.key 64 (s.tenantOf h.wave) h.causal).joinDec h.key w.tenant w.task h.addr h.causal
    (r.2.replyHome op (r.1.getD 0#32) (if r.1.isSome then 0 else cPermission)).writeServed h.key (srcCore (coreOf h.wave))) ∧
  (∀ op h v c, Does (.homeReplyArrival op) (fun s => s.homeOp? op = some h ∧ h.reply = some (v, c)) fun s => s.homeReply h v c) ∧
  (∀ core key f, Does (.flipWake core key) (fun s => s.flips.find? (fun f => f.core == core && f.key == key) = some f) fun s =>
    let s' := ((s.waitersOf key).filter fun w => coreOf w.wave == core && phasePassed f.phase w.phase).foldl (fun s w => s.wakeWaiter w) s
    { s' with flips := s'.flips.erase f }) ∧
  (∀ wave w key phase addr t e, Does (.promisePass wave) (fun s => s.wave? wave = some w ∧ w.a.wait = some ⟨.barrier key phase true addr, t⟩ ∧
      w.trapping = none ∧ s.rd (key + 24) 8 ≠ 0 ∧ s.rd (key + 24) 8 ≤ s.lastGtc.toNat ∧ phasePassed (BitVec.ofNat 32 (s.rd (key + 8) 4)) phase = false ∧
      s.envAt wave false = some e) fun s =>
    let s' := { s with waiters := s.waiters.filter fun x => !(x.key == key && x.wave == wave) }.noteWaiters key 6 40
    (s'.wakeWord wave false false).takeTrap wave false e.cl.slot e.pc cPromiseMissed addr e.exec 0)

/-- R211 to R217, R242 to R253, R465: commands are accepted in order once their issuers' earlier accesses have been performed and their records are read, their
lines performed, their promises revised once passed or as the estimate says; a collective takes data, acknowledgements, end messages and a group's new
version.
The model's choices in it: notes/assumptions/33.md, notes/assumptions/34.md, notes/assumptions/73.md, notes/assumptions/77.md, notes/assumptions/88.md,
notes/assumptions/89.md, notes/assumptions/90.md. -/
def Obligations.CommandEvents : Prop :=
  (∀ cmd c w c' s', Does (.copyAccept cmd) (fun s => s.cmd? cmd = some c ∧ c.st = .issued ∧ c.kind ≤ 1 ∧ s.heldFor (.command cmd) = false ∧
      s.wave? c.wave = some w ∧ s.checkCopy cmd c w = (.inl c', s')) fun _ => s'.acceptCmd cmd c') ∧
  (∀ cmd c w k s', Does (.copyAccept cmd) (fun s => s.cmd? cmd = some c ∧ c.st = .issued ∧ c.kind ≤ 1 ∧ s.heldFor (.command cmd) = false ∧
      s.wave? c.wave = some w ∧ s.checkCopy cmd c w = (.inr (.trap k), s')) fun _ => s'.acceptTrap cmd c k) ∧
  (∀ cmd c w c' s', Does (.gpoolAccept cmd) (fun s => s.cmd? cmd = some c ∧ c.st = .issued ∧ c.kind = 2 ∧ s.heldFor (.command cmd) = false ∧
      s.wave? c.wave = some w ∧ s.checkPool cmd c w = (.inl c', s')) fun _ => s'.acceptCmd cmd c') ∧
  (∀ cmd c w c' x s', Does (.collAccept cmd) (fun s => s.cmd? cmd = some c ∧ c.st = .issued ∧ c.kind = 3 ∧ s.heldFor (.command cmd) = false ∧
      s.wave? c.wave = some w ∧ s.checkColl cmd c w = (.inl (c', x), s')) fun _ => s'.acceptColl cmd c' x) ∧
  -- a promise that has passed gets 25,000 ticks more (R465)
  (∀ cmd c key s', Does (.promiseRevise cmd) (fun s => s.cmd? cmd = some c ∧ c.st = .running ∧ c.left ≠ 0 ∧ c.kind ≤ 2 ∧
      s.heldFor (.line cmd promisePiece) = false ∧ s.barReady cmd promisePiece c = (.ok key, s') ∧ s'.rd (key + 24) 8 ≠ 0 ∧
      s'.rd (key + 24) 8 < s'.gtc.toNat) fun _ => s'.promised c key (min (s'.gtc.toNat + 25000) (2 ^ 64 - 1))) ∧
  -- one that has not passed may be raised to the engine's estimate (R465)
  (∀ cmd c key s', Does (.promiseRevise cmd) (fun s => s.cmd? cmd = some c ∧ c.st = .running ∧ c.left ≠ 0 ∧ c.kind ≤ 2 ∧
      s.heldFor (.line cmd promisePiece) = false ∧ s.barReady cmd promisePiece c = (.ok key, s') ∧ (c.kind = 1 → s'.rd (key + 24) 8 ≠ 0) ∧
      (s'.rd (key + 24) 8 = 0 ∨ s'.gtc.toNat ≤ s'.rd (key + 24) 8)) fun _ =>
    if Config.freeBit s'.free 7001 = true ∧ s'.rd (key + 24) 8 < s'.estimate.toNat then s'.promised c key s'.estimate.toNat else s') ∧
  -- a line of a copy or of the pool engine whose data are there is written and counted (R214)
  (∀ cmd piece c x s' s'', Does (.engineLinePerformed cmd piece) (fun s => s.lineRuns cmd piece c ∧ tabGet? s.colls cmd = none ∧
      ((c.aheadOf piece).foldl (fun s vas => s.walkAhead (s.cmdAsker cmd c) vas) s).lineData cmd piece c (c.lines.getD piece 0) = (.ok x, s') ∧
      s'.lineWrite cmd piece c x.1 = (.ok true, s'')) fun _ =>
    (((s''.dropReads (engineWave cmd)).dropHeld (.line cmd piece)).setCmd cmd { c with skipped := c.skipped + x.2 }).lineDone cmd piece) ∧
  (∀ cmd piece c x, Does (.engineLinePerformed cmd piece) (fun s => s.lineRuns cmd piece c ∧ tabGet? s.colls cmd = some x ∧ piece % 2 = 1)
    fun s => (s.walkAhead (s.cmdAsker cmd c) (((x.sendParts c (piece / 2 / x.stride)).drop (piece / 2 % x.stride + 1)).map Prod.fst)).collSendPart
      cmd piece c x) ∧
  (∀ cmd piece c x, Does (.engineLinePerformed cmd piece) (fun s => s.lineRuns cmd piece c ∧ tabGet? s.colls cmd = some x ∧ piece % 2 = 0)
    fun s => (s.walkAhead (s.cmdAsker cmd c) (((x.recvParts c).drop (piece / 2 + 1)).map Prod.fst)).collRecvLine cmd piece c x) ∧
  -- data for the live instance: kept and acknowledged; an instance of another kind of command there ends with COLL_GROUP
  (∀ i m cid x c, Does (.collDataArrival i) (fun s => s.collMsg? i (fun k => decide (k ≤ 1)) = some m ∧ s.liveColl m.cle m.group m.seq = some (cid, x) ∧
      x.version = m.version ∧ (s.dropMsg i).cmd? cid = some c ∧ m.key = x.key ∧ m.kind = 1) fun s =>
    let y := { x with heard := if x.heard.contains m.rank then x.heard else x.heard ++ [m.rank], got := x.got ++ [(m.rank, m.off, m.data)] }
    let s := { s.dropMsg i with colls := tabPut (s.dropMsg i).colls cid y }
    s.tell (x.ranks.getD m.rank (s.device, c.engine)) { x.msg c 2 with piece := m.piece }) ∧
  (∀ i m cid x c, Does (.collDataArrival i) (fun s => s.collMsg? i (fun k => decide (k ≤ 1)) = some m ∧ s.liveColl m.cle m.group m.seq = some (cid, x) ∧
      x.version = m.version ∧ (s.dropMsg i).cmd? cid = some c ∧ m.key ≠ x.key ∧ s.collLate m.cle m.group 1 = false)
    fun s => ((s.dropMsg i).collEndAll cid cCollGroup 0 cCollGroup).collServe m.cle m.group 1) ∧
  (∀ i m cid x, Does (.collAck i) (fun s => s.collMsg? i (fun k => k == 2) = some m ∧ s.liveColl m.cle m.group m.seq = some (cid, x) ∧
      x.version = m.version) fun s =>
    ({ s.dropMsg i with colls := tabPut (s.dropMsg i).colls cid { x with unacked := x.unacked.filter (· ≠ m.piece) } } : State).collSettle m.cle m.group) ∧
  (∀ i m cid x, Does (.collEndMessage i) (fun s => s.collMsg? i (fun k => decide (k ≥ 3)) = some m ∧ m.version ≤ (s.groupOf m.group).version ∧
      s.collLate m.cle m.group (endRow m.code) = false ∧ (s.dropMsg i).liveColl m.cle m.group m.seq = some (cid, x) ∧ x.version = m.version)
    fun s => ((s.dropMsg i).collEnd cid m.code 0).collServe m.cle m.group (endRow m.code)) ∧
  (∀ g, Does (.groupReload g) (fun s => (s.readGroup (g % 65536)).1.version = (s.groupOf (g % 65536)).version) fun s =>
    { (s.readGroup (g % 65536)).2 with groups := tabPut (s.readGroup (g % 65536)).2.groups (g % 65536) (s.readGroup (g % 65536)).1 })

/-- R115, R118, R119, R130, R142 to R148: the engine passes its claim, starts and completes its entries in order, steps its loops, reads a ticket; a poisoned
entry leaves unrun.
The model's choices in it: notes/assumptions/29.md, notes/assumptions/60.md, notes/assumptions/61.md. -/
def Obligations.MatrixEvents : Prop :=
  (∀ core b rest, Does (.matrixClaimPass core) (fun s => (s.engine core).holder = none ∧ (s.engine core).claim = b :: rest)
    fun s => s.setEngine core { s.engine core with holder := some b, claim := rest }) ∧
  (∀ core x rest s', Does (.engineEntryStart core) (fun s => (s.engine core).queue = x :: rest ∧ x.started = false ∧ x.held = false ∧
      s.headFound core = (false, s') ∧ s'.settled x.after ∧ savePoint (s'.engine core).queue = none) fun _ => s'.startEntry core x) ∧
  -- a poisoned entry leaves the queue unrun, and its wave takes POISON as a deferred trap (R412)
  (∀ core x rest s', Does (.engineEntryStart core) (fun s => (s.engine core).queue = x :: rest ∧ s.headFound core = (true, s')) fun _ => s') ∧
  (∀ core x rest, Does (.engineEntryComplete core) (fun s => (s.engine core).queue = x :: rest ∧ x.started = true) fun s => s.completeEntry core x) ∧
  (∀ core x rest clr d r a fs v, Does (.drainTicketRead core) (fun s => (s.engine core).queue = x :: rest ∧ x.op = .drain 4 clr d r ∧ x.started = true ∧
      x.phase = 0 ∧ s.engineFlight x = a :: fs ∧ a.st = .performed v ∧ bytesToNat v = drainTval r)
    fun s => (s.dropAccess a.id).drainElems core x 4 clr d r) ∧
  (∀ core x rest clr d r p, Does (.drainTicketRead core) (fun s => (s.engine core).queue = x :: rest ∧ x.op = .drain 4 clr d r ∧ x.started = true ∧
      x.phase = 0 ∧ s.engineFlight x = [] ∧ x.places.getLast? = some p)
    fun s => s.engineSend core x (.load 8 false []) (drainTicket r) p (drainScope r)) ∧
  (∀ core x rest l z, Does (.mloopKstepEnd core) (fun s => s.mxPartners core = [core] ∧ (s.engine core).queue = x :: rest ∧ x.op = .loop l z)
    fun s => (s.mxStep core).stopHere core)

/-- R393 to R407, R467, R468: the wait report. A gather or a snapshot writes the edges; a curfew that expires asks the late rank and reports. A readout asked for
while a gather runs waits for its end.
The model's choices in it: notes/assumptions/22.md, notes/assumptions/35.md. -/
def Obligations.WaitEvents : Prop :=
  (∀ v, Does (.waitSnapshot v) (fun s => s.waitRegs.gather = none ∧ 6 ≤ v.toNat % 32 ∧ v.toNat % 32 ≤ 20) fun s =>
    s.writeRegion (v.toNat / 4096 % 2 ^ 40 * 4096) (v.toNat % 32) 1 false (s.edges.map WaitEdge.bytes)) ∧
  -- a write while a gather runs waits for its end (R398, R402)
  (∀ v, Does (.waitSnapshot v) (fun s => s.waitRegs.gather.isSome = true) fun s => s.queueReadout (.snap v)) ∧
  (∀ v, Does (.waitGather v) (fun s => s.waitRegs.gather.isSome = true) fun s => s.queueReadout (.gather v)) ∧
  (∀ v, Does (.waitGather v) (fun s => s.dpr.getLsbD 2 = true ∧ s.waitRegs.gather = none ∧ 6 ≤ v.toNat / 2 ^ 59 ∧ v.toNat / 2 ^ 59 ≤ 20 ∧
      1 ≤ v.toNat % 512 ∧ v.toNat % 512 ≤ 256) fun s =>
    s.gatherStart (v.toNat / 4096 % 2 ^ 40 * 4096) (v.toNat / 2 ^ 59) (State.devList (v.toNat % 512) s (v.toNat / 4096 % 2 ^ 40 * 4096 + 64))) ∧
  (∀ dev g, Does (.gatherDeviceTimeout dev) (fun s => s.waitRegs.gather = some g ∧
      (g.waits.any fun w => w.1 == dev && decide (w.2.2.toNat + 1250000 ≤ s.gtc.toNat)) = true) fun s =>
    (s.setGather (some { g with waits := g.waits.filter fun w => w.1 != dev, unsent := g.unsent.filter fun q => q.1 != dev, edges := g.edges.filter fun e => e.1 != dev, partial_ := true })).gatherNext 8) ∧
  (∀ cmd c x, Does (.curfewExpiry cmd) (fun s => s.cmd? cmd = some c ∧ tabGet? s.colls cmd = some x ∧ x.reported = false ∧ x.deadline ≤ s.lastGtc.toNat ∧
      x.cfault = false ∧ (x.ranks.getD ((x.awaited c).headD x.rank) (s.device, c.engine)).1 = s.device) fun s =>
    let late := (x.awaited c).headD x.rank
    let p : Probe := { id := s.newId.1, txn := 0, to_ := x.ranks.getD late (s.device, c.engine), cle := c.engine, tenant := c.tenant, handle := c.causal, group := x.group, seq := x.seq, rank := x.rank,
                       late := late, nlate := (x.awaited c).length, cfault := false, armed := x.armed, expiry := s.gtc, reply := none }
    let t := { s.newId.2 with colls := tabPut s.newId.2.colls cmd { x with reported := true } }
    let e := t.lateEdge (x.ranks.getD late (s.device, c.engine)).2 x.group x.seq
    t.curfewReport p (if e.isEmpty then none else some e) false) ∧
  (∀ i p e, Does (.curfewProbeReply i) (fun s => s.waitRegs.probes.find? (fun p => p.id == i) = some p ∧ p.reply = some e)
    fun s => s.curfewReport p (if e.isEmpty then none else some e) false) ∧
  (∀ i p, Does (.curfewProbeTimeout i) (fun s => s.waitRegs.probes.find? (fun p => p.id == i) = some p ∧ p.reply = none ∧
      p.expiry.toNat + 1250000 ≤ s.gtc.toNat) fun s => s.curfewReport p none true) ∧
  (∀ v, Does (.curfewRingHead v) (fun _ => True) fun s => { s with waitRegs := { s.waitRegs with head := v.toNat } })

/-- R227 to R231, R239, R475: a CALLO's requests enter the home queue that has room, a batch forms in a reserved slot or is answered poisoned, and each reply
writes its lane and, with the last, once the wave's earlier loads have landed (R178), ends the CALLO.
The model's choices in it: notes/assumptions/55.md, notes/assumptions/56.md, notes/assumptions/82.md. -/
def Obligations.CombinerEvents : Prop :=
  (∀ op x r rs, Does (.calloRequestArrival op) (fun s => s.callSends.find? (fun x => x.op == op && !x.arrived) = some x ∧ s.settled x.after ∧
      x.dev = s.device ∧ x.reqs = r :: rs ∧ (r.dev = s.device → s.barred x.wave op = false) ∧
      s.tooLate 1 x.home (r.dev * 65536 + srcCore r.core) = false ∧
      (s.callSends.any fun y => y.arrived && y.home == x.home && y.dev == s.device) = false ∧ s.callRoom x.home x.reqs.length = true) fun s =>
    let t := s.serve 1 x.home (r.dev * 65536 + srcCore r.core)
    ({ t with callSends := t.callSends.filter fun y => y.op != op } : State).takeIn x.home x.reqs) ∧
  (∀ core slot r key kind s', Does (.batchForm core) (fun s => core < 320 ∧ [46, 47].find? (fun i => (s.wave? (48 * core + i)).isNone) = some slot ∧
      (s.core core).calls.find? (fun r => s.callDue r && !s.objectBusy core r.object) = some r ∧ vaBad r.handle.toNat = false ∧
      isAvenueVa r.handle.toNat = false ∧ s.walkResolve (unitAsker r.tenant) .load r.handle.toNat = (.ok (.mem key) kind false, s') ∧
      s'.readError key 64 = none ∧ (combDescOf (memGets s'.mem key 64)).poisoned = false)
    fun _ => (s'.formBatch core slot (combDescOf (memGets s'.mem key 64)) key r.object none).flushReplies) ∧
  (∀ core slot r key kind s', Does (.batchForm core) (fun s => core < 320 ∧ [46, 47].find? (fun i => (s.wave? (48 * core + i)).isNone) = some slot ∧
      (s.core core).calls.find? (fun r => s.callDue r && !s.objectBusy core r.object) = some r ∧ vaBad r.handle.toNat = false ∧
      isAvenueVa r.handle.toNat = false ∧ s.walkResolve (unitAsker r.tenant) .load r.handle.toNat = (.ok (.mem key) kind false, s') ∧
      s'.readError key 64 = none ∧ (combDescOf (memGets s'.mem key 64)).poisoned = true) fun _ =>
    (((s'.dropHeld (.batch core r.object.2)).takeCalls core (s'.dueReqs core r.object)).answer (s'.dueReqs core r.object)
      (combDescOf (memGets s'.mem key 64)).scope fun _ => callStatus 0 0 cObjectPoisoned).flushReplies) ∧
  (∀ op r w c, Does (.calloReplyLand op) (fun s => s.callReplies.find? (fun r => r.op == op) = some r ∧ s.wave? (48 * r.core + r.slot) = some w ∧
      w.ended = false ∧ w.callo.find? (fun c => c.op == op) = some c ∧ laneIn c.lanes r.lane = true ∧ s.loadsLandedTo (48 * r.core + r.slot) op = true) fun s =>
    let m : Word := BitVec.ofNat 32 (2 ^ r.lane)
    let left := c.lanes &&& ~~~m
    let v := (w.putVec c.dest m fun _ => r.val).putVec c.status m fun _ => r.status
    let t := ({ s with callReplies := s.callReplies.erase r }.wroteVec r.core w c.dest m).wroteVec r.core w c.status m
    let v := { v with callo := v.callo.filterMap fun (x : CallPend) =>
      if x.op = op then (if left = 0#32 then none else some { x with lanes := left }) else some x }
    ((t.acquireAt r.core r.scope).setWave (48 * r.core + r.slot) (if left = 0#32 ∧ v.failed.contains op = false then v.landOp op else v)).reap (48 * r.core + r.slot))

/-- R309 to R330: the launcher takes doorbells, lifts and reserves for records, dispatches, pre-empts, saves and restores blocks, and ends blocks, epochs and
tasks: a block's slots go back with its last wave, what else it holds with its last engine entry.
The model's choices in it: notes/assumptions/13.md, notes/assumptions/20.md, notes/assumptions/47.md, notes/assumptions/58.md, notes/assumptions/59.md,
notes/assumptions/94.md, notes/assumptions/95.md. -/
def Obligations.LauncherEvents : Prop :=
  (∀ v, Does (.doorbell v) (fun s => s.power.ready = true) fun s => s.doorbell (v.toNat % 2 ^ 17) (v.toNat / 2 ^ 32)) ∧
  (∀ r, Does .spawnRingCopy (fun s => s.lch.waiting.find? (fun r => !s.lch.ringFull r.entry.level) = some r)
    fun s => ({ s with lch := { s.lch with waiting := s.lch.waiting.filter fun x => x.id != r.id } } : State).ringPut r) ∧
  (∀ core, Does (.blockDispatch core) (fun _ => core < 320) fun s => s.dispatchFrom core s.dispatchOrder []) ∧
  (∀ i r q s', Does (.recordLift i) (fun s => s.lch.ready.find? (fun r => r.id == i) = some r ∧ s.queueEnt r.entry.queue = some (q, s') ∧ q.lift ≠ 0 ∧
      r.level < 19 ∧ (r.lifted + 1) * q.lift * 1024 ≤ (s'.gtc - r.since).toNat) fun _ =>
    { s' with lch := { s'.lch with ready := s'.lch.ready.map fun x => if x.id = i then { x with lifted := x.lifted + 1 } else x } }) ∧
  -- a launched block of a task that is not deterministic, with no gang, reserves the lowest core that no other record has (R314)
  (∀ i r t0 t, Does (.reservationWait i) (fun s => s.lch.ready.find? (fun r => r.id == i) = some r ∧ r.passed = some t0 ∧ s.task? r.entry.task = some t ∧
      r.reserved = [] ∧ s.waitTicks ≤ (s.gtc - t0).toNat ∧ r.saved = [] ∧ (r.entry.launcher = false ∨ t.gang = 1) ∧ t.det = false) fun s =>
    let cs := (((List.range 320).find? fun c => !s.reservedFor c r).map fun c => [c]).getD []
    { s with lch := { s.lch with ready := s.lch.ready.map fun x => if x.id = i then { x with reserved := cs } else x } }) ∧
  (∀ i r g k gs b t, Does (.preemptTrigger i) (fun s => s.lch.ready.find? (fun r => r.id == i) = some r ∧ s.mayPreempt r = true ∧
      (s.victimOrder r).find? (fun g => s.fitsWithout r g) = some g ∧ g = k :: gs ∧ tabGet? s.lch.blocks k = some b ∧ s.task? b.task = some t ∧
      t.commit = false) fun s =>
    { s with lch := { s.lch with victims := s.lch.victims ++ g.map fun k => ({ block := k, for_ := i } : Victim) } }) ∧
  (∀ i r g k gs b t, Does (.preemptTrigger i) (fun s => s.lch.ready.find? (fun r => r.id == i) = some r ∧ s.mayPreempt r = true ∧
      (s.victimOrder r).find? (fun g => s.fitsWithout r g) = some g ∧ g = k :: gs ∧ tabGet? s.lch.blocks k = some b ∧ s.task? b.task = some t ∧
      t.commit = true) fun s => s.abortTask b.task 0) ∧
  (∀ k b, Does (.preemptSave k) (fun s => tabGet? s.lch.blocks k = some b ∧ b.gang = [k] ∧ s.saveReady [(k, b)] = true ∧ s.mustPass k b = false ∧
      s.savePages k b ≤ s.saveFree)
    fun s =>
      let y := s.saveBlock k b
      let t := y.2.newId.2
      let x : Ready := { id := y.2.newId.1, entry := b.entry, since := y.2.gtc, lifted := 0, passed := none, reserved := [], saved := [k], front := true,
                         addr := 0 }
      { t with lch := { t.lch with saved := tabPut t.lch.saved k y.1, ready := x :: t.lch.ready } }) ∧
  (∀ k b, Does (.preemptSave k) (fun s => tabGet? s.lch.blocks k = some b ∧ b.gang = [k] ∧ s.saveReady [(k, b)] false = true ∧ s.mustPass k b = true)
    fun s => s.passVictim k b) ∧
  (∀ core r x, Does (.preemptRestore core) (fun s => core < 320 ∧ s.dispatchOrder.find? (fun r => (s.fit r core).1 != .no) = some r ∧
      (s.fit r core).1 = .restore ∧ s.savedCores r core = [x]) fun s =>
    let u := s.notePassed r
    let t := { u with nextId := u.nextId + 1, lch := { u.lch with ready := u.lch.ready.filter fun x => x.id != r.id,
                                                                  saved := u.lch.saved.filter fun y => !r.saved.contains y.1 } }
    t.restoreBlock x.1 u.nextId [u.nextId] x.2) ∧
  -- a block whose waves have ended gives back its slots; a spawned one counts one fewer in its task, and its join falls; what else it holds goes back
  -- with its last engine entry
  (∀ k b t, Does (.blockLeave k) (fun s => tabGet? s.lch.blocks k = some b ∧ b.waves ≠ [] ∧ (∀ w ∈ s.blockWaves b, w.ended = true ∧ w.blocks = []) ∧
      (b.waves.any s.waveBusy) = false ∧ b.entry.launcher = false ∧ (s.slotsFree k b).blockEntries b k = [] ∧
      ((s.slotsFree k b).releaseBlock k { b with waves := [] }).task? b.task = some t ∧ t.node = none) fun s =>
    ((s.slotsFree k b).releaseBlock k { b with waves := [] }).blockGone b t (((s.blockWaves b).getLast?.map fun w => w.causal).getD 0#64)) ∧
  (∀ k b t, Does (.blockLeave k) (fun s => tabGet? s.lch.blocks k = some b ∧ b.waves ≠ [] ∧ (∀ w ∈ s.blockWaves b, w.ended = true ∧ w.blocks = []) ∧
      (b.waves.any s.waveBusy) = false ∧ b.entry.launcher = false ∧ (s.slotsFree k b).blockEntries b k ≠ [] ∧
      (s.slotsFree k b).task? b.task = some t ∧ t.node = none) fun s =>
    (s.slotsFree k b).blockGone b t (((s.blockWaves b).getLast?.map fun w => w.causal).getD 0#64)) ∧
  (∀ k b, Does (.blockLeave k) (fun s => tabGet? s.lch.blocks k = some b ∧ b.waves = [] ∧ (s.dropUnpairable b k).blockEntries b k = [])
    fun s => (s.dropUnpairable b k).releaseBlock k { b with waves := [] }) ∧
  (∀ k t, Does (.detEpochApply k) (fun s => s.task? k = some t ∧ t.det = true ∧ t.passed t.applied = true ∧ s.detHeldIn k t.applied = false)
    fun s => (s.applyEpoch k t.applied).setTask k { t with applied := t.applied + 1 }) ∧
  (∀ k t, Does (.taskRetire k) (fun s => s.taskOver k t ∧ t.pubWaits = none ∧ s.publishUses k = []) fun s => (s.publish k).finishTask k 0 0) ∧
  (∀ k t, Does (.taskRetire k) (fun s => s.taskOver k t ∧ t.pubWaits = none ∧ s.publishUses k ≠ [])
    fun s => (s.publish k).setTask k { t with pubWaits := some (s.publishUses k) }) ∧
  (∀ k t ws, Does (.taskRetire k) (fun s => s.taskOver k t ∧ t.pubWaits = some ws ∧ ∀ u ∈ ws, s.usedBy u = false) fun s => s.finishTask k 0 0) ∧
  -- a task with no block left on a core ends with its code
  (∀ k c t, Does (.taskAbort k) (fun s => tabGet? s.aborts k = some c ∧ s.task? k = some t ∧ t.commit = false ∧ t.dead = false ∧
      (s.lch.blocks.filter fun b => b.2.task == k) = [] ∧ ((s.abortHeld k c).cmds.any fun c => c.2.task == k) = false) fun s =>
    ((((s.abortHeld k c).poolFree (((s.abortHeld k c).lch.shadows.filter fun x => x.task == k).map fun x => x.frame)).abortJoins t.tenant []).taskDropped k
      |>.setTask k { t with spawned := 0 }).finishTask k 0 c)

/-- R331 to R349, R474: page walks, of which a die serves 1,024, fault records, the two duties of the fault handler, each with a swap that fails where the entry
has changed, invalidations and replays.
The model's choices in it: notes/assumptions/36.md, notes/assumptions/63.md, notes/assumptions/83.md. -/
def Obligations.TranslationEvents : Prop :=
  -- a walk among the 1,024 of its die ends: the leaf fills its TLB and those of the misses that joined it; a held entry's walk replays it
  (∀ i w e level s', Does (.pageWalkDone i) (fun s => s.walks.find? (fun w => w.id == i) = some w ∧ s.walkRuns w = true ∧ w.held = none ∧
      ({ s with walks := s.walks.filter fun x => x.id != i } : State).walkFill
        { tte := w.tte, unit := w.core, tenant := w.tenant, tag := w.tag, id := 0, redirect := none } w.vpn = (.leaf e level, s')) fun _ =>
    (w.more.foldl (fun (s : State) (x : Bool × Nat × Nat) => s.tlbFill x.1 x.2.1 ⟨e, level, w.tenant, if pteVers e then x.2.2 else 0, w.vpn, 0⟩)
      s').wakeWhere fun x => match x with | .walk j => j == i | _ => false) ∧
  (∀ i w o, Does (.pageWalkDone i) (fun s => s.walks.find? (fun w => w.id == i) = some w ∧ s.walkRuns w = true ∧ w.held = some o) fun s =>
    ({ s with walks := s.walks.filter fun x => x.id != i } : State).replayAll (s.held.filter fun h => h.order == o)
      (fun a => a.addr.toNat / 65536 == w.vpn) none) ∧
  (∀ i w, Does (.pageWalkDone i) (fun s => s.walks.find? (fun w => w.id == i) = some w ∧ s.walkRuns w = false) id) ∧
  (∀ f rest w base n, Does .faultRecordWrite (fun s => s.faultQ = f :: rest ∧ s.faultRing = some (w, base, n) ∧
      0 < (s.faultTail + 2 ^ 32 - s.faultHead) % 2 ^ 32 ∧ (s.faultTail + 2 ^ 32 - s.faultHead) % 2 ^ 32 < 2 ^ n) fun s =>
    let t := s.regionPut w (base + 32 * (s.faultTail % 2 ^ n)) (f.bytes n)
    { t with faultQ := rest, faultTail := (t.faultTail + 1) % 2 ^ 32 }) ∧
  (∀ v, Does (.faultRingHead v) (fun _ => True) fun s => { s with faultHead := v.toNat }) ∧
  -- a silent fault of a lazy page: its frame is bound and zeroed, its entry swapped for a valid one, the page replayed; an entry that has changed is
  -- reported to the host (R338, R343)
  (∀ k f pa e s' f' u, Does (.faultServiceDuty k) (fun s => s.silent.find? (fun f => f.token == k && f.flags / 8 % 2 == 0) = some f ∧
      s.entryOf f.tenant (f.va.toNat / 65536) = some (pa, 3, e) ∧ e = f.entry ∧ f.code = cTranslation ∧ pteLazy e = true ∧ pteLoc e = 0 ∧
      s.bindCheck (pteFrame e) f.tenant (f.va.toNat / 65536) = some s' ∧
      ({ s' with silent := s'.silent.erase f } : State).zeroPage f e (pteFrame e) (f.va.toNat / 65536) 1 = (true, f', u) ∧
      u.writeLateIn pa (dutySource f.die) = false ∧ BitVec.ofNat 64 (u.rd pa 8) = e) fun _ =>
    ((((u.plainWrite pa (bytes8 (BitVec.ofNat 64 (e.toNat + 1)))).writeServed pa (dutySource f.die)).dropXlat
      (BitVec.ofNat 64 (f.tenant * 2 ^ 52 + f.va.toNat / 65536))).replayPage f.tenant (f.va.toNat / 65536))) ∧
  (∀ k f x, Does (.faultServiceDuty k) (fun s => s.silent.find? (fun f => f.token == k && f.flags / 8 % 2 == 0) = some f ∧
      s.entryOf f.tenant (f.va.toNat / 65536) = some x ∧ x.2.2 ≠ f.entry)
    fun s => ({ s with silent := s.silent.erase f } : State).reportSilent f) ∧
  -- a page's frame moves (R346, R347): first MOVING is set in the entry; when no access uses the old frame, it is copied and bound, the entry swapped,
  -- the held accesses replayed; an entry that has changed ends the migration
  (∀ tenant vpn frame pa e, Does (.migrationDuty tenant vpn frame) (fun s => s.entryOf tenant vpn = some (pa, 3, e) ∧ s.dpr.getLsbD 1 = true ∧
      s.moveOf tenant vpn = none ∧ pteV e = true ∧ pteMoving e = false ∧ pteLoc e = 0 ∧ pteVers e = false ∧
      (tabGetD s.pvt (pteFrame e) PvtEntry.free).bound = true ∧ (tabGetD s.pvt (pteFrame e) PvtEntry.free).tenant = tenant ∧
      (tabGetD s.pvt (pteFrame e) PvtEntry.free).vpn = vpn ∧ s.writeLateIn pa (dutySource s.migDie) = false ∧ BitVec.ofNat 64 (s.rd pa 8) = e) fun s =>
    let e' := BitVec.ofNat 64 (e.toNat + 2 ^ 11)
    let t := (s.plainWrite pa (bytes8 e')).writeServed pa (dutySource s.migDie)
    ({ t with lch := { t.lch with moves := t.lch.moves ++ [(tenant, vpn, e')] } } : State).dropXlat
      (BitVec.ofNat 64 (tenant % 1024 * 2 ^ 52 + vpn % 2 ^ 40))) ∧
  (∀ tenant vpn frame pa level e e', Does (.migrationDuty tenant vpn frame) (fun s => s.entryOf tenant vpn = some (pa, level, e) ∧
      s.dpr.getLsbD 1 = true ∧ s.moveOf tenant vpn = some e' ∧ e ≠ e') fun s => s.dropMove tenant vpn) ∧
  (∀ tenant vpn frame pa level e, Does (.migrationDuty tenant vpn frame) (fun s => s.entryOf tenant vpn = some (pa, level, e) ∧ s.dpr.getLsbD 1 = true ∧
      s.moveOf tenant vpn = some e ∧ (tabGetD s.pvt frame PvtEntry.free).bound = false ∧ s.frameExists frame false = true ∧
      ((s.usesOf (BitVec.ofNat 64 (tenant % 1024 * 2 ^ 52 + vpn % 2 ^ 40))).any s.stillUses) = false ∧
      s.frameVerifies (pteFrame e) tenant vpn (tabGetD s.pvt (pteFrame e) PvtEntry.free).version = true ∧
      s.writeLateIn pa (dutySource s.migDie) = false ∧ BitVec.ofNat 64 (s.rd pa 8) = e) fun s =>
    (((s.plainWrite pa (bytes8 (BitVec.ofNat 64 (e.toNat % 2 ^ 28 - 2 ^ 11 + frame * 2 ^ 28)))).writeServed pa (dutySource s.migDie)).frameRead
      (pteFrame e)).migrated tenant vpn frame e) ∧
  Does .trnInvalAll (fun _ => True) (fun s => s.invalidate 0x8000000000000000#64) ∧
  (∀ t, Does (.trnInvalTenant t) (fun _ => True) fun s => s.invalidate (BitVec.ofNat 64 (2 ^ 62 + t % 1024 * 2 ^ 52))) ∧
  (∀ t n v, Does (.trnInvalRange t n v) (fun _ => True) fun s =>
    s.invalidate (BitVec.ofNat 64 (t % 1024 * 2 ^ 52 + n % 4096 * 2 ^ 40 + v % 2 ^ 40))) ∧
  (∀ x rest, Does .invalidationDone (fun s => s.invals = x :: rest ∧ x.started = true ∧ (x.waits.any s.stillUses) = false)
    fun s => ({ s with invals := rest, invDone := (s.invDone + 1) % 2 ^ 31 } : State).unbindAfter s.invDone) ∧
  -- the token's own entry, then what joined behind it (R342)
  (∀ k, Does (.replayToken k) (fun _ => True) fun s => (s.tokenEntries k).foldl (fun (s : State) h => (s.replayAll [h] (fun _ => true) none).replayAll
    (s.held.filter fun x => x.joined.contains h.order && x.order != h.order) (fun a => a.behind.any fun b => b.1 == h.order) none) s) ∧
  (∀ tenant vpn, Does (.replayPage tenant vpn) (fun _ => True) fun s =>
    s.replayAll (s.held.filter fun h => h.tenant == tenant && h.onPage vpn) (fun a => a.onPage vpn) none) ∧
  (∀ tenant, Does (.replayTenant tenant) (fun _ => True) fun s => s.replayAll (s.held.filter fun h => h.tenant == tenant) (fun _ => true) none) ∧
  (∀ k c, Does (.replayFail k c) (fun _ => True) fun s =>
    let code := some (if 0x11 ≤ c ∧ c ≤ 0x1B then c else 0x11)
    (s.tokenEntries k).foldl (fun (s : State) h => (s.replayAll [h] (fun _ => true) code).replayAll
      (s.held.filter fun x => x.joined.contains h.order && x.order != h.order) (fun a => a.behind.any fun b => b.1 == h.order) code) s)

/-- R350 to R368: the security unit's commands, quotas, attestation reports and link sessions. A legal command completes with result 0 and its effect; one that
breaks a rule completes with the rule's code. An IDE key replaces that of its stream in the session's tenant.
The model's choices in it: notes/assumptions/11.md, notes/assumptions/22.md, notes/assumptions/37.md, notes/assumptions/83.md, notes/assumptions/84.md. -/
def Obligations.SecurityEvents : Prop :=
  (∀ c t, Does .keyInstall (fun s => s.keyCommand 1 c t ∧ (c.tenant = 0 ∨ t.isKeyed c.tenant = true)) fun _ => t.secDone c 3) ∧
  (∀ c t, Does .keyInstall (fun s => s.keyCommand 1 c t ∧ c.tenant ≠ 0 ∧ t.isKeyed c.tenant = false ∧ c.blob % 64 ≠ 0) fun _ => t.secDone c 2) ∧
  (∀ c t b u, Does .keyInstall (fun s => s.keyCommand 1 c t ∧ c.tenant ≠ 0 ∧ t.isKeyed c.tenant = false ∧ t.blobRead c b u ∧
      blobZeros b = false) fun _ => u.secDone c 1) ∧
  (∀ c t b u, Does .keyInstall (fun s => s.keyCommand 1 c t ∧ c.tenant ≠ 0 ∧ t.isKeyed c.tenant = false ∧ t.blobRead c b u ∧
      blobZeros b = true ∧ u.openBlob c.tenant b = none) fun _ => u.secDone c 2) ∧
  (∀ c t b u key, Does .keyInstall (fun s => s.keyCommand 1 c t ∧ c.tenant ≠ 0 ∧ t.isKeyed c.tenant = false ∧ t.blobRead c b u ∧
      blobZeros b = true ∧ u.openBlob c.tenant b = some key) fun _ =>
    ({ u with keyed := u.keyed ++ [c.tenant], sec := { u.sec with keys := tabPut u.sec.keys c.tenant key } } : State).secDone c 0) ∧
  (∀ c t, Does .keyRetire (fun s => s.keyCommand 2 c t ∧ c.tenant ≠ 0 ∧ t.tenantLive c.tenant = false) fun _ => (t.retire c.tenant).secDone c 0) ∧
  (∀ c t, Does .keyRetire (fun s => s.keyCommand 2 c t ∧ (c.tenant = 0 ∨ t.tenantLive c.tenant = true)) fun _ => t.secDone c 3) ∧
  (∀ c t e, Does .frameBind (fun s => s.keyCommand 3 c t ∧ e = tabGetD t.pvt c.src PvtEntry.free ∧ t.boundTo c.src c.tenant = true ∧
      t.isBound c.dst = false ∧ t.frameExists c.dst false = true ∧ t.frameVerifies c.dst e.tenant e.vpn e.version = true) fun _ =>
    let u := (t.frameRead c.dst).rebind c.dst e.tenant e.vpn
    let u := { u with pvt := tabPut u.pvt c.src { e with unbindAt := some u.nextInval } }
    (u.sysWrite (c.pa + 32) 8 u.version).secDone c 0) ∧
  (∀ c t, Does .frameUnbind (fun s => s.keyCommand 4 c t ∧ t.boundTo c.src c.tenant = true)
    fun _ => ({ t with pvt := tabErase t.pvt c.src } : State).secDone c 0) ∧
  (∀ c t, Does .frameUnbind (fun s => s.keyCommand 4 c t ∧ t.boundTo c.src c.tenant = false) fun _ => t.secDone c 4) ∧
  (∀ c t, Does .rawcopy (fun s => s.keyCommand 5 c t ∧ t.boundTo c.src c.tenant = true ∧ t.isBound c.dst = false ∧ t.frameExists c.dst false = true)
    fun _ => (t.rawCopy c.src c.dst).secDone c 0) ∧
  (∀ v t, Does (.avquotaWrite v) (fun s => (List.range 8).foldl (fun (o : Option State) p => o.bind fun x =>
      x.newTxn false p (parityOf 10 (v.toNat / 2 ^ 32 % 1024)) (quotaPacket s.gtc v) (.access [])) (some s) = some t) fun _ => t) ∧
  (∀ nonce ekey port tenant, Does (.attestationRequest nonce ekey port tenant) (fun s => nonce.length = 32 ∧ ekey.length = 1568 ∧ s.sec.leaf < 2 ^ 40 ∧
      s.sec.sessions.length < 64) fun s =>
    { s with sec := { s.sec with sessions := s.sec.sessions ++ [⟨s.sec.nextSession, port, tenant, Config.kemSecret s.sec.nextSession ekey⟩],
                                 nextSession := (s.sec.nextSession + 1) % 2 ^ 64,
                                 leaf := s.sec.leaf + 1,
                                 reports := s.sec.reports ++ [(s.report366 nonce ekey, Config.signature s.sec.leaf (s.report366 nonce ekey))] } }) ∧
  (∀ port code, Does (.ideTlpFail port code) (fun _ => True) fun s => s.emit (srcOf 7 (port % 2)) 0x071 0 0#64 (BitVec.ofNat 64 (code % 65536))) ∧
  -- the key replaces that of the stream of the same port, kind and number, in the session's tenant (R363)
  (∀ port m x, Does (.ideKmMessage port m) (fun s => s.sec.sessions.find? (fun x => x.num == m.session) = some x)
    fun s => { s with sec := { s.sec with
      ide := (s.sec.ide.filter fun z => !(z.port == port % 2 && z.kind == m.kind % 3 && z.num == m.num % 256)) ++
        [⟨port % 2, m.kind % 3, m.num % 256, x.tenant, m.key⟩] } })

/-- R437 to R444: a snapshot starts, or is refused, stages, drains its entries one at a time, or aborts; a group rebuild sends its list, applies it where it
arrives and settles.
The model's choices in it: notes/assumptions/22.md, notes/assumptions/42.md. -/
def Obligations.RecoveryEvents : Prop :=
  (∀ v n, Does (.snapshotStart v) (fun s => s.snap.state ≠ 1 ∧ s.dpr.getLsbD 6 = true ∧
      ({ s with snap := { Snap.reset with mode := v.getLsbD 57, list := v.toNat / 64 % 2 ^ 46 * 64 } } : State).snapCheck (v.toNat / 64 % 2 ^ 46 * 64) = some n)
    fun s => (List.range n).foldl (fun s i => s.snapMark i 0 0)
      ({ s with snap := { Snap.reset with mode := v.getLsbD 57, list := v.toNat / 64 % 2 ^ 46 * 64, state := 1 } } : State)) ∧
  (∀ v, Does (.snapshotStart v) (fun s => s.snap.state ≠ 1 ∧ s.dpr.getLsbD 6 = true ∧
      ({ s with snap := { Snap.reset with mode := v.getLsbD 57, list := v.toNat / 64 % 2 ^ 46 * 64 } } : State).snapCheck (v.toNat / 64 % 2 ^ 46 * 64) = none)
    fun s => ({ s with snap := { Snap.reset with mode := v.getLsbD 57, list := v.toNat / 64 % 2 ^ 46 * 64, state := 3 } } : State).sysWrite
      (v.toNat / 64 % 2 ^ 46 * 64 + 16) 1 3) ∧
  (∀ v, Does (.snapshotStart v) (fun s => s.snap.state = 1) id) ∧
  (∀ v, Does (.snapshotStart v) (fun s => s.snap.state ≠ 1 ∧ s.dpr.getLsbD 6 = false)
    fun s => { s with snap := { s.snap with mode := v.getLsbD 57, list := v.toNat / 64 % 2 ^ 46 * 64 } }) ∧
  Does .snapshotAbort (fun s => s.snap.state ≠ 1) id ∧
  -- an abort: every entry not yet drained or failed loses its SNAP bit and is marked failed, and the snapshot ends
  Does .snapshotAbort (fun s => s.snap.state = 1) (fun s =>
    let t := s.snapForget
    ((List.range t.snapCount).foldl (fun (s : State) i =>
      match s.snapEnt i with
      | some (e, s) => if e.st ≤ 1 then (if s.snap.mode then s else s.snapClear e.tenant e.src).snapMark i 3 0 else s
      | none => s) t).snapEnd) ∧
  -- staging of a page that a write waits for: copied, its SNAP bit cleared, marked staged; or failed; or still waiting
  (∀ i e t u, Does (.snapshotStageDone i) (fun s => s.stages i e t ∧ t.snapCopy i (t.snapDie e.tenant e.src) e.tenant e.src e.stage = (.ok, u))
    fun _ => ((u.dropHeld (.line snapCmd i)).snapClear e.tenant e.src).snapMark i 1 0) ∧
  (∀ i e t u c, Does (.snapshotStageDone i) (fun s => s.stages i e t ∧ t.snapCopy i (t.snapDie e.tenant e.src) e.tenant e.src e.stage = (.stop c, u))
    fun _ => (u.dropHeld (.line snapCmd i)).snapFail i e c) ∧
  (∀ i e t u, Does (.snapshotStageDone i) (fun s => s.stages i e t ∧ t.snapCopy i (t.snapDie e.tenant e.src) e.tenant e.src e.stage = (.sent, u))
    fun _ => u.snapFail i e cPermission) ∧
  (∀ i e t u, Does (.snapshotStageDone i) (fun s => s.stages i e t ∧ t.snapCopy i (t.snapDie e.tenant e.src) e.tenant e.src e.stage = (.wait, u))
    fun _ => u) ∧
  (∀ i, Does (.snapshotStageDone i) (fun s => s.snap.state ≠ 1 ∨ s.snap.mode = true ∨ i ≤ s.snap.cur) id) ∧
  -- the next entry in the list's order: drained from its stage or its source; sent to another module; failed; skipped
  (∀ e t u, Does .snapshotDrainDone (fun s => s.drains e t ∧ t.snap.sent = false ∧
      t.snapCopy t.snap.cur (t.snapDie e.tenant e.from_) e.tenant e.from_ e.dest = (.ok, u)) fun _ => u.snapDrained e) ∧
  (∀ e t u, Does .snapshotDrainDone (fun s => s.drains e t ∧ t.snap.sent = false ∧
      t.snapCopy t.snap.cur (t.snapDie e.tenant e.from_) e.tenant e.from_ e.dest = (.sent, u)) fun _ => { u with snap := { u.snap with sent := true } }) ∧
  (∀ e t u c, Does .snapshotDrainDone (fun s => s.drains e t ∧ t.snap.sent = false ∧
      t.snapCopy t.snap.cur (t.snapDie e.tenant e.from_) e.tenant e.from_ e.dest = (.stop c, u))
    fun _ => ((u.dropHeld (.line snapCmd t.snap.cur)).snapFail t.snap.cur e c).snapNext) ∧
  (∀ e t, Does .snapshotDrainDone (fun s => s.drains e t ∧ t.snap.sent = true ∧ (t.fab.txns.any fun x => x.what == .line snapCmd t.snap.cur) = false ∧
      t.snap.code = 0) fun _ => t.snapDrained e) ∧
  (∀ e t, Does .snapshotDrainDone (fun s => s.drains e t ∧ t.snap.sent = true ∧ (t.fab.txns.any fun x => x.what == .line snapCmd t.snap.cur) = false ∧
      t.snap.code ≠ 0) fun _ => (t.snapFail t.snap.cur e t.snap.code).snapNext) ∧
  (∀ e t, Does .snapshotDrainDone (fun s => s.snap.state = 1 ∧ s.snapEnt s.snap.cur = some (e, t) ∧ 2 ≤ e.st) fun _ => t.snapNext) ∧
  Does .snapshotDrainDone (fun s => s.snap.state ≠ 1) id ∧
  (∀ v h t n x u, Does (.groupRebuild v) (fun s => s.dpr.getLsbD 8 = true ∧ s.rebuild = none ∧ s.sysRead (v.toNat / 64 % 2 ^ 46 * 64) 64 = (.ok h, t) ∧
      1 ≤ fld (natToBytes 64 h) 0 2 ∧ fld (natToBytes 64 h) 0 2 ≤ 256 ∧ 1 ≤ fld (natToBytes 64 h) 2 2 ∧ fld (natToBytes 64 h) 2 2 ≤ 4096 ∧
      State.rebuildLen (fld (natToBytes 64 h) 2 2) t (v.toNat / 64 % 2 ^ 46 * 64) (rebuildBlocks (fld (natToBytes 64 h) 0 2)) = some n ∧
      t.sysRead (v.toNat / 64 % 2 ^ 46 * 64) n = (.ok x, u)) fun _ =>
    let devs := (List.range (fld (natToBytes 64 h) 0 2)).map fun i => fld (natToBytes n x) (64 + 2 * i) 2 % 4096
    devs.foldl (fun s d => s.rebuildSend u.newId.1 (natToBytes n x) d)
      ({ u.newId.2 with rebuild := some ⟨u.newId.1, v.toNat / 64 % 2 ^ 46 * 64, devs.map fun d => (d, u.gtc), false, false⟩ } : State)) ∧
  (∀ v, Does (.groupRebuild v) (fun s => s.dpr.getLsbD 8 = false ∨ s.rebuild.isSome = true) id) ∧
  (∀ v c t, Does (.groupRebuild v) (fun s => s.dpr.getLsbD 8 = true ∧ s.rebuild = none ∧
      s.sysRead (v.toNat / 64 % 2 ^ 46 * 64) 64 = (.error c, t)) fun _ => t) ∧
  (∀ dev, Does (.rebuildListArrival dev) (fun s =>
      ((s.rebuildIn.filter fun r => r.pkt.srcDev == dev).mergeSort (fun a b => decide (a.off ≤ b.off))) = []) id) ∧
  (∀ dev r rs, Does (.rebuildListArrival dev) (fun s => (s.rebuildIn.filter fun r => r.pkt.srcDev == dev).mergeSort (fun a b => decide (a.off ≤ b.off)) = r :: rs ∧
      ((r :: rs).flatMap fun r => r.pkt.data).length < r.total) id) ∧
  (∀ dev r rs, Does (.rebuildListArrival dev) (fun s => (s.rebuildIn.filter fun r => r.pkt.srcDev == dev).mergeSort (fun a b => decide (a.off ≤ b.off)) = r :: rs ∧
      r.total ≤ ((r :: rs).flatMap fun r => r.pkt.data).length ∧
      ((rebuildNums (fld ((r :: rs).flatMap fun r => r.pkt.data) 2 2) (((r :: rs).flatMap fun r => r.pkt.data).drop
        (rebuildBlocks (fld ((r :: rs).flatMap fun r => r.pkt.data) 0 2)))).any fun g => (List.range 16).any fun cle => s.collLate cle g 0) = false) fun s =>
    let b := (r :: rs).flatMap fun r => r.pkt.data
    let x := State.rebuildApply (fld b 2 2) s (b.drop (rebuildBlocks (fld b 0 2))) 0
    (r :: rs).foldl (fun (s : State) r => s.rebuildAck r.pkt x.1)
      ({ x.2 with rebuildIn := x.2.rebuildIn.filter fun r => r.pkt.srcDev != dev } : State)) ∧
  (∀ dev r, Does (.rebuildAckTimeout dev) (fun s => s.rebuild = some r ∧
      (r.waits.any fun w => w.1 == dev && decide ((s.gtc - w.2).toNat ≥ 1250000)) = true) fun s =>
    ({ s with rebuild := some { r with waits := r.waits.filter fun w => !(w.1 == dev && decide ((s.gtc - w.2).toNat ≥ 1250000)), missed := true } } :
      State).rebuildSettle) ∧
  (∀ dev, Does (.rebuildAckTimeout dev) (fun s => ∀ r, s.rebuild = some r →
      (r.waits.any fun w => w.1 == dev && decide ((s.gtc - w.2).toNat ≥ 1250000)) = false) id)

/-- R369 to R392, R408 to R413, R479: errors are logged and injected; events move from their sources through the hubs and Dusk to the host's ring; traces are
written; time follows PTP; the counters count. An event leaves its source once its tick is over.
The model's choices in it: notes/assumptions/40.md, notes/assumptions/41.md, notes/assumptions/85.md, notes/assumptions/96.md. -/
def Obligations.RecorderEvents : Prop :=
  (∀ log chan loc u, Does (.errorReport log chan loc u) (fun _ => logChannels log chan = true) fun s =>
    let u := u && log != 3
    let t := (s.report log chan loc u false (u && log == 0) 0 0#64).nearError log chan loc
    if u then t.uncorrectable log chan loc else t) ∧
  (∀ log v, Does (.errorLogHead log v) (fun _ => log < 7) fun s =>
    { s with errs := tabPut s.errs log { tabGetD s.errs log ErrLog.reset with head := v.toNat } }) ∧
  (∀ v, Does (.errorInjectArm v) (fun _ => True) fun s =>
    { s with inj := { s.inj with arm := v.getLsbD 31 && v.toNat / 2 ^ 27 % 8 != 7, uncorr := v.getLsbD 30, log := v.toNat / 2 ^ 27 % 8,
                                 channel := v.toNat % 65536 } }) ∧
  (∀ v, Does (.hostRingHead v) (fun _ => True) fun s => { s with evr := { s.evr with hostHead := v.toNat } }) ∧
  -- the oldest event goes first, of events of one tick the one of the lowest source, once its tick is over (R378)
  (∀ x, Does .eventHandoff (fun s => firstHanded s.evq = some x ∧ x.gtc = s.gtc) id) ∧
  (∀ x, Does .eventHandoff (fun s => firstHanded s.evq = some x ∧ x.gtc ≠ s.gtc ∧ x.source ≠ srcOf 11 0)
    fun s => ({ s with evq := s.evq.erase x } : State).hubTake (dieOfSource x.source) x) ∧
  (∀ ch x rest, Does (.duskDrain ch) (fun s => (ch = 1 ∨ ch = 3) ∧ s.evr.holdHubs = false ∧ (ch = 1 → s.evr.mgmt = []) ∧
      (s.hub (if ch = 1 then 0 else 2)).buf = x :: rest ∧ (s.hub ((if ch = 1 then 0 else 2) + 1)).buf = [])
    fun s => s.drainHub ch (if ch = 1 then 0 else 2)) ∧
  (∀ w base n, Does .traceDrainCopy (fun s => s.drainRing = some (w, base, n) ∧ s.dpr.getLsbD 7 = true ∧
      max s.evr.hostNext (s.evr.wptr - duskSlots) < s.evr.wptr ∧ (s.evr.hostTail + 2 ^ 32 - s.evr.hostHead) % 2 ^ 32 < 2 ^ n) fun s =>
    let i := max s.evr.hostNext (s.evr.wptr - duskSlots)
    let u := s.duskFound i
    let t := u.regionPut w (base + 32 * (u.evr.hostTail % 2 ^ n)) (u.duskBytes i)
    { t with evr := { t.evr with hostTail := (t.evr.hostTail + 1) % 2 ^ 32, hostNext := i + 1 } }) ∧
  (∀ wave cs c, Does (.traceChunkWrite wave cs) (fun s => (s.traceOut.find? fun c => c.wave == wave && c.cs == cs).bind
      (fun c => s.traceOut.find? fun x => x.who == c.who && x.cs == c.cs) = some c) fun s => s.chunkWrite c) ∧
  (∀ src ahead ps, Does (.ptpMessage src ahead ps) (fun s => src ≠ 0 ∧ s.evr.timeCtl.toNat % 4 = src ∧ (s.evr.stepped = true ∨ ahead = true ∨ ps < 800))
    fun s => { s with evr := { s.evr with timeCtl := setTimeCtl s.evr.timeCtl (offsetField ahead ps) (decide (ps ≤ 100000)),
                                          stepped := s.evr.stepped || decide (ps ≤ 100000) } }) ∧
  (∀ n, Does (.coreCycles n) (fun _ => True) fun s =>
    let u := ((s.cyclesCounted.passTicks n).logReports).graphsTested
    let t : State := { u with cycle := u.cycle + 1, inCycle := [], evr := { u.evr with counted := [] } }
    ({ t with waves := t.waves.map fun x => (x.1, { x.2 with a := t.readyNow x.1 x.2 false, c := t.readyNow x.1 x.2 true }) } : State).streamsAge)

/-- R423 to R435, R480: flits, NAKs, lane failures, training, keys, requests, replies, timers and the plane map: a good flit is taken, any other asks for a
replay, and a write of the map while a fence runs waits.
The model's choices in it: notes/assumptions/22.md, notes/assumptions/38.md, notes/assumptions/78.md. -/
def Obligations.FabricEvents : Prop :=
  -- a flit whose bits and authentication are good and whose number is the next is taken; one with a bad CRC or a form that does not exist, one that fails its
  -- authentication and one out of sequence are not, and the sender is asked for the flits after the last one taken (R427, R429); the 16th failure of
  -- authentication in a row takes the link down (R362)
  (∀ n b c f g, n < 16 → Does (.flitReceive n b c true) (fun s => 2 ≤ (s.link n).state ∧ (s.link n).state ≤ 4 ∧ (s.link n).keyed = true ∧
      flitOf (b ++ bytes4 c) = some f ∧ (s.link n).opened f = some g ∧ g.kind ≠ .idle ∧ g.seq = ((s.link n).got + 1) % 4096)
    fun s => (s.flitAck n g).flitTake n g) ∧
  (∀ n b c f g, n < 16 → Does (.flitReceive n b c true) (fun s => 2 ≤ (s.link n).state ∧ (s.link n).state ≤ 4 ∧ (s.link n).keyed = true ∧
      flitOf (b ++ bytes4 c) = some f ∧ (s.link n).opened f = some g ∧ g.kind ≠ .idle ∧ g.seq ≠ ((s.link n).got + 1) % 4096 ∧
      2048 ≤ ((s.link n).got + 4096 - g.seq) % 4096) fun s => (s.flitAck n g).flitBad n) ∧
  (∀ n b c fec, n < 16 → Does (.flitReceive n b c fec) (fun s => 2 ≤ (s.link n).state ∧ (s.link n).state ≤ 4 ∧ (fec = false ∨ flitOf (b ++ bytes4 c) = none))
    fun s => (s.setLink n { s.link n with crcFails := (s.link n).crcFails + 1 }).flitBad n) ∧
  (∀ n b c f, n < 16 → Does (.flitReceive n b c true) (fun s => 2 ≤ (s.link n).state ∧ (s.link n).state ≤ 4 ∧ (s.link n).keyed = true ∧
      flitOf (b ++ bytes4 c) = some f ∧ (s.link n).opened f = none ∧ (s.link n).authFails < 15)
    fun s => (s.setLink n { s.link n with crcFails := (s.link n).crcFails + 1, authFails := (s.link n).authFails + 1 }).flitBad n) ∧
  (∀ n b c f, n < 16 → Does (.flitReceive n b c true) (fun s => 2 ≤ (s.link n).state ∧ (s.link n).state ≤ 4 ∧ (s.link n).keyed = true ∧
      flitOf (b ++ bytes4 c) = some f ∧ (s.link n).opened f = none ∧ 15 ≤ (s.link n).authFails)
    fun s => (s.setLink n { s.link n with crcFails := (s.link n).crcFails + 1, authFails := 0 }).linkDown n) ∧
  (∀ n a, n < 16 → Does (.nakReceive n a) (fun s => 2 ≤ (s.link n).state ∧ (s.link n).state ≤ 4) fun s => s.nak n (a % 4096)) ∧
  (∀ n x, n < 16 → Does (.laneFail n x) (fun s => (s.link n).state = 2 ∧
      (halfOk (BitVec.ofNat 16 (s.link n).failed ||| x.setWidth 16).toNat false = true ∨ halfOk (BitVec.ofNat 16 (s.link n).failed ||| x.setWidth 16).toNat true = true))
    fun s =>
      let f := (BitVec.ofNat 16 (s.link n).failed ||| x.setWidth 16).toNat
      let t := (s.setLink n { s.link n with failed := f }).linkEvent n 0x062 f
      (t.setLink n { t.link n with state := 1, trainSince := t.gtc }).moveQueue n) ∧
  (∀ n, n < 16 → Does (.linkTrainDone n) (fun s => (s.link n).state = 1 ∧ s.dpr.getLsbD 4 = false) fun s => s.setLink n { s.link n with state := 5 }) ∧
  (∀ n, n < 16 → Does (.linkTrainDone n) (fun s => (s.link n).state = 1 ∧ s.dpr.getLsbD 4 = true ∧ halfOk (s.link n).failed false = true)
    fun s => (s.linkHalf n false).linkReplay n) ∧
  (∀ n, n < 16 → Does (.linkTrainTimeout n) (fun s => ((s.link n).state = 1 ∨ (s.link n).state = 5) ∧ 1250000 ≤ (s.gtc - (s.link n).trainSince).toNat)
    fun s => (s.setLink n (s.link n).restart).linkDown n) ∧
  (∀ n x, n < 16 → Does (.linkCmd16 n x) (fun s => ((s.link n).state = 0 ∨ (s.link n).state = 3 ∨ (s.link n).state = 4) ∧ x.toNat % 65536 = 0)
    fun s => ((s.setLink n { s.link n with failed := 0, state := 2 }).linkEvent n 0x065 16).linkReplay n) ∧
  (∀ n x, n < 16 → Does (.linkCmdLow n x) (fun _ => True) fun s => s.linkCmdHalf n false (x.toNat % 65536)) ∧
  (∀ n x, n < 16 → Does (.linkCmdHigh n x) (fun _ => True) fun s => s.linkCmdHalf n true (x.toNat % 65536)) ∧
  (∀ n, n < 16 → Does (.linkKeyAgree n) (fun s => 2 ≤ (s.link n).state ∧ (s.link n).state ≤ 4 ∧ (s.link n).keyed = false)
    fun s => s.setLink n ((s.link n).agree n)) ∧
  (∀ n, n < 16 → Does (.linkRekey n) (fun s => (s.link n).keyed = true)
    fun s => (s.setLink n (s.link n).rekey).linkEvent n 0x06B (1 - (s.link n).keySlot)) ∧
  -- a request that is not late and has no key in the filter is executed (R433)
  (∀ n p t, Does .fabricRequestArrival (fun s => s.nextRequest = some (n, p) ∧ s.resumes p = false ∧
      (p.unlocked = true ∨ (s.gtc - p.sent).toInt ≤ 2000000) ∧
      s.fab.filter.find? (fun x => x.1 == pktKey p) = none ∧ s.fab.filter.length < 262144 ∧ (s.takePkt (n, p)).execRequest n p = some t) fun _ => t) ∧
  -- one whose key is being executed is dropped, one whose key is done is answered again (R433)
  (∀ n p x, Does .fabricRequestArrival (fun s => s.nextRequest = some (n, p) ∧ s.resumes p = false ∧
      (p.unlocked = true ∨ (s.gtc - p.sent).toInt ≤ 2000000) ∧ s.fab.filter.find? (fun x => x.1 == pktKey p) = some x ∧ x.2.1 = false)
    fun s => s.takePkt (n, p)) ∧
  (∀ n p x, Does .fabricRequestArrival (fun s => s.nextRequest = some (n, p) ∧ s.resumes p = false ∧
      (p.unlocked = true ∨ (s.gtc - p.sent).toInt ≤ 2000000) ∧ s.fab.filter.find? (fun x => x.1 == pktKey p) = some x ∧ x.2.1 = true)
    fun s => (s.takePkt (n, p)).duplicate n p x.2.2) ∧
  (∀ n p x, Does .fabricReplyArrival (fun s => s.fab.inbox.find? (fun p => isReply p.2) = some (n, p) ∧ p.op = .busy ∧
      s.fab.txns.find? (fun x => x.pkt.src == p.src && x.pkt.dst == p.srcDev && x.pkt.xtag == p.xtag && x.pkt.sent == p.sent) = some x) fun s =>
    let t := s.takePkt (n, p)
    { t with fab := t.fab.updTxn x.id fun x => { x with busy := some t.gtc } }) ∧
  (∀ n p x, Does .fabricReplyArrival (fun s => s.fab.inbox.find? (fun p => isReply p.2) = some (n, p) ∧ p.op ≠ .busy ∧
      s.fab.txns.find? (fun x => x.pkt.src == p.src && x.pkt.dst == p.srcDev && x.pkt.xtag == p.xtag && x.pkt.sent == p.sent) = some x ∧
      ((s.takePkt (n, p)).replied x p).avPending x = false)
    fun s => (s.takePkt (n, p)).replied x p) ∧
  Does .filterKeyExpire (fun _ => True) (fun s =>
    { s with fab := { s.fab with filter := s.fab.filter.filter fun x => decide ((s.gtc - BitVec.ofNat 64 x.1.2.2.2).toInt < 2500000) } }) ∧
  (∀ k t, Does (.e2eTimerExpiry k) (fun s => s.fab.txns.find? (fun t => t.id == k) = some t ∧ s.txnDue t = true ∧ s.txnDead t = true)
    fun s => s.failTxn t) ∧
  (∀ k t, Does (.e2eTimerExpiry k) (fun s => s.fab.txns.find? (fun t => t.id == k) = some t ∧ s.txnDue t = true ∧ s.txnDead t = false ∧ t.relaxed = false)
    fun s =>
      let u := s.linkEvent t.link 0x066 (t.pkt.xtag + t.pkt.dst % 4096 * 65536 + t.attempts % 16 * 2 ^ 28 + t.pkt.sent.toNat % 2 ^ 32 * 2 ^ 32)
      ({ u with fab := u.fab.updTxn t.id fun t => { t with attempts := t.attempts + 1 } } : State).resendTxn t true) ∧
  (∀ k t b, Does (.busyResend k) (fun s => s.fab.txns.find? (fun t => t.id == k) = some t ∧ t.busy = some b ∧ 2500 ≤ (s.gtc - b).toNat ∧ s.txnDead t = false)
    fun s => s.resendTxn t false) ∧
  (∀ v, Does (.planeMapWrite v) (fun s => s.fab.fence = none) fun s => s.mapApply v) ∧
  -- while a fence runs a write waits for its end (R431)
  (∀ v, Does (.planeMapWrite v) (fun s => s.fab.fence.isSome = true) fun s => { s with fab := { s.fab with mapWait := s.fab.mapWait ++ [some v] } }) ∧
  (∀ v m d, Does .mapFenceDone (fun s => s.fab.fence = some (v, m, d) ∧ (s.fab.txns.any fun t => !t.held && s.fab.fenced t.plane) = false) fun s =>
    State.mapGoOn s.fab.mapWait (({ s with fab := { s.fab with fence := none, mapVersion := v, map := m, dead := d, mapWait := [] } } : State).emit (srcOf 11 0)
      0x06A 0 0#64 (BitVec.ofNat 64 (v + m * 2 ^ 32)))) ∧
  (∀ p, p < 8 → Does (.planeDead p) (fun s => (s.linkEvent (2 * p) 0x069 p).fab.deadPlane p = true ∧ (s.linkEvent (2 * p) 0x069 p).dpr.getLsbD 5 = false)
    fun s => s.linkEvent (2 * p) 0x069 p)

/-- R356, R447 to R458: host requests, resets, limits of power and heat, and writes of registers. A reset asked for in a boot waits for its end.
The model's choices in it: notes/assumptions/39.md, notes/assumptions/43.md, notes/assumptions/44.md, notes/assumptions/45.md, notes/assumptions/46.md. -/
def Obligations.HostAndPowerEvents : Prop :=
  (∀ port posted addr n data t, Does (.hostBar2PaRequest port posted addr n data) (fun s => s.power.ready = true ∧ isTlp addr n = true ∧
      (posted = true → data.length = n) ∧ addr < hbmBytes ∧ s.sysCheck addr = some t) fun _ => t.hostAt port addr 0 posted n data) ∧
  (∀ port posted addr n data, Does (.hostBar2PaRequest port posted addr n data) (fun s => s.power.ready = true ∧
      (isTlp addr n = false ∨ hbmBytes ≤ addr)) fun s => s.hostAnswerIf posted port 1) ∧
  (∀ port pasid posted va n data key kind t, Does (.hostBar2PasidRequest port pasid posted va n data) (fun s => s.power.ready = true ∧
      isTlp va n = true ∧ (posted = true → data.length = n) ∧ s.pasidOk port pasid = true ∧ va < 0xFE000000000000 ∧
      s.translateNow (hostAsker port pasid) (if posted then .store else .load) 5 va = (.ok (.mem key) kind false, t))
    fun _ => t.hostAt port key pasid posted n data) ∧
  (∀ port p addr op n a b key kind disc t, Does (.hostAtomicop port (some p) addr op n a b) (fun s => s.power.ready = true ∧ op ≤ 2 ∧ (n = 4 ∨ n = 8) ∧
      addr % n = 0 ∧ s.pasidOk port p = true ∧ addr < 0xFE000000000000 ∧ s.hostBoth (hostAsker port p) addr = (.ok (.mem key) kind disc, t) ∧
      t.hostSysAtom port p addr = true)
    fun _ => t.hostAtomicAt port key p op n a b) ∧
  (∀ port k, Does (.hostEarlyAccess port k) (fun s => s.power.ready = false ∧ k = 0) fun s => s.hostAnswer port 3 []) ∧
  (∀ port k, Does (.hostEarlyAccess port k) (fun s => s.power.ready = false ∧ k = 1) fun s => s.hostAnswer port 1 []) ∧
  (∀ port k, Does (.hostEarlyAccess port k) (fun s => s.power.ready = false ∧ 2 ≤ k) State.countEarly) ∧
  (∀ ok, Does (.powerOn ok) (fun _ => True) fun s => ({ s.resetKeep with power := { Power.reset with devWait := false } } : State).boot ok) ∧
  (∀ ok, Does (.warmReset ok) (fun s => s.booting = false) fun s => (s.logReports.warmKeep 1).boot ok) ∧
  (∀ ok, Does (.firmwareReload ok) (fun s => s.booting = false) fun s => (s.logReports.warmKeep 4).boot ok) ∧
  -- a reset asked for while a boot waits comes after it
  (∀ ok, Does (.warmReset ok) (fun s => s.booting = true) fun s => { s with power := { s.power with pending := s.power.pending ++ [(1, ok)] } }) ∧
  (∀ ok, Does (.firmwareReload ok) (fun s => s.booting = true) fun s => { s with power := { s.power with pending := s.power.pending ++ [(4, ok)] } }) ∧
  Does .flrH0 (fun _ => True) (fun s => s.flr 0 2) ∧
  Does .flrH1 (fun _ => True) (fun s => s.flr 1 3) ∧
  (∀ t, Does (.thermalTrip t) (fun _ => 115 ≤ t) fun s => { s with powered := false, evr := { s.evr with dusk := [] } }) ∧
  Does .powerRemoval (fun _ => True) (fun s => { s with powered := false, evr := { s.evr with dusk := [] } }) ∧
  (∀ die t level, die < 4 → Does (.junctionThrottle die t level) (fun _ => 105 ≤ t ∧ t < 256) fun s =>
    { s with power := { s.power with throttle := tabPut s.power.throttle die (max 1 (min level (tabGetD s.power.throttle die 64 - 1))),
                                     temps := tabPut s.power.temps die t } }) ∧
  (∀ die t, die < 4 → Does (.throttleEnd die t) (fun _ => t < 100) fun s =>
    { s with power := { s.power with throttle := tabErase s.power.throttle die, temps := tabPut s.power.temps die t } }) ∧
  (∀ w level, w < 4096 → Does (.powerCapAdjust w level) (fun s => s.power.cap < w) fun s =>
    { s with power := { s.power with watts := w, capLevel := max 1 (min level (s.power.capLevel - 1)) } }) ∧
  (∀ w level, w < 4096 → Does (.powerCapAdjust w level) (fun s => w ≤ s.power.cap) fun s =>
    { s with power := { s.power with watts := w, capLevel := min 64 (max level s.power.capLevel) } }) ∧
  (∀ v, Does (.devnoWrite v) (fun s => s.power.devWait = false) fun s => { s with power := { s.power with devno := v &&& 0x8FFF#32 } }) ∧
  (∀ v, Does (.recoveryGo v) (fun s => s.power.recWait = true ∧ v.getLsbD 63 = true ∧ v.toNat % 2 ^ 24 ≤ 16777152 ∧
      Config.imageVerifies (s.recoveryImage (v.toNat % 2 ^ 24)) = true ∧
      Config.fuseMinVersion ≤ Config.imageVersion (s.recoveryImage (v.toNat % 2 ^ 24)))
    fun s => ({ s with power := { s.power with recWait := false, recovery := [] },
                       sec := { s.sec with fwDigest := Config.imageDigest (s.recoveryImage (v.toNat % 2 ^ 24)),
                                           fwVersion := Config.imageVersion (s.recoveryImage (v.toNat % 2 ^ 24)) } } : State).resume State.boot410) ∧
  -- DPR, the root of the translation tables, and a doorbell, through BAR0
  (∀ port v, port < 2 → Does (.registerWrite port 0x7000 4 v) (fun s => s.power.ready = true ∧ s.tooLate 5 0 port = false)
    fun s => { s.serve 5 0 port with dpr := loHalf v &&& 0x1FF#32 }) ∧
  (∀ port v, port < 2 → Does (.registerWrite port 0x1000 8 v) (fun s => s.power.ready = true ∧ s.tooLate 5 0 port = false)
    fun s => { s.serve 5 0 port with trnRoot := v &&& 0x000FFFFFFFFFE000#64 }) ∧
  (∀ port v, port < 2 → Does (.registerWrite port 0x100 8 v) (fun s => s.power.ready = true ∧ s.tooLate 5 0 port = false)
    fun s => (s.serve 5 0 port).doorbell (v.toNat % 2 ^ 17) (v.toNat / 2 ^ 32))

/-- R21, R36, R38: an instruction whose fields are legal is what its own word decodes to: no bit of an encoding is dropped. -/
def Obligations.DecodeEncode : Prop :=
  ∀ i, (encodeRaw i).isSome = true → i.wellFormed → decode (encode i) = .ok i

/-- R21, R36, R38: a word that decodes is the word of the instruction it decodes to, whose fields are legal: every bit that must be zero is. -/
def Obligations.EncodeDecode : Prop :=
  ∀ w i, decode w = .ok i → encode i = w ∧ i.wellFormed

/-- R21, R36: words written out from the encodings of the spec. -/
def Obligations.DecodedWords : Prop :=
  decode 0x00000000#32 = .ok .nop ∧
  -- SADD s3, s1, s2: major 0x10, D 3, A 1, B 2, minor 0
  decode 0x200C0820#32 = .ok (.sadd 3#7 1#7 2#7) ∧
  -- VADD v3, v1, v2: major 0x20
  decode 0x400C0820#32 = .ok (.vadd 3#7 1#7 2#7) ∧
  -- LDV.32: major 0x54, D 8, A 4, counter 1, offset 2
  decode 0xA8202082#32 = .ok (.ldv32 8#7 4#7 1#4 2#7) ∧
  -- a header of one word, no WAIT flags, no completion flags: major 0x7F
  decode 0xFE0001E0#32 = .ok (.clauseHeader 0#12 0#4 15#4 0#5) ∧
  -- s64 is no scalar; s1 is no pair; major 0x0F is not listed; minor 7 of major 0x00 is not listed; a bit that must be zero
  decode 0x21000820#32 = .error .badScalar ∧ decode 0x06000800#32 = .error .badPair ∧ decode 0x1E000000#32 = .error .unlistedMajor ∧
  decode 0x00000007#32 = .error .unlistedMinor ∧ decode 0x00000010#32 = .error .mustBeZero

/-- R36, R38, R39: what the machine runs for a word is the instruction that the word decodes to; a word that encodes nothing runs as an illegal one. -/
def Obligations.RunsDecoded : Prop :=
  (∀ w i (s : State), decode w = .ok i → runWord w s = exec i s) ∧
  (∀ w r (s : State), isHeader w = false → decode w = .error r → runWord w s = issueIllegal s)

/-- R22, R281: the step of a turn that lets a stream issue runs the instruction that the next word of its clause decodes to, with the cursor on that stream, then
counts what has issued, and sends out what is due (`State.settle`); a turn with an event runs that event.
The model's choices in it: notes/assumptions/1.md, notes/assumptions/96.md. -/
def Obligations.StepRunsWord : Prop :=
  (∀ (s : State) k cs rest w cl x ws i, s.powered = true → s.tape = .issue k cs :: rest → (({ s with tape := rest } : State).portStreams (coreOf k) (portOf k)).contains (k, cs) = true →
    s.wave? k = some w → (w.stream cs).clause = some cl → cl.words = x :: ws → decode x = .ok i →
    step s = settled (fun t => !t.holds s.stamp k cs) (issued s.stamp k cs x (exec i { s with tape := rest, cur := ⟨k, cs, cl.slot⟩ }))) ∧
  (∀ (s : State) i rest, s.powered = true → s.tape = .event i :: rest → i.hasWord = false → step s = settled (fun _ => true) (exec i { s with tape := rest })) ∧
  (∀ (s : State), s.powered = false → s.tape = [] → step s = .fault .noPower)

/-- The module after power-on as the boot leaves it (R450, R454): it has power, the GTC is 0, memory is canonical and every byte reads 0, there is no wave, the fault ring and the invalidations are empty; tenant 0 is keyed and the number in effect is 0xFFF. The contents of memory, the keyed tenant and the number in effect are the model's choices (notes/assumptions/3.md, 4.md and 9.md). -/
def Obligations.ResetState : Prop :=
  State.reset.MemOk ∧ State.reset.device = 0xFFF ∧ State.reset.powered = true ∧ State.reset.gtc = 0#64 ∧ State.reset.keyed = [0] ∧
  (∀ k, State.reset.byteAt k = 0#8) ∧ State.reset.waves = [] ∧ State.reset.invDone = 0 ∧ State.reset.faultHead = 0 ∧ State.reset.faultTail = 0

/-- R18, R29, R38, R39, R76, R196, R232: every word of a clause meets the same checks in the same order before its own rules; each check that fails gives
its own trap, hold or fault; a word that passes them all issues.
The model's choices in it: notes/assumptions/71.md, notes/assumptions/72.md. -/
def Obligations.IssueChecks : Prop :=
  ∀ i (s : State) e, inClause i → s.env? = some e → checked i s e

/-- The words that compute in registers keep memory in its canonical form, and outside a combiner wave they change no byte of it, whatever they do: complete,
trap, hold or take a handler's entry. -/
def Obligations.ComputeKeepsMemory : Prop :=
  ∀ w (s t : State), computes w → runWord w s = .next t →
    (s.MemOk → t.MemOk) ∧ ((∀ v, s.wave? s.cur.wave = some v → v.batch = none) → t.mem = s.mem)

/-- R414 to R416, R418: taking a trap. The registers TRAP_CODE, TRAP_ADDR, TRAP_LANES and TRAP_PC are written; with the other stream stopped the handler starts
at the vector with the context saved; with no vector, or in a handler, the task aborts; an aborting task takes none. Memory does not change, nor any other
wave.
The model's choices in it: notes/assumptions/67.md. -/
def Obligations.TrapEntry : Prop :=
  ∀ (s : State) k cs slot pc code addr lanes kind w, s.wave? k = some w → w.batch = none →
    let t := s.takeTrap k cs slot pc code addr lanes kind
    (t.mem = s.mem ∧ ∀ j, j ≠ k → t.wave? j = s.wave? j) ∧
    (tabGet? s.aborts w.task = none → w.trapping = none → w.ctx = none → w.trapVector ≠ 0#64 → (w.stream (!cs)).stopped = true →
      w.a.trace = none → w.c.trace = none → t.wave? k = some (trapped w cs slot pc code addr lanes kind)) ∧
    (tabGet? s.aborts w.task = none → w.trapping = none → (w.ctx.isSome = true ∨ w.trapVector = 0#64) → tabGet? t.aborts w.task = some code) ∧
    ((tabGet? s.aborts w.task).isSome = true → t.wave? k = some w ∧ t.aborts = s.aborts)

/-- R30, R79, R411 and the frame of every word that computes: a result changes its own register in the lanes it names and nothing else; s127 discards.
Of a register that the A-stream wrote in the same cycle a C-stream's write changes no lane that was written (R79); every other write changes all its lanes. Completing
a word moves its split on and changes no register, no other wave, no byte of memory.
The model's choices in it: notes/assumptions/71.md. -/
def Obligations.ResultFrame : Prop :=
  (∀ (e : Env) r x, (e.put32 r x).s = e.s ∧ (e.put32 r x).w.vregs = e.w.vregs ∧ (e.put32 r x).w.preds = e.w.preds ∧
    (e.put32 r x).w.trapPc = e.w.trapPc ∧ (64 ≤ r.toNat → e.put32 r x = e) ∧
    ∀ i, i < 64 → (e.put32 r x).st.regs.getD i 0#32 = if i = r.toNat then x else e.st.regs.getD i 0#32) ∧
  (∀ (e : Env) r m f, (e.putV r m f).s.mem = e.s.mem ∧ (e.putV r m f).w.preds = e.w.preds ∧ (e.putV r m f).st.regs = e.st.regs ∧
    (e.place? r.toNat = none → e.putV r m f = e) ∧
    ∀ p q l, e.place? r.toNat = some p → l < 32 → (tabGetD (e.putV r m f).w.vregs q Lanes.zero).lane l =
      if q = p ∧ laneIn (e.winning false p m) l = true then f l else (tabGetD e.w.vregs q Lanes.zero).lane l) ∧
  (∀ (e : Env) b p m, e.cs = false ∨ (∀ x ∈ e.w.recent, x.cycle ≠ e.s.cycle ∨ x.reg ≠ p) → e.winning b p m = m) ∧
  (∀ (e : Env) r m x, (e.putP r m x).s = e.s ∧ (e.putP r m x).w.vregs = e.w.vregs ∧ (e.putP r m x).st.regs = e.st.regs ∧
    ∀ i, i < 48 → (e.putP r m x).w.preds.getD i 0#32 =
      if i = r.toNat then (e.w.preds.getD i 0#32 &&& ~~~(e.winning true i m)) ||| (x &&& e.winning true i m) else e.w.preds.getD i 0#32) ∧
  (∀ e : Env, e.done.mem = e.s.mem ∧ e.done.flight = e.s.flight ∧ (∀ k, k ≠ e.key → e.done.wave? k = e.s.wave? k) ∧
    ∃ w, e.done.wave? e.key = some w ∧ w.a.regs = e.w.a.regs ∧ w.c.regs = e.w.c.regs ∧ w.vregs = e.w.vregs ∧ w.preds = e.w.preds ∧
      w.trapCode = e.w.trapCode ∧ w.trapPc = e.w.trapPc ∧ w.fpMode = e.w.fpMode ∧ w.fpFlags = e.w.fpFlags) ∧
  (∀ i s e, Issues i s e → e.s.mem = s.mem ∧ e.key = s.cur.wave ∧ e.cs = s.cur.cs)

/-- R171, R204, R297: performing a load changes no byte; performing a store writes its bytes at its address and changes no other byte, but for the fields of an
initialised barrier word that it touches, which it leaves undefined whole (R297). -/
def Obligations.AccessFrame : Prop :=
  (∀ (s t : State) i a key n signed ds, s.flight.find? (fun a => a.id == i) = some a → a.place = .mem key → a.kind = .load n signed ds →
    exec (.homeUnitRequest i) s = .next t → t.mem = s.mem) ∧
  (∀ (s t : State) i a key data rel, s.flight.find? (fun a => a.id == i) = some a → a.place = .mem key → a.kind = .store data rel →
    exec (.homeUnitRequest i) s = .next t → s.MemOk → t.MemOk ∧ ∀ k, k < key ∨ key + data.length ≤ k → (∀ x ∈ s.barSpoil key data, x.1 ≠ k) →
      t.byteAt k = s.byteAt k) ∧
  (∀ (s : State) i a key data rel, s.flight.find? (fun a => a.id == i) = some a → a.place = .mem key → a.kind = .store data rel → a.st = .waiting →
    a.sent = none → s.settled a.after → (rel = true → s.barred a.wave a.op = false) → s.writeLateIn key (srcCore a.core) = false → s.marks = [] → s.inj.arm = false → s.barSpoil key data = [] → s.needsSpill key data = false → s.MemOk →
    ∃ t, exec (.homeUnitRequest i) s = .next t ∧ memGets t.mem key data.length = data)

/-- R262 to R266, R290 to R296, R465 and the steps without a word: forms that complete, each under conditions on the state and the operands alone. FORK
completes where a slot or the pending list has room, JOIN where its token is active and the stacks are as at the FORK, JTAB where its table is aligned, its
indices are below the bound, its entries inside the code object and read, and its groups have room. QPUSH puts its value last into a queue that has room;
QPOP takes and QPEEK gives the first entry of a queue that holds a good one; QLEN gives both lengths. VACQ.B and VACQ.T are granted blocks that the pool has,
VREL gives blocks back once nothing is pending on them, VWIN sets the window. PROMISE_REVISE writes the promise that has passed, 25,000 ticks ahead. And no
step without a word ever stops or is refused.
The model's choices in it: notes/assumptions/25.md, notes/assumptions/34.md. -/
def Obligations.FormsComplete : Prop :=
  (∀ (d : BitVec 7) (t : BitVec 3) (i : BitVec 11) s e, Issues (.fork d t i) s e → (e.tab.freeSlot.isSome = true ∨ e.tab.pend.length < 16) →
    ∃ u, exec (.fork d t i) s = .next u) ∧
  (∀ (t : BitVec 3) s e, Issues (.join t) s e → joins e t → ∃ u, exec (.join t) s = .next u) ∧
  (∀ (d a b : BitVec 7) (t : BitVec 3) s e xs s', Issues (.jtab d a b t) s e → jtabInside e d a b →
    e.jtabEntries (e.s64 b) (jtabLanes e a) [] e.s = .inl (xs, s') → (jtabGroups xs).length ≤ e.tab.freeCount + 1 + (16 - e.tab.pend.length) →
    ∃ u, exec (.jtab d a b t) s = .next u) ∧
  (∀ (a : BitVec 7) s e, Issues (.qpush a) s e → e.w.single = false → e.outgoing.length < 16 →
    ∃ x : Env, exec (.qpush a) s = .next x.done ∧ (x.outgoing.map fun q => q.val) = (e.outgoing.map fun q => q.val) ++ [e.s32 a]) ∧
  (∀ (d : BitVec 7) s e y rest, Issues (.qpop d) s e → e.w.single = false → e.incoming = y :: rest → y.bad = false → y.inj ≠ some true →
    ∃ x : Env, exec (.qpop d) s = .next x.done ∧ x.incoming = rest ∧ (d.toNat < 64 → x.st.regs.getD d.toNat 0#32 = y.val)) ∧
  (∀ (d : BitVec 7) s e y rest, Issues (.qpeek d) s e → e.w.single = false → e.incoming = y :: rest → y.bad = false → y.inj ≠ some true →
    ∃ x : Env, exec (.qpeek d) s = .next x.done ∧ (x.incoming.map fun q => q.val) = (e.incoming.map fun q => q.val) ∧
      (d.toNat < 64 → x.st.regs.getD d.toNat 0#32 = y.val)) ∧
  (∀ (d : BitVec 7) s e, Issues (.qlen d) s e → e.w.single = false →
    exec (.qlen d) s = .next (e.put32 d (BitVec.ofNat 32 (e.incoming.length + 65536 * (16 - e.outgoing.length)))).done) ∧
  (∀ (a : BitVec 7) s e, Issues (.vacqB a) s e → 0 < (e.s32 a).toNat → e.w.blocks.length + (e.s32 a).toNat + e.asked ≤ 32 →
    e.poolFits (e.s32 a).toNat = true → exec (.vacqB a) s = .next (e.done.grantBlocks e.key (e.s32 a).toNat)) ∧
  (∀ (d a : BitVec 7) s e, Issues (.vacqT d a) s e → 0 < (e.s32 a).toNat → e.w.blocks.length + (e.s32 a).toNat + e.asked ≤ 32 →
    e.poolFits (e.s32 a).toNat = true → exec (.vacqT d a) s = .next ((e.putP d 0xFFFFFFFF#32 0xFFFFFFFF#32).done.grantBlocks e.key (e.s32 a).toNat)) ∧
  (∀ (a : BitVec 7) s e, Issues (.vrel a) s e → (e.s32 a).toNat ≤ e.w.blocks.length →
    e.s.pendingFrom e.key e.w (16 * (e.w.blocks.length - (e.s32 a).toNat)) = false →
    ∃ x : Env, exec (.vrel a) s = .next x.done ∧ x.w.blocks = e.w.blocks.take (e.w.blocks.length - (e.s32 a).toNat)) ∧
  (∀ (a : BitVec 7) s e, Issues (.vwin a) s e → (e.s32 a).toNat ≤ 31 →
    exec (.vwin a) s = .next (e.setSt fun st => { st with vwin := (e.s32 a).toNat }).done) ∧
  (∀ cmd s c key s', s.cmd? cmd = some c → c.st = .running → c.left ≠ 0 → c.kind ≤ 2 → s.heldFor (.line cmd promisePiece) = false →
    s.barReady cmd promisePiece c = (.ok key, s') → s'.rd (key + 24) 8 ≠ 0 → s'.rd (key + 24) 8 < s'.gtc.toNat →
    exec (.promiseRevise cmd) s = .next (s'.promised c key (min (s'.gtc.toNat + 25000) (2 ^ 64 - 1)))) ∧
  (∀ i s, i.hasWord = false → runs (exec i s))
end

