-- ==== Sys2Proof/Laws/Flits.lean ====
section
/-!
SUPPORT. The bytes of a flit read as the flit (R427).
-/
namespace Sys2Proof.Machine

/-- Bytes read as a number give back the number that they were written from, as far as they reach. -/
theorem bytesToNat_natToBytes (n x : Nat) : bytesToNat (natToBytes n x) = x % 256 ^ n := by
  induction n generalizing x with
  | zero => simp [natToBytes, bytesToNat, Nat.mod_one]
  | succ n ih => simp [natToBytes, bytesToNat, ih, Nat.pow_succ', Nat.mod_mul]

theorem natToBytes_length (n x : Nat) : (natToBytes n x).length = n := by
  induction n generalizing x with
  | zero => rfl
  | succ n ih => simp [natToBytes, ih]

/-- The middle one of three pieces. -/
theorem middle_piece {a b c : List Byte} {o n : Nat} (ha : a.length = o) (hb : b.length = n) : ((a ++ (b ++ c)).drop o).take n = b := by
  simp [← ha, ← hb]

theorem flitHead_length (f : Flit) : (flitHead f).length = 8 := by simp [flitHead, natToBytes_length]

theorem flitTypeOf_code (k : FlitType) : flitTypeOf (flitTypeCode k) = some k := by cases k <;> rfl

theorem flitTypeCode_lt (k : FlitType) : flitTypeCode k < 8 := by cases k <;> decide

theorem b2n_le (b : Bool) : b2n b ≤ 1 := by cases b <;> decide

theorem testBit_field {x : Nat} {a b : Bool} (h : x < 4096) : (x + 4096 * b2n a + 8192 * b2n b).testBit 12 = a := by
  have := b2n_le a
  have e : (x + 4096 * b2n a + 8192 * b2n b) / 4096 % 2 = b2n a := by omega
  rw [Nat.testBit_eq_decide_div_mod_eq, show (2 : Nat) ^ 12 = 4096 from rfl, e]; cases a <;> rfl

theorem testBit_field' {x : Nat} {a b : Bool} (h : x < 4096) : (x + 4096 * b2n a + 8192 * b2n b).testBit 13 = b := by
  have := b2n_le a
  have := b2n_le b
  have e : (x + 4096 * b2n a + 8192 * b2n b) / 8192 % 2 = b2n b := by omega
  rw [Nat.testBit_eq_decide_div_mod_eq, show (2 : Nat) ^ 13 = 8192 from rfl, e]; cases b <;> rfl

theorem testBit_last {x : Nat} {a : Bool} (h : x < 4) : (x + 4 * b2n a).testBit 2 = a := by
  have := b2n_le a
  have e : (x + 4 * b2n a) / 4 % 2 = b2n a := by omega
  rw [Nat.testBit_eq_decide_div_mod_eq, show (2 : Nat) ^ 2 = 4 from rfl, e]; cases a <;> rfl

/-- A flit whose fields are in their ranges is what its own 64 bytes read as (R427). -/
theorem flitOf_flitBytes (f : Flit) (h1 : f.seq < 4096) (h2 : f.keySlot < 2) (h3 : f.ackSeq < 4096) (h4 : f.vc < 4) (h5 : f.creditVc < 4) (h6 : f.credits < 64)
    (h7 : f.payload.length = 48) (h8 : f.tag < 2 ^ 32) : flitOf (flitBytes f) = some f := by
  have hk := flitTypeCode_lt f.kind
  have len : (flitBytes f).length = 64 := by simp [flitBytes, flitBody, flitHead_length, natToBytes_length, h7]
  have body : (flitBody f).length = 60 := by simp [flitBody, flitHead_length, natToBytes_length, h7]
  have t60 : (flitBytes f).take 60 = flitBody f := by simp [flitBytes, ← body]
  have p60 : bytesToNat (((flitBytes f).drop 60).take 4) = (crc32 (flitBody f)).toNat := by
    have := middle_piece (c := []) body (natToBytes_length 4 (crc32 (flitBody f)).toNat)
    rw [List.append_nil] at this
    rw [flitBytes, this, bytesToNat_natToBytes]
    exact Nat.mod_eq_of_lt (Nat.lt_of_lt_of_eq (crc32 (flitBody f)).isLt (by norm_num))
  have p56 : bytesToNat (((flitBytes f).drop 56).take 4) = f.tag := by
    rw [flitBytes, flitBody, List.append_assoc, middle_piece (by simp [flitHead_length, h7]) (natToBytes_length 4 f.tag), bytesToNat_natToBytes]
    exact Nat.mod_eq_of_lt (Nat.lt_of_lt_of_eq h8 (by norm_num))
  have pay : ((flitBytes f).drop 8).take 48 = f.payload := by
    rw [flitBytes, flitBody, List.append_assoc, List.append_assoc, middle_piece (flitHead_length f) h7]
  have p0 : bytesToNat (((flitBytes f).drop 0).take 2) = f.seq % 4096 + 4096 * (f.keySlot % 2) + 8192 * flitTypeCode f.kind := by
    rw [flitBytes, flitBody, flitHead]
    simp only [List.append_assoc]
    rw [← List.nil_append (natToBytes 2 _ ++ _), middle_piece (a := []) (o := 0) rfl (natToBytes_length 2 _), bytesToNat_natToBytes]
    exact Nat.mod_eq_of_lt (by omega)
  have p2 : bytesToNat (((flitBytes f).drop 2).take 2) = f.ackSeq % 4096 + 4096 * b2n f.ackValid + 8192 * b2n f.nak := by
    rw [flitBytes, flitBody, flitHead]
    simp only [List.append_assoc]
    rw [middle_piece (natToBytes_length 2 _) (natToBytes_length 2 _), bytesToNat_natToBytes]
    exact Nat.mod_eq_of_lt (by cases f.ackValid <;> cases f.nak <;> simp [b2n] <;> omega)
  have p4 : ((flitBytes f).drop 4).take 4 =
      [BitVec.ofNat 8 (f.vc % 4 + 4 * b2n f.last), BitVec.ofNat 8 (f.creditVc % 4 + 4 * (f.credits % 64)), 0#8, 0#8] := by
    rw [flitBytes, flitBody, flitHead]
    simp only [List.append_assoc]
    rw [← List.append_assoc (natToBytes 2 _), middle_piece (o := 4) (n := 4) (by rw [List.length_append, natToBytes_length, natToBytes_length]) rfl]
  have byte (i : Nat) (n : Nat) (hn : i + n ≤ 4) : ((flitBytes f).drop (4 + i)).take n = ((((flitBytes f).drop 4).take 4).drop i).take n := by
    rw [List.drop_take, List.drop_drop, List.take_take]; congr 1; omega
  have q4 : bytesToNat (((flitBytes f).drop 4).take 1) = f.vc % 4 + 4 * b2n f.last := by
    rw [byte 0 1 (by omega), p4]; simp [bytesToNat]; cases f.last <;> simp [b2n] <;> omega
  have q5 : bytesToNat (((flitBytes f).drop 5).take 1) = f.creditVc % 4 + 4 * (f.credits % 64) := by
    rw [byte 1 1 (by omega), p4]; simp [bytesToNat]; omega
  have q6 : bytesToNat (((flitBytes f).drop 6).take 2) = 0 := by
    rw [byte 2 2 (by omega), p4]; simp [bytesToNat]
  have e0 : (f.seq % 4096 + 4096 * (f.keySlot % 2) + 8192 * flitTypeCode f.kind) / 8192 = flitTypeCode f.kind := by omega
  unfold flitOf
  simp only [len, p60, p56, pay, p0, p2, q4, q5, q6, t60, e0, flitTypeOf_code, Option.map_some]
  obtain ⟨seq, slot, kind, ack, av, nak, vc, last, cvc, cr, pay, tag⟩ := f
  simp only at h1 h2 h3 h4 h5 h6
  have s1 : (seq % 4096 + 4096 * (slot % 2) + 8192 * flitTypeCode kind) % 4096 = seq := by omega
  have s2 : (seq % 4096 + 4096 * (slot % 2) + 8192 * flitTypeCode kind) / 4096 % 2 = slot := by omega
  have s3 : (cvc % 4 + 4 * (cr % 64)) % 4 = cvc := by omega
  have s4 : (cvc % 4 + 4 * (cr % 64)) / 4 = cr := by omega
  rw [Nat.mod_eq_of_lt h3, Nat.mod_eq_of_lt h4, s1, s2, s3, s4, testBit_field h3, testBit_field' h3, testBit_last h4]
  have s5 : (ack + 4096 * b2n av + 8192 * b2n nak) / 16384 = 0 := by have := b2n_le av; have := b2n_le nak; omega
  have s6 : (vc + 4 * b2n last) / 8 = 0 := by have := b2n_le last; omega
  have s7 : (ack + 4096 * b2n av + 8192 * b2n nak) % 4096 = ack := by omega
  have s8 : (vc + 4 * b2n last) % 4 = vc := by omega
  rw [s5, s6, s7, s8]
  simp
end Sys2Proof.Machine
end

