-- ==== Sys2Proof/Laws/Issue.lean ====
section
/-!
SUPPORT. What `issue` does, once for every check (spec/02_instruction_words.md, R39).
-/
namespace Sys2Proof.Machine

/-- `issue` by its checks. -/
theorem issue_eq (f : Form) (s : State) (k : Env → Out) :
    issue f s k = match s.env? with
      | none => .next s
      | some e =>
        if illegalHere f e.w.batch.isSome then e.trap cIllegal 0#64
        else if e.cs && f.aOnly then e.trap cStreamClass 0#64
        else if !e.inWindow f.ops then e.trap cRegWindow 0#64
        else if e.batchSpent then e.batchFault cCombLimit
        else if f.forbidden && e.w.batch.isSome then e.batchFault cCombForbidden
        else if !e.operandsLanded f.ops then e.hold 0 0
        else (e.findVec ((f.ops.filter fun o => o.reads).flatMap e.places) e.exec).consume
          ((f.ops.filter fun o => o.reads).flatMap (e.findVec ((f.ops.filter fun o => o.reads).flatMap e.places) e.exec).places)
          (e.findVec ((f.ops.filter fun o => o.reads).flatMap e.places) e.exec).exec
          fun _ => k (e.findVec ((f.ops.filter fun o => o.reads).flatMap e.places) e.exec) := by
  unfold issue
  cases s.env? with
  | none => rfl
  | some e => cases h : e.w.batch <;> simp only [illegalHere, Env.batchSpent, h] <;> rfl

/-- A word whose checks pass does what its own rules say. -/
theorem issue_admitted {f : Form} {s : State} {e : Env} (h : s.admitted f = some e) (k : Env → Out) : issue f s k = k e := by
  rw [issue_eq]
  unfold State.admitted at h
  cases hs : s.env? with
  | none => simp [hs] at h
  | some e0 =>
    simp only [hs] at h ⊢
    split at h
    · cases h
    · rename_i hc
      split at h
      · cases h
      · rename_i hp
        cases h
        simp only [Bool.or_eq_true, not_or, Bool.not_eq_true, Bool.not_eq_false'] at hc
        obtain ⟨⟨⟨⟨⟨h1, h2⟩, h3⟩, h4⟩, h5⟩, h6⟩ := hc
        simp only [h1, h2, h3, h4, h5, h6, Bool.not_true, Bool.false_eq_true, if_false, Env.consume]
        revert hp
        generalize Env.poisoned _ _ _ = q
        obtain ⟨m, o⟩ := q
        cases o <;> simp

/-- From a word's own rules `k`, what it gives wherever it issues; `m` is its meaning. -/
theorem gives_of {i : Instr} {t : Env → State} {k : Env → Out} (m : State → Out) (h0 : ∀ s, exec i s = m s)
    (h1 : ∀ s, m s = issue i.form s k) (h2 : ∀ e, k e = .next (t e)) : Gives i t :=
  fun s e h => (h0 s).trans ((h1 s).trans ((issue_admitted h k).trans (h2 e)))

theorem givesIf_of {i : Instr} {c : Env → Prop} {t : Env → State} {k : Env → Out} (m : State → Out) (h0 : ∀ s, exec i s = m s)
    (h1 : ∀ s, m s = issue i.form s k) (h2 : ∀ e, c e → k e = .next (t e)) : GivesIf i c t :=
  fun s e h hc => (h0 s).trans ((h1 s).trans ((issue_admitted h k).trans (h2 e hc)))

theorem trapsIf_of {i : Instr} {c : Env → Prop} {n : Nat} {t : Env → DWord} {k : Env → Out} (m : State → Out) (h0 : ∀ s, exec i s = m s)
    (h1 : ∀ s, m s = issue i.form s k) (h2 : ∀ e, c e → k e = e.trap n (t e)) : TrapsIf i c n t :=
  fun s e h hc => (h0 s).trans ((h1 s).trans ((issue_admitted h k).trans (h2 e hc)))

theorem exec_of_issues {i : Instr} {s : State} {e : Env} {r : Out} {k : Env → Out} (m : State → Out) (h : Issues i s e)
    (h0 : ∀ s, exec i s = m s) (h1 : ∀ s, m s = issue i.form s k) (h2 : k e = r) : exec i s = r :=
  (h0 s).trans ((h1 s).trans ((issue_admitted h k).trans h2))

end Sys2Proof.Machine
end

