-- ==== Sys2Proof/Laws/Table.lean ====
section
/-!
SUPPORT. What the table operations do: a value put is the value got, other keys keep theirs, keys stay sorted.
-/
set_option Elab.async false
namespace Sys2Proof.Machine

variable {α : Type}

@[simp] theorem tabGet?_nil (k : Nat) : tabGet? ([] : Tab α) k = none := rfl
@[simp] theorem tabGetD_nil (k : Nat) (d : α) : tabGetD ([] : Tab α) k d = d := rfl

/-- A put value is got; every other key reads as before. It holds of any list, sorted or not. -/
theorem tabGet?_put (t : Tab α) (k : Nat) (v : α) (j : Nat) : tabGet? (tabPut t k v) j = if j = k then some v else tabGet? t j := by
  induction t with
  | nil => simp only [tabPut, tabGet?]; split <;> simp
  | cons x t ih =>
    obtain ⟨k', v'⟩ := x
    unfold tabPut
    by_cases h1 : k = k'
    · subst h1
      simp only [if_true, tabGet?]
      by_cases h : j = k <;> simp [h]
    · by_cases h2 : k < k'
      · simp only [h1, h2, if_false, if_true, tabGet?]
        by_cases h : j = k
        · simp [h]
        · by_cases h3 : j < k
          · simp [h, h3, show j ≠ k' by omega, show j < k' by omega]
          · simp [h, h3]
      · simp only [h1, h2, if_false, tabGet?, ih]
        by_cases h : j = k
        · simp [h, h1, h2]
        · simp [h]

@[simp] theorem tabGet?_put_self (t : Tab α) (k : Nat) (v : α) : tabGet? (tabPut t k v) k = some v := by simp [tabGet?_put]
theorem tabGet?_put_ne (t : Tab α) {j k : Nat} (v : α) (h : j ≠ k) : tabGet? (tabPut t k v) j = tabGet? t j := by simp [tabGet?_put, h]
@[simp] theorem tabGetD_put_self (t : Tab α) (k : Nat) (v d : α) : tabGetD (tabPut t k v) k d = v := by simp [tabGetD]
theorem tabGetD_put_ne (t : Tab α) {j k : Nat} (v d : α) (h : j ≠ k) : tabGetD (tabPut t k v) j d = tabGetD t j d := by
  simp [tabGetD, tabGet?_put_ne _ _ h]

/-- Sorted from the second entry on, and the first key is below every other. -/
theorem tabSorted_cons {x : Nat × α} {t : Tab α} : tabSorted (x :: t) = true ↔ (∀ y ∈ t, x.1 < y.1) ∧ tabSorted t = true := by
  induction t generalizing x with
  | nil => simp [tabSorted]
  | cons y t ih =>
    obtain ⟨k, v⟩ := x
    obtain ⟨k', v'⟩ := y
    simp only [tabSorted, Bool.and_eq_true, decide_eq_true_eq, List.mem_cons]
    constructor
    · rintro ⟨h, hs⟩
      refine ⟨?_, hs⟩
      rintro z (rfl | hz)
      · exact h
      · exact lt_trans h ((ih.1 hs).1 z hz)
    · rintro ⟨h, hs⟩
      exact ⟨h _ (.inl rfl), hs⟩

theorem tabGet?_lt {t : Tab α} {j : Nat} (h : ∀ y ∈ t, j < y.1) : tabGet? t j = none := by
  cases t with
  | nil => rfl
  | cons y t => simp [tabGet?, (h y (by simp)).ne, h y (by simp)]

theorem mem_tabPut {t : Tab α} {k : Nat} {v : α} {y : Nat × α} (h : y ∈ tabPut t k v) : y = (k, v) ∨ y ∈ t := by
  induction t with
  | nil => simpa [tabPut] using h
  | cons x t ih =>
    obtain ⟨k', v'⟩ := x
    unfold tabPut at h
    split at h
    · rcases List.mem_cons.1 h with h | h <;> simp [h]
    · split at h
      · rcases List.mem_cons.1 h with h | h <;> simp [h]
      · rcases List.mem_cons.1 h with h | h
        · simp [h]
        · rcases ih h with h | h <;> simp [h]

theorem mem_tabErase {t : Tab α} {k : Nat} {y : Nat × α} (h : y ∈ tabErase t k) : y ∈ t := by
  induction t with
  | nil => simp [tabErase] at h
  | cons x t ih =>
    obtain ⟨k', v'⟩ := x
    unfold tabErase at h
    split at h
    · simp [h]
    · split at h
      · exact h
      · rcases List.mem_cons.1 h with h | h
        · simp [h]
        · simp [ih h]

theorem tabSorted_put {t : Tab α} (h : tabSorted t = true) (k : Nat) (v : α) : tabSorted (tabPut t k v) = true := by
  induction t with
  | nil => rfl
  | cons x t ih =>
    obtain ⟨k', v'⟩ := x
    have ⟨h1, h2⟩ := tabSorted_cons.1 h
    unfold tabPut
    split
    · rename_i he
      subst he
      exact tabSorted_cons.2 ⟨h1, h2⟩
    · split
      · rename_i hl
        refine tabSorted_cons.2 ⟨?_, h⟩
        intro y hy
        rcases List.mem_cons.1 hy with rfl | hy
        · exact hl
        · exact lt_trans hl (h1 y hy)
      · refine tabSorted_cons.2 ⟨?_, ih h2⟩
        intro y hy
        rcases mem_tabPut hy with rfl | hy
        · show k' < k
          omega
        · exact h1 y hy

theorem tabSorted_erase {t : Tab α} (h : tabSorted t = true) (k : Nat) : tabSorted (tabErase t k) = true := by
  induction t with
  | nil => rfl
  | cons x t ih =>
    obtain ⟨k', v'⟩ := x
    have ⟨h1, h2⟩ := tabSorted_cons.1 h
    unfold tabErase
    split
    · exact h2
    · split
      · exact h
      · exact tabSorted_cons.2 ⟨fun y hy => h1 y (mem_tabErase hy), ih h2⟩

theorem tabSorted_filter {t : Tab α} (h : tabSorted t = true) (p : Nat × α → Bool) : tabSorted (t.filter p) = true := by
  induction t with
  | nil => rfl
  | cons x t ih =>
    have ⟨h1, h2⟩ := tabSorted_cons.1 h
    rw [List.filter_cons]
    split
    · exact tabSorted_cons.2 ⟨fun y hy => h1 y (List.mem_filter.1 hy).1, ih h2⟩
    · exact ih h2

/-- In a sorted table an erased key is absent and every other key reads as before. -/
theorem tabGet?_erase {t : Tab α} (h : tabSorted t = true) (k j : Nat) : tabGet? (tabErase t k) j = if j = k then none else tabGet? t j := by
  induction t with
  | nil => simp [tabErase]
  | cons x t ih =>
    obtain ⟨k', v'⟩ := x
    have ⟨h1, h2⟩ := tabSorted_cons.1 h
    unfold tabErase
    by_cases he : k = k'
    · subst he
      simp only [if_true, tabGet?]
      by_cases hj : j = k
      · subst hj
        simp [tabGet?_lt h1]
      · simp only [hj, if_false]
        split
        · rename_i hl
          exact tabGet?_lt fun y hy => lt_trans hl (h1 y hy)
        · rfl
    · by_cases hl : k < k'
      · simp only [he, hl, if_false, if_true]
        by_cases hj : j = k
        · subst hj
          simp [tabGet?, he, hl]
        · simp [hj]
      · simp only [he, hl, if_false, tabGet?, ih h2]
        by_cases hj : j = k
        · subst hj
          simp [he, hl]
        · simp [hj]

end Sys2Proof.Machine
end

