-- ==== Sys2Proof/Laws/Memory.lean ====
section
/-!
SUPPORT. The laws of memory: every memory operation keeps the canonical form; a byte written is the byte read, and every other byte reads as before.
-/
set_option Elab.async false
namespace Sys2Proof.Machine

theorem wf_iff {m : List (Nat × Byte)} : Memory.wf m = true ↔ tabSorted m = true ∧ ∀ c ∈ m, c.2 ≠ unlistedByte := by
  simp [Memory.wf]

theorem memory_wf_nil : Memory.wf [] = true := rfl
theorem memory_wf_reset : Memory.wf State.reset.mem = true := rfl

theorem memPut_wf {m : List (Nat × Byte)} (h : Memory.wf m = true) (k : Nat) (b : Byte) : Memory.wf (memPut m k b) = true := by
  have ⟨h1, h2⟩ := wf_iff.1 h
  unfold memPut
  split
  · exact wf_iff.2 ⟨tabSorted_erase h1 k, fun c hc => h2 c (mem_tabErase hc)⟩
  · rename_i hb
    refine wf_iff.2 ⟨tabSorted_put h1 k b, fun c hc => ?_⟩
    rcases mem_tabPut hc with rfl | hc
    · exact hb
    · exact h2 c hc

theorem memPuts_wf {m : List (Nat × Byte)} (h : Memory.wf m = true) (k : Nat) (bs : List Byte) : Memory.wf (memPuts m k bs) = true := by
  induction bs generalizing m k with
  | nil => exact h
  | cons b bs ih => exact ih (memPut_wf h k b) (k + 1)

theorem filter_wf {m : List (Nat × Byte)} (h : Memory.wf m = true) (p : Nat × Byte → Bool) : Memory.wf (m.filter p) = true :=
  have ⟨h1, h2⟩ := wf_iff.1 h
  wf_iff.2 ⟨tabSorted_filter h1 p, fun c hc => h2 c (List.mem_filter.1 hc).1⟩

theorem memZero_wf {m : List (Nat × Byte)} (h : Memory.wf m = true) (k n : Nat) : Memory.wf (memZero m k n) = true := filter_wf h _

theorem memCopy_wf {m : List (Nat × Byte)} (h : Memory.wf m = true) (a b n : Nat) : Memory.wf (memCopy m a b n) = true := by
  unfold memCopy
  generalize m.filter _ = l
  have : ∀ m', Memory.wf m' = true → Memory.wf (l.foldl (fun m c => memPut m (b + (c.1 - a)) c.2) m') = true := by
    induction l with
    | nil => exact fun _ h => h
    | cons c l ih => exact fun m' h' => ih _ (memPut_wf h' _ _)
  exact this _ (memZero_wf h b n)

theorem State.wr_wf {s : State} (h : Memory.wf s.mem = true) (k n v : Nat) : Memory.wf (s.wr k n v).mem = true := memPuts_wf h k _

/-- The byte written is the byte read; every other byte reads as before. -/
theorem memGet_memPut {m : List (Nat × Byte)} (h : Memory.wf m = true) (k : Nat) (b : Byte) (j : Nat) :
    memGet (memPut m k b) j = if j = k then b else memGet m j := by
  have ⟨h1, _⟩ := wf_iff.1 h
  unfold memPut memGet tabGetD
  split
  · rename_i hb
    rw [tabGet?_erase h1]
    split <;> simp_all
  · rw [tabGet?_put]
    split <;> simp

/-- Reading after writing bytes: the bytes written where they lie, the old byte elsewhere. -/
theorem memGet_memPuts {m : List (Nat × Byte)} (h : Memory.wf m = true) (k : Nat) (bs : List Byte) (j : Nat) :
    memGet (memPuts m k bs) j = if k ≤ j ∧ j < k + bs.length then bs.getD (j - k) 0#8 else memGet m j := by
  induction bs generalizing m k with
  | nil => simp [memPuts]
  | cons b bs ih =>
    rw [memPuts, ih (memPut_wf h k b), memGet_memPut h]
    by_cases h1 : j = k
    · subst h1
      simp
    · by_cases h2 : k + 1 ≤ j ∧ j < k + 1 + bs.length
      · have e : j - k = (j - (k + 1)) + 1 := by omega
        have h3 : k ≤ j ∧ j < k + (bs.length + 1) := by omega
        simp only [h2, h3, List.length_cons, and_self, if_true, e, List.getD_cons_succ]
      · have h3 : ¬ (k ≤ j ∧ j < k + (bs.length + 1)) := by omega
        simp only [h1, h2, h3, List.length_cons, if_false]

theorem memGets_length (m : List (Nat × Byte)) (k n : Nat) : (memGets m k n).length = n := by
  induction n generalizing k with
  | zero => rfl
  | succ n ih => simp [memGets, ih]

theorem memGets_getD (m : List (Nat × Byte)) (k n i : Nat) (h : i < n) : (memGets m k n).getD i 0#8 = memGet m (k + i) := by
  induction n generalizing k i with
  | zero => omega
  | succ n ih =>
    cases i with
    | zero => rfl
    | succ i =>
      show (memGets m (k + 1) n).getD i 0#8 = _
      rw [ih (k + 1) i (by omega)]
      congr 1
      omega

/-- Bytes written are the bytes read (R171). -/
theorem memGets_memPuts {m : List (Nat × Byte)} (h : Memory.wf m = true) (k : Nat) (bs : List Byte) :
    memGets (memPuts m k bs) k bs.length = bs := by
  refine List.ext_getElem (by simp [memGets_length]) fun i hi hi' => ?_
  have e : ∀ (l : List Byte) (h : i < l.length), l[i] = l.getD i 0#8 := fun l h => by simp [List.getD, h]
  rw [e _ hi, e _ hi', memGets_getD _ _ _ _ hi', memGet_memPuts h]
  simp [hi']

end Sys2Proof.Machine
end

