-- ==== Sys2Proof/Laws/Frames.lean ====
section
/-!
SUPPORT. What the shared operations leave alone: counting, reporting, tracing, taking a trap, ending a word. `Quiet` names what counting and reporting keep,
`Calm k` what work on wave k keeps.
-/
set_option Elab.async false
namespace Sys2Proof.Machine

/-- `t` differs from `s` in no wave, no byte of memory, no access in flight, no aborting task. -/
structure Quiet (s t : State) : Prop where
  mem : t.mem = s.mem
  flight : t.flight = s.flight
  aborts : t.aborts = s.aborts
  waves : t.waves = s.waves

/-- `t` differs from `s` in no wave but k, no byte of memory, no access in flight, no aborting task. -/
structure Calm (k : Nat) (s t : State) : Prop where
  mem : t.mem = s.mem
  flight : t.flight = s.flight
  aborts : t.aborts = s.aborts
  waves : ∀ j, j ≠ k → t.wave? j = s.wave? j

theorem Quiet.refl (s : State) : Quiet s s := ⟨rfl, rfl, rfl, rfl⟩
theorem Quiet.trans {s t u : State} (h : Quiet s t) (h' : Quiet t u) : Quiet s u :=
  ⟨h'.mem.trans h.mem, h'.flight.trans h.flight, h'.aborts.trans h.aborts, h'.waves.trans h.waves⟩
theorem Quiet.wave? {s t : State} (h : Quiet s t) (k : Nat) : t.wave? k = s.wave? k := by simp only [State.wave?, h.waves]
theorem Calm.refl (k : Nat) (s : State) : Calm k s s := ⟨rfl, rfl, rfl, fun _ _ => rfl⟩
theorem Calm.trans {k : Nat} {s t u : State} (h : Calm k s t) (h' : Calm k t u) : Calm k s u :=
  ⟨h'.mem.trans h.mem, h'.flight.trans h.flight, h'.aborts.trans h.aborts, fun j hj => (h'.waves j hj).trans (h.waves j hj)⟩
theorem Quiet.calm {s t : State} (h : Quiet s t) (k : Nat) : Calm k s t := ⟨h.mem, h.flight, h.aborts, fun j _ => h.wave? j⟩

theorem foldl_quiet {α : Type} (f : State → α → State) (h : ∀ s a, Quiet s (f s a)) (l : List α) (s : State) : Quiet s (l.foldl f s) := by
  induction l generalizing s with
  | nil => exact Quiet.refl s
  | cons a l ih => exact (h s a).trans (ih (f s a))

theorem foldl_calm {α : Type} {k : Nat} (f : State → α → State) (h : ∀ s a, Calm k s (f s a)) (l : List α) (s : State) : Calm k s (l.foldl f s) := by
  induction l generalizing s with
  | nil => exact Calm.refl k s
  | cons a l ih => exact (h s a).trans (ih (f s a))

/-! ## Counting and reporting -/

theorem push_quiet (s : State) (e : EvRec) : Quiet s (s.push e) := ⟨rfl, rfl, rfl, rfl⟩
theorem setCore_quiet (s : State) (c : Nat) (x : CoreSt) : Quiet s (s.setCore c x) := ⟨rfl, rfl, rfl, rfl⟩
theorem sendMsi_quiet (s : State) (f v : Nat) : Quiet s (s.sendMsi f v) := ⟨rfl, rfl, rfl, rfl⟩

theorem tallied_quiet (s : State) (i : Nat) : Quiet s (s.tallied i) := ⟨rfl, rfl, rfl, rfl⟩

theorem overflow_quiet (s : State) (w : Bool) (a b : Nat) (f : State → Nat → Nat → State) (h : ∀ s a b, Quiet s (f s a b)) :
    Quiet s (s.overflow w a b f) := by
  unfold State.overflow
  split
  · exact (push_quiet _ _).trans (h _ _ _)
  · exact Quiet.refl s

theorem countUpTo_quiet (n : Nat) (s : State) (source kind : Nat) : Quiet s (s.countUpTo n source kind) := by
  induction n generalizing s source kind with
  | zero => exact Quiet.refl s
  | succ n ih =>
    unfold State.countUpTo
    dsimp only
    refine Quiet.trans ?_ (foldl_quiet _ (fun s x => ?_) _ _)
    · split
      · split
        · exact Quiet.refl s
        · refine foldl_quiet _ (fun s i => ?_) _ s
          split
          · exact ((setCore_quiet _ _ _).trans (tallied_quiet _ _)).trans (overflow_quiet _ _ _ _ _ ih)
          · exact Quiet.refl s
      · exact Quiet.refl s
    · split
      · refine Quiet.trans ?_ (overflow_quiet _ _ _ _ _ ih)
        exact ⟨rfl, rfl, rfl, rfl⟩
      · exact Quiet.refl _

theorem count_quiet (s : State) (source kind : Nat) : Quiet s (s.count source kind) := countUpTo_quiet _ _ _ _

theorem emit_quiet (s : State) (a b c : Nat) (x y : DWord) : Quiet s (s.emit a b c x y) := (push_quiet _ _).trans (count_quiet _ _ _)

theorem reportWith_quiet (s : State) (a b c : Nat) (u i p : Bool) (t : Nat) (x : DWord) (f : List (Nat × Byte)) :
    Quiet s (s.reportWith a b c u i p t x f) := ⟨rfl, rfl, rfl, rfl⟩
theorem report_quiet (s : State) (a b c : Nat) (u i p : Bool) (t : Nat) (x : DWord) : Quiet s (s.report a b c u i p t x) := reportWith_quiet _ _ _ _ _ _ _ _ _ _

theorem countSectors_quiet (s : State) (key n kind : Nat) : Quiet s (s.countSectors key n kind) := by
  unfold State.countSectors
  split
  · exact Quiet.refl s
  · exact foldl_quiet _ (fun s _ => count_quiet s _ _) _ s

theorem findErrors_quiet (s : State) (key n t : Nat) (x : DWord) : Quiet s (s.findErrors key n t x) := by
  unfold State.findErrors
  refine (countSectors_quiet s key n 0x110).trans ?_
  dsimp only
  split
  · exact Quiet.refl _
  · refine foldl_quiet _ (fun s k => ?_) _ _
    split
    · exact Quiet.refl s
    · rename_i m _
      have hc : ∀ t : State, Quiet t (if (isHbmKey k && !m.uncorr && !tagOk m.flips) = true then t.count (srcOf 5 (mcOf k)) 0x115 else t) := by
        intro t
        split
        · exact count_quiet _ _ _
        · exact Quiet.refl t
      have h := (reportWith_quiet s (markLoc k).1 (markLoc k).2.1 (markLoc k).2.2 m.uncorr m.injected false t x m.flips).trans (hc _)
      split
      · exact h
      · exact h.trans ⟨rfl, rfl, rfl, rfl⟩

theorem injectAt_quiet (s : State) (a b c m : Nat) : Quiet s (s.injectAt a b c m) := by
  unfold State.injectAt
  split <;> exact ⟨rfl, rfl, rfl, rfl⟩

theorem foundAt_quiet (s : State) (a b c m t : Nat) (x : DWord) : Quiet s (s.foundAt a b c m t x).2 := by
  unfold State.foundAt
  split
  · exact Quiet.refl s
  · split
    · exact Quiet.refl s
    · refine Quiet.trans ?_ (report_quiet _ _ _ _ _ _ _ _ _)
      exact ⟨rfl, rfl, rfl, rfl⟩

theorem dropReads_quiet (s : State) (a : Nat) : Quiet s (s.dropReads a) := ⟨rfl, rfl, rfl, rfl⟩

theorem wroteVec_quiet (s : State) (c : Nat) (w : Wave) (p : Nat) (m : Word) : Quiet s (s.wroteVec c w p m) := by
  unfold State.wroteVec
  split
  · exact Quiet.refl s
  · refine foldl_quiet _ (fun s l => ?_) _ s
    refine Quiet.trans ?_ (injectAt_quiet _ _ _ _ _)
    exact ⟨rfl, rfl, rfl, rfl⟩

/-- Reading elements changes only marks, error logs and what they send; the wave changes only in its poison. -/
theorem findVec_quiet (s : State) (c : Nat) (w : Wave) (ps : List Nat) (m : Word) :
    Quiet s (s.findVec c w ps m).2 ∧ ∃ v, (s.findVec c w ps m).1 = { w with vpoison := v } := by
  unfold State.findVec
  split
  · exact ⟨Quiet.refl s, w.vpoison, rfl⟩
  · have : ∀ (l : List (Nat × Nat)) (f : Wave × State → Nat × Nat → Wave × State),
        (∀ x e, Quiet x.2 (f x e).2 ∧ ∃ v, (f x e).1 = { x.1 with vpoison := v }) →
        ∀ x, Quiet x.2 (l.foldl f x).2 ∧ ∃ v, (l.foldl f x).1 = { x.1 with vpoison := v } := by
      intro l f hf
      induction l with
      | nil => exact fun x => ⟨Quiet.refl _, _, rfl⟩
      | cons a l ih =>
        intro x
        obtain ⟨h1, v, h2⟩ := hf x a
        obtain ⟨h3, v', h4⟩ := ih (f x a)
        exact ⟨h1.trans h3, v', by rw [List.foldl_cons, h4, h2]⟩
    refine this _ _ (fun x e => ?_) (w, s)
    dsimp only
    split
    · exact ⟨Quiet.refl _, _, rfl⟩
    · refine ⟨Quiet.trans ?_ (report_quiet _ _ _ _ _ _ _ _ _), ?_⟩
      · exact ⟨rfl, rfl, rfl, rfl⟩
      split <;> exact ⟨_, rfl⟩

/-- A wave's update touches no other wave. -/
theorem updWave_calm (s : State) (k : Nat) (f : Wave → Wave) : Calm k s (s.updWave k f) := by
  refine ⟨rfl, rfl, rfl, fun j hj => ?_⟩
  simp only [State.wave?, State.updWave, tabUpd]
  split
  · exact tabGet?_put_ne _ _ hj
  · rfl

/-- A wave's update that leaves its batch leaves it. -/
theorem updWave_batch {s : State} {k : Nat} {f : Wave → Wave} (hf : ∀ w, (f w).batch = w.batch) {v : Wave} (h : (s.updWave k f).wave? k = some v) :
    ∃ u, s.wave? k = some u ∧ v.batch = u.batch := by
  simp only [State.wave?, State.updWave, tabUpd] at h ⊢
  split at h
  · rename_i u hu
    rw [tabGet?_put_self] at h
    cases h
    exact ⟨u, hu, hf u⟩
  · exact ⟨v, h, rfl⟩

/-- Latent errors of the operands found: the stream at the word is the same, and so is its wave's batch. -/
theorem env_findVec (e : Env) (ps : List Nat) (m : Word) : Calm e.key e.s (e.findVec ps m).s ∧ (e.findVec ps m).key = e.key ∧
    (e.findVec ps m).cs = e.cs ∧ (e.findVec ps m).sp = e.sp ∧ (e.findVec ps m).cl = e.cl ∧ (∃ v, (e.findVec ps m).w = { e.w with vpoison := v }) ∧
    ∀ v, (e.findVec ps m).s.wave? e.key = some v → ∃ u, e.s.wave? e.key = some u ∧ v.batch = u.batch := by
  have h := findVec_quiet e.s e.core e.w ps m
  unfold Env.findVec
  dsimp only
  split
  · exact ⟨Calm.refl _ _, rfl, rfl, rfl, rfl, ⟨e.w.vpoison, rfl⟩, fun v hv => ⟨v, hv, rfl⟩⟩
  · refine ⟨(h.1.calm _).trans (updWave_calm _ _ _), rfl, rfl, rfl, rfl, h.2, fun v hv => ?_⟩
    obtain ⟨u, hu, hb⟩ := updWave_batch (f := fun v => { v with vpoison := (e.s.findVec e.core e.w ps m).1.vpoison }) (fun _ => rfl) hv
    exact ⟨u, by rw [← h.1.wave?]; exact hu, hb⟩

/-! ## Tracing -/

theorem setWave_calm (s : State) (k : Nat) (w : Wave) : Calm k s (s.setWave k w) :=
  ⟨rfl, rfl, rfl, fun _ hj => tabGet?_put_ne _ _ hj⟩

@[simp] theorem wave?_setWave (s : State) (k : Nat) (w : Wave) : (s.setWave k w).wave? k = some w := tabGet?_put_self _ _ _

theorem traceClose_calm (s : State) (k : Nat) (cs : Bool) (w : Wave) (t : TraceSt) (f : Bool) : Calm k s (s.traceClose k cs w t f) :=
  ⟨rfl, rfl, rfl, fun _ hj => tabGet?_put_ne _ _ hj⟩

theorem traceBytes_calm (k : Nat) (cs : Bool) (bs : List Byte) (s : State) : Calm k s (s.traceBytes k cs bs) := by
  induction bs generalizing s with
  | nil => exact Calm.refl k s
  | cons b bs ih =>
    unfold State.traceBytes
    split
    · exact Calm.refl k s
    · split
      · exact Calm.refl k s
      · split
        · exact Calm.refl k s
        · dsimp only
          split
          · exact ((setWave_calm _ _ _).trans (traceClose_calm _ _ _ _ _ _)).trans (ih _)
          · exact (setWave_calm _ _ _).trans (ih _)

theorem tracePkt_calm (s : State) (k : Nat) (cs : Bool) (p : List Byte) : Calm k s (s.tracePkt k cs p) := by
  unfold State.tracePkt
  split
  · exact Calm.refl k s
  · split
    · exact Calm.refl k s
    · split
      · exact Calm.refl k s
      · exact (setWave_calm _ _ _).trans (traceBytes_calm _ _ _ _)

theorem traceStarts_calm (s : State) (k : Nat) (cs : Bool) (t : SplitTab) (l : List Nat) : Calm k s (s.traceStarts k cs t l) := by
  refine foldl_calm _ (fun s i => ?_) _ s
  split
  · exact tracePkt_calm _ _ _ _
  · exact Calm.refl k s

theorem traceFin_calm (s : State) (k : Nat) (cs : Bool) (a b : Nat) : Calm k s (s.traceFin k cs a b).2 := by
  unfold State.traceFin
  dsimp only
  refine (tracePkt_calm s k cs []).trans ?_
  split
  · exact Calm.refl k _
  · split
    · exact Calm.refl k _
    · split
      · exact setWave_calm _ _ _
      · exact traceClose_calm _ _ _ _ _ _

theorem traceEnd_calm (s : State) (k : Nat) (cs : Bool) (a b : Nat) : Calm k s (s.traceEnd k cs a b) := traceFin_calm s k cs a b

/-- A stream that is not traced emits nothing. -/
theorem tracePkt_off {s : State} {k : Nat} {cs : Bool} {w : Wave} (h : s.wave? k = some w) (ht : (w.stream cs).trace = none) (p : List Byte) :
    s.tracePkt k cs p = s := by
  unfold State.tracePkt
  rw [h]
  simp only [ht]

/-! ## What a wave keeps while its streams are traced -/

/-- The wave `v` is `w` with other trace state in its streams. -/
def Retraced (w v : Wave) : Prop := ∃ x y, v = { w with a := { w.a with trace := x }, c := { w.c with trace := y } }

theorem Retraced.refl (w : Wave) : Retraced w w := ⟨w.a.trace, w.c.trace, rfl⟩
theorem Retraced.trans {u v w : Wave} (h : Retraced u v) (h' : Retraced v w) : Retraced u w := by
  obtain ⟨x, y, rfl⟩ := h
  obtain ⟨x', y', rfl⟩ := h'
  exact ⟨x', y', rfl⟩
theorem Retraced.upd (w : Wave) (cs : Bool) (t : Option TraceSt) : Retraced w (w.updStream cs fun st => { st with trace := t }) := by
  cases cs
  · exact ⟨t, w.c.trace, rfl⟩
  · exact ⟨w.a.trace, t, rfl⟩

theorem traceClose_wave (s : State) (k : Nat) (cs : Bool) (w : Wave) (t : TraceSt) (f : Bool) :
    ∃ v, (s.traceClose k cs w t f).wave? k = some v ∧ Retraced w v :=
  ⟨_, tabGet?_put_self _ _ _, Retraced.upd w cs _⟩

theorem traceBytes_wave (k : Nat) (cs : Bool) (bs : List Byte) (s : State) (w : Wave) (h : s.wave? k = some w) :
    ∃ v, (s.traceBytes k cs bs).wave? k = some v ∧ Retraced w v := by
  induction bs generalizing s w with
  | nil => exact ⟨w, h, Retraced.refl w⟩
  | cons b bs ih =>
    unfold State.traceBytes
    simp only [h]
    split
    · exact ⟨w, h, Retraced.refl w⟩
    · split
      · exact ⟨w, h, Retraced.refl w⟩
      · split
        · obtain ⟨v, h1, h2⟩ := traceClose_wave (s.setWave k (w.updStream cs fun st => { st with trace := some _ })) k cs w _ false
          obtain ⟨u, h3, h4⟩ := ih _ v h1
          exact ⟨u, h3, h2.trans h4⟩
        · obtain ⟨u, h3, h4⟩ := ih _ _ (wave?_setWave s k _)
          exact ⟨u, h3, (Retraced.upd w cs _).trans h4⟩

theorem tracePkt_wave (s : State) (k : Nat) (cs : Bool) (p : List Byte) (w : Wave) (h : s.wave? k = some w) :
    ∃ v, (s.tracePkt k cs p).wave? k = some v ∧ Retraced w v := by
  unfold State.tracePkt
  simp only [h]
  split
  · exact ⟨w, h, Retraced.refl w⟩
  · split
    · exact ⟨w, h, Retraced.refl w⟩
    · obtain ⟨u, h3, h4⟩ := traceBytes_wave k cs _ _ _ (wave?_setWave s k (w.updStream cs fun st => { st with trace := some _ }))
      exact ⟨u, h3, (Retraced.upd w cs _).trans h4⟩

/-! ## Traps and the end of a word -/

theorem enterNow_calm (s : State) (k : Nat) : Calm k s (s.enterNow k) := by
  unfold State.enterNow
  split
  · exact Calm.refl k s
  · split
    · exact Calm.refl k s
    · exact ((setWave_calm _ _ _).trans (tracePkt_calm _ _ _ _)).trans (tracePkt_calm _ _ _ _)

theorem enterHandler_calm (s : State) (k : Nat) : Calm k s (s.enterHandler k) := by
  unfold State.enterHandler
  split
  · exact Calm.refl k s
  · split
    · exact Calm.refl k s
    · split
      · exact Calm.refl k s
      · exact enterNow_calm s k

/-- No handler starts in a wave that waits for none (R414). -/
theorem enterHandler_none {s : State} {k : Nat} {w : Wave} (h : s.wave? k = some w) (ht : w.trapping = none) : s.enterHandler k = s := by
  unfold State.enterHandler
  simp only [h, ht]

theorem Calm.abortTask {s t : State} {k : Nat} (h : Calm k s t) (task code : Nat) :
    (t.abortTask task code).mem = s.mem ∧ (t.abortTask task code).flight = s.flight ∧ ∀ j, j ≠ k → (t.abortTask task code).wave? j = s.wave? j := by
  unfold State.abortTask
  split
  · exact ⟨h.mem, h.flight, h.waves⟩
  · exact ⟨h.mem, h.flight, fun j hj => h.waves j hj⟩

/-- Taking a trap outside a batch touches no memory and no other wave (R414 to R418); the one aborting task that it may add is the wave's own. -/
theorem takeTrap_frame (s : State) (k : Nat) (cs : Bool) (slot : Nat) (pc : DWord) (code : Nat) (addr : DWord) (lanes : Word) (kind : Nat)
    (hb : ∀ w, s.wave? k = some w → w.batch = none) :
    (s.takeTrap k cs slot pc code addr lanes kind).mem = s.mem ∧ (s.takeTrap k cs slot pc code addr lanes kind).flight = s.flight ∧
    ∀ j, j ≠ k → (s.takeTrap k cs slot pc code addr lanes kind).wave? j = s.wave? j := by
  have conv : ∀ {t : State}, Calm k s t → t.mem = s.mem ∧ t.flight = s.flight ∧ ∀ j, j ≠ k → t.wave? j = s.wave? j :=
    fun h => ⟨h.mem, h.flight, h.waves⟩
  have hd := (dropReads_quiet s (2 * k + (if cs then 1 else 0))).calm k
  have hw : ∀ w, (s.dropReads (2 * k + (if cs then 1 else 0))).wave? k = some w → w.batch = none := hb
  unfold State.takeTrap
  dsimp only
  revert hd hw
  generalize s.dropReads (2 * k + (if cs then 1 else 0)) = r
  intro hd hw
  split
  · exact conv hd
  · rename_i w hw'
    rw [hw w hw']
    dsimp only
    split
    · exact conv hd
    · split
      · exact conv ((hd.trans (setWave_calm _ _ _)).trans (enterHandler_calm _ _))
      · split
        · exact Calm.abortTask ((hd.trans ((emit_quiet _ _ _ _ _ _).calm k)).trans (setWave_calm _ _ _)) _ _
        · exact conv (((hd.trans ((emit_quiet _ _ _ _ _ _).calm k)).trans (setWave_calm _ _ _)).trans (enterHandler_calm _ _))

theorem leave_calm (e : Env) (pc : DWord) (last : Bool) : Calm e.key e.s (e.leave pc last) :=
  (setWave_calm _ _ _).trans (enterHandler_calm _ _)
theorem done_calm (e : Env) : Calm e.key e.s e.done := leave_calm e _ _
theorem await_calm (e : Env) (x : WaitFor) : Calm e.key e.s (e.await x) := (setWave_calm _ _ _).trans (enterHandler_calm _ _)

/-- A batch that faults keeps memory canonical (R238). -/
theorem wr_memOk {s : State} (h : s.MemOk) (k n v : Nat) : (s.wr k n v).MemOk := memPuts_wf h k _
theorem Quiet.memOk {s t : State} (h : Quiet s t) (hs : s.MemOk) : t.MemOk := by unfold State.MemOk; rw [h.mem]; exact hs
theorem Calm.memOk {k : Nat} {s t : State} (h : Calm k s t) (hs : s.MemOk) : t.MemOk := by unfold State.MemOk; rw [h.mem]; exact hs

theorem sendReply_mem (s : State) (r : CallReq) (a : Nat) (v x : Word) : (s.sendReply r a v x).mem = s.mem := by
  unfold State.sendReply
  split <;> rfl

theorem serve_quiet (s : State) (a b c : Nat) : Quiet s (s.serve a b c) := by
  unfold State.serve
  split
  · exact Quiet.refl s
  · exact ⟨rfl, rfl, rfl, rfl⟩

theorem wroteMem_quiet (s : State) (key n : Nat) : Quiet s (s.wroteMem key n) := by
  unfold State.wroteMem
  refine Quiet.trans ?_ (foldl_quiet _ (fun s _ => injectAt_quiet s _ _ _ _) _ _)
  exact ⟨rfl, rfl, rfl, rfl⟩

theorem put_memOk {s : State} (h : s.MemOk) (k n v : Nat) : (s.put k n v).MemOk := by
  unfold State.put
  dsimp only
  split
  · exact wr_memOk h k n v
  · exact (wroteMem_quiet _ _ _).memOk (wr_memOk h k n v)

theorem descSend_mem (s : State) (core tenant o : Nat) (causal : DWord) (p : Nat × Nat) (kind : AccessKind) (handle : DWord) :
    (s.descSend core tenant o causal p kind handle).mem = s.mem := rfl

/-- The home's update of a descriptor keeps memory canonical (R239). -/
theorem descApply_memOk (s : State) (key : Nat) (fault : Option Nat) (h : s.MemOk) : (s.descApply key fault).MemOk := by
  unfold State.descApply
  have h2 := (countSectors_quiet _ key 64 0x111).memOk
    (put_memOk (put_memOk h (key + 27) 1 (match fault with | some _ => min (s.rd (key + 27) 1 + 1) 3 | none => 0)) (key + 32) 8 (s.rd (key + 32) 8 + 1))
  cases fault <;> dsimp only <;> split <;> repeat' apply put_memOk
  all_goals exact h2

theorem descEnd_memOk (s : State) (core : Nat) (b : Batch) (causal : DWord) (fault : Option Nat) (h : s.MemOk) :
    (s.descEnd core b causal fault).MemOk := by
  unfold State.descEnd
  split
  · exact (serve_quiet _ _ _ _).memOk (descApply_memOk _ _ _ h)
  · exact h

theorem faultBatch_memOk (s : State) (k : Nat) (w : Wave) (b : Batch) (code : Nat) (h : s.MemOk) : (s.faultBatch k w b code).MemOk := by
  unfold State.faultBatch
  have hf : ∀ (l : List Nat) (f : State → Nat → State), (∀ s i, (f s i).mem = s.mem) → ∀ s : State, s.MemOk → (l.foldl f s).MemOk := by
    intro l f hf
    induction l with
    | nil => exact fun _ h => h
    | cons a l ih => exact fun s h => ih _ (by unfold State.MemOk; rw [hf]; exact h)
  have h0 := hf (List.range b.reqs.length) (fun s i =>
    match b.reqs[i]? with
    | some r => s.sendReply r b.scope 0#32 (callStatus i code cCombinerFault)
    | none => s) (fun s i => by split <;> simp [sendReply_mem]) s h
  dsimp only
  have h1 := descEnd_memOk _ (coreOf k) b w.causal (some code) h0
  split
  · exact (emit_quiet _ _ _ _ _ _).memOk ((emit_quiet _ _ _ _ _ _).memOk h1)
  · exact (emit_quiet _ _ _ _ _ _).memOk h1

theorem takeTrap_memOk (s : State) (k : Nat) (cs : Bool) (slot : Nat) (pc : DWord) (code : Nat) (addr : DWord) (lanes : Word) (kind : Nat)
    (h : s.MemOk) : (s.takeTrap k cs slot pc code addr lanes kind).MemOk := by
  by_cases hb : ∀ w, s.wave? k = some w → w.batch = none
  · unfold State.MemOk
    rw [(takeTrap_frame s k cs slot pc code addr lanes kind hb).1]
    exact h
  · simp only [not_forall] at hb
    obtain ⟨w, hw, hn⟩ := hb
    obtain ⟨b, hb⟩ := Option.ne_none_iff_exists'.1 hn
    unfold State.takeTrap
    have hw' : (s.dropReads (2 * k + (if cs then 1 else 0))).wave? k = some w := hw
    simp only [hw', hb]
    exact faultBatch_memOk _ _ _ _ _ h

/-! ## Issuing -/

/-- `o` is a next state, and that state keeps the memory of `s`: canonical if `s` has it canonical, and the same bytes outside a batch. -/
def KeepsMem (s : State) (cur : Nat) (o : Out) : Prop :=
  ∀ t, o = .next t → (s.MemOk → t.MemOk) ∧ ((∀ v, s.wave? cur = some v → v.batch = none) → t.mem = s.mem)

theorem keepsMem_calm {s t : State} {k cur : Nat} (h : Calm k s t) : KeepsMem s cur (.next t) := by
  intro u hu
  cases hu
  exact ⟨h.memOk, fun _ => h.mem⟩

/-- Work on the wave's own state that leaves its batch comes before. -/
theorem keepsMem_of_calm {s r : State} {k cur : Nat} {o : Out} (h : Calm k s r)
    (hb : ∀ v, r.wave? cur = some v → ∃ u, s.wave? cur = some u ∧ v.batch = u.batch) (ho : KeepsMem r cur o) : KeepsMem s cur o := by
  intro t ht
  obtain ⟨h1, h2⟩ := ho t ht
  refine ⟨fun hs => h1 (h.memOk hs), fun hn => (h2 fun v hv => ?_).trans h.mem⟩
  obtain ⟨u, hu, hv'⟩ := hb v hv
  rw [hv', hn u hu]

theorem updStream_keeps_batch (w : Wave) (cs : Bool) (f : Stream → Stream) : (w.updStream cs f).batch = w.batch := by
  cases cs <;> rfl

theorem putLateVal_batch (w : Wave) (l : Late) : (w.putLateVal l).batch = w.batch := by
  unfold Wave.putLateVal
  dsimp only
  split
  · split
    · rfl
    · unfold Wave.putScalar
      split
      · exact updStream_keeps_batch _ _ _
      · rfl
  · unfold Wave.putVec
    split <;> rfl

theorem settleLate_batch (w : Wave) (f : Nat) : (w.settleLate f).batch = w.batch := by
  have hf : ∀ (l : List Late) (w : Wave), (l.foldl Wave.putLateVal w).batch = w.batch := by
    intro l
    induction l with
    | nil => exact fun _ => rfl
    | cons a l ih => exact fun w => (ih _).trans (putLateVal_batch w a)
  unfold Wave.settleLate
  dsimp only
  split
  · rfl
  · exact hf _ _

theorem uncount_batch (w : Wave) (cs : Bool) : (w.uncount cs).batch = w.batch := by
  unfold Wave.uncount
  split
  · split
    · unfold Wave.flagDown
      dsimp only
      split
      · split
        · exact (settleLate_batch _ _).trans (updStream_keeps_batch w cs _)
        · exact updStream_keeps_batch w cs _
      · exact updStream_keeps_batch w cs _
    · rfl
  · rfl

theorem envAt_of_env? {s : State} {e : Env} (h : s.env? = some e) : e.s = s ∧ e.key = s.cur.wave ∧ e.cs = s.cur.cs ∧
    ∃ w, s.wave? e.key = some w ∧ e.w = w.updStream e.cs fun st => { st with wait := none } := by
  unfold State.env? at h
  split at h
  · cases h
  · split at h
    · unfold State.envAt at h
      split at h
      · cases h
      · split at h
        · cases h
        · split at h
          · cases h
          · rename_i w hw _ _ _ _ _ _
            cases h
            exact ⟨rfl, rfl, rfl, w, hw, rfl⟩
    · cases h

theorem trapWith_keepsMem (e : Env) (code : Nat) (addr : DWord) (lanes : Word) (cur : Nat) (h : e.key = cur) : KeepsMem e.s cur (e.trapWith code addr lanes) := by
  subst h
  refine keepsMem_of_calm (updWave_calm e.s e.key fun w => w.uncount e.cs) (fun _ hv => updWave_batch (fun w => uncount_batch w e.cs) hv) ?_
  intro t ht
  cases ht
  exact ⟨takeTrap_memOk _ _ _ _ _ _ _ _ _, fun hb => (takeTrap_frame _ _ _ _ _ _ _ _ _ hb).1⟩

theorem batchFault_keepsMem (s : State) (e : Env) (code : Nat) (h : s.env? = some e) : KeepsMem s s.cur.wave (e.batchFault code) := by
  obtain ⟨h1, h2, -, w, hw, hw'⟩ := envAt_of_env? h
  unfold Env.batchFault
  cases hb : e.w.batch with
  | none =>
    rw [h1]
    exact keepsMem_calm (Calm.refl 0 s)
  | some b =>
    intro t ht
    cases ht
    rw [h1]
    refine ⟨faultBatch_memOk _ _ _ _ _, fun hn => ?_⟩
    have := hn w (by rw [← h2]; exact hw)
    rw [hw', updStream_keeps_batch, this] at hb
    cases hb

theorem hold_keepsMem (e : Env) (a b cur : Nat) : KeepsMem e.s cur (e.hold a b) :=
  keepsMem_calm ((setWave_calm _ _ _).trans (enterHandler_calm _ e.key))

/-- Whatever a word's checks find, memory is kept, if its own rules keep it. -/
theorem issue_keepsMem (f : Form) (s : State) (k : Env → Out) (h : ∀ e, s.cur.wave = e.key → KeepsMem e.s e.key (k e)) :
    KeepsMem s s.cur.wave (issue f s k) := by
  rw [issue_eq]
  cases hs : s.env? with
  | none => exact keepsMem_calm (Calm.refl 0 s)
  | some e =>
    obtain ⟨h1, h2, -⟩ := envAt_of_env? hs
    dsimp only
    split
    · rw [← h1]; exact trapWith_keepsMem e _ _ _ _ (by rw [h1]; exact h2)
    · split
      · rw [← h1]; exact trapWith_keepsMem e _ _ _ _ (by rw [h1]; exact h2)
      · split
        · rw [← h1]; exact trapWith_keepsMem e _ _ _ _ (by rw [h1]; exact h2)
        · split
          · exact batchFault_keepsMem s e _ hs
          · split
            · exact batchFault_keepsMem s e _ hs
            · split
              · rw [← h1]; exact hold_keepsMem e _ _ _
              · obtain ⟨hq, hk, -, -, -, -, hb⟩ := env_findVec e ((f.ops.filter fun o => o.reads).flatMap e.places) e.exec
                refine keepsMem_of_calm (h1 ▸ hq) (by rw [← h2, ← h1]; exact hb) ?_
                generalize e.findVec _ _ = e' at *
                unfold Env.consume
                split
                · exact trapWith_keepsMem e' _ _ _ _ (hk.trans h2)
                · rw [← h2, ← hk]
                  exact h e' (by rw [hk, h2])

end Sys2Proof.Machine
end

