-- ==== Sys2Proof/Laws/Gates.lean ====
section
/-!
SUPPORT. What the gates of memory, record, home-unit and engine words do where nothing stops the word.
-/
set_option Elab.async false
namespace Sys2Proof.Machine

/-- R185, R207: no fence and no held access that the word must wait for. -/
theorem memGate_gated {e e' : Env} {c : MemClass} {o : Bool} (h : e.gated c o = some e') (k : Env → Out) : e.memGate c o k = k e' := by
  simp only [Env.gated, Bool.or_eq_true] at h
  simp only [Env.memGate]
  split at h
  · cases h
  · next hn =>
    cases h
    simp only [not_or, Bool.not_eq_true] at hn
    obtain ⟨⟨h1, h2⟩, h3⟩ := hn
    have h2' : (e.s.fenceSettle e.key).logFull (Env.core { e with s := e.s.fenceSettle e.key }) = false := h2
    rw [if_neg (by simp [h1]), if_neg (by rw [h2']; simp), if_neg (by simp [h3])]

/-- R474: a record whose bytes can be read at once. -/
theorem readRecord_recordAt {e e' : Env} {d : Dir} {va n : Nat} {b : List Byte} {look : Bool} (h : e.recordAt d va n look = some (e', b))
    (k : Env → List Byte → Out) : e.readRecord d va n k look = k e' b := by
  unfold Env.recordAt at h
  unfold Env.readRecord
  dsimp only at h ⊢
  generalize e.s.vaRead _ d va n = r at h ⊢
  obtain ⟨x, s⟩ := r
  cases x <;> simp only [reduceCtorEq, Option.some.injEq, Prod.mk.injEq] at h
  obtain ⟨rfl, rfl⟩ := h
  rfl

/-- R300: a synchronisation word whose checks pass at once. -/
theorem homeWord_wordAt {e e' : Env} {a : DWord} {key : Nat} (h : e.wordAt a = some (e', key)) (k : Env → Nat → Out) :
    e.homeWord 64 a k = k e' key := by
  simp only [Env.wordAt, Bool.or_eq_true, decide_eq_true_eq] at h
  split at h
  · cases h
  · next hn =>
    simp only [not_or, Bool.not_eq_true, Decidable.not_not] at hn
    simp only [Env.homeWord]
    rw [if_neg (by simp [hn.1.1]), if_neg (by simp [hn.1.2, hn.2])]
    generalize e.s.resolve (e.s.waveAsker e.key e.cs e.w) .store 99 a.toNat = r at h ⊢
    obtain ⟨x, s⟩ := r
    cases x <;> simp only [reduceCtorEq] at h
    rename_i p k0 ds
    cases hp : homeable p <;> simp only [hp, Option.map_none, Option.map_some, reduceCtorEq, Option.some.injEq, Prod.mk.injEq] at h
    obtain ⟨rfl, rfl⟩ := h
    simp only [hp]

/-- R115: the block holds the engine or may claim it. -/
theorem claimed_ok {e : Env} (h : e.mayClaim = true) (k : Env → Out) : e.claimed k = k e := by
  unfold Env.mayClaim at h
  exact if_pos h

/-- R118: an entry enters an engine queue that has room. -/
theorem enqueue_ok {e : Env} (h : (e.s.engine e.core).queue.length < 8) (op : EngineOp) (reads writes : List (Nat × Nat)) (elems : List Nat)
    (book : Option Nat) (k : Env → Nat → Out) (vreads vwrites : List (Nat × Nat)) :
    e.enqueue op false reads writes elems book k vreads vwrites = k (e.entered op reads writes elems book vreads vwrites) e.s.nextId := by
  simp only [Env.enqueue]
  rw [if_neg (by omega)]
  rfl

/-- R121, R123, R141: a record of the Plaza that passes its checks. -/
theorem mxRecord_ok {e : Env} {va : Nat} {ok : List Byte → Bool} {ranges : List Byte → List (Nat × Nat)} {r : List Byte}
    (h : e.mxRecordAt va ok ranges = some r) (k : Env → List Byte → Out) : e.mxRecord va ok ranges k = k (e.mxFound va) r := by
  simp only [Env.mxRecordAt] at h
  split at h
  · next hc =>
    cases h
    simp only [Bool.and_eq_true, beq_iff_eq, List.all_eq_true] at hc
    obtain ⟨⟨⟨⟨⟨⟨⟨h1, h2⟩, h3⟩, h0⟩, h4⟩, h5⟩, h6⟩, h7⟩ := hc
    simp only [Env.mxRecord]
    rw [if_neg (by simp [h1, h2, h3]), if_neg (by simpa using h0), if_neg (by simpa using h4), if_neg (by simp [h5])]
    have e1 : (ranges (e.s.plazaSeen e.opndSeen e.core (plazaOf e.w.redirect (va - plazaWin)) 64 50000)).find? (fun r => !plazaUsed r.1 r.2) = none := by
      simp only [List.find?_eq_none]; exact fun x hx => by simp [h6 x hx]
    have e2 : ((va, 64) :: ranges (e.s.plazaSeen e.opndSeen e.core (plazaOf e.w.redirect (va - plazaWin)) 64 50000)).find?
        (fun r => !(e.mxFound va).s.plazaOwned (e.mxFound va).w.redirect (e.mxFound va).w.tenant r.1 r.2) = none := by
      simp only [List.find?_eq_none]; exact fun x hx => by rw [show (e.mxFound va).w = e.w from rfl]; simpa using h7 x hx
    rw [e1]; dsimp only; rw [e2]
  · cases h

theorem filter_isEmpty_of {α : Type} {p : α → Bool} {l : List α} (h : ∀ x ∈ l, p x = false) : (l.filter p).isEmpty = true := by
  simp only [List.isEmpty_iff, List.filter_eq_nil_iff, Bool.not_eq_true]; exact h

/-- R192: lanes that pass every check, with none that faults. -/
theorem checkLanes_lanesAt {e e' : Env} {d : Dir} {scope size : Nat} {release one : Bool} {ls : List (Nat × Nat)} {oks : List LaneOk}
    (h : e.lanesAt d scope size release ls = some (e', oks)) (go : Env → List LaneOk → List LaneFault → Out) :
    e.checkLanes d scope size release one ls go = go e' oks [] := by
  simp only [Env.lanesAt] at h
  simp only [Env.checkLanes]
  generalize hr : e.s.resolveLanes (e.s.waveAsker e.key e.cs e.w) d scope ls = r at h ⊢
  obtain ⟨xs, s⟩ := r
  simp only at h ⊢
  split at h
  swap
  · cases h
  next hc =>
  cases h
  simp only [Bool.and_eq_true, List.all_eq_true] at hc
  obtain ⟨⟨⟨hl, hf⟩, hk⟩, ha⟩ := hc
  have hok : ∀ x ∈ xs, ∃ p k ds, x.2.2 = Resolved.ok p k ds := by
    intro x hx
    have := hf x hx
    revert this
    cases x.2.2 <;> simp
  rw [if_neg ?_, if_neg ?_]
  rotate_left
  · simp only [Bool.not_eq_true', Bool.not_eq_false]
    refine filter_isEmpty_of fun x hx => ?_
    have := hl x hx
    revert this
    cases vaBad x.2 <;> cases isAvenueVa x.2 <;> simp
  · simp only [Bool.not_eq_true', Bool.not_eq_false]
    refine filter_isEmpty_of fun x hx => ?_
    have := (hl x hx).1.1
    simpa using this
  obtain ⟨ys, rfl⟩ : ∃ ys : List (Nat × Nat × Place × Nat × Bool), xs = ys.map fun y => (y.1, y.2.1, Resolved.ok y.2.2.1 y.2.2.2.1 y.2.2.2.2) := by
    clear hf hk ha hr
    induction xs with
    | nil => exact ⟨[], rfl⟩
    | cons x t ih =>
      obtain ⟨ys, rfl⟩ := ih fun y hy => hok y (List.mem_cons_of_mem _ hy)
      obtain ⟨p, k, ds, h⟩ := hok x List.mem_cons_self
      exact ⟨(x.1, x.2.1, p, k, ds) :: ys, by rw [List.map_cons, ← h]⟩
  clear hf hok
  simp only [List.findSome?_map, List.filter_map, List.map_map, List.filterMap_map, Function.comp_def, List.any_map,
    List.mem_map] at hk ha ⊢
  have none1 : ∀ {α β : Type} (l : List α), l.findSome? (fun _ => (none : Option β)) = none := by
    intro α β l; rw [List.findSome?_eq_none_iff]; intros; rfl
  have none2 : ∀ {α : Type} (l : List α), l.filter (fun _ => false) = [] := by
    intro α l; rw [List.filter_eq_nil_iff]; simp
  simp only [none1, none2, List.map_nil]
  have ha' : ∀ y ∈ ys, e.s.heldPages e.key (y.2.1 / 65536) = [] := fun y hy => by
    simpa using ha _ ⟨y, hy, rfl⟩
  have fm : ∀ {β : Type} (f : Nat × Nat × Place × Nat × Bool → β), ys.filterMap (fun x => some (f x)) = ys.map f := fun f => by
    rw [← List.filterMap_eq_map]; rfl
  have fn : ∀ {β : Type}, ys.filterMap (fun _ => (none : Option β)) = [] := fun {β} => by simp
  simp only [fm, fn, List.any_map, Function.comp_def, List.all_map, List.isEmpty_nil, Bool.not_true, Bool.false_or] at hk ⊢
  obtain ⟨hk1, hk2⟩ := hk
  rw [if_neg ?c1, if_neg ?c2, if_neg ?c3, if_neg ?c4]
  case c1 =>
    cases release
    · simp
    · have : ∀ y ∈ ys, ¬ y.2.2.2.1 = 2 := by simpa using hk1
      have : ys.filter (fun x => some x.2.2.2.1 == some 2) = [] := by
        rw [List.filter_eq_nil_iff]; intro y hy; simp [this y hy]
      rw [this]; simp
  case c2 =>
    by_cases hm : ∃ y ∈ ys, y.2.2.2.1 = 1
    · have hall : (∀ y ∈ ys, y.2.2.2.1 = 1) := by
        have hc : (ys.map fun x => x.2.2.2.1).contains 1 = true := by
          rw [List.contains_iff_mem, List.mem_map]; exact hm
        rw [hc] at hk2
        simp only [Bool.not_true, Bool.false_or, Bool.and_eq_true, List.all_eq_true, beq_iff_eq] at hk2
        exact hk2.1
      have hfirst : ys.findSome? (fun x => some x.2.2.2.1) = some 1 := by
        cases ys with
        | nil => obtain ⟨y, hy, _⟩ := hm; cases hy
        | cons y t => simp [hall y List.mem_cons_self]
      have : ys.filter (fun x => (some x.2.2.2.1).isSome && some x.2.2.2.1 != some 1) = [] := by
        rw [List.filter_eq_nil_iff]; intro y hy; simp [hall y hy]
      rw [hfirst, this]; simp
    · have : ys.any (fun x => some x.2.2.2.1 == some 1) = false := by
        rw [List.any_eq_false]; intro y hy h; exact hm ⟨y, hy, by simpa using h⟩
      rw [this]; simp
  case c3 =>
    by_cases hm : ∃ y ∈ ys, y.2.2.2.1 = 1
    · have hc : (ys.map fun x => x.2.2.2.1).contains 1 = true := by
        rw [List.contains_iff_mem, List.mem_map]; exact hm
      rw [hc] at hk2
      simp only [Bool.not_true, Bool.false_or, Bool.and_eq_true, Bool.not_eq_true'] at hk2
      simp [hk2.2]
    · have : ys.any (fun x => some x.2.2.2.1 == some 1) = false := by
        rw [List.any_eq_false]; intro y hy h; exact hm ⟨y, hy, by simpa using h⟩
      rw [this]; simp
  case c4 =>
    have : ys.any (fun x => !(e.s.heldPages e.key (x.2.1 / 65536)).isEmpty) = false := by
      rw [List.any_eq_false]; intro y hy; simp [ha' y hy]
    rw [this]; simp
  congr 1
  apply List.map_congr_left
  intro y hy
  rw [ha' y hy]

end Sys2Proof.Machine
end

