-- ==== Sys2Proof/Laws/PerInstr.lean ====
section
/-!
SUPPORT. Laws stated for every instruction, one lemma per constructor.
-/
set_option Elab.async false
namespace Sys2Proof.Laws.HasWord

/-- `hasWord` says of an instruction what the encoder says: whether it has a word (R21, R36). -/
def Statement (i : Instr) : Prop := i.hasWord = (encodeRaw i).isSome

theorem nop : Statement .nop := rfl
theorem yield : Statement .yield := rfl
theorem exit : Statement .exit := rfl
theorem tret : Statement .tret := rfl
theorem roleL : Statement .roleL := rfl
theorem roleS : Statement .roleS := rfl
theorem flusha : Statement .flusha := rfl
theorem br : ∀ x0 x1, Statement (.br x0 x1) := fun _ _ => rfl
theorem call : ∀ x0, Statement (.call x0) := fun _ => rfl
theorem jmpi : ∀ x0, Statement (.jmpi x0) := fun _ => rfl
theorem calli : ∀ x0, Statement (.calli x0) := fun _ => rfl
theorem ret : Statement .ret := rfl
theorem jtab : ∀ x0 x1 x2 x3, Statement (.jtab x0 x1 x2 x3) := fun _ _ _ _ => rfl
theorem fork : ∀ x0 x1 x2, Statement (.fork x0 x1 x2) := fun _ _ _ => rfl
theorem join : ∀ x0, Statement (.join x0) := fun _ => rfl
theorem mpush : ∀ x0, Statement (.mpush x0) := fun _ => rfl
theorem melse : Statement .melse := rfl
theorem mpop : Statement .mpop := rfl
theorem mset : ∀ x0, Statement (.mset x0) := fun _ => rfl
theorem mget : ∀ x0, Statement (.mget x0) := fun _ => rfl
theorem trap : ∀ x0, Statement (.trap x0) := fun _ => rfl
theorem waita : ∀ x0 x1, Statement (.waita x0 x1) := fun _ _ => rfl
theorem waitf : ∀ x0, Statement (.waitf x0) := fun _ => rfl
theorem sleep : ∀ x0, Statement (.sleep x0) := fun _ => rfl
theorem mfsr : ∀ x0 x1, Statement (.mfsr x0 x1) := fun _ _ => rfl
theorem mtsr : ∀ x0 x1, Statement (.mtsr x0 x1) := fun _ _ => rfl
theorem evt : ∀ x0 x1, Statement (.evt x0 x1) := fun _ _ => rfl
theorem causeSet : ∀ x0, Statement (.causeSet x0) := fun _ => rfl
theorem causeGet : ∀ x0, Statement (.causeGet x0) := fun _ => rfl
theorem trcOn : ∀ x0, Statement (.trcOn x0) := fun _ => rfl
theorem trcOff : Statement .trcOff := rfl
theorem sadd : ∀ x0 x1 x2, Statement (.sadd x0 x1 x2) := fun _ _ _ => rfl
theorem ssub : ∀ x0 x1 x2, Statement (.ssub x0 x1 x2) := fun _ _ _ => rfl
theorem sand : ∀ x0 x1 x2, Statement (.sand x0 x1 x2) := fun _ _ _ => rfl
theorem sor : ∀ x0 x1 x2, Statement (.sor x0 x1 x2) := fun _ _ _ => rfl
theorem sxor : ∀ x0 x1 x2, Statement (.sxor x0 x1 x2) := fun _ _ _ => rfl
theorem sshl : ∀ x0 x1 x2, Statement (.sshl x0 x1 x2) := fun _ _ _ => rfl
theorem sshr : ∀ x0 x1 x2, Statement (.sshr x0 x1 x2) := fun _ _ _ => rfl
theorem ssar : ∀ x0 x1 x2, Statement (.ssar x0 x1 x2) := fun _ _ _ => rfl
theorem smin : ∀ x0 x1 x2, Statement (.smin x0 x1 x2) := fun _ _ _ => rfl
theorem smax : ∀ x0 x1 x2, Statement (.smax x0 x1 x2) := fun _ _ _ => rfl
theorem sminn : ∀ x0 x1 x2, Statement (.sminn x0 x1 x2) := fun _ _ _ => rfl
theorem smaxn : ∀ x0 x1 x2, Statement (.smaxn x0 x1 x2) := fun _ _ _ => rfl
theorem smul : ∀ x0 x1 x2, Statement (.smul x0 x1 x2) := fun _ _ _ => rfl
theorem smulh : ∀ x0 x1 x2, Statement (.smulh x0 x1 x2) := fun _ _ _ => rfl
theorem smulhn : ∀ x0 x1 x2, Statement (.smulhn x0 x1 x2) := fun _ _ _ => rfl
theorem sandn : ∀ x0 x1 x2, Statement (.sandn x0 x1 x2) := fun _ _ _ => rfl
theorem saddi : ∀ x0 x1 x2, Statement (.saddi x0 x1 x2) := fun _ _ _ => rfl
theorem sandi : ∀ x0 x1 x2, Statement (.sandi x0 x1 x2) := fun _ _ _ => rfl
theorem sori : ∀ x0 x1 x2, Statement (.sori x0 x1 x2) := fun _ _ _ => rfl
theorem sxori : ∀ x0 x1 x2, Statement (.sxori x0 x1 x2) := fun _ _ _ => rfl
theorem sshlImm : ∀ x0 x1 x2, Statement (.sshlImm x0 x1 x2) := fun _ _ _ => rfl
theorem sshrImm : ∀ x0 x1 x2, Statement (.sshrImm x0 x1 x2) := fun _ _ _ => rfl
theorem ssarImm : ∀ x0 x1 x2, Statement (.ssarImm x0 x1 x2) := fun _ _ _ => rfl
theorem srot : ∀ x0 x1 x2, Statement (.srot x0 x1 x2) := fun _ _ _ => rfl
theorem smovi : ∀ x0 x1, Statement (.smovi x0 x1) := fun _ _ => rfl
theorem smovhi : ∀ x0 x1, Statement (.smovhi x0 x1) := fun _ _ => rfl
theorem scmp : ∀ x0 x1, Statement (.scmp x0 x1) := fun _ _ => rfl
theorem scmpN : ∀ x0 x1, Statement (.scmpN x0 x1) := fun _ _ => rfl
theorem scmpi : ∀ x0 x1, Statement (.scmpi x0 x1) := fun _ _ => rfl
theorem scmpiN : ∀ x0 x1, Statement (.scmpiN x0 x1) := fun _ _ => rfl
theorem saddp : ∀ x0 x1 x2 x3 x4, Statement (.saddp x0 x1 x2 x3 x4) := fun _ _ _ _ _ => rfl
theorem ssel : ∀ x0 x1 x2 x3, Statement (.ssel x0 x1 x2 x3) := fun _ _ _ _ => rfl
theorem smov : ∀ x0 x1, Statement (.smov x0 x1) := fun _ _ => rfl
theorem snot : ∀ x0 x1, Statement (.snot x0 x1) := fun _ _ => rfl
theorem sneg : ∀ x0 x1, Statement (.sneg x0 x1) := fun _ _ => rfl
theorem sclz : ∀ x0 x1, Statement (.sclz x0 x1) := fun _ _ => rfl
theorem spopc : ∀ x0 x1, Statement (.spopc x0 x1) := fun _ _ => rfl
theorem sbrev : ∀ x0 x1, Statement (.sbrev x0 x1) := fun _ _ => rfl
theorem ssext8 : ∀ x0 x1, Statement (.ssext8 x0 x1) := fun _ _ => rfl
theorem ssext16 : ∀ x0 x1, Statement (.ssext16 x0 x1) := fun _ _ => rfl
theorem sdivi : ∀ x0 x1 x2, Statement (.sdivi x0 x1 x2) := fun _ _ _ => rfl
theorem sdivn : ∀ x0 x1 x2, Statement (.sdivn x0 x1 x2) := fun _ _ _ => rfl
theorem sremi : ∀ x0 x1 x2, Statement (.sremi x0 x1 x2) := fun _ _ _ => rfl
theorem sremn : ∀ x0 x1 x2, Statement (.sremn x0 x1 x2) := fun _ _ _ => rfl
theorem qpush : ∀ x0, Statement (.qpush x0) := fun _ => rfl
theorem qpop : ∀ x0, Statement (.qpop x0) := fun _ => rfl
theorem qpeek : ∀ x0, Statement (.qpeek x0) := fun _ => rfl
theorem qlen : ∀ x0, Statement (.qlen x0) := fun _ => rfl
theorem vacqB : ∀ x0, Statement (.vacqB x0) := fun _ => rfl
theorem vacqT : ∀ x0 x1, Statement (.vacqT x0 x1) := fun _ _ => rfl
theorem vrel : ∀ x0, Statement (.vrel x0) := fun _ => rfl
theorem vwin : ∀ x0, Statement (.vwin x0) := fun _ => rfl
theorem vregGrant : ∀ x0, Statement (.vregGrant x0) := fun _ => rfl
theorem vadd : ∀ x0 x1 x2, Statement (.vadd x0 x1 x2) := fun _ _ _ => rfl
theorem vsub : ∀ x0 x1 x2, Statement (.vsub x0 x1 x2) := fun _ _ _ => rfl
theorem vand : ∀ x0 x1 x2, Statement (.vand x0 x1 x2) := fun _ _ _ => rfl
theorem vor : ∀ x0 x1 x2, Statement (.vor x0 x1 x2) := fun _ _ _ => rfl
theorem vxor : ∀ x0 x1 x2, Statement (.vxor x0 x1 x2) := fun _ _ _ => rfl
theorem vshl : ∀ x0 x1 x2, Statement (.vshl x0 x1 x2) := fun _ _ _ => rfl
theorem vshr : ∀ x0 x1 x2, Statement (.vshr x0 x1 x2) := fun _ _ _ => rfl
theorem vsar : ∀ x0 x1 x2, Statement (.vsar x0 x1 x2) := fun _ _ _ => rfl
theorem vmin : ∀ x0 x1 x2, Statement (.vmin x0 x1 x2) := fun _ _ _ => rfl
theorem vmax : ∀ x0 x1 x2, Statement (.vmax x0 x1 x2) := fun _ _ _ => rfl
theorem vminn : ∀ x0 x1 x2, Statement (.vminn x0 x1 x2) := fun _ _ _ => rfl
theorem vmaxn : ∀ x0 x1 x2, Statement (.vmaxn x0 x1 x2) := fun _ _ _ => rfl
theorem vmul : ∀ x0 x1 x2, Statement (.vmul x0 x1 x2) := fun _ _ _ => rfl
theorem vmulh : ∀ x0 x1 x2, Statement (.vmulh x0 x1 x2) := fun _ _ _ => rfl
theorem vmulhn : ∀ x0 x1 x2, Statement (.vmulhn x0 x1 x2) := fun _ _ _ => rfl
theorem vandn : ∀ x0 x1 x2, Statement (.vandn x0 x1 x2) := fun _ _ _ => rfl
theorem vaddS : ∀ x0 x1 x2, Statement (.vaddS x0 x1 x2) := fun _ _ _ => rfl
theorem vsubS : ∀ x0 x1 x2, Statement (.vsubS x0 x1 x2) := fun _ _ _ => rfl
theorem vandS : ∀ x0 x1 x2, Statement (.vandS x0 x1 x2) := fun _ _ _ => rfl
theorem vorS : ∀ x0 x1 x2, Statement (.vorS x0 x1 x2) := fun _ _ _ => rfl
theorem vxorS : ∀ x0 x1 x2, Statement (.vxorS x0 x1 x2) := fun _ _ _ => rfl
theorem vshlS : ∀ x0 x1 x2, Statement (.vshlS x0 x1 x2) := fun _ _ _ => rfl
theorem vshrS : ∀ x0 x1 x2, Statement (.vshrS x0 x1 x2) := fun _ _ _ => rfl
theorem vsarS : ∀ x0 x1 x2, Statement (.vsarS x0 x1 x2) := fun _ _ _ => rfl
theorem vminS : ∀ x0 x1 x2, Statement (.vminS x0 x1 x2) := fun _ _ _ => rfl
theorem vmaxS : ∀ x0 x1 x2, Statement (.vmaxS x0 x1 x2) := fun _ _ _ => rfl
theorem vminnS : ∀ x0 x1 x2, Statement (.vminnS x0 x1 x2) := fun _ _ _ => rfl
theorem vmaxnS : ∀ x0 x1 x2, Statement (.vmaxnS x0 x1 x2) := fun _ _ _ => rfl
theorem vmulS : ∀ x0 x1 x2, Statement (.vmulS x0 x1 x2) := fun _ _ _ => rfl
theorem vmulhS : ∀ x0 x1 x2, Statement (.vmulhS x0 x1 x2) := fun _ _ _ => rfl
theorem vmulhnS : ∀ x0 x1 x2, Statement (.vmulhnS x0 x1 x2) := fun _ _ _ => rfl
theorem vandnS : ∀ x0 x1 x2, Statement (.vandnS x0 x1 x2) := fun _ _ _ => rfl
theorem vaddi : ∀ x0 x1 x2, Statement (.vaddi x0 x1 x2) := fun _ _ _ => rfl
theorem vandi : ∀ x0 x1 x2, Statement (.vandi x0 x1 x2) := fun _ _ _ => rfl
theorem vori : ∀ x0 x1 x2, Statement (.vori x0 x1 x2) := fun _ _ _ => rfl
theorem vxori : ∀ x0 x1 x2, Statement (.vxori x0 x1 x2) := fun _ _ _ => rfl
theorem vshlImm : ∀ x0 x1 x2, Statement (.vshlImm x0 x1 x2) := fun _ _ _ => rfl
theorem vshrImm : ∀ x0 x1 x2, Statement (.vshrImm x0 x1 x2) := fun _ _ _ => rfl
theorem vsarImm : ∀ x0 x1 x2, Statement (.vsarImm x0 x1 x2) := fun _ _ _ => rfl
theorem vrot : ∀ x0 x1 x2, Statement (.vrot x0 x1 x2) := fun _ _ _ => rfl
theorem vmovi : ∀ x0 x1, Statement (.vmovi x0 x1) := fun _ _ => rfl
theorem madloI32 : ∀ x0 x1 x2, Statement (.madloI32 x0 x1 x2) := fun _ _ _ => rfl
theorem madhiI32 : ∀ x0 x1 x2, Statement (.madhiI32 x0 x1 x2) := fun _ _ _ => rfl
theorem madloN32 : ∀ x0 x1 x2, Statement (.madloN32 x0 x1 x2) := fun _ _ _ => rfl
theorem madhiN32 : ∀ x0 x1 x2, Statement (.madhiN32 x0 x1 x2) := fun _ _ _ => rfl
theorem vcmpEq : ∀ x0 x1 x2, Statement (.vcmpEq x0 x1 x2) := fun _ _ _ => rfl
theorem vcmpNe : ∀ x0 x1 x2, Statement (.vcmpNe x0 x1 x2) := fun _ _ _ => rfl
theorem vcmpLt : ∀ x0 x1 x2, Statement (.vcmpLt x0 x1 x2) := fun _ _ _ => rfl
theorem vcmpLe : ∀ x0 x1 x2, Statement (.vcmpLe x0 x1 x2) := fun _ _ _ => rfl
theorem vcmpGt : ∀ x0 x1 x2, Statement (.vcmpGt x0 x1 x2) := fun _ _ _ => rfl
theorem vcmpGe : ∀ x0 x1 x2, Statement (.vcmpGe x0 x1 x2) := fun _ _ _ => rfl
theorem vcmpLtn : ∀ x0 x1 x2, Statement (.vcmpLtn x0 x1 x2) := fun _ _ _ => rfl
theorem vcmpLen : ∀ x0 x1 x2, Statement (.vcmpLen x0 x1 x2) := fun _ _ _ => rfl
theorem vcmpGtn : ∀ x0 x1 x2, Statement (.vcmpGtn x0 x1 x2) := fun _ _ _ => rfl
theorem vcmpGen : ∀ x0 x1 x2, Statement (.vcmpGen x0 x1 x2) := fun _ _ _ => rfl
theorem vcmpsEq : ∀ x0 x1 x2, Statement (.vcmpsEq x0 x1 x2) := fun _ _ _ => rfl
theorem vcmpsNe : ∀ x0 x1 x2, Statement (.vcmpsNe x0 x1 x2) := fun _ _ _ => rfl
theorem vcmpsLt : ∀ x0 x1 x2, Statement (.vcmpsLt x0 x1 x2) := fun _ _ _ => rfl
theorem vcmpsLe : ∀ x0 x1 x2, Statement (.vcmpsLe x0 x1 x2) := fun _ _ _ => rfl
theorem vcmpsGt : ∀ x0 x1 x2, Statement (.vcmpsGt x0 x1 x2) := fun _ _ _ => rfl
theorem vcmpsGe : ∀ x0 x1 x2, Statement (.vcmpsGe x0 x1 x2) := fun _ _ _ => rfl
theorem vcmpsLtn : ∀ x0 x1 x2, Statement (.vcmpsLtn x0 x1 x2) := fun _ _ _ => rfl
theorem vcmpsLen : ∀ x0 x1 x2, Statement (.vcmpsLen x0 x1 x2) := fun _ _ _ => rfl
theorem vcmpsGtn : ∀ x0 x1 x2, Statement (.vcmpsGtn x0 x1 x2) := fun _ _ _ => rfl
theorem vcmpsGen : ∀ x0 x1 x2, Statement (.vcmpsGen x0 x1 x2) := fun _ _ _ => rfl
theorem vsel : ∀ x0 x1 x2 x3, Statement (.vsel x0 x1 x2 x3) := fun _ _ _ _ => rfl
theorem vmov : ∀ x0 x1, Statement (.vmov x0 x1) := fun _ _ => rfl
theorem vnot : ∀ x0 x1, Statement (.vnot x0 x1) := fun _ _ => rfl
theorem vneg : ∀ x0 x1, Statement (.vneg x0 x1) := fun _ _ => rfl
theorem vabs : ∀ x0 x1, Statement (.vabs x0 x1) := fun _ _ => rfl
theorem vclz : ∀ x0 x1, Statement (.vclz x0 x1) := fun _ _ => rfl
theorem vpopc : ∀ x0 x1, Statement (.vpopc x0 x1) := fun _ _ => rfl
theorem vbrev : ∀ x0 x1, Statement (.vbrev x0 x1) := fun _ _ => rfl
theorem vsext8 : ∀ x0 x1, Statement (.vsext8 x0 x1) := fun _ _ => rfl
theorem vsext16 : ∀ x0 x1, Statement (.vsext16 x0 x1) := fun _ _ => rfl
theorem vzext8 : ∀ x0 x1, Statement (.vzext8 x0 x1) := fun _ _ => rfl
theorem vzext16 : ∀ x0 x1, Statement (.vzext16 x0 x1) := fun _ _ => rfl
theorem vlane : ∀ x0, Statement (.vlane x0) := fun _ => rfl
theorem vbfeN : ∀ x0 x1 x2, Statement (.vbfeN x0 x1 x2) := fun _ _ _ => rfl
theorem vbfeI : ∀ x0 x1 x2, Statement (.vbfeI x0 x1 x2) := fun _ _ _ => rfl
theorem vbfi : ∀ x0 x1 x2, Statement (.vbfi x0 x1 x2) := fun _ _ _ => rfl
theorem vleaN : ∀ x0 x1 x2 x3, Statement (.vleaN x0 x1 x2 x3) := fun _ _ _ _ => rfl
theorem vleaI : ∀ x0 x1 x2 x3, Statement (.vleaI x0 x1 x2 x3) := fun _ _ _ _ => rfl
theorem vrand : ∀ x0 x1 x2 x3, Statement (.vrand x0 x1 x2 x3) := fun _ _ _ _ => rfl
theorem pand : ∀ x0 x1 x2, Statement (.pand x0 x1 x2) := fun _ _ _ => rfl
theorem por : ∀ x0 x1 x2, Statement (.por x0 x1 x2) := fun _ _ _ => rfl
theorem pxor : ∀ x0 x1 x2, Statement (.pxor x0 x1 x2) := fun _ _ _ => rfl
theorem pandn : ∀ x0 x1 x2, Statement (.pandn x0 x1 x2) := fun _ _ _ => rfl
theorem porn : ∀ x0 x1 x2, Statement (.porn x0 x1 x2) := fun _ _ _ => rfl
theorem pnot : ∀ x0 x1, Statement (.pnot x0 x1) := fun _ _ => rfl
theorem pmov : ∀ x0 x1, Statement (.pmov x0 x1) := fun _ _ => rfl
theorem pset : ∀ x0, Statement (.pset x0) := fun _ => rfl
theorem pclr : ∀ x0, Statement (.pclr x0) := fun _ => rfl
theorem ptov : ∀ x0 x1, Statement (.ptov x0 x1) := fun _ _ => rfl
theorem vtop : ∀ x0 x1, Statement (.vtop x0 x1) := fun _ _ => rfl
theorem fadd : ∀ x0 x1 x2, Statement (.fadd x0 x1 x2) := fun _ _ _ => rfl
theorem fsub : ∀ x0 x1 x2, Statement (.fsub x0 x1 x2) := fun _ _ _ => rfl
theorem fmul : ∀ x0 x1 x2, Statement (.fmul x0 x1 x2) := fun _ _ _ => rfl
theorem fmin : ∀ x0 x1 x2, Statement (.fmin x0 x1 x2) := fun _ _ _ => rfl
theorem fmax : ∀ x0 x1 x2, Statement (.fmax x0 x1 x2) := fun _ _ _ => rfl
theorem fcopysign : ∀ x0 x1 x2, Statement (.fcopysign x0 x1 x2) := fun _ _ _ => rfl
theorem faddS : ∀ x0 x1 x2, Statement (.faddS x0 x1 x2) := fun _ _ _ => rfl
theorem fsubS : ∀ x0 x1 x2, Statement (.fsubS x0 x1 x2) := fun _ _ _ => rfl
theorem fmulS : ∀ x0 x1 x2, Statement (.fmulS x0 x1 x2) := fun _ _ _ => rfl
theorem fminS : ∀ x0 x1 x2, Statement (.fminS x0 x1 x2) := fun _ _ _ => rfl
theorem fmaxS : ∀ x0 x1 x2, Statement (.fmaxS x0 x1 x2) := fun _ _ _ => rfl
theorem fcopysignS : ∀ x0 x1 x2, Statement (.fcopysignS x0 x1 x2) := fun _ _ _ => rfl
theorem ffma : ∀ x0 x1 x2 x3, Statement (.ffma x0 x1 x2 x3) := fun _ _ _ _ => rfl
theorem ffmaNeg : ∀ x0 x1 x2 x3, Statement (.ffmaNeg x0 x1 x2 x3) := fun _ _ _ _ => rfl
theorem ffmaSub : ∀ x0 x1 x2 x3, Statement (.ffmaSub x0 x1 x2 x3) := fun _ _ _ _ => rfl
theorem ffmaNegsub : ∀ x0 x1 x2 x3, Statement (.ffmaNegsub x0 x1 x2 x3) := fun _ _ _ _ => rfl
theorem ffmas : ∀ x0 x1 x2 x3, Statement (.ffmas x0 x1 x2 x3) := fun _ _ _ _ => rfl
theorem ffmasNeg : ∀ x0 x1 x2 x3, Statement (.ffmasNeg x0 x1 x2 x3) := fun _ _ _ _ => rfl
theorem ffmasSub : ∀ x0 x1 x2 x3, Statement (.ffmasSub x0 x1 x2 x3) := fun _ _ _ _ => rfl
theorem ffmasNegsub : ∀ x0 x1 x2 x3, Statement (.ffmasNegsub x0 x1 x2 x3) := fun _ _ _ _ => rfl
theorem fcmpEq : ∀ x0 x1 x2, Statement (.fcmpEq x0 x1 x2) := fun _ _ _ => rfl
theorem fcmpNe : ∀ x0 x1 x2, Statement (.fcmpNe x0 x1 x2) := fun _ _ _ => rfl
theorem fcmpLt : ∀ x0 x1 x2, Statement (.fcmpLt x0 x1 x2) := fun _ _ _ => rfl
theorem fcmpLe : ∀ x0 x1 x2, Statement (.fcmpLe x0 x1 x2) := fun _ _ _ => rfl
theorem fcmpGt : ∀ x0 x1 x2, Statement (.fcmpGt x0 x1 x2) := fun _ _ _ => rfl
theorem fcmpGe : ∀ x0 x1 x2, Statement (.fcmpGe x0 x1 x2) := fun _ _ _ => rfl
theorem fcmpUnord : ∀ x0 x1 x2, Statement (.fcmpUnord x0 x1 x2) := fun _ _ _ => rfl
theorem fcmpOrd : ∀ x0 x1 x2, Statement (.fcmpOrd x0 x1 x2) := fun _ _ _ => rfl
theorem frcp : ∀ x0 x1, Statement (.frcp x0 x1) := fun _ _ => rfl
theorem frsq : ∀ x0 x1, Statement (.frsq x0 x1) := fun _ _ => rfl
theorem fsqrt : ∀ x0 x1, Statement (.fsqrt x0 x1) := fun _ _ => rfl
theorem fexp2 : ∀ x0 x1, Statement (.fexp2 x0 x1) := fun _ _ => rfl
theorem flog2 : ∀ x0 x1, Statement (.flog2 x0 x1) := fun _ _ => rfl
theorem fsin : ∀ x0 x1, Statement (.fsin x0 x1) := fun _ _ => rfl
theorem fcos : ∀ x0 x1, Statement (.fcos x0 x1) := fun _ _ => rfl
theorem ftanh : ∀ x0 x1, Statement (.ftanh x0 x1) := fun _ _ => rfl
theorem fdiv : ∀ x0 x1 x2, Statement (.fdiv x0 x1 x2) := fun _ _ _ => rfl
theorem fcvtBf16F32 : ∀ x0 x1 x2, Statement (.fcvtBf16F32 x0 x1 x2) := fun _ _ _ => rfl
theorem fcvtF16F32 : ∀ x0 x1 x2, Statement (.fcvtF16F32 x0 x1 x2) := fun _ _ _ => rfl
theorem fcvtF32Bf16 : ∀ x0 x1 x2, Statement (.fcvtF32Bf16 x0 x1 x2) := fun _ _ _ => rfl
theorem fcvtF32F16 : ∀ x0 x1 x2, Statement (.fcvtF32F16 x0 x1 x2) := fun _ _ _ => rfl
theorem fcvtE4m3F32 : ∀ x0 x1 x2, Statement (.fcvtE4m3F32 x0 x1 x2) := fun _ _ _ => rfl
theorem fcvtE5m2F32 : ∀ x0 x1 x2, Statement (.fcvtE5m2F32 x0 x1 x2) := fun _ _ _ => rfl
theorem fcvtF32E4m3 : ∀ x0 x1 x2, Statement (.fcvtF32E4m3 x0 x1 x2) := fun _ _ _ => rfl
theorem fcvtF32E5m2 : ∀ x0 x1 x2, Statement (.fcvtF32E5m2 x0 x1 x2) := fun _ _ _ => rfl
theorem fcvtI32F32 : ∀ x0 x1 x2, Statement (.fcvtI32F32 x0 x1 x2) := fun _ _ _ => rfl
theorem fcvtN32F32 : ∀ x0 x1 x2, Statement (.fcvtN32F32 x0 x1 x2) := fun _ _ _ => rfl
theorem fcvtF32I32 : ∀ x0 x1 x2, Statement (.fcvtF32I32 x0 x1 x2) := fun _ _ _ => rfl
theorem fcvtF32N32 : ∀ x0 x1 x2, Statement (.fcvtF32N32 x0 x1 x2) := fun _ _ _ => rfl
theorem fcvtscE4m3F32 : ∀ x0 x1 x2 x3, Statement (.fcvtscE4m3F32 x0 x1 x2 x3) := fun _ _ _ _ => rfl
theorem fcvtscE5m2F32 : ∀ x0 x1 x2 x3, Statement (.fcvtscE5m2F32 x0 x1 x2 x3) := fun _ _ _ _ => rfl
theorem fcvtscF32E4m3 : ∀ x0 x1 x2 x3, Statement (.fcvtscF32E4m3 x0 x1 x2 x3) := fun _ _ _ _ => rfl
theorem fcvtscF32E5m2 : ∀ x0 x1 x2 x3, Statement (.fcvtscF32E5m2 x0 x1 x2 x3) := fun _ _ _ _ => rfl
theorem hadd2 : ∀ x0 x1 x2 x3, Statement (.hadd2 x0 x1 x2 x3) := fun _ _ _ _ => rfl
theorem hsub2 : ∀ x0 x1 x2 x3, Statement (.hsub2 x0 x1 x2 x3) := fun _ _ _ _ => rfl
theorem hmul2 : ∀ x0 x1 x2 x3, Statement (.hmul2 x0 x1 x2 x3) := fun _ _ _ _ => rfl
theorem hmin2 : ∀ x0 x1 x2 x3, Statement (.hmin2 x0 x1 x2 x3) := fun _ _ _ _ => rfl
theorem hmax2 : ∀ x0 x1 x2 x3, Statement (.hmax2 x0 x1 x2 x3) := fun _ _ _ _ => rfl
theorem hfma2 : ∀ x0 x1 x2 x3, Statement (.hfma2 x0 x1 x2 x3) := fun _ _ _ _ => rfl
theorem hfma2Neg : ∀ x0 x1 x2 x3, Statement (.hfma2Neg x0 x1 x2 x3) := fun _ _ _ _ => rfl
theorem hfma2Sub : ∀ x0 x1 x2 x3, Statement (.hfma2Sub x0 x1 x2 x3) := fun _ _ _ _ => rfl
theorem hfma2Negsub : ∀ x0 x1 x2 x3, Statement (.hfma2Negsub x0 x1 x2 x3) := fun _ _ _ _ => rfl
theorem dot2Bf16 : ∀ x0 x1 x2, Statement (.dot2Bf16 x0 x1 x2) := fun _ _ _ => rfl
theorem dot2F16 : ∀ x0 x1 x2, Statement (.dot2F16 x0 x1 x2) := fun _ _ _ => rfl
theorem dot4E4m3 : ∀ x0 x1 x2, Statement (.dot4E4m3 x0 x1 x2) := fun _ _ _ => rfl
theorem dot4E5m2 : ∀ x0 x1 x2, Statement (.dot4E5m2 x0 x1 x2) := fun _ _ _ => rfl
theorem dot4I8 : ∀ x0 x1 x2, Statement (.dot4I8 x0 x1 x2) := fun _ _ _ => rfl
theorem dot4N8 : ∀ x0 x1 x2, Statement (.dot4N8 x0 x1 x2) := fun _ _ _ => rfl
theorem dot8Cb4 : ∀ x0 x1 x2, Statement (.dot8Cb4 x0 x1 x2) := fun _ _ _ => rfl
theorem fclass : ∀ x0 x1, Statement (.fclass x0 x1) := fun _ _ => rfl
theorem frnd : ∀ x0 x1 x2, Statement (.frnd x0 x1 x2) := fun _ _ _ => rfl
theorem fmovi : ∀ x0 x1, Statement (.fmovi x0 x1) := fun _ _ => rfl
theorem fscaleb : ∀ x0 x1 x2, Statement (.fscaleb x0 x1 x2) := fun _ _ _ => rfl
theorem fgetexp : ∀ x0 x1, Statement (.fgetexp x0 x1) := fun _ _ => rfl
theorem fgetmant : ∀ x0 x1, Statement (.fgetmant x0 x1) := fun _ _ => rfl
theorem shflIdx : ∀ x0 x1 x2, Statement (.shflIdx x0 x1 x2) := fun _ _ _ => rfl
theorem shflUp : ∀ x0 x1 x2, Statement (.shflUp x0 x1 x2) := fun _ _ _ => rfl
theorem shflDn : ∀ x0 x1 x2, Statement (.shflDn x0 x1 x2) := fun _ _ _ => rfl
theorem shflXor : ∀ x0 x1 x2, Statement (.shflXor x0 x1 x2) := fun _ _ _ => rfl
theorem shfliIdx : ∀ x0 x1 x2, Statement (.shfliIdx x0 x1 x2) := fun _ _ _ => rfl
theorem shfliUp : ∀ x0 x1 x2, Statement (.shfliUp x0 x1 x2) := fun _ _ _ => rfl
theorem shfliDn : ∀ x0 x1 x2, Statement (.shfliDn x0 x1 x2) := fun _ _ _ => rfl
theorem shfliXor : ∀ x0 x1 x2, Statement (.shfliXor x0 x1 x2) := fun _ _ _ => rfl
theorem voteAny : ∀ x0 x1, Statement (.voteAny x0 x1) := fun _ _ => rfl
theorem voteAll : ∀ x0 x1, Statement (.voteAll x0 x1) := fun _ _ => rfl
theorem voteBallot : ∀ x0 x1, Statement (.voteBallot x0 x1) := fun _ _ => rfl
theorem voteUni : ∀ x0 x1, Statement (.voteUni x0 x1) := fun _ _ => rfl
theorem voteElect : ∀ x0, Statement (.voteElect x0) := fun _ => rfl
theorem reduceAddI32 : ∀ x0 x1, Statement (.reduceAddI32 x0 x1) := fun _ _ => rfl
theorem reduceAddF32 : ∀ x0 x1, Statement (.reduceAddF32 x0 x1) := fun _ _ => rfl
theorem reduceMinI : ∀ x0 x1, Statement (.reduceMinI x0 x1) := fun _ _ => rfl
theorem reduceMaxI : ∀ x0 x1, Statement (.reduceMaxI x0 x1) := fun _ _ => rfl
theorem reduceMinN : ∀ x0 x1, Statement (.reduceMinN x0 x1) := fun _ _ => rfl
theorem reduceMaxN : ∀ x0 x1, Statement (.reduceMaxN x0 x1) := fun _ _ => rfl
theorem reduceAnd : ∀ x0 x1, Statement (.reduceAnd x0 x1) := fun _ _ => rfl
theorem reduceOr : ∀ x0 x1, Statement (.reduceOr x0 x1) := fun _ _ => rfl
theorem reduceXor : ∀ x0 x1, Statement (.reduceXor x0 x1) := fun _ _ => rfl
theorem reduceMinF32 : ∀ x0 x1, Statement (.reduceMinF32 x0 x1) := fun _ _ => rfl
theorem reduceMaxF32 : ∀ x0 x1, Statement (.reduceMaxF32 x0 x1) := fun _ _ => rfl
theorem scanAddI32 : ∀ x0 x1 x2, Statement (.scanAddI32 x0 x1 x2) := fun _ _ _ => rfl
theorem scanAddF32 : ∀ x0 x1 x2, Statement (.scanAddF32 x0 x1 x2) := fun _ _ _ => rfl
theorem scanMinI : ∀ x0 x1 x2, Statement (.scanMinI x0 x1 x2) := fun _ _ _ => rfl
theorem scanMaxI : ∀ x0 x1 x2, Statement (.scanMaxI x0 x1 x2) := fun _ _ _ => rfl
theorem scanOr : ∀ x0 x1 x2, Statement (.scanOr x0 x1 x2) := fun _ _ _ => rfl
theorem matchLanes : ∀ x0 x1, Statement (.matchLanes x0 x1) := fun _ _ => rfl
theorem rdlane : ∀ x0 x1 x2, Statement (.rdlane x0 x1 x2) := fun _ _ _ => rfl
theorem wrlane : ∀ x0 x1 x2, Statement (.wrlane x0 x1 x2) := fun _ _ _ => rfl
theorem bcast : ∀ x0 x1 x2, Statement (.bcast x0 x1 x2) := fun _ _ _ => rfl
theorem ldvN8 : ∀ x0 x1 x2 x3, Statement (.ldvN8 x0 x1 x2 x3) := fun _ _ _ _ => rfl
theorem ldvI8 : ∀ x0 x1 x2 x3, Statement (.ldvI8 x0 x1 x2 x3) := fun _ _ _ _ => rfl
theorem ldvN16 : ∀ x0 x1 x2 x3, Statement (.ldvN16 x0 x1 x2 x3) := fun _ _ _ _ => rfl
theorem ldvI16 : ∀ x0 x1 x2 x3, Statement (.ldvI16 x0 x1 x2 x3) := fun _ _ _ _ => rfl
theorem ldv32 : ∀ x0 x1 x2 x3, Statement (.ldv32 x0 x1 x2 x3) := fun _ _ _ _ => rfl
theorem ldv64 : ∀ x0 x1 x2 x3, Statement (.ldv64 x0 x1 x2 x3) := fun _ _ _ _ => rfl
theorem ldv128 : ∀ x0 x1 x2 x3, Statement (.ldv128 x0 x1 x2 x3) := fun _ _ _ _ => rfl
theorem stv8 : ∀ x0 x1 x2 x3, Statement (.stv8 x0 x1 x2 x3) := fun _ _ _ _ => rfl
theorem stv16 : ∀ x0 x1 x2 x3, Statement (.stv16 x0 x1 x2 x3) := fun _ _ _ _ => rfl
theorem stv32 : ∀ x0 x1 x2 x3, Statement (.stv32 x0 x1 x2 x3) := fun _ _ _ _ => rfl
theorem stv64 : ∀ x0 x1 x2 x3, Statement (.stv64 x0 x1 x2 x3) := fun _ _ _ _ => rfl
theorem stv128 : ∀ x0 x1 x2 x3, Statement (.stv128 x0 x1 x2 x3) := fun _ _ _ _ => rfl
theorem lds32 : ∀ x0 x1 x2 x3, Statement (.lds32 x0 x1 x2 x3) := fun _ _ _ _ => rfl
theorem lds64 : ∀ x0 x1 x2 x3, Statement (.lds64 x0 x1 x2 x3) := fun _ _ _ _ => rfl
theorem sts32 : ∀ x0 x1 x2 x3, Statement (.sts32 x0 x1 x2 x3) := fun _ _ _ _ => rfl
theorem sts64 : ∀ x0 x1 x2 x3, Statement (.sts64 x0 x1 x2 x3) := fun _ _ _ _ => rfl
theorem atomAddI32 : ∀ x0 x1 x2 x3, Statement (.atomAddI32 x0 x1 x2 x3) := fun _ _ _ _ => rfl
theorem atomAddF32 : ∀ x0 x1 x2 x3, Statement (.atomAddF32 x0 x1 x2 x3) := fun _ _ _ _ => rfl
theorem atomMinI : ∀ x0 x1 x2 x3, Statement (.atomMinI x0 x1 x2 x3) := fun _ _ _ _ => rfl
theorem atomMaxI : ∀ x0 x1 x2 x3, Statement (.atomMaxI x0 x1 x2 x3) := fun _ _ _ _ => rfl
theorem atomMinN : ∀ x0 x1 x2 x3, Statement (.atomMinN x0 x1 x2 x3) := fun _ _ _ _ => rfl
theorem atomMaxN : ∀ x0 x1 x2 x3, Statement (.atomMaxN x0 x1 x2 x3) := fun _ _ _ _ => rfl
theorem atomAnd : ∀ x0 x1 x2 x3, Statement (.atomAnd x0 x1 x2 x3) := fun _ _ _ _ => rfl
theorem atomOr : ∀ x0 x1 x2 x3, Statement (.atomOr x0 x1 x2 x3) := fun _ _ _ _ => rfl
theorem atomXor : ∀ x0 x1 x2 x3, Statement (.atomXor x0 x1 x2 x3) := fun _ _ _ _ => rfl
theorem atomXchg : ∀ x0 x1 x2 x3, Statement (.atomXchg x0 x1 x2 x3) := fun _ _ _ _ => rfl
theorem atomCas : ∀ x0 x1 x2 x3, Statement (.atomCas x0 x1 x2 x3) := fun _ _ _ _ => rfl
theorem atomAddI64 : ∀ x0 x1 x2 x3, Statement (.atomAddI64 x0 x1 x2 x3) := fun _ _ _ _ => rfl
theorem atomIncw : ∀ x0 x1 x2 x3, Statement (.atomIncw x0 x1 x2 x3) := fun _ _ _ _ => rfl
theorem atomAddBf16x2 : ∀ x0 x1 x2 x3, Statement (.atomAddBf16x2 x0 x1 x2 x3) := fun _ _ _ _ => rfl
theorem redAddI32 : ∀ x0 x1 x2, Statement (.redAddI32 x0 x1 x2) := fun _ _ _ => rfl
theorem redAddF32 : ∀ x0 x1 x2, Statement (.redAddF32 x0 x1 x2) := fun _ _ _ => rfl
theorem redMinI : ∀ x0 x1 x2, Statement (.redMinI x0 x1 x2) := fun _ _ _ => rfl
theorem redMaxI : ∀ x0 x1 x2, Statement (.redMaxI x0 x1 x2) := fun _ _ _ => rfl
theorem redMinN : ∀ x0 x1 x2, Statement (.redMinN x0 x1 x2) := fun _ _ _ => rfl
theorem redMaxN : ∀ x0 x1 x2, Statement (.redMaxN x0 x1 x2) := fun _ _ _ => rfl
theorem redAnd : ∀ x0 x1 x2, Statement (.redAnd x0 x1 x2) := fun _ _ _ => rfl
theorem redOr : ∀ x0 x1 x2, Statement (.redOr x0 x1 x2) := fun _ _ _ => rfl
theorem redXor : ∀ x0 x1 x2, Statement (.redXor x0 x1 x2) := fun _ _ _ => rfl
theorem redXchg : ∀ x0 x1 x2, Statement (.redXchg x0 x1 x2) := fun _ _ _ => rfl
theorem redCas : ∀ x0 x1 x2, Statement (.redCas x0 x1 x2) := fun _ _ _ => rfl
theorem redAddI64 : ∀ x0 x1 x2, Statement (.redAddI64 x0 x1 x2) := fun _ _ _ => rfl
theorem redIncw : ∀ x0 x1 x2, Statement (.redIncw x0 x1 x2) := fun _ _ _ => rfl
theorem redAddBf16x2 : ∀ x0 x1 x2, Statement (.redAddBf16x2 x0 x1 x2) := fun _ _ _ => rfl
theorem callo : ∀ x0 x1 x2, Statement (.callo x0 x1 x2) := fun _ _ _ => rfl
theorem fenceAcq : ∀ x0, Statement (.fenceAcq x0) := fun _ => rfl
theorem fenceRel : ∀ x0, Statement (.fenceRel x0) := fun _ => rfl
theorem fenceAcqrel : ∀ x0, Statement (.fenceAcqrel x0) := fun _ => rfl
theorem fenceSc : ∀ x0, Statement (.fenceSc x0) := fun _ => rfl
theorem fenceOpnd : ∀ x0, Statement (.fenceOpnd x0) := fun _ => rfl
theorem fenceFlush : ∀ x0, Statement (.fenceFlush x0) := fun _ => rfl
theorem fenceEng : ∀ x0, Statement (.fenceEng x0) := fun _ => rfl
theorem pft : ∀ x0 x1 x2, Statement (.pft x0 x1 x2) := fun _ _ _ => rfl
theorem copy : ∀ x0 x1 x2, Statement (.copy x0 x1 x2) := fun _ _ _ => rfl
theorem copyNp : ∀ x0 x1 x2, Statement (.copyNp x0 x1 x2) := fun _ _ _ => rfl
theorem gpool : ∀ x0 x1 x2, Statement (.gpool x0 x1 x2) := fun _ _ _ => rfl
theorem coll : ∀ x0 x1 x2, Statement (.coll x0 x1 x2) := fun _ _ _ => rfl
theorem barInit : ∀ x0 x1, Statement (.barInit x0 x1) := fun _ _ => rfl
theorem barArrive : ∀ x0 x1, Statement (.barArrive x0 x1) := fun _ _ => rfl
theorem barWait : ∀ x0 x1, Statement (.barWait x0 x1) := fun _ _ => rfl
theorem barArrwait : ∀ x0 x1, Statement (.barArrwait x0 x1) := fun _ _ => rfl
theorem barExpect : ∀ x0 x1, Statement (.barExpect x0 x1) := fun _ _ => rfl
theorem barTrywait : ∀ x0 x1 x2, Statement (.barTrywait x0 x1 x2) := fun _ _ _ => rfl
theorem barWaitp : ∀ x0 x1, Statement (.barWaitp x0 x1) := fun _ _ => rfl
theorem barDrop : ∀ x0 x1, Statement (.barDrop x0 x1) := fun _ _ => rfl
theorem semInit : ∀ x0 x1, Statement (.semInit x0 x1) := fun _ _ => rfl
theorem semP : ∀ x0, Statement (.semP x0) := fun _ => rfl
theorem semV : ∀ x0, Statement (.semV x0) := fun _ => rfl
theorem semTryp : ∀ x0 x1, Statement (.semTryp x0 x1) := fun _ _ => rfl
theorem spawn : ∀ x0, Statement (.spawn x0) := fun _ => rfl
theorem jdec : ∀ x0 x1, Statement (.jdec x0 x1) := fun _ _ => rfl
theorem falloc : ∀ x0 x1 x2, Statement (.falloc x0 x1 x2) := fun _ _ _ => rfl
theorem ffree : ∀ x0, Statement (.ffree x0) := fun _ => rfl
theorem fquota : ∀ x0 x1, Statement (.fquota x0 x1) := fun _ _ => rfl
theorem creply : ∀ x0, Statement (.creply x0) := fun _ => rfl
theorem cdone : Statement .cdone := rfl
theorem cabort : ∀ x0, Statement (.cabort x0) := fun _ => rfl
theorem mloopBf16 : ∀ x0 x1 x2 x3 x4 x5, Statement (.mloopBf16 x0 x1 x2 x3 x4 x5) := fun _ _ _ _ _ _ => rfl
theorem mloopF16 : ∀ x0 x1 x2 x3 x4 x5, Statement (.mloopF16 x0 x1 x2 x3 x4 x5) := fun _ _ _ _ _ _ => rfl
theorem mloopE4m3 : ∀ x0 x1 x2 x3 x4 x5 x6, Statement (.mloopE4m3 x0 x1 x2 x3 x4 x5 x6) := fun _ _ _ _ _ _ _ => rfl
theorem mloopE5m2 : ∀ x0 x1 x2 x3 x4 x5 x6, Statement (.mloopE5m2 x0 x1 x2 x3 x4 x5 x6) := fun _ _ _ _ _ _ _ => rfl
theorem mloopI8 : ∀ x0 x1 x2 x3 x4 x5, Statement (.mloopI8 x0 x1 x2 x3 x4 x5) := fun _ _ _ _ _ _ => rfl
theorem mloopCb4 : ∀ x0 x1 x2 x3 x4 x5 x6, Statement (.mloopCb4 x0 x1 x2 x3 x4 x5 x6) := fun _ _ _ _ _ _ _ => rfl
theorem mloopCb4bf : ∀ x0 x1 x2 x3 x4 x5 x6, Statement (.mloopCb4bf x0 x1 x2 x3 x4 x5 x6) := fun _ _ _ _ _ _ _ => rfl
theorem mzero : ∀ x0, Statement (.mzero x0) := fun _ => rfl
theorem mcb : ∀ x0 x1, Statement (.mcb x0 x1) := fun _ _ => rfl
theorem mstat : ∀ x0 x1 x2, Statement (.mstat x0 x1 x2) := fun _ _ _ => rfl
theorem mdrainStoreF32 : ∀ x0 x1 x2, Statement (.mdrainStoreF32 x0 x1 x2) := fun _ _ _ => rfl
theorem mdrainStoreBf16 : ∀ x0 x1 x2, Statement (.mdrainStoreBf16 x0 x1 x2) := fun _ _ _ => rfl
theorem mdrainStoreE4m3 : ∀ x0 x1 x2, Statement (.mdrainStoreE4m3 x0 x1 x2) := fun _ _ _ => rfl
theorem mdrainAddF32 : ∀ x0 x1 x2, Statement (.mdrainAddF32 x0 x1 x2) := fun _ _ _ => rfl
theorem mdrainAddOrdered : ∀ x0 x1 x2, Statement (.mdrainAddOrdered x0 x1 x2) := fun _ _ _ => rfl
theorem msave : ∀ x0, Statement (.msave x0) := fun _ => rfl
theorem mrestore : ∀ x0, Statement (.mrestore x0) := fun _ => rfl
theorem clauseHeader : ∀ x0 x1 x2 x3, Statement (.clauseHeader x0 x1 x2 x3) := fun _ _ _ _ => rfl
theorem streamAges : ∀ x0 x1, Statement (.streamAges x0 x1) := fun _ _ => rfl
theorem longLatencyWrite : ∀ x0 x1, Statement (.longLatencyWrite x0 x1) := fun _ _ => rfl
theorem loadLand : ∀ x0, Statement (.loadLand x0) := fun _ => rfl
theorem loadError : ∀ x0, Statement (.loadError x0) := fun _ => rfl
theorem deferredTrap : ∀ x0, Statement (.deferredTrap x0) := fun _ => rfl
theorem homeUnitRequest : ∀ x0, Statement (.homeUnitRequest x0) := fun _ => rfl
theorem spillFreed : ∀ x0, Statement (.spillFreed x0) := fun _ => rfl
theorem barrierHomeOp : ∀ x0, Statement (.barrierHomeOp x0) := fun _ => rfl
theorem flipWake : ∀ x0 x1, Statement (.flipWake x0 x1) := fun _ _ => rfl
theorem semHomeOp : ∀ x0, Statement (.semHomeOp x0) := fun _ => rfl
theorem jdecHomeOp : ∀ x0, Statement (.jdecHomeOp x0) := fun _ => rfl
theorem homeReplyArrival : ∀ x0, Statement (.homeReplyArrival x0) := fun _ => rfl
theorem promisePass : ∀ x0, Statement (.promisePass x0) := fun _ => rfl
theorem promiseRevise : ∀ x0, Statement (.promiseRevise x0) := fun _ => rfl
theorem sleepWake : ∀ x0 x1, Statement (.sleepWake x0 x1) := fun _ _ => rfl
theorem matrixClaimPass : ∀ x0, Statement (.matrixClaimPass x0) := fun _ => rfl
theorem engineEntryStart : ∀ x0, Statement (.engineEntryStart x0) := fun _ => rfl
theorem mloopKstepEnd : ∀ x0, Statement (.mloopKstepEnd x0) := fun _ => rfl
theorem engineEntryComplete : ∀ x0, Statement (.engineEntryComplete x0) := fun _ => rfl
theorem drainTicketRead : ∀ x0, Statement (.drainTicketRead x0) := fun _ => rfl
theorem copyAccept : ∀ x0, Statement (.copyAccept x0) := fun _ => rfl
theorem gpoolAccept : ∀ x0, Statement (.gpoolAccept x0) := fun _ => rfl
theorem engineLinePerformed : ∀ x0 x1, Statement (.engineLinePerformed x0 x1) := fun _ _ => rfl
theorem collAccept : ∀ x0, Statement (.collAccept x0) := fun _ => rfl
theorem collDataArrival : ∀ x0, Statement (.collDataArrival x0) := fun _ => rfl
theorem collAck : ∀ x0, Statement (.collAck x0) := fun _ => rfl
theorem collEndMessage : ∀ x0, Statement (.collEndMessage x0) := fun _ => rfl
theorem curfewExpiry : ∀ x0, Statement (.curfewExpiry x0) := fun _ => rfl
theorem curfewProbeReply : ∀ x0, Statement (.curfewProbeReply x0) := fun _ => rfl
theorem curfewProbeTimeout : ∀ x0, Statement (.curfewProbeTimeout x0) := fun _ => rfl
theorem calloRequestArrival : ∀ x0, Statement (.calloRequestArrival x0) := fun _ => rfl
theorem batchForm : ∀ x0, Statement (.batchForm x0) := fun _ => rfl
theorem calloReplyLand : ∀ x0, Statement (.calloReplyLand x0) := fun _ => rfl
theorem detEpochApply : ∀ x0, Statement (.detEpochApply x0) := fun _ => rfl
theorem doorbell : ∀ x0, Statement (.doorbell x0) := fun _ => rfl
theorem blockDispatch : ∀ x0, Statement (.blockDispatch x0) := fun _ => rfl
theorem recordLift : ∀ x0, Statement (.recordLift x0) := fun _ => rfl
theorem reservationWait : ∀ x0, Statement (.reservationWait x0) := fun _ => rfl
theorem preemptTrigger : ∀ x0, Statement (.preemptTrigger x0) := fun _ => rfl
theorem preemptSave : ∀ x0, Statement (.preemptSave x0) := fun _ => rfl
theorem preemptRestore : ∀ x0, Statement (.preemptRestore x0) := fun _ => rfl
theorem blockLeave : ∀ x0, Statement (.blockLeave x0) := fun _ => rfl
theorem spawnRingCopy : Statement .spawnRingCopy := rfl
theorem taskRetire : ∀ x0, Statement (.taskRetire x0) := fun _ => rfl
theorem taskAbort : ∀ x0, Statement (.taskAbort x0) := fun _ => rfl
theorem pageWalkDone : ∀ x0, Statement (.pageWalkDone x0) := fun _ => rfl
theorem faultRecordWrite : Statement .faultRecordWrite := rfl
theorem faultServiceDuty : ∀ x0, Statement (.faultServiceDuty x0) := fun _ => rfl
theorem migrationDuty : ∀ x0 x1 x2, Statement (.migrationDuty x0 x1 x2) := fun _ _ _ => rfl
theorem trnInvalAll : Statement .trnInvalAll := rfl
theorem trnInvalTenant : ∀ x0, Statement (.trnInvalTenant x0) := fun _ => rfl
theorem trnInvalRange : ∀ x0 x1 x2, Statement (.trnInvalRange x0 x1 x2) := fun _ _ _ => rfl
theorem invalidationDone : Statement .invalidationDone := rfl
theorem faultRingHead : ∀ x0, Statement (.faultRingHead x0) := fun _ => rfl
theorem replayToken : ∀ x0, Statement (.replayToken x0) := fun _ => rfl
theorem replayPage : ∀ x0 x1, Statement (.replayPage x0 x1) := fun _ _ => rfl
theorem replayTenant : ∀ x0, Statement (.replayTenant x0) := fun _ => rfl
theorem replayFail : ∀ x0 x1, Statement (.replayFail x0 x1) := fun _ _ => rfl
theorem keyInstall : Statement .keyInstall := rfl
theorem keyRetire : Statement .keyRetire := rfl
theorem frameBind : Statement .frameBind := rfl
theorem frameUnbind : Statement .frameUnbind := rfl
theorem rawcopy : Statement .rawcopy := rfl
theorem avquotaWrite : ∀ x0, Statement (.avquotaWrite x0) := fun _ => rfl
theorem snapshotStart : ∀ x0, Statement (.snapshotStart x0) := fun _ => rfl
theorem snapshotAbort : Statement .snapshotAbort := rfl
theorem snapshotStageDone : ∀ x0, Statement (.snapshotStageDone x0) := fun _ => rfl
theorem snapshotDrainDone : Statement .snapshotDrainDone := rfl
theorem groupReload : ∀ x0, Statement (.groupReload x0) := fun _ => rfl
theorem groupRebuild : ∀ x0, Statement (.groupRebuild x0) := fun _ => rfl
theorem rebuildListArrival : ∀ x0, Statement (.rebuildListArrival x0) := fun _ => rfl
theorem rebuildAckTimeout : ∀ x0, Statement (.rebuildAckTimeout x0) := fun _ => rfl
theorem waitSnapshot : ∀ x0, Statement (.waitSnapshot x0) := fun _ => rfl
theorem waitGather : ∀ x0, Statement (.waitGather x0) := fun _ => rfl
theorem gatherDeviceTimeout : ∀ x0, Statement (.gatherDeviceTimeout x0) := fun _ => rfl
theorem curfewRingHead : ∀ x0, Statement (.curfewRingHead x0) := fun _ => rfl
theorem errorLogHead : ∀ x0 x1, Statement (.errorLogHead x0 x1) := fun _ _ => rfl
theorem hostRingHead : ∀ x0, Statement (.hostRingHead x0) := fun _ => rfl
theorem errorInjectArm : ∀ x0, Statement (.errorInjectArm x0) := fun _ => rfl
theorem errorReport : ∀ x0 x1 x2 x3, Statement (.errorReport x0 x1 x2 x3) := fun _ _ _ _ => rfl
theorem eventHandoff : Statement .eventHandoff := rfl
theorem duskDrain : ∀ x0, Statement (.duskDrain x0) := fun _ => rfl
theorem traceDrainCopy : Statement .traceDrainCopy := rfl
theorem traceChunkWrite : ∀ x0 x1, Statement (.traceChunkWrite x0 x1) := fun _ _ => rfl
theorem flitReceive : ∀ x0 x1 x2 x3, Statement (.flitReceive x0 x1 x2 x3) := fun _ _ _ _ => rfl
theorem nakReceive : ∀ x0 x1, Statement (.nakReceive x0 x1) := fun _ _ => rfl
theorem laneFail : ∀ x0 x1, Statement (.laneFail x0 x1) := fun _ _ => rfl
theorem linkTrainDone : ∀ x0, Statement (.linkTrainDone x0) := fun _ => rfl
theorem linkTrainTimeout : ∀ x0, Statement (.linkTrainTimeout x0) := fun _ => rfl
theorem linkCmd16 : ∀ x0 x1, Statement (.linkCmd16 x0 x1) := fun _ _ => rfl
theorem linkCmdLow : ∀ x0 x1, Statement (.linkCmdLow x0 x1) := fun _ _ => rfl
theorem linkCmdHigh : ∀ x0 x1, Statement (.linkCmdHigh x0 x1) := fun _ _ => rfl
theorem linkKeyAgree : ∀ x0, Statement (.linkKeyAgree x0) := fun _ => rfl
theorem linkRekey : ∀ x0, Statement (.linkRekey x0) := fun _ => rfl
theorem fabricRequestArrival : Statement .fabricRequestArrival := rfl
theorem fabricReplyArrival : Statement .fabricReplyArrival := rfl
theorem busyResend : ∀ x0, Statement (.busyResend x0) := fun _ => rfl
theorem e2eTimerExpiry : ∀ x0, Statement (.e2eTimerExpiry x0) := fun _ => rfl
theorem filterKeyExpire : Statement .filterKeyExpire := rfl
theorem planeMapWrite : ∀ x0, Statement (.planeMapWrite x0) := fun _ => rfl
theorem mapFenceDone : Statement .mapFenceDone := rfl
theorem planeDead : ∀ x0, Statement (.planeDead x0) := fun _ => rfl
theorem ptpMessage : ∀ x0 x1 x2, Statement (.ptpMessage x0 x1 x2) := fun _ _ _ => rfl
theorem hostBar2PaRequest : ∀ x0 x1 x2 x3 x4, Statement (.hostBar2PaRequest x0 x1 x2 x3 x4) := fun _ _ _ _ _ => rfl
theorem hostBar2PasidRequest : ∀ x0 x1 x2 x3 x4 x5, Statement (.hostBar2PasidRequest x0 x1 x2 x3 x4 x5) := fun _ _ _ _ _ _ => rfl
theorem hostAtomicop : ∀ x0 x1 x2 x3 x4 x5 x6, Statement (.hostAtomicop x0 x1 x2 x3 x4 x5 x6) := fun _ _ _ _ _ _ _ => rfl
theorem hostEarlyAccess : ∀ x0 x1, Statement (.hostEarlyAccess x0 x1) := fun _ _ => rfl
theorem attestationRequest : ∀ x0 x1 x2 x3, Statement (.attestationRequest x0 x1 x2 x3) := fun _ _ _ _ => rfl
theorem ideTlpFail : ∀ x0 x1, Statement (.ideTlpFail x0 x1) := fun _ _ => rfl
theorem ideKmMessage : ∀ x0 x1, Statement (.ideKmMessage x0 x1) := fun _ _ => rfl
theorem powerOn : ∀ x0, Statement (.powerOn x0) := fun _ => rfl
theorem warmReset : ∀ x0, Statement (.warmReset x0) := fun _ => rfl
theorem firmwareReload : ∀ x0, Statement (.firmwareReload x0) := fun _ => rfl
theorem flrH0 : Statement .flrH0 := rfl
theorem flrH1 : Statement .flrH1 := rfl
theorem thermalTrip : ∀ x0, Statement (.thermalTrip x0) := fun _ => rfl
theorem junctionThrottle : ∀ x0 x1 x2, Statement (.junctionThrottle x0 x1 x2) := fun _ _ _ => rfl
theorem powerCapAdjust : ∀ x0 x1, Statement (.powerCapAdjust x0 x1) := fun _ _ => rfl
theorem devnoWrite : ∀ x0, Statement (.devnoWrite x0) := fun _ => rfl
theorem recoveryGo : ∀ x0, Statement (.recoveryGo x0) := fun _ => rfl
theorem registerWrite : ∀ x0 x1 x2 x3, Statement (.registerWrite x0 x1 x2 x3) := fun _ _ _ _ => rfl
theorem powerRemoval : Statement .powerRemoval := rfl
theorem throttleEnd : ∀ x0 x1, Statement (.throttleEnd x0 x1) := fun _ _ => rfl
theorem coreCycles : ∀ x0, Statement (.coreCycles x0) := fun _ => rfl

end Sys2Proof.Laws.HasWord
end

