-- ==== Sys2Proof/Laws/State.lean ====
section
/-!
SUPPORT. What each named update leaves of every field: one lemma for each field that it does not change, true by unfolding.
-/
set_option Elab.async false
namespace Sys2Proof.Machine

/-! ## Writing a wave -/

@[simp] theorem setWave_tape (s : State) (k : Nat) (w : Wave) : (s.setWave k w).tape = s.tape := rfl
@[simp] theorem setWave_cur (s : State) (k : Nat) (w : Wave) : (s.setWave k w).cur = s.cur := rfl
@[simp] theorem setWave_free (s : State) (k : Nat) (w : Wave) : (s.setWave k w).free = s.free := rfl
@[simp] theorem setWave_stamp (s : State) (k : Nat) (w : Wave) : (s.setWave k w).stamp = s.stamp := rfl
@[simp] theorem setWave_nextId (s : State) (k : Nat) (w : Wave) : (s.setWave k w).nextId = s.nextId := rfl
@[simp] theorem setWave_gtc (s : State) (k : Nat) (w : Wave) : (s.setWave k w).gtc = s.gtc := rfl
@[simp] theorem setWave_powered (s : State) (k : Nat) (w : Wave) : (s.setWave k w).powered = s.powered := rfl
@[simp] theorem setWave_device (s : State) (k : Nat) (w : Wave) : (s.setWave k w).device = s.device := rfl
@[simp] theorem setWave_cores (s : State) (k : Nat) (w : Wave) : (s.setWave k w).cores = s.cores := rfl
@[simp] theorem setWave_mem (s : State) (k : Nat) (w : Wave) : (s.setWave k w).mem = s.mem := rfl
@[simp] theorem setWave_flight (s : State) (k : Nat) (w : Wave) : (s.setWave k w).flight = s.flight := rfl
@[simp] theorem setWave_fences (s : State) (k : Nat) (w : Wave) : (s.setWave k w).fences = s.fences := rfl
@[simp] theorem setWave_walks (s : State) (k : Nat) (w : Wave) : (s.setWave k w).walks = s.walks := rfl
@[simp] theorem setWave_walkRes (s : State) (k : Nat) (w : Wave) : (s.setWave k w).walkRes = s.walkRes := rfl
@[simp] theorem setWave_lines (s : State) (k : Nat) (w : Wave) : (s.setWave k w).lines = s.lines := rfl
@[simp] theorem setWave_held (s : State) (k : Nat) (w : Wave) : (s.setWave k w).held = s.held := rfl
@[simp] theorem setWave_heldNext (s : State) (k : Nat) (w : Wave) : (s.setWave k w).heldNext = s.heldNext := rfl
@[simp] theorem setWave_cycle (s : State) (k : Nat) (w : Wave) : (s.setWave k w).cycle = s.cycle := rfl
@[simp] theorem setWave_inCycle (s : State) (k : Nat) (w : Wave) : (s.setWave k w).inCycle = s.inCycle := rfl
@[simp] theorem setWave_opLog (s : State) (k : Nat) (w : Wave) : (s.setWave k w).opLog = s.opLog := rfl
@[simp] theorem setWave_faultQ (s : State) (k : Nat) (w : Wave) : (s.setWave k w).faultQ = s.faultQ := rfl
@[simp] theorem setWave_faultSeq (s : State) (k : Nat) (w : Wave) : (s.setWave k w).faultSeq = s.faultSeq := rfl
@[simp] theorem setWave_faultBase (s : State) (k : Nat) (w : Wave) : (s.setWave k w).faultBase = s.faultBase := rfl
@[simp] theorem setWave_faultTail (s : State) (k : Nat) (w : Wave) : (s.setWave k w).faultTail = s.faultTail := rfl
@[simp] theorem setWave_faultHead (s : State) (k : Nat) (w : Wave) : (s.setWave k w).faultHead = s.faultHead := rfl
@[simp] theorem setWave_faultOff (s : State) (k : Nat) (w : Wave) : (s.setWave k w).faultOff = s.faultOff := rfl
@[simp] theorem setWave_silent (s : State) (k : Nat) (w : Wave) : (s.setWave k w).silent = s.silent := rfl
@[simp] theorem setWave_invals (s : State) (k : Nat) (w : Wave) : (s.setWave k w).invals = s.invals := rfl
@[simp] theorem setWave_invDone (s : State) (k : Nat) (w : Wave) : (s.setWave k w).invDone = s.invDone := rfl
@[simp] theorem setWave_dpr (s : State) (k : Nat) (w : Wave) : (s.setWave k w).dpr = s.dpr := rfl
@[simp] theorem setWave_pvt (s : State) (k : Nat) (w : Wave) : (s.setWave k w).pvt = s.pvt := rfl
@[simp] theorem setWave_version (s : State) (k : Nat) (w : Wave) : (s.setWave k w).version = s.version := rfl
@[simp] theorem setWave_keyed (s : State) (k : Nat) (w : Wave) : (s.setWave k w).keyed = s.keyed := rfl
@[simp] theorem setWave_granules (s : State) (k : Nat) (w : Wave) : (s.setWave k w).granules = s.granules := rfl
@[simp] theorem setWave_homeOps (s : State) (k : Nat) (w : Wave) : (s.setWave k w).homeOps = s.homeOps := rfl
@[simp] theorem setWave_waiters (s : State) (k : Nat) (w : Wave) : (s.setWave k w).waiters = s.waiters := rfl
@[simp] theorem setWave_barWords (s : State) (k : Nat) (w : Wave) : (s.setWave k w).barWords = s.barWords := rfl
@[simp] theorem setWave_flips (s : State) (k : Nat) (w : Wave) : (s.setWave k w).flips = s.flips := rfl
@[simp] theorem setWave_callSends (s : State) (k : Nat) (w : Wave) : (s.setWave k w).callSends = s.callSends := rfl
@[simp] theorem setWave_callReplies (s : State) (k : Nat) (w : Wave) : (s.setWave k w).callReplies = s.callReplies := rfl
@[simp] theorem setWave_remoteReplies (s : State) (k : Nat) (w : Wave) : (s.setWave k w).remoteReplies = s.remoteReplies := rfl
@[simp] theorem setWave_evq (s : State) (k : Nat) (w : Wave) : (s.setWave k w).evq = s.evq := rfl
@[simp] theorem setWave_traceOut (s : State) (k : Nat) (w : Wave) : (s.setWave k w).traceOut = s.traceOut := rfl
@[simp] theorem setWave_aborts (s : State) (k : Nat) (w : Wave) : (s.setWave k w).aborts = s.aborts := rfl
@[simp] theorem setWave_freshSeq (s : State) (k : Nat) (w : Wave) : (s.setWave k w).freshSeq = s.freshSeq := rfl
@[simp] theorem setWave_hostReqs (s : State) (k : Nat) (w : Wave) : (s.setWave k w).hostReqs = s.hostReqs := rfl
@[simp] theorem setWave_errQ (s : State) (k : Nat) (w : Wave) : (s.setWave k w).errQ = s.errQ := rfl
@[simp] theorem setWave_lastGtc (s : State) (k : Nat) (w : Wave) : (s.setWave k w).lastGtc = s.lastGtc := rfl
@[simp] theorem setWave_traceEpoch (s : State) (k : Nat) (w : Wave) : (s.setWave k w).traceEpoch = s.traceEpoch := rfl
@[simp] theorem setWave_tteTlb (s : State) (k : Nat) (w : Wave) : (s.setWave k w).tteTlb = s.tteTlb := rfl
@[simp] theorem setWave_trnRoot (s : State) (k : Nat) (w : Wave) : (s.setWave k w).trnRoot = s.trnRoot := rfl
@[simp] theorem setWave_recode (s : State) (k : Nat) (w : Wave) : (s.setWave k w).recode = s.recode := rfl
@[simp] theorem setWave_recodeNow (s : State) (k : Nat) (w : Wave) : (s.setWave k w).recodeNow = s.recodeNow := rfl
@[simp] theorem setWave_spillUsed (s : State) (k : Nat) (w : Wave) : (s.setWave k w).spillUsed = s.spillUsed := rfl
@[simp] theorem setWave_spillWait (s : State) (k : Nat) (w : Wave) : (s.setWave k w).spillWait = s.spillWait := rfl
@[simp] theorem setWave_marks (s : State) (k : Nat) (w : Wave) : (s.setWave k w).marks = s.marks := rfl
@[simp] theorem setWave_errs (s : State) (k : Nat) (w : Wave) : (s.setWave k w).errs = s.errs := rfl
@[simp] theorem setWave_inj (s : State) (k : Nat) (w : Wave) : (s.setWave k w).inj = s.inj := rfl
@[simp] theorem setWave_msi (s : State) (k : Nat) (w : Wave) : (s.setWave k w).msi = s.msi := rfl
@[simp] theorem setWave_savedFlags (s : State) (k : Nat) (w : Wave) : (s.setWave k w).savedFlags = s.savedFlags := rfl
@[simp] theorem setWave_cmds (s : State) (k : Nat) (w : Wave) : (s.setWave k w).cmds = s.cmds := rfl
@[simp] theorem setWave_grpBase (s : State) (k : Nat) (w : Wave) : (s.setWave k w).grpBase = s.grpBase := rfl
@[simp] theorem setWave_groups (s : State) (k : Nat) (w : Wave) : (s.setWave k w).groups = s.groups := rfl
@[simp] theorem setWave_groupAt (s : State) (k : Nat) (w : Wave) : (s.setWave k w).groupAt = s.groupAt := rfl
@[simp] theorem setWave_colls (s : State) (k : Nat) (w : Wave) : (s.setWave k w).colls = s.colls := rfl
@[simp] theorem setWave_collIn (s : State) (k : Nat) (w : Wave) : (s.setWave k w).collIn = s.collIn := rfl
@[simp] theorem setWave_collOut (s : State) (k : Nat) (w : Wave) : (s.setWave k w).collOut = s.collOut := rfl
@[simp] theorem setWave_waitRegs (s : State) (k : Nat) (w : Wave) : (s.setWave k w).waitRegs = s.waitRegs := rfl
@[simp] theorem setWave_evr (s : State) (k : Nat) (w : Wave) : (s.setWave k w).evr = s.evr := rfl
@[simp] theorem setWave_fab (s : State) (k : Nat) (w : Wave) : (s.setWave k w).fab = s.fab := rfl
@[simp] theorem setWave_lch (s : State) (k : Nat) (w : Wave) : (s.setWave k w).lch = s.lch := rfl
@[simp] theorem setWave_sec (s : State) (k : Nat) (w : Wave) : (s.setWave k w).sec = s.sec := rfl
@[simp] theorem setWave_snap (s : State) (k : Nat) (w : Wave) : (s.setWave k w).snap = s.snap := rfl
@[simp] theorem setWave_rebuild (s : State) (k : Nat) (w : Wave) : (s.setWave k w).rebuild = s.rebuild := rfl
@[simp] theorem setWave_rebuildIn (s : State) (k : Nat) (w : Wave) : (s.setWave k w).rebuildIn = s.rebuildIn := rfl
@[simp] theorem setWave_power (s : State) (k : Nat) (w : Wave) : (s.setWave k w).power = s.power := rfl
@[simp] theorem setWave_hostOut (s : State) (k : Nat) (w : Wave) : (s.setWave k w).hostOut = s.hostOut := rfl

/-! ## Writing a core -/

@[simp] theorem setCore_tape (s : State) (c : Nat) (x : CoreSt) : (s.setCore c x).tape = s.tape := rfl
@[simp] theorem setCore_cur (s : State) (c : Nat) (x : CoreSt) : (s.setCore c x).cur = s.cur := rfl
@[simp] theorem setCore_free (s : State) (c : Nat) (x : CoreSt) : (s.setCore c x).free = s.free := rfl
@[simp] theorem setCore_stamp (s : State) (c : Nat) (x : CoreSt) : (s.setCore c x).stamp = s.stamp := rfl
@[simp] theorem setCore_nextId (s : State) (c : Nat) (x : CoreSt) : (s.setCore c x).nextId = s.nextId := rfl
@[simp] theorem setCore_gtc (s : State) (c : Nat) (x : CoreSt) : (s.setCore c x).gtc = s.gtc := rfl
@[simp] theorem setCore_powered (s : State) (c : Nat) (x : CoreSt) : (s.setCore c x).powered = s.powered := rfl
@[simp] theorem setCore_device (s : State) (c : Nat) (x : CoreSt) : (s.setCore c x).device = s.device := rfl
@[simp] theorem setCore_waves (s : State) (c : Nat) (x : CoreSt) : (s.setCore c x).waves = s.waves := rfl
@[simp] theorem setCore_mem (s : State) (c : Nat) (x : CoreSt) : (s.setCore c x).mem = s.mem := rfl
@[simp] theorem setCore_flight (s : State) (c : Nat) (x : CoreSt) : (s.setCore c x).flight = s.flight := rfl
@[simp] theorem setCore_fences (s : State) (c : Nat) (x : CoreSt) : (s.setCore c x).fences = s.fences := rfl
@[simp] theorem setCore_walks (s : State) (c : Nat) (x : CoreSt) : (s.setCore c x).walks = s.walks := rfl
@[simp] theorem setCore_walkRes (s : State) (c : Nat) (x : CoreSt) : (s.setCore c x).walkRes = s.walkRes := rfl
@[simp] theorem setCore_lines (s : State) (c : Nat) (x : CoreSt) : (s.setCore c x).lines = s.lines := rfl
@[simp] theorem setCore_held (s : State) (c : Nat) (x : CoreSt) : (s.setCore c x).held = s.held := rfl
@[simp] theorem setCore_heldNext (s : State) (c : Nat) (x : CoreSt) : (s.setCore c x).heldNext = s.heldNext := rfl
@[simp] theorem setCore_cycle (s : State) (c : Nat) (x : CoreSt) : (s.setCore c x).cycle = s.cycle := rfl
@[simp] theorem setCore_inCycle (s : State) (c : Nat) (x : CoreSt) : (s.setCore c x).inCycle = s.inCycle := rfl
@[simp] theorem setCore_opLog (s : State) (c : Nat) (x : CoreSt) : (s.setCore c x).opLog = s.opLog := rfl
@[simp] theorem setCore_faultQ (s : State) (c : Nat) (x : CoreSt) : (s.setCore c x).faultQ = s.faultQ := rfl
@[simp] theorem setCore_faultSeq (s : State) (c : Nat) (x : CoreSt) : (s.setCore c x).faultSeq = s.faultSeq := rfl
@[simp] theorem setCore_faultBase (s : State) (c : Nat) (x : CoreSt) : (s.setCore c x).faultBase = s.faultBase := rfl
@[simp] theorem setCore_faultTail (s : State) (c : Nat) (x : CoreSt) : (s.setCore c x).faultTail = s.faultTail := rfl
@[simp] theorem setCore_faultHead (s : State) (c : Nat) (x : CoreSt) : (s.setCore c x).faultHead = s.faultHead := rfl
@[simp] theorem setCore_faultOff (s : State) (c : Nat) (x : CoreSt) : (s.setCore c x).faultOff = s.faultOff := rfl
@[simp] theorem setCore_silent (s : State) (c : Nat) (x : CoreSt) : (s.setCore c x).silent = s.silent := rfl
@[simp] theorem setCore_invals (s : State) (c : Nat) (x : CoreSt) : (s.setCore c x).invals = s.invals := rfl
@[simp] theorem setCore_invDone (s : State) (c : Nat) (x : CoreSt) : (s.setCore c x).invDone = s.invDone := rfl
@[simp] theorem setCore_dpr (s : State) (c : Nat) (x : CoreSt) : (s.setCore c x).dpr = s.dpr := rfl
@[simp] theorem setCore_pvt (s : State) (c : Nat) (x : CoreSt) : (s.setCore c x).pvt = s.pvt := rfl
@[simp] theorem setCore_version (s : State) (c : Nat) (x : CoreSt) : (s.setCore c x).version = s.version := rfl
@[simp] theorem setCore_keyed (s : State) (c : Nat) (x : CoreSt) : (s.setCore c x).keyed = s.keyed := rfl
@[simp] theorem setCore_granules (s : State) (c : Nat) (x : CoreSt) : (s.setCore c x).granules = s.granules := rfl
@[simp] theorem setCore_homeOps (s : State) (c : Nat) (x : CoreSt) : (s.setCore c x).homeOps = s.homeOps := rfl
@[simp] theorem setCore_waiters (s : State) (c : Nat) (x : CoreSt) : (s.setCore c x).waiters = s.waiters := rfl
@[simp] theorem setCore_barWords (s : State) (c : Nat) (x : CoreSt) : (s.setCore c x).barWords = s.barWords := rfl
@[simp] theorem setCore_flips (s : State) (c : Nat) (x : CoreSt) : (s.setCore c x).flips = s.flips := rfl
@[simp] theorem setCore_callSends (s : State) (c : Nat) (x : CoreSt) : (s.setCore c x).callSends = s.callSends := rfl
@[simp] theorem setCore_callReplies (s : State) (c : Nat) (x : CoreSt) : (s.setCore c x).callReplies = s.callReplies := rfl
@[simp] theorem setCore_remoteReplies (s : State) (c : Nat) (x : CoreSt) : (s.setCore c x).remoteReplies = s.remoteReplies := rfl
@[simp] theorem setCore_evq (s : State) (c : Nat) (x : CoreSt) : (s.setCore c x).evq = s.evq := rfl
@[simp] theorem setCore_traceOut (s : State) (c : Nat) (x : CoreSt) : (s.setCore c x).traceOut = s.traceOut := rfl
@[simp] theorem setCore_aborts (s : State) (c : Nat) (x : CoreSt) : (s.setCore c x).aborts = s.aborts := rfl
@[simp] theorem setCore_freshSeq (s : State) (c : Nat) (x : CoreSt) : (s.setCore c x).freshSeq = s.freshSeq := rfl
@[simp] theorem setCore_hostReqs (s : State) (c : Nat) (x : CoreSt) : (s.setCore c x).hostReqs = s.hostReqs := rfl
@[simp] theorem setCore_errQ (s : State) (c : Nat) (x : CoreSt) : (s.setCore c x).errQ = s.errQ := rfl
@[simp] theorem setCore_lastGtc (s : State) (c : Nat) (x : CoreSt) : (s.setCore c x).lastGtc = s.lastGtc := rfl
@[simp] theorem setCore_traceEpoch (s : State) (c : Nat) (x : CoreSt) : (s.setCore c x).traceEpoch = s.traceEpoch := rfl
@[simp] theorem setCore_tteTlb (s : State) (c : Nat) (x : CoreSt) : (s.setCore c x).tteTlb = s.tteTlb := rfl
@[simp] theorem setCore_trnRoot (s : State) (c : Nat) (x : CoreSt) : (s.setCore c x).trnRoot = s.trnRoot := rfl
@[simp] theorem setCore_recode (s : State) (c : Nat) (x : CoreSt) : (s.setCore c x).recode = s.recode := rfl
@[simp] theorem setCore_recodeNow (s : State) (c : Nat) (x : CoreSt) : (s.setCore c x).recodeNow = s.recodeNow := rfl
@[simp] theorem setCore_spillUsed (s : State) (c : Nat) (x : CoreSt) : (s.setCore c x).spillUsed = s.spillUsed := rfl
@[simp] theorem setCore_spillWait (s : State) (c : Nat) (x : CoreSt) : (s.setCore c x).spillWait = s.spillWait := rfl
@[simp] theorem setCore_marks (s : State) (c : Nat) (x : CoreSt) : (s.setCore c x).marks = s.marks := rfl
@[simp] theorem setCore_errs (s : State) (c : Nat) (x : CoreSt) : (s.setCore c x).errs = s.errs := rfl
@[simp] theorem setCore_inj (s : State) (c : Nat) (x : CoreSt) : (s.setCore c x).inj = s.inj := rfl
@[simp] theorem setCore_msi (s : State) (c : Nat) (x : CoreSt) : (s.setCore c x).msi = s.msi := rfl
@[simp] theorem setCore_savedFlags (s : State) (c : Nat) (x : CoreSt) : (s.setCore c x).savedFlags = s.savedFlags := rfl
@[simp] theorem setCore_cmds (s : State) (c : Nat) (x : CoreSt) : (s.setCore c x).cmds = s.cmds := rfl
@[simp] theorem setCore_grpBase (s : State) (c : Nat) (x : CoreSt) : (s.setCore c x).grpBase = s.grpBase := rfl
@[simp] theorem setCore_groups (s : State) (c : Nat) (x : CoreSt) : (s.setCore c x).groups = s.groups := rfl
@[simp] theorem setCore_groupAt (s : State) (c : Nat) (x : CoreSt) : (s.setCore c x).groupAt = s.groupAt := rfl
@[simp] theorem setCore_colls (s : State) (c : Nat) (x : CoreSt) : (s.setCore c x).colls = s.colls := rfl
@[simp] theorem setCore_collIn (s : State) (c : Nat) (x : CoreSt) : (s.setCore c x).collIn = s.collIn := rfl
@[simp] theorem setCore_collOut (s : State) (c : Nat) (x : CoreSt) : (s.setCore c x).collOut = s.collOut := rfl
@[simp] theorem setCore_waitRegs (s : State) (c : Nat) (x : CoreSt) : (s.setCore c x).waitRegs = s.waitRegs := rfl
@[simp] theorem setCore_evr (s : State) (c : Nat) (x : CoreSt) : (s.setCore c x).evr = s.evr := rfl
@[simp] theorem setCore_fab (s : State) (c : Nat) (x : CoreSt) : (s.setCore c x).fab = s.fab := rfl
@[simp] theorem setCore_lch (s : State) (c : Nat) (x : CoreSt) : (s.setCore c x).lch = s.lch := rfl
@[simp] theorem setCore_sec (s : State) (c : Nat) (x : CoreSt) : (s.setCore c x).sec = s.sec := rfl
@[simp] theorem setCore_snap (s : State) (c : Nat) (x : CoreSt) : (s.setCore c x).snap = s.snap := rfl
@[simp] theorem setCore_rebuild (s : State) (c : Nat) (x : CoreSt) : (s.setCore c x).rebuild = s.rebuild := rfl
@[simp] theorem setCore_rebuildIn (s : State) (c : Nat) (x : CoreSt) : (s.setCore c x).rebuildIn = s.rebuildIn := rfl
@[simp] theorem setCore_power (s : State) (c : Nat) (x : CoreSt) : (s.setCore c x).power = s.power := rfl
@[simp] theorem setCore_hostOut (s : State) (c : Nat) (x : CoreSt) : (s.setCore c x).hostOut = s.hostOut := rfl

/-! ## Changing a wave -/

@[simp] theorem updWave_tape (s : State) (k : Nat) (f : Wave → Wave) : (s.updWave k f).tape = s.tape := rfl
@[simp] theorem updWave_cur (s : State) (k : Nat) (f : Wave → Wave) : (s.updWave k f).cur = s.cur := rfl
@[simp] theorem updWave_free (s : State) (k : Nat) (f : Wave → Wave) : (s.updWave k f).free = s.free := rfl
@[simp] theorem updWave_stamp (s : State) (k : Nat) (f : Wave → Wave) : (s.updWave k f).stamp = s.stamp := rfl
@[simp] theorem updWave_nextId (s : State) (k : Nat) (f : Wave → Wave) : (s.updWave k f).nextId = s.nextId := rfl
@[simp] theorem updWave_gtc (s : State) (k : Nat) (f : Wave → Wave) : (s.updWave k f).gtc = s.gtc := rfl
@[simp] theorem updWave_powered (s : State) (k : Nat) (f : Wave → Wave) : (s.updWave k f).powered = s.powered := rfl
@[simp] theorem updWave_device (s : State) (k : Nat) (f : Wave → Wave) : (s.updWave k f).device = s.device := rfl
@[simp] theorem updWave_cores (s : State) (k : Nat) (f : Wave → Wave) : (s.updWave k f).cores = s.cores := rfl
@[simp] theorem updWave_mem (s : State) (k : Nat) (f : Wave → Wave) : (s.updWave k f).mem = s.mem := rfl
@[simp] theorem updWave_flight (s : State) (k : Nat) (f : Wave → Wave) : (s.updWave k f).flight = s.flight := rfl
@[simp] theorem updWave_fences (s : State) (k : Nat) (f : Wave → Wave) : (s.updWave k f).fences = s.fences := rfl
@[simp] theorem updWave_walks (s : State) (k : Nat) (f : Wave → Wave) : (s.updWave k f).walks = s.walks := rfl
@[simp] theorem updWave_walkRes (s : State) (k : Nat) (f : Wave → Wave) : (s.updWave k f).walkRes = s.walkRes := rfl
@[simp] theorem updWave_lines (s : State) (k : Nat) (f : Wave → Wave) : (s.updWave k f).lines = s.lines := rfl
@[simp] theorem updWave_held (s : State) (k : Nat) (f : Wave → Wave) : (s.updWave k f).held = s.held := rfl
@[simp] theorem updWave_heldNext (s : State) (k : Nat) (f : Wave → Wave) : (s.updWave k f).heldNext = s.heldNext := rfl
@[simp] theorem updWave_cycle (s : State) (k : Nat) (f : Wave → Wave) : (s.updWave k f).cycle = s.cycle := rfl
@[simp] theorem updWave_inCycle (s : State) (k : Nat) (f : Wave → Wave) : (s.updWave k f).inCycle = s.inCycle := rfl
@[simp] theorem updWave_opLog (s : State) (k : Nat) (f : Wave → Wave) : (s.updWave k f).opLog = s.opLog := rfl
@[simp] theorem updWave_faultQ (s : State) (k : Nat) (f : Wave → Wave) : (s.updWave k f).faultQ = s.faultQ := rfl
@[simp] theorem updWave_faultSeq (s : State) (k : Nat) (f : Wave → Wave) : (s.updWave k f).faultSeq = s.faultSeq := rfl
@[simp] theorem updWave_faultBase (s : State) (k : Nat) (f : Wave → Wave) : (s.updWave k f).faultBase = s.faultBase := rfl
@[simp] theorem updWave_faultTail (s : State) (k : Nat) (f : Wave → Wave) : (s.updWave k f).faultTail = s.faultTail := rfl
@[simp] theorem updWave_faultHead (s : State) (k : Nat) (f : Wave → Wave) : (s.updWave k f).faultHead = s.faultHead := rfl
@[simp] theorem updWave_faultOff (s : State) (k : Nat) (f : Wave → Wave) : (s.updWave k f).faultOff = s.faultOff := rfl
@[simp] theorem updWave_silent (s : State) (k : Nat) (f : Wave → Wave) : (s.updWave k f).silent = s.silent := rfl
@[simp] theorem updWave_invals (s : State) (k : Nat) (f : Wave → Wave) : (s.updWave k f).invals = s.invals := rfl
@[simp] theorem updWave_invDone (s : State) (k : Nat) (f : Wave → Wave) : (s.updWave k f).invDone = s.invDone := rfl
@[simp] theorem updWave_dpr (s : State) (k : Nat) (f : Wave → Wave) : (s.updWave k f).dpr = s.dpr := rfl
@[simp] theorem updWave_pvt (s : State) (k : Nat) (f : Wave → Wave) : (s.updWave k f).pvt = s.pvt := rfl
@[simp] theorem updWave_version (s : State) (k : Nat) (f : Wave → Wave) : (s.updWave k f).version = s.version := rfl
@[simp] theorem updWave_keyed (s : State) (k : Nat) (f : Wave → Wave) : (s.updWave k f).keyed = s.keyed := rfl
@[simp] theorem updWave_granules (s : State) (k : Nat) (f : Wave → Wave) : (s.updWave k f).granules = s.granules := rfl
@[simp] theorem updWave_homeOps (s : State) (k : Nat) (f : Wave → Wave) : (s.updWave k f).homeOps = s.homeOps := rfl
@[simp] theorem updWave_waiters (s : State) (k : Nat) (f : Wave → Wave) : (s.updWave k f).waiters = s.waiters := rfl
@[simp] theorem updWave_barWords (s : State) (k : Nat) (f : Wave → Wave) : (s.updWave k f).barWords = s.barWords := rfl
@[simp] theorem updWave_flips (s : State) (k : Nat) (f : Wave → Wave) : (s.updWave k f).flips = s.flips := rfl
@[simp] theorem updWave_callSends (s : State) (k : Nat) (f : Wave → Wave) : (s.updWave k f).callSends = s.callSends := rfl
@[simp] theorem updWave_callReplies (s : State) (k : Nat) (f : Wave → Wave) : (s.updWave k f).callReplies = s.callReplies := rfl
@[simp] theorem updWave_remoteReplies (s : State) (k : Nat) (f : Wave → Wave) : (s.updWave k f).remoteReplies = s.remoteReplies := rfl
@[simp] theorem updWave_evq (s : State) (k : Nat) (f : Wave → Wave) : (s.updWave k f).evq = s.evq := rfl
@[simp] theorem updWave_traceOut (s : State) (k : Nat) (f : Wave → Wave) : (s.updWave k f).traceOut = s.traceOut := rfl
@[simp] theorem updWave_aborts (s : State) (k : Nat) (f : Wave → Wave) : (s.updWave k f).aborts = s.aborts := rfl
@[simp] theorem updWave_freshSeq (s : State) (k : Nat) (f : Wave → Wave) : (s.updWave k f).freshSeq = s.freshSeq := rfl
@[simp] theorem updWave_hostReqs (s : State) (k : Nat) (f : Wave → Wave) : (s.updWave k f).hostReqs = s.hostReqs := rfl
@[simp] theorem updWave_errQ (s : State) (k : Nat) (f : Wave → Wave) : (s.updWave k f).errQ = s.errQ := rfl
@[simp] theorem updWave_lastGtc (s : State) (k : Nat) (f : Wave → Wave) : (s.updWave k f).lastGtc = s.lastGtc := rfl
@[simp] theorem updWave_traceEpoch (s : State) (k : Nat) (f : Wave → Wave) : (s.updWave k f).traceEpoch = s.traceEpoch := rfl
@[simp] theorem updWave_tteTlb (s : State) (k : Nat) (f : Wave → Wave) : (s.updWave k f).tteTlb = s.tteTlb := rfl
@[simp] theorem updWave_trnRoot (s : State) (k : Nat) (f : Wave → Wave) : (s.updWave k f).trnRoot = s.trnRoot := rfl
@[simp] theorem updWave_recode (s : State) (k : Nat) (f : Wave → Wave) : (s.updWave k f).recode = s.recode := rfl
@[simp] theorem updWave_recodeNow (s : State) (k : Nat) (f : Wave → Wave) : (s.updWave k f).recodeNow = s.recodeNow := rfl
@[simp] theorem updWave_spillUsed (s : State) (k : Nat) (f : Wave → Wave) : (s.updWave k f).spillUsed = s.spillUsed := rfl
@[simp] theorem updWave_spillWait (s : State) (k : Nat) (f : Wave → Wave) : (s.updWave k f).spillWait = s.spillWait := rfl
@[simp] theorem updWave_marks (s : State) (k : Nat) (f : Wave → Wave) : (s.updWave k f).marks = s.marks := rfl
@[simp] theorem updWave_errs (s : State) (k : Nat) (f : Wave → Wave) : (s.updWave k f).errs = s.errs := rfl
@[simp] theorem updWave_inj (s : State) (k : Nat) (f : Wave → Wave) : (s.updWave k f).inj = s.inj := rfl
@[simp] theorem updWave_msi (s : State) (k : Nat) (f : Wave → Wave) : (s.updWave k f).msi = s.msi := rfl
@[simp] theorem updWave_savedFlags (s : State) (k : Nat) (f : Wave → Wave) : (s.updWave k f).savedFlags = s.savedFlags := rfl
@[simp] theorem updWave_cmds (s : State) (k : Nat) (f : Wave → Wave) : (s.updWave k f).cmds = s.cmds := rfl
@[simp] theorem updWave_grpBase (s : State) (k : Nat) (f : Wave → Wave) : (s.updWave k f).grpBase = s.grpBase := rfl
@[simp] theorem updWave_groups (s : State) (k : Nat) (f : Wave → Wave) : (s.updWave k f).groups = s.groups := rfl
@[simp] theorem updWave_groupAt (s : State) (k : Nat) (f : Wave → Wave) : (s.updWave k f).groupAt = s.groupAt := rfl
@[simp] theorem updWave_colls (s : State) (k : Nat) (f : Wave → Wave) : (s.updWave k f).colls = s.colls := rfl
@[simp] theorem updWave_collIn (s : State) (k : Nat) (f : Wave → Wave) : (s.updWave k f).collIn = s.collIn := rfl
@[simp] theorem updWave_collOut (s : State) (k : Nat) (f : Wave → Wave) : (s.updWave k f).collOut = s.collOut := rfl
@[simp] theorem updWave_waitRegs (s : State) (k : Nat) (f : Wave → Wave) : (s.updWave k f).waitRegs = s.waitRegs := rfl
@[simp] theorem updWave_evr (s : State) (k : Nat) (f : Wave → Wave) : (s.updWave k f).evr = s.evr := rfl
@[simp] theorem updWave_fab (s : State) (k : Nat) (f : Wave → Wave) : (s.updWave k f).fab = s.fab := rfl
@[simp] theorem updWave_lch (s : State) (k : Nat) (f : Wave → Wave) : (s.updWave k f).lch = s.lch := rfl
@[simp] theorem updWave_sec (s : State) (k : Nat) (f : Wave → Wave) : (s.updWave k f).sec = s.sec := rfl
@[simp] theorem updWave_snap (s : State) (k : Nat) (f : Wave → Wave) : (s.updWave k f).snap = s.snap := rfl
@[simp] theorem updWave_rebuild (s : State) (k : Nat) (f : Wave → Wave) : (s.updWave k f).rebuild = s.rebuild := rfl
@[simp] theorem updWave_rebuildIn (s : State) (k : Nat) (f : Wave → Wave) : (s.updWave k f).rebuildIn = s.rebuildIn := rfl
@[simp] theorem updWave_power (s : State) (k : Nat) (f : Wave → Wave) : (s.updWave k f).power = s.power := rfl
@[simp] theorem updWave_hostOut (s : State) (k : Nat) (f : Wave → Wave) : (s.updWave k f).hostOut = s.hostOut := rfl

/-! ## Writing memory -/

@[simp] theorem wr_tape (s : State) (k n v : Nat) : (s.wr k n v).tape = s.tape := rfl
@[simp] theorem wr_cur (s : State) (k n v : Nat) : (s.wr k n v).cur = s.cur := rfl
@[simp] theorem wr_free (s : State) (k n v : Nat) : (s.wr k n v).free = s.free := rfl
@[simp] theorem wr_stamp (s : State) (k n v : Nat) : (s.wr k n v).stamp = s.stamp := rfl
@[simp] theorem wr_nextId (s : State) (k n v : Nat) : (s.wr k n v).nextId = s.nextId := rfl
@[simp] theorem wr_gtc (s : State) (k n v : Nat) : (s.wr k n v).gtc = s.gtc := rfl
@[simp] theorem wr_powered (s : State) (k n v : Nat) : (s.wr k n v).powered = s.powered := rfl
@[simp] theorem wr_device (s : State) (k n v : Nat) : (s.wr k n v).device = s.device := rfl
@[simp] theorem wr_waves (s : State) (k n v : Nat) : (s.wr k n v).waves = s.waves := rfl
@[simp] theorem wr_cores (s : State) (k n v : Nat) : (s.wr k n v).cores = s.cores := rfl
@[simp] theorem wr_flight (s : State) (k n v : Nat) : (s.wr k n v).flight = s.flight := rfl
@[simp] theorem wr_fences (s : State) (k n v : Nat) : (s.wr k n v).fences = s.fences := rfl
@[simp] theorem wr_walks (s : State) (k n v : Nat) : (s.wr k n v).walks = s.walks := rfl
@[simp] theorem wr_walkRes (s : State) (k n v : Nat) : (s.wr k n v).walkRes = s.walkRes := rfl
@[simp] theorem wr_lines (s : State) (k n v : Nat) : (s.wr k n v).lines = s.lines := rfl
@[simp] theorem wr_held (s : State) (k n v : Nat) : (s.wr k n v).held = s.held := rfl
@[simp] theorem wr_heldNext (s : State) (k n v : Nat) : (s.wr k n v).heldNext = s.heldNext := rfl
@[simp] theorem wr_cycle (s : State) (k n v : Nat) : (s.wr k n v).cycle = s.cycle := rfl
@[simp] theorem wr_inCycle (s : State) (k n v : Nat) : (s.wr k n v).inCycle = s.inCycle := rfl
@[simp] theorem wr_opLog (s : State) (k n v : Nat) : (s.wr k n v).opLog = s.opLog := rfl
@[simp] theorem wr_faultQ (s : State) (k n v : Nat) : (s.wr k n v).faultQ = s.faultQ := rfl
@[simp] theorem wr_faultSeq (s : State) (k n v : Nat) : (s.wr k n v).faultSeq = s.faultSeq := rfl
@[simp] theorem wr_faultBase (s : State) (k n v : Nat) : (s.wr k n v).faultBase = s.faultBase := rfl
@[simp] theorem wr_faultTail (s : State) (k n v : Nat) : (s.wr k n v).faultTail = s.faultTail := rfl
@[simp] theorem wr_faultHead (s : State) (k n v : Nat) : (s.wr k n v).faultHead = s.faultHead := rfl
@[simp] theorem wr_faultOff (s : State) (k n v : Nat) : (s.wr k n v).faultOff = s.faultOff := rfl
@[simp] theorem wr_silent (s : State) (k n v : Nat) : (s.wr k n v).silent = s.silent := rfl
@[simp] theorem wr_invals (s : State) (k n v : Nat) : (s.wr k n v).invals = s.invals := rfl
@[simp] theorem wr_invDone (s : State) (k n v : Nat) : (s.wr k n v).invDone = s.invDone := rfl
@[simp] theorem wr_dpr (s : State) (k n v : Nat) : (s.wr k n v).dpr = s.dpr := rfl
@[simp] theorem wr_pvt (s : State) (k n v : Nat) : (s.wr k n v).pvt = s.pvt := rfl
@[simp] theorem wr_version (s : State) (k n v : Nat) : (s.wr k n v).version = s.version := rfl
@[simp] theorem wr_keyed (s : State) (k n v : Nat) : (s.wr k n v).keyed = s.keyed := rfl
@[simp] theorem wr_granules (s : State) (k n v : Nat) : (s.wr k n v).granules = s.granules := rfl
@[simp] theorem wr_homeOps (s : State) (k n v : Nat) : (s.wr k n v).homeOps = s.homeOps := rfl
@[simp] theorem wr_waiters (s : State) (k n v : Nat) : (s.wr k n v).waiters = s.waiters := rfl
@[simp] theorem wr_barWords (s : State) (k n v : Nat) : (s.wr k n v).barWords = s.barWords := rfl
@[simp] theorem wr_flips (s : State) (k n v : Nat) : (s.wr k n v).flips = s.flips := rfl
@[simp] theorem wr_callSends (s : State) (k n v : Nat) : (s.wr k n v).callSends = s.callSends := rfl
@[simp] theorem wr_callReplies (s : State) (k n v : Nat) : (s.wr k n v).callReplies = s.callReplies := rfl
@[simp] theorem wr_remoteReplies (s : State) (k n v : Nat) : (s.wr k n v).remoteReplies = s.remoteReplies := rfl
@[simp] theorem wr_evq (s : State) (k n v : Nat) : (s.wr k n v).evq = s.evq := rfl
@[simp] theorem wr_traceOut (s : State) (k n v : Nat) : (s.wr k n v).traceOut = s.traceOut := rfl
@[simp] theorem wr_aborts (s : State) (k n v : Nat) : (s.wr k n v).aborts = s.aborts := rfl
@[simp] theorem wr_freshSeq (s : State) (k n v : Nat) : (s.wr k n v).freshSeq = s.freshSeq := rfl
@[simp] theorem wr_hostReqs (s : State) (k n v : Nat) : (s.wr k n v).hostReqs = s.hostReqs := rfl
@[simp] theorem wr_errQ (s : State) (k n v : Nat) : (s.wr k n v).errQ = s.errQ := rfl
@[simp] theorem wr_lastGtc (s : State) (k n v : Nat) : (s.wr k n v).lastGtc = s.lastGtc := rfl
@[simp] theorem wr_traceEpoch (s : State) (k n v : Nat) : (s.wr k n v).traceEpoch = s.traceEpoch := rfl
@[simp] theorem wr_tteTlb (s : State) (k n v : Nat) : (s.wr k n v).tteTlb = s.tteTlb := rfl
@[simp] theorem wr_trnRoot (s : State) (k n v : Nat) : (s.wr k n v).trnRoot = s.trnRoot := rfl
@[simp] theorem wr_recode (s : State) (k n v : Nat) : (s.wr k n v).recode = s.recode := rfl
@[simp] theorem wr_recodeNow (s : State) (k n v : Nat) : (s.wr k n v).recodeNow = s.recodeNow := rfl
@[simp] theorem wr_spillUsed (s : State) (k n v : Nat) : (s.wr k n v).spillUsed = s.spillUsed := rfl
@[simp] theorem wr_spillWait (s : State) (k n v : Nat) : (s.wr k n v).spillWait = s.spillWait := rfl
@[simp] theorem wr_marks (s : State) (k n v : Nat) : (s.wr k n v).marks = s.marks := rfl
@[simp] theorem wr_errs (s : State) (k n v : Nat) : (s.wr k n v).errs = s.errs := rfl
@[simp] theorem wr_inj (s : State) (k n v : Nat) : (s.wr k n v).inj = s.inj := rfl
@[simp] theorem wr_msi (s : State) (k n v : Nat) : (s.wr k n v).msi = s.msi := rfl
@[simp] theorem wr_savedFlags (s : State) (k n v : Nat) : (s.wr k n v).savedFlags = s.savedFlags := rfl
@[simp] theorem wr_cmds (s : State) (k n v : Nat) : (s.wr k n v).cmds = s.cmds := rfl
@[simp] theorem wr_grpBase (s : State) (k n v : Nat) : (s.wr k n v).grpBase = s.grpBase := rfl
@[simp] theorem wr_groups (s : State) (k n v : Nat) : (s.wr k n v).groups = s.groups := rfl
@[simp] theorem wr_groupAt (s : State) (k n v : Nat) : (s.wr k n v).groupAt = s.groupAt := rfl
@[simp] theorem wr_colls (s : State) (k n v : Nat) : (s.wr k n v).colls = s.colls := rfl
@[simp] theorem wr_collIn (s : State) (k n v : Nat) : (s.wr k n v).collIn = s.collIn := rfl
@[simp] theorem wr_collOut (s : State) (k n v : Nat) : (s.wr k n v).collOut = s.collOut := rfl
@[simp] theorem wr_waitRegs (s : State) (k n v : Nat) : (s.wr k n v).waitRegs = s.waitRegs := rfl
@[simp] theorem wr_evr (s : State) (k n v : Nat) : (s.wr k n v).evr = s.evr := rfl
@[simp] theorem wr_fab (s : State) (k n v : Nat) : (s.wr k n v).fab = s.fab := rfl
@[simp] theorem wr_lch (s : State) (k n v : Nat) : (s.wr k n v).lch = s.lch := rfl
@[simp] theorem wr_sec (s : State) (k n v : Nat) : (s.wr k n v).sec = s.sec := rfl
@[simp] theorem wr_snap (s : State) (k n v : Nat) : (s.wr k n v).snap = s.snap := rfl
@[simp] theorem wr_rebuild (s : State) (k n v : Nat) : (s.wr k n v).rebuild = s.rebuild := rfl
@[simp] theorem wr_rebuildIn (s : State) (k n v : Nat) : (s.wr k n v).rebuildIn = s.rebuildIn := rfl
@[simp] theorem wr_power (s : State) (k n v : Nat) : (s.wr k n v).power = s.power := rfl
@[simp] theorem wr_hostOut (s : State) (k n v : Nat) : (s.wr k n v).hostOut = s.hostOut := rfl

/-! ## An event on its way -/

@[simp] theorem push_tape (s : State) (e : EvRec) : (s.push e).tape = s.tape := rfl
@[simp] theorem push_cur (s : State) (e : EvRec) : (s.push e).cur = s.cur := rfl
@[simp] theorem push_free (s : State) (e : EvRec) : (s.push e).free = s.free := rfl
@[simp] theorem push_stamp (s : State) (e : EvRec) : (s.push e).stamp = s.stamp := rfl
@[simp] theorem push_nextId (s : State) (e : EvRec) : (s.push e).nextId = s.nextId := rfl
@[simp] theorem push_gtc (s : State) (e : EvRec) : (s.push e).gtc = s.gtc := rfl
@[simp] theorem push_powered (s : State) (e : EvRec) : (s.push e).powered = s.powered := rfl
@[simp] theorem push_device (s : State) (e : EvRec) : (s.push e).device = s.device := rfl
@[simp] theorem push_waves (s : State) (e : EvRec) : (s.push e).waves = s.waves := rfl
@[simp] theorem push_cores (s : State) (e : EvRec) : (s.push e).cores = s.cores := rfl
@[simp] theorem push_mem (s : State) (e : EvRec) : (s.push e).mem = s.mem := rfl
@[simp] theorem push_flight (s : State) (e : EvRec) : (s.push e).flight = s.flight := rfl
@[simp] theorem push_fences (s : State) (e : EvRec) : (s.push e).fences = s.fences := rfl
@[simp] theorem push_walks (s : State) (e : EvRec) : (s.push e).walks = s.walks := rfl
@[simp] theorem push_walkRes (s : State) (e : EvRec) : (s.push e).walkRes = s.walkRes := rfl
@[simp] theorem push_lines (s : State) (e : EvRec) : (s.push e).lines = s.lines := rfl
@[simp] theorem push_held (s : State) (e : EvRec) : (s.push e).held = s.held := rfl
@[simp] theorem push_heldNext (s : State) (e : EvRec) : (s.push e).heldNext = s.heldNext := rfl
@[simp] theorem push_cycle (s : State) (e : EvRec) : (s.push e).cycle = s.cycle := rfl
@[simp] theorem push_inCycle (s : State) (e : EvRec) : (s.push e).inCycle = s.inCycle := rfl
@[simp] theorem push_opLog (s : State) (e : EvRec) : (s.push e).opLog = s.opLog := rfl
@[simp] theorem push_faultQ (s : State) (e : EvRec) : (s.push e).faultQ = s.faultQ := rfl
@[simp] theorem push_faultSeq (s : State) (e : EvRec) : (s.push e).faultSeq = s.faultSeq := rfl
@[simp] theorem push_faultBase (s : State) (e : EvRec) : (s.push e).faultBase = s.faultBase := rfl
@[simp] theorem push_faultTail (s : State) (e : EvRec) : (s.push e).faultTail = s.faultTail := rfl
@[simp] theorem push_faultHead (s : State) (e : EvRec) : (s.push e).faultHead = s.faultHead := rfl
@[simp] theorem push_faultOff (s : State) (e : EvRec) : (s.push e).faultOff = s.faultOff := rfl
@[simp] theorem push_silent (s : State) (e : EvRec) : (s.push e).silent = s.silent := rfl
@[simp] theorem push_invals (s : State) (e : EvRec) : (s.push e).invals = s.invals := rfl
@[simp] theorem push_invDone (s : State) (e : EvRec) : (s.push e).invDone = s.invDone := rfl
@[simp] theorem push_dpr (s : State) (e : EvRec) : (s.push e).dpr = s.dpr := rfl
@[simp] theorem push_pvt (s : State) (e : EvRec) : (s.push e).pvt = s.pvt := rfl
@[simp] theorem push_version (s : State) (e : EvRec) : (s.push e).version = s.version := rfl
@[simp] theorem push_keyed (s : State) (e : EvRec) : (s.push e).keyed = s.keyed := rfl
@[simp] theorem push_granules (s : State) (e : EvRec) : (s.push e).granules = s.granules := rfl
@[simp] theorem push_homeOps (s : State) (e : EvRec) : (s.push e).homeOps = s.homeOps := rfl
@[simp] theorem push_waiters (s : State) (e : EvRec) : (s.push e).waiters = s.waiters := rfl
@[simp] theorem push_barWords (s : State) (e : EvRec) : (s.push e).barWords = s.barWords := rfl
@[simp] theorem push_flips (s : State) (e : EvRec) : (s.push e).flips = s.flips := rfl
@[simp] theorem push_callSends (s : State) (e : EvRec) : (s.push e).callSends = s.callSends := rfl
@[simp] theorem push_callReplies (s : State) (e : EvRec) : (s.push e).callReplies = s.callReplies := rfl
@[simp] theorem push_remoteReplies (s : State) (e : EvRec) : (s.push e).remoteReplies = s.remoteReplies := rfl
@[simp] theorem push_traceOut (s : State) (e : EvRec) : (s.push e).traceOut = s.traceOut := rfl
@[simp] theorem push_aborts (s : State) (e : EvRec) : (s.push e).aborts = s.aborts := rfl
@[simp] theorem push_freshSeq (s : State) (e : EvRec) : (s.push e).freshSeq = s.freshSeq := rfl
@[simp] theorem push_hostReqs (s : State) (e : EvRec) : (s.push e).hostReqs = s.hostReqs := rfl
@[simp] theorem push_errQ (s : State) (e : EvRec) : (s.push e).errQ = s.errQ := rfl
@[simp] theorem push_lastGtc (s : State) (e : EvRec) : (s.push e).lastGtc = s.lastGtc := rfl
@[simp] theorem push_traceEpoch (s : State) (e : EvRec) : (s.push e).traceEpoch = s.traceEpoch := rfl
@[simp] theorem push_tteTlb (s : State) (e : EvRec) : (s.push e).tteTlb = s.tteTlb := rfl
@[simp] theorem push_trnRoot (s : State) (e : EvRec) : (s.push e).trnRoot = s.trnRoot := rfl
@[simp] theorem push_recode (s : State) (e : EvRec) : (s.push e).recode = s.recode := rfl
@[simp] theorem push_recodeNow (s : State) (e : EvRec) : (s.push e).recodeNow = s.recodeNow := rfl
@[simp] theorem push_spillUsed (s : State) (e : EvRec) : (s.push e).spillUsed = s.spillUsed := rfl
@[simp] theorem push_spillWait (s : State) (e : EvRec) : (s.push e).spillWait = s.spillWait := rfl
@[simp] theorem push_marks (s : State) (e : EvRec) : (s.push e).marks = s.marks := rfl
@[simp] theorem push_errs (s : State) (e : EvRec) : (s.push e).errs = s.errs := rfl
@[simp] theorem push_inj (s : State) (e : EvRec) : (s.push e).inj = s.inj := rfl
@[simp] theorem push_msi (s : State) (e : EvRec) : (s.push e).msi = s.msi := rfl
@[simp] theorem push_savedFlags (s : State) (e : EvRec) : (s.push e).savedFlags = s.savedFlags := rfl
@[simp] theorem push_cmds (s : State) (e : EvRec) : (s.push e).cmds = s.cmds := rfl
@[simp] theorem push_grpBase (s : State) (e : EvRec) : (s.push e).grpBase = s.grpBase := rfl
@[simp] theorem push_groups (s : State) (e : EvRec) : (s.push e).groups = s.groups := rfl
@[simp] theorem push_groupAt (s : State) (e : EvRec) : (s.push e).groupAt = s.groupAt := rfl
@[simp] theorem push_colls (s : State) (e : EvRec) : (s.push e).colls = s.colls := rfl
@[simp] theorem push_collIn (s : State) (e : EvRec) : (s.push e).collIn = s.collIn := rfl
@[simp] theorem push_collOut (s : State) (e : EvRec) : (s.push e).collOut = s.collOut := rfl
@[simp] theorem push_waitRegs (s : State) (e : EvRec) : (s.push e).waitRegs = s.waitRegs := rfl
@[simp] theorem push_evr (s : State) (e : EvRec) : (s.push e).evr = s.evr := rfl
@[simp] theorem push_fab (s : State) (e : EvRec) : (s.push e).fab = s.fab := rfl
@[simp] theorem push_lch (s : State) (e : EvRec) : (s.push e).lch = s.lch := rfl
@[simp] theorem push_sec (s : State) (e : EvRec) : (s.push e).sec = s.sec := rfl
@[simp] theorem push_snap (s : State) (e : EvRec) : (s.push e).snap = s.snap := rfl
@[simp] theorem push_rebuild (s : State) (e : EvRec) : (s.push e).rebuild = s.rebuild := rfl
@[simp] theorem push_rebuildIn (s : State) (e : EvRec) : (s.push e).rebuildIn = s.rebuildIn := rfl
@[simp] theorem push_power (s : State) (e : EvRec) : (s.push e).power = s.power := rfl
@[simp] theorem push_hostOut (s : State) (e : EvRec) : (s.push e).hostOut = s.hostOut := rfl

/-! ## A new number -/

@[simp] theorem newId_tape (s : State) : s.newId.2.tape = s.tape := rfl
@[simp] theorem newId_cur (s : State) : s.newId.2.cur = s.cur := rfl
@[simp] theorem newId_free (s : State) : s.newId.2.free = s.free := rfl
@[simp] theorem newId_stamp (s : State) : s.newId.2.stamp = s.stamp := rfl
@[simp] theorem newId_gtc (s : State) : s.newId.2.gtc = s.gtc := rfl
@[simp] theorem newId_powered (s : State) : s.newId.2.powered = s.powered := rfl
@[simp] theorem newId_device (s : State) : s.newId.2.device = s.device := rfl
@[simp] theorem newId_waves (s : State) : s.newId.2.waves = s.waves := rfl
@[simp] theorem newId_cores (s : State) : s.newId.2.cores = s.cores := rfl
@[simp] theorem newId_mem (s : State) : s.newId.2.mem = s.mem := rfl
@[simp] theorem newId_flight (s : State) : s.newId.2.flight = s.flight := rfl
@[simp] theorem newId_fences (s : State) : s.newId.2.fences = s.fences := rfl
@[simp] theorem newId_walks (s : State) : s.newId.2.walks = s.walks := rfl
@[simp] theorem newId_walkRes (s : State) : s.newId.2.walkRes = s.walkRes := rfl
@[simp] theorem newId_lines (s : State) : s.newId.2.lines = s.lines := rfl
@[simp] theorem newId_held (s : State) : s.newId.2.held = s.held := rfl
@[simp] theorem newId_heldNext (s : State) : s.newId.2.heldNext = s.heldNext := rfl
@[simp] theorem newId_cycle (s : State) : s.newId.2.cycle = s.cycle := rfl
@[simp] theorem newId_inCycle (s : State) : s.newId.2.inCycle = s.inCycle := rfl
@[simp] theorem newId_opLog (s : State) : s.newId.2.opLog = s.opLog := rfl
@[simp] theorem newId_faultQ (s : State) : s.newId.2.faultQ = s.faultQ := rfl
@[simp] theorem newId_faultSeq (s : State) : s.newId.2.faultSeq = s.faultSeq := rfl
@[simp] theorem newId_faultBase (s : State) : s.newId.2.faultBase = s.faultBase := rfl
@[simp] theorem newId_faultTail (s : State) : s.newId.2.faultTail = s.faultTail := rfl
@[simp] theorem newId_faultHead (s : State) : s.newId.2.faultHead = s.faultHead := rfl
@[simp] theorem newId_faultOff (s : State) : s.newId.2.faultOff = s.faultOff := rfl
@[simp] theorem newId_silent (s : State) : s.newId.2.silent = s.silent := rfl
@[simp] theorem newId_invals (s : State) : s.newId.2.invals = s.invals := rfl
@[simp] theorem newId_invDone (s : State) : s.newId.2.invDone = s.invDone := rfl
@[simp] theorem newId_dpr (s : State) : s.newId.2.dpr = s.dpr := rfl
@[simp] theorem newId_pvt (s : State) : s.newId.2.pvt = s.pvt := rfl
@[simp] theorem newId_version (s : State) : s.newId.2.version = s.version := rfl
@[simp] theorem newId_keyed (s : State) : s.newId.2.keyed = s.keyed := rfl
@[simp] theorem newId_granules (s : State) : s.newId.2.granules = s.granules := rfl
@[simp] theorem newId_homeOps (s : State) : s.newId.2.homeOps = s.homeOps := rfl
@[simp] theorem newId_waiters (s : State) : s.newId.2.waiters = s.waiters := rfl
@[simp] theorem newId_barWords (s : State) : s.newId.2.barWords = s.barWords := rfl
@[simp] theorem newId_flips (s : State) : s.newId.2.flips = s.flips := rfl
@[simp] theorem newId_callSends (s : State) : s.newId.2.callSends = s.callSends := rfl
@[simp] theorem newId_callReplies (s : State) : s.newId.2.callReplies = s.callReplies := rfl
@[simp] theorem newId_remoteReplies (s : State) : s.newId.2.remoteReplies = s.remoteReplies := rfl
@[simp] theorem newId_evq (s : State) : s.newId.2.evq = s.evq := rfl
@[simp] theorem newId_traceOut (s : State) : s.newId.2.traceOut = s.traceOut := rfl
@[simp] theorem newId_aborts (s : State) : s.newId.2.aborts = s.aborts := rfl
@[simp] theorem newId_freshSeq (s : State) : s.newId.2.freshSeq = s.freshSeq := rfl
@[simp] theorem newId_hostReqs (s : State) : s.newId.2.hostReqs = s.hostReqs := rfl
@[simp] theorem newId_errQ (s : State) : s.newId.2.errQ = s.errQ := rfl
@[simp] theorem newId_lastGtc (s : State) : s.newId.2.lastGtc = s.lastGtc := rfl
@[simp] theorem newId_traceEpoch (s : State) : s.newId.2.traceEpoch = s.traceEpoch := rfl
@[simp] theorem newId_tteTlb (s : State) : s.newId.2.tteTlb = s.tteTlb := rfl
@[simp] theorem newId_trnRoot (s : State) : s.newId.2.trnRoot = s.trnRoot := rfl
@[simp] theorem newId_recode (s : State) : s.newId.2.recode = s.recode := rfl
@[simp] theorem newId_recodeNow (s : State) : s.newId.2.recodeNow = s.recodeNow := rfl
@[simp] theorem newId_spillUsed (s : State) : s.newId.2.spillUsed = s.spillUsed := rfl
@[simp] theorem newId_spillWait (s : State) : s.newId.2.spillWait = s.spillWait := rfl
@[simp] theorem newId_marks (s : State) : s.newId.2.marks = s.marks := rfl
@[simp] theorem newId_errs (s : State) : s.newId.2.errs = s.errs := rfl
@[simp] theorem newId_inj (s : State) : s.newId.2.inj = s.inj := rfl
@[simp] theorem newId_msi (s : State) : s.newId.2.msi = s.msi := rfl
@[simp] theorem newId_savedFlags (s : State) : s.newId.2.savedFlags = s.savedFlags := rfl
@[simp] theorem newId_cmds (s : State) : s.newId.2.cmds = s.cmds := rfl
@[simp] theorem newId_grpBase (s : State) : s.newId.2.grpBase = s.grpBase := rfl
@[simp] theorem newId_groups (s : State) : s.newId.2.groups = s.groups := rfl
@[simp] theorem newId_groupAt (s : State) : s.newId.2.groupAt = s.groupAt := rfl
@[simp] theorem newId_colls (s : State) : s.newId.2.colls = s.colls := rfl
@[simp] theorem newId_collIn (s : State) : s.newId.2.collIn = s.collIn := rfl
@[simp] theorem newId_collOut (s : State) : s.newId.2.collOut = s.collOut := rfl
@[simp] theorem newId_waitRegs (s : State) : s.newId.2.waitRegs = s.waitRegs := rfl
@[simp] theorem newId_evr (s : State) : s.newId.2.evr = s.evr := rfl
@[simp] theorem newId_fab (s : State) : s.newId.2.fab = s.fab := rfl
@[simp] theorem newId_lch (s : State) : s.newId.2.lch = s.lch := rfl
@[simp] theorem newId_sec (s : State) : s.newId.2.sec = s.sec := rfl
@[simp] theorem newId_snap (s : State) : s.newId.2.snap = s.snap := rfl
@[simp] theorem newId_rebuild (s : State) : s.newId.2.rebuild = s.rebuild := rfl
@[simp] theorem newId_rebuildIn (s : State) : s.newId.2.rebuildIn = s.rebuildIn := rfl
@[simp] theorem newId_power (s : State) : s.newId.2.power = s.power := rfl
@[simp] theorem newId_hostOut (s : State) : s.newId.2.hostOut = s.hostOut := rfl
@[simp] theorem newId_fst (s : State) : s.newId.1 = s.nextId := rfl

/-! ## Writing a stream of a wave -/

@[simp] theorem updStream_single (w : Wave) (cs : Bool) (g : Stream → Stream) : (w.updStream cs g).single = w.single := by cases cs <;> rfl
@[simp] theorem updStream_vregs (w : Wave) (cs : Bool) (g : Stream → Stream) : (w.updStream cs g).vregs = w.vregs := by cases cs <;> rfl
@[simp] theorem updStream_vpoison (w : Wave) (cs : Bool) (g : Stream → Stream) : (w.updStream cs g).vpoison = w.vpoison := by cases cs <;> rfl
@[simp] theorem updStream_blocks (w : Wave) (cs : Bool) (g : Stream → Stream) : (w.updStream cs g).blocks = w.blocks := by cases cs <;> rfl
@[simp] theorem updStream_preds (w : Wave) (cs : Bool) (g : Stream → Stream) : (w.updStream cs g).preds = w.preds := by cases cs <;> rfl
@[simp] theorem updStream_cnt (w : Wave) (cs : Bool) (g : Stream → Stream) : (w.updStream cs g).cnt = w.cnt := by cases cs <;> rfl
@[simp] theorem updStream_flags (w : Wave) (cs : Bool) (g : Stream → Stream) : (w.updStream cs g).flags = w.flags := by cases cs <;> rfl
@[simp] theorem updStream_qac (w : Wave) (cs : Bool) (g : Stream → Stream) : (w.updStream cs g).qac = w.qac := by cases cs <;> rfl
@[simp] theorem updStream_qca (w : Wave) (cs : Bool) (g : Stream → Stream) : (w.updStream cs g).qca = w.qca := by cases cs <;> rfl
@[simp] theorem updStream_fpFlags (w : Wave) (cs : Bool) (g : Stream → Stream) : (w.updStream cs g).fpFlags = w.fpFlags := by cases cs <;> rfl
@[simp] theorem updStream_fpMode (w : Wave) (cs : Bool) (g : Stream → Stream) : (w.updStream cs g).fpMode = w.fpMode := by cases cs <;> rfl
@[simp] theorem updStream_trapCode (w : Wave) (cs : Bool) (g : Stream → Stream) : (w.updStream cs g).trapCode = w.trapCode := by cases cs <;> rfl
@[simp] theorem updStream_trapAddr (w : Wave) (cs : Bool) (g : Stream → Stream) : (w.updStream cs g).trapAddr = w.trapAddr := by cases cs <;> rfl
@[simp] theorem updStream_trapLanes (w : Wave) (cs : Bool) (g : Stream → Stream) : (w.updStream cs g).trapLanes = w.trapLanes := by cases cs <;> rfl
@[simp] theorem updStream_trapPc (w : Wave) (cs : Bool) (g : Stream → Stream) : (w.updStream cs g).trapPc = w.trapPc := by cases cs <;> rfl
@[simp] theorem updStream_trapVector (w : Wave) (cs : Bool) (g : Stream → Stream) : (w.updStream cs g).trapVector = w.trapVector := by cases cs <;> rfl
@[simp] theorem updStream_causal (w : Wave) (cs : Bool) (g : Stream → Stream) : (w.updStream cs g).causal = w.causal := by cases cs <;> rfl
@[simp] theorem updStream_frame (w : Wave) (cs : Bool) (g : Stream → Stream) : (w.updStream cs g).frame = w.frame := by cases cs <;> rfl
@[simp] theorem updStream_waveId (w : Wave) (cs : Bool) (g : Stream → Stream) : (w.updStream cs g).waveId = w.waveId := by cases cs <;> rfl
@[simp] theorem updStream_blockX (w : Wave) (cs : Bool) (g : Stream → Stream) : (w.updStream cs g).blockX = w.blockX := by cases cs <;> rfl
@[simp] theorem updStream_blockY (w : Wave) (cs : Bool) (g : Stream → Stream) : (w.updStream cs g).blockY = w.blockY := by cases cs <;> rfl
@[simp] theorem updStream_blockZ (w : Wave) (cs : Bool) (g : Stream → Stream) : (w.updStream cs g).blockZ = w.blockZ := by cases cs <;> rfl
@[simp] theorem updStream_taskId (w : Wave) (cs : Bool) (g : Stream → Stream) : (w.updStream cs g).taskId = w.taskId := by cases cs <;> rfl
@[simp] theorem updStream_tenant (w : Wave) (cs : Bool) (g : Stream → Stream) : (w.updStream cs g).tenant = w.tenant := by cases cs <;> rfl
@[simp] theorem updStream_block (w : Wave) (cs : Bool) (g : Stream → Stream) : (w.updStream cs g).block = w.block := by cases cs <;> rfl
@[simp] theorem updStream_task (w : Wave) (cs : Bool) (g : Stream → Stream) : (w.updStream cs g).task = w.task := by cases cs <;> rfl
@[simp] theorem updStream_logical (w : Wave) (cs : Bool) (g : Stream → Stream) : (w.updStream cs g).logical = w.logical := by cases cs <;> rfl
@[simp] theorem updStream_redirect (w : Wave) (cs : Bool) (g : Stream → Stream) : (w.updStream cs g).redirect = w.redirect := by cases cs <;> rfl
@[simp] theorem updStream_codeLo (w : Wave) (cs : Bool) (g : Stream → Stream) : (w.updStream cs g).codeLo = w.codeLo := by cases cs <;> rfl
@[simp] theorem updStream_codeHi (w : Wave) (cs : Bool) (g : Stream → Stream) : (w.updStream cs g).codeHi = w.codeHi := by cases cs <;> rfl
@[simp] theorem updStream_late (w : Wave) (cs : Bool) (g : Stream → Stream) : (w.updStream cs g).late = w.late := by cases cs <;> rfl
@[simp] theorem updStream_deferred (w : Wave) (cs : Bool) (g : Stream → Stream) : (w.updStream cs g).deferred = w.deferred := by cases cs <;> rfl
@[simp] theorem updStream_trapping (w : Wave) (cs : Bool) (g : Stream → Stream) : (w.updStream cs g).trapping = w.trapping := by cases cs <;> rfl
@[simp] theorem updStream_ctx (w : Wave) (cs : Bool) (g : Stream → Stream) : (w.updStream cs g).ctx = w.ctx := by cases cs <;> rfl
@[simp] theorem updStream_batch (w : Wave) (cs : Bool) (g : Stream → Stream) : (w.updStream cs g).batch = w.batch := by cases cs <;> rfl
@[simp] theorem updStream_flushes (w : Wave) (cs : Bool) (g : Stream → Stream) : (w.updStream cs g).flushes = w.flushes := by cases cs <;> rfl
@[simp] theorem updStream_callo (w : Wave) (cs : Bool) (g : Stream → Stream) : (w.updStream cs g).callo = w.callo := by cases cs <;> rfl
@[simp] theorem updStream_ended (w : Wave) (cs : Bool) (g : Stream → Stream) : (w.updStream cs g).ended = w.ended := by cases cs <;> rfl
@[simp] theorem stream_updStream (w : Wave) (cs : Bool) (g : Stream → Stream) : (w.updStream cs g).stream cs = g (w.stream cs) := by cases cs <;> rfl
@[simp] theorem stream_updStream_other (w : Wave) (cs : Bool) (g : Stream → Stream) : (w.updStream cs g).stream (!cs) = w.stream (!cs) := by cases cs <;> rfl

end Sys2Proof.Machine
end

