-- ==== Sys2Proof/Laws/Values.lean ====
section
/-!
SUPPORT. The values that the shared operations compute, in the terms of the rules.
-/
set_option Elab.async false
namespace Sys2Proof.Machine

theorem alu_shl (a b : Word) : alu .shl a b = if b.toNat % 256 < 32 then a <<< (b.toNat % 256) else 0#32 := by
  simp only [alu]; split <;> split <;> first | rfl | omega

theorem alu_shr (a b : Word) : alu .shr a b = if b.toNat % 256 < 32 then a >>> (b.toNat % 256) else 0#32 := by
  simp only [alu]; split <;> split <;> first | rfl | omega

theorem alu_sar (a b : Word) :
    alu .sar a b = if b.toNat % 256 < 32 then a.sshiftRight (b.toNat % 256) else if a.msb then 0xFFFFFFFF#32 else 0#32 := by
  simp only [alu, BitVec.msb_eq_getLsbD_last]
  by_cases h : b.toNat % 256 < 32
  · simp [h, Nat.not_le.2 h]
  · simp [h, Nat.le_of_not_lt h]

/-- A five-bit shift amount stays itself (R81). -/
theorem immZ_amount (n : BitVec 5) : (immZ n).toNat % 256 = n.toNat := by
  have := n.isLt
  simp [immZ]; omega

theorem alu_shl_imm (a : Word) (n : BitVec 5) : alu .shl a (immZ n) = a <<< n.toNat := by
  rw [alu_shl, immZ_amount, if_pos n.isLt]

theorem alu_shr_imm (a : Word) (n : BitVec 5) : alu .shr a (immZ n) = a >>> n.toNat := by
  rw [alu_shr, immZ_amount, if_pos n.isLt]

theorem alu_sar_imm (a : Word) (n : BitVec 5) : alu .sar a (immZ n) = a.sshiftRight n.toNat := by
  rw [alu_sar, immZ_amount, if_pos n.isLt]

theorem rotl_eq (a : Word) (n : BitVec 5) : rotl a n.toNat = a.rotateLeft n.toNat := by
  have h : n.toNat < 32 := n.isLt
  unfold rotl
  rw [BitVec.rotateLeft_def, Nat.mod_eq_of_lt h]
  split
  · next h0 =>
    have : a >>> 32 = 0#32 := BitVec.eq_of_toNat_eq (by simp [Nat.shiftRight_eq_div_pow]; exact a.isLt)
    simp [h0, this]
  · rfl

/-- Bit i of a mask made lane by lane. -/
theorem maskOf_getLsbD (f : Nat → Bool) (i : Nat) : (maskOf f).getLsbD i = (decide (i < 32) && f i) := by
  have key : ∀ n, n ≤ 32 → ((List.range n).foldl (fun (m : Word) l => if f l then m ||| BitVec.ofNat 32 (2 ^ l) else m) 0#32).getLsbD i =
      (decide (i < n) && f i) := by
    intro n
    induction n with
    | zero => intro _; simp
    | succ n ih =>
      intro h
      rw [List.range_succ, List.foldl_append]
      have ih := ih (by omega)
      simp only [List.foldl_cons, List.foldl_nil]
      have hp : (BitVec.ofNat 32 (2 ^ n)).getLsbD i = decide (i = n) := by
        simp only [BitVec.getLsbD_ofNat, Nat.testBit_two_pow]
        by_cases hi : i = n
        · subst hi; simp; omega
        · simp [hi, Ne.symm hi]
      by_cases hf : f n
      · rw [if_pos hf, BitVec.getLsbD_or, ih, hp]
        by_cases h1 : i = n
        · subst h1; simp [hf]
        · have : (i < n + 1) ↔ (i < n) := by omega
          simp [h1, this]
      · rw [if_neg hf, ih]
        by_cases h1 : i = n
        · subst h1; simp [hf]
        · have : (i < n + 1) ↔ (i < n) := by omega
          simp [this]
  exact key 32 (Nat.le_refl _)

theorem brev_eq (a : Word) : brev a = a.reverse := by
  ext i hi
  rw [brev, ← BitVec.getLsbD_eq_getElem, maskOf_getLsbD, ← BitVec.getLsbD_eq_getElem, BitVec.getLsbD_reverse, BitVec.getMsbD]

theorem low8_eq (a : Word) : a &&& 0xFF#32 = (a.extractLsb' 0 8).zeroExtend 32 := by
  apply BitVec.eq_of_getLsbD_eq
  intro i hi
  have : (0xFF#32).getLsbD i = decide (i < 8) := by interval_cases i <;> rfl
  rw [BitVec.getLsbD_and, this]
  simp [BitVec.getLsbD_extractLsb', hi, Bool.and_comm]

theorem low16_eq (a : Word) : a &&& 0xFFFF#32 = (a.extractLsb' 0 16).zeroExtend 32 := by
  apply BitVec.eq_of_getLsbD_eq
  intro i hi
  have : (0xFFFF#32).getLsbD i = decide (i < 16) := by interval_cases i <;> rfl
  rw [BitVec.getLsbD_and, this]
  simp [BitVec.getLsbD_extractLsb', hi, Bool.and_comm]

theorem compareSigned_eq (a b : Word) : compareSigned a b =
    { z := a == b, n := (a - b).msb, c := decide (b.toNat ≤ a.toNat),
      v := decide (a.toInt - b.toInt < -2 ^ 31) || decide (a.toInt - b.toInt > 2 ^ 31 - 1) } := by
  simp only [compareSigned, BitVec.msb_eq_getLsbD_last]

theorem sdivn_eq (a b : Word) : sdivn a b = if b = 0#32 then 0xFFFFFFFF#32 else a / b := by
  unfold sdivn
  split
  · rfl
  · exact BitVec.eq_of_toNat_eq (by simp [BitVec.toNat_udiv]; exact Nat.lt_of_le_of_lt (Nat.div_le_self _ _) a.isLt)

theorem sremn_eq (a b : Word) : sremn a b = if b = 0#32 then a else a % b := by
  unfold sremn
  split
  · rfl
  · exact BitVec.eq_of_toNat_eq (by simp [BitVec.toNat_umod]; exact Nat.lt_of_le_of_lt (Nat.mod_le _ _) a.isLt)

theorem ofInt_add_toNat (x : Int) (d : Word) : BitVec.ofInt 32 (x + d.toNat) = BitVec.ofInt 32 x + d := by
  rw [BitVec.ofInt_add]; simp

theorem madLo_signed (a b d : Word) : madLo true a b d = BitVec.ofInt 32 (a.toInt * b.toInt) + d := by
  simp only [madLo, madProd, if_true]; exact ofInt_add_toNat _ _

theorem madHi_signed (a b d : Word) : madHi true a b d = BitVec.ofInt 32 (a.toInt * b.toInt / 2 ^ 32) + d := by
  simp only [madHi, madProd, if_true]; exact ofInt_add_toNat _ _

theorem madLo_unsigned (a b d : Word) : madLo false a b d = BitVec.ofNat 32 (a.toNat * b.toNat) + d := by
  simp only [madLo, madProd, Bool.false_eq_true, if_false, ofInt_add_toNat]
  congr 1

theorem madHi_unsigned (a b d : Word) : madHi false a b d = BitVec.ofNat 32 (a.toNat * b.toNat / 2 ^ 32) + d := by
  simp only [madHi, madProd, Bool.false_eq_true, if_false, ofInt_add_toNat]
  congr 1

theorem vbfi_eq (d a b : Word) : vbfi d a b =
    (d &&& ~~~(BitVec.ofNat 32 ((2 ^ min (b.toNat / 256 % 64) 32 - 1) * 2 ^ (b.toNat % 32)))) |||
      ((a <<< (b.toNat % 32)) &&& BitVec.ofNat 32 ((2 ^ min (b.toNat / 256 % 64) 32 - 1) * 2 ^ (b.toNat % 32))) := by
  have : a <<< (b.toNat % 32) = BitVec.ofNat 32 (a.toNat * 2 ^ (b.toNat % 32)) := by
    apply BitVec.eq_of_toNat_eq
    simp [BitVec.toNat_shiftLeft, Nat.shiftLeft_eq]
  rw [this]; rfl

/-- A reduction with an operation that 0 does not change. -/
theorem reduceInt_foldl (op : AluOp) (h : ∀ x, alu op 0#32 x = x) (xs : List Word) : reduceInt op xs = xs.foldl (alu op) 0#32 := by
  cases xs with
  | nil => rfl
  | cons x t => simp only [reduceInt, List.foldl_cons, h]

theorem fCopySign_eq (a b : Word) : fCopySign a b =
    if (Fmt.f32.decode a.toNat).isNan then BitVec.ofNat 32 Fmt.f32.nanBits else b.extractLsb' 31 1 ++ a.extractLsb' 0 31 := by
  unfold fCopySign
  split
  · rfl
  · ext i hi
    have h1 : (0x7FFFFFFF#32).getLsbD i = decide (i < 31) := by interval_cases i <;> rfl
    have h2 : (0x80000000#32).getLsbD i = decide (i = 31) := by interval_cases i <;> rfl
    simp only [← BitVec.getLsbD_eq_getElem] at h1 h2 ⊢
    rw [BitVec.getLsbD_or, BitVec.getLsbD_and, BitVec.getLsbD_and, h1, h2, BitVec.getLsbD_append]
    by_cases h : i < 31
    · have : i ≠ 31 := by omega
      simp [h, this]
    · have : i = 31 := by omega
      subst this; simp

/-- R273, R280: a cross-lane read whose lanes may be read goes on. -/
theorem crossRead_readable {e : Env} {a : BitVec 7} {m : Word} (h : readable e a m) (k : Env → Out) : e.crossRead a m k = k (e.found a m) := by
  obtain ⟨h1, h2⟩ := h
  unfold Env.crossRead
  rw [h1]
  unfold Env.found at h2 ⊢
  cases hp : e.place? a.toNat with
  | none => rfl
  | some p =>
    simp only [hp] at h2
    have := h2 p rfl
    simp only [Bool.not_true, Bool.false_eq_true, if_false, Env.consume]
    revert this
    generalize Env.poisoned _ _ _ = q
    obtain ⟨x, y⟩ := q
    rintro rfl; rfl

end Sys2Proof.Machine
end

