-- ==== Sys2Proof/Tests/Slice0.lean ====
section
/-!
SUPPORT. Tests: terms that each check of an encoding refuses, words written out from the spec's encodings, the effect of single steps on small states, and
for every statement a state and operands that meet its hypotheses. A test whose expected value comes from a rule names the rule.
-/
set_option Elab.async false
set_option maxRecDepth 40000
namespace Sys2Proof.Tests
open Sys2Proof.Machine

/-! ## Small states -/

/-- A page of ordinary memory: virtual page 2 at frame 2, readable and writable, and its binding to tenant 0. -/
def dataLeaf : DWord := 0x20000007#64
def dataPte : PvtEntry := { PvtEntry.free with bound := true, tenant := 0, vpn := 2, version := 1, content := (0, 2, 1) }

/-- The A-stream of wave 0 at a word, with a data page mapped, a free claim on the engine and a handler's vector. -/
def base : State :=
  let s := State.reset.withFetchWord 32 0
  let c := s.core 0
  { s with cur := ⟨0, false, 0⟩, tape := [], pvt := tabPut s.pvt 2 dataPte,
           cores := tabPut s.cores 0 { c with tlb := c.tlb ++ [⟨dataLeaf, 3, 0, 0, 2, 0⟩] } }

/-- `base` with its wave changed. -/
def wave (f : Wave → Wave) : State := base.updWave 0 f

/-- `base` with scalar registers set. -/
def regs (rs : List (Nat × Word)) : State :=
  wave fun w => { w with a := { w.a with regs := rs.foldl (fun v r => v.setIfInBounds r.1 r.2) w.a.regs } }

/-- `base` with s2 = 0x20000, which with s3 = 0 is an address of the data page, and every lane of v0 the same. -/
def addressed (rs : List (Nat × Word)) : State :=
  wave fun w => { w with a := { w.a with regs := ((2, 0x20000#32) :: rs).foldl (fun v r => v.setIfInBounds r.1 r.2) w.a.regs },
                         vregs := [(0, Vector.replicate 32 0x20000#32)] }

/-- A batch of one request in a combiner wave. -/
def request : CallReq := ⟨1, 0xFFF, 0, 0, 0, 0x20000#64, 7#32, 0, 0, 0#64, 0, 0, false, 0, 0, 0#64, false⟩
def batch : Batch :=
  { handle := 0x20000#64, method := 0x10000#64, stateVa := 0x20040#64, ssize := 64, scope := 1, reqs := [request], replies := [0#32], commit := [], issued := 1,
    descKey := 0x20000, descTenant := 0 }
def inBatch : State := wave fun w => { w with batch := some batch }

/-- `i` issues at `s`, and what it sees satisfies `c`. -/
def issues (s : State) (i : Instr) (c : Env → Bool) : Bool :=
  match s.admitted i.form with
  | some e => c e
  | none => false

/-- No fence or held access stops the word, and what it then sees satisfies `c`. -/
def gate (m : MemClass) (ordered : Bool) (c : Env → Bool) (e : Env) : Bool :=
  match e.gated m ordered with
  | some e => c e
  | none => false

/-- The lanes pass the checks of an access. -/
def lanes (d : Dir) (scope size : Nat) (release : Bool) (ls : Env → List (Nat × Nat)) (e : Env) : Bool := (e.lanesAt d scope size release (ls e)).isSome

theorem issues_sound {s : State} {i : Instr} {c : Env → Bool} (h : issues s i c = true) : ∃ e, Issues i s e ∧ c e = true := by
  unfold issues at h
  split at h
  · exact ⟨_, ‹_›, h⟩
  · cases h

theorem gate_sound {m : MemClass} {o : Bool} {c : Env → Bool} {e : Env} (h : gate m o c e = true) : ∃ e', e.gated m o = some e' ∧ c e' = true := by
  unfold gate at h
  split at h
  · exact ⟨_, ‹_›, h⟩
  · cases h
/-! ## Words written out from the encodings of R20, R21, R24 and R36: major, D, A, B, minor, or major, D, A, immediate, and so on -/

theorem test_words_control :
    decode 0b0000000_0000000_0000000_0000000_0110#32 = .ok (.flusha) ∧
    decode 0b0000001_01110_11111111111111111111#32 = .ok (.br 14#5 0xFFFFF#20) ∧
    decode 0b0000010_00000_00000000000000000001#32 = .ok (.call 1#20) ∧
    decode 0b0000011_0000000_0000110_0000000_0001#32 = .ok (.calli 6#7) ∧
    decode 0b0000100_0000001_0000010_0000100_0111#32 = .ok (.jtab 1#7 2#7 4#7 7#3) ∧
    decode 0b0000101_0101111_0000111_11111111111#32 = .ok (.fork 47#7 7#3 0x7FF#11) ∧
    decode 0b0000110_0000000_000000000000000101#32 = .ok (.join 5#3) ∧
    decode 0b0000111_0001001_0000000_0000000_0100#32 = .ok (.mget 9#7) ∧
    decode 0b0000111_0000000_0111111_0000000_0011#32 = .ok (.mset 63#7) ∧
    decode 0b0001000_0000000_000000000001111111#32 = .ok (.trap 127#7) ∧
    decode 0b0001001_0001111_0000000_00000111111#32 = .ok (.waita 15#4 63#6) ∧
    decode 0b0001010_0000000_000000100000000001#32 = .ok (.waitf 0x801#12) ∧
    decode 0b0001011_0000000_0111110_0000000_0000#32 = .ok (.sleep 62#7) ∧
    decode 0b0001100_0111111_0000000_00001100000#32 = .ok (.mfsr 63#7 0x60#11) ∧
    decode 0b0001101_0000000_0000101_00000100001#32 = .ok (.mtsr 5#7 0x21#11) ∧
    decode 0b0001110_0000000_0000010_0000011_0000#32 = .ok (.evt 2#7 3#7) := by
  refine ⟨?_, ?_, ?_, ?_, ?_, ?_, ?_, ?_, ?_, ?_, ?_, ?_, ?_, ?_, ?_, ?_⟩ <;> rfl

theorem test_words_scalar :
    decode 0b0010000_1111111_0111111_0000000_1111#32 = .ok (.sandn 127#7 63#7 0#7) ∧
    decode 0b0010001_0000011_0000001_10000000000#32 = .ok (.saddi 3#7 1#7 0x400#11) ∧
    decode 0b0010101_0000011_0000001_00000011111#32 = .ok (.sshlImm 3#7 1#7 31#5) ∧
    decode 0b0010110_0000101_100000000000000001#32 = .ok (.smovi 5#7 0x20001#18) ∧
    decode 0b0010111_0000101_000000000000000011#32 = .ok (.smovhi 5#7 3#18) ∧
    decode 0b0011000_0000000_0000001_0000010_0001#32 = .ok (.scmpN 1#7 2#7) ∧
    decode 0b0011001_0000001_0000100_00000001001#32 = .ok (.scmpiN 4#7 9#11) ∧
    decode 0b0011010_0111110_0000010_0000100_1011#32 = .ok (.saddp 62#7 2#7 4#7 1#1 3#2) ∧
    decode 0b0011011_0000001_0000010_0000011_1110#32 = .ok (.ssel 1#7 2#7 3#7 14#4) ∧
    decode 0b0011100_0000001_0000010_0000000_0111#32 = .ok (.ssext16 1#7 2#7) ∧
    decode 0b0011101_0000001_0000010_0000011_0011#32 = .ok (.sremn 1#7 2#7 3#7) ∧
    decode 0b0011110_0000111_0000000_0000000_0001#32 = .ok (.qpop 7#7) ∧
    decode 0b0011111_0101111_0001000_0000000_0001#32 = .ok (.vacqT 47#7 8#7) := by
  refine ⟨?_, ?_, ?_, ?_, ?_, ?_, ?_, ?_, ?_, ?_, ?_, ?_, ?_⟩ <;> rfl

theorem test_words_vector :
    decode 0b0100000_1111111_0000001_0000010_0000#32 = .ok (.vadd 127#7 1#7 2#7) ∧
    decode 0b0100001_0000001_0000010_0111111_1111#32 = .ok (.vandnS 1#7 2#7 63#7) ∧
    decode 0b0100010_0000001_0000010_11111111111#32 = .ok (.vaddi 1#7 2#7 0x7FF#11) ∧
    decode 0b0100110_0000001_0000010_11000011111#32 = .ok (.vrot 1#7 2#7 31#5) ∧
    decode 0b0100111_0000001_000000000000000001#32 = .ok (.vmovi 1#7 1#18) ∧
    decode 0b0101000_0000001_0000010_0000011_0011#32 = .ok (.madhiN32 1#7 2#7 3#7) ∧
    decode 0b0101001_0101111_0000001_0000010_1001#32 = .ok (.vcmpGen 47#7 1#7 2#7) ∧
    decode 0b0101010_0000000_0000001_0000010_0000#32 = .ok (.vcmpsEq 0#7 1#7 2#7) ∧
    decode 0b0101011_0000001_0000010_0000011_1111#32 = .ok (.vsel 1#7 2#7 3#7 15#4) ∧
    decode 0b0101100_0001001_0000000_0000000_1011#32 = .ok (.vlane 9#7) ∧
    decode 0b0101101_0000001_0000010_0000011_0010#32 = .ok (.vbfi 1#7 2#7 3#7) ∧
    decode 0b0101110_1111110_0111110_0000011_1011#32 = .ok (.vleaI 126#7 62#7 3#7 3#2) ∧
    decode 0b0101111_0000001_0000010_0000011_0011#32 = .ok (.vrand 1#7 2#7 3#7 3#2) ∧
    decode 0b0110000_0000001_0000010_0000000_0110#32 = .ok (.pmov 1#7 2#7) ∧
    decode 0b0110001_0000001_0000010_0000000_0001#32 = .ok (.vtop 1#7 2#7) := by
  refine ⟨?_, ?_, ?_, ?_, ?_, ?_, ?_, ?_, ?_, ?_, ?_, ?_, ?_, ?_, ?_⟩ <;> rfl

theorem test_words_float :
    decode 0b0110100_0000001_0000010_0000011_0101#32 = .ok (.fcopysign 1#7 2#7 3#7) ∧
    decode 0b0110101_0000001_0000010_0000011_0010#32 = .ok (.fmulS 1#7 2#7 3#7) ∧
    decode 0b0110110_0000001_0000010_0000011_1011#32 = .ok (.ffmaNegsub 1#7 2#7 3#7 2#2) ∧
    decode 0b0110111_0000001_0000010_0000011_1101#32 = .ok (.ffmasNeg 1#7 2#7 3#7 3#2) ∧
    decode 0b0111000_0000001_0000010_0000011_0111#32 = .ok (.fcmpOrd 1#7 2#7 3#7) ∧
    decode 0b0111001_0000001_0000010_0000011_1000#32 = .ok (.fdiv 1#7 2#7 3#7) ∧
    decode 0b0111010_0000001_0000010_0000100_1001#32 = .ok (.fcvtN32F32 1#7 2#7 4#3) ∧
    decode 0b0111010_0000001_0000010_0000100_1011#32 = .ok (.fcvtF32N32 1#7 2#7 4#3) ∧
    decode 0b0111011_0000001_0000010_0000011_0111#32 = .ok (.fcvtscE5m2F32 1#7 2#7 3#7 3#2) ∧
    decode 0b0111100_0000001_0000010_0000011_1100#32 = .ok (.hmax2 1#7 2#7 3#7 1#1) ∧
    decode 0b0111101_0000001_0000010_0000011_1010#32 = .ok (.hfma2Sub 1#7 2#7 3#7 1#1) ∧
    decode 0b0111110_0000001_0000010_0000011_0110#32 = .ok (.dot8Cb4 1#7 2#7 3#7) ∧
    decode 0b0111111_0000001_0000010_0000000_0000#32 = .ok (.fclass 1#7 2#7) ∧
    decode 0b1000000_0000001_0000010_0000000_0100#32 = .ok (.frnd 1#7 2#7 4#3) ∧
    decode 0b1000001_0000001_100000000000000000#32 = .ok (.fmovi 1#7 0x20000#18) ∧
    decode 0b1000010_0000001_0000010_0000000_0010#32 = .ok (.fgetmant 1#7 2#7) := by
  refine ⟨?_, ?_, ?_, ?_, ?_, ?_, ?_, ?_, ?_, ?_, ?_, ?_, ?_, ?_, ?_, ?_⟩ <;> rfl

theorem test_words_lanes_and_memory :
    decode 0b1001000_0000001_0000010_0000011_0011#32 = .ok (.shflXor 1#7 2#7 3#7) ∧
    decode 0b1001001_0000001_0000010_11000011111#32 = .ok (.shfliXor 1#7 2#7 31#5) ∧
    decode 0b1001010_0101111_0000000_0000000_0100#32 = .ok (.voteElect 47#7) ∧
    decode 0b1001011_0000001_0000010_0000000_1010#32 = .ok (.reduceMaxF32 1#7 2#7) ∧
    decode 0b1001100_0000001_0000010_0000000_1100#32 = .ok (.scanOr 1#7 2#7 1#1) ∧
    decode 0b1001101_0000001_0000010_0000000_0000#32 = .ok (.matchLanes 1#7 2#7) ∧
    decode 0b1001110_0000001_0000010_0000011_0010#32 = .ok (.bcast 1#7 2#7 3#7) ∧
    decode 0b1010011_0000001_0000010_1111_1111111#32 = .ok (.ldvI16 1#7 2#7 15#4 0x7F#7) ∧
    decode 0b1011010_0000010_0000100_1101_0000001#32 = .ok (.stv64 2#7 4#7 0xD#4 1#7) ∧
    decode 0b1011101_0000010_0000100_0011_0000001#32 = .ok (.lds64 2#7 4#7 3#4 1#7) ∧
    decode 0b1011110_0000011_0000100_1000_0000001#32 = .ok (.sts32 3#7 4#7 8#4 1#7) ∧
    decode 0b1100001_0000001_0000010_0000011_1100#32 = .ok (.atomIncw 1#2 1#7 2#7 3#7) ∧
    decode 0b1100100_0000101_0000010_0000011_1001#32 = .ok (.redXchg 5#3 2#7 3#7) ∧
    decode 0b1100101_0000010_0000100_0000110_0000#32 = .ok (.callo 2#7 4#7 6#7) ∧
    decode 0b1100110_0000000_000000000000101011#32 = .ok (.fenceFlush 3#3) ∧
    decode 0b1100111_0000000_0000010_0011_0000001#32 = .ok (.pft 2#7 3#2 1#7) := by
  refine ⟨?_, ?_, ?_, ?_, ?_, ?_, ?_, ?_, ?_, ?_, ?_, ?_, ?_, ?_, ?_, ?_⟩ <;> rfl

theorem test_words_engines :
    decode 0b1101000_0000010_0000100_0000110_0001#32 = .ok (.copyNp 2#7 4#7 6#7) ∧
    decode 0b1101001_0000010_0000100_0000110_0000#32 = .ok (.gpool 2#7 4#7 6#7) ∧
    decode 0b1101010_0000010_0000100_0000110_0000#32 = .ok (.coll 2#7 4#7 6#7) ∧
    decode 0b1101011_0000011_0000100_0000000_0111#32 = .ok (.barDrop 3#7 4#7) ∧
    decode 0b1101100_0000011_0000100_0000000_0011#32 = .ok (.semTryp 3#7 4#7) ∧
    decode 0b1101101_0000011_0000100_0000000_0001#32 = .ok (.jdec 3#7 4#7) ∧
    decode 0b1101110_0000010_0000100_0000000_0010#32 = .ok (.fquota 2#7 4#7) ∧
    decode 0b1101111_0000000_0000011_0000000_0010#32 = .ok (.cabort 3#7) ∧
    decode 0b1110101_0000001_0000010_1111111_1000#32 = .ok (.mloopCb4 1#7 2#7 127#7 1#1 0#1 0#1 0#1) ∧
    decode 0b1110111_0000111_0000100_0000000_0001#32 = .ok (.mcb 7#3 4#7) ∧
    decode 0b1110111_0000011_0000110_0000001_0010#32 = .ok (.mstat 3#7 6#3 1#1) ∧
    decode 0b1111000_0000011_0000100_0000001_0100#32 = .ok (.mdrainAddOrdered 3#7 4#7 1#1) ∧
    decode 0b1111001_0000000_0000100_0000000_0001#32 = .ok (.mrestore 4#7) ∧
    decode 0b1111111_100000000001_0010_1111_11111#32 = .ok (.clauseHeader 0x801#12 2#4 15#4 31#5) := by
  refine ⟨?_, ?_, ?_, ?_, ?_, ?_, ?_, ?_, ?_, ?_, ?_, ?_, ?_, ?_⟩ <;> rfl

/-! ## Terms that the checks refuse (R29 to R31, R24, R38, R59, R137, R193) -/

theorem test_refused :
    (Instr.sadd 64#7 0#7 0#7).check = some .badScalar ∧ (Instr.sadd 0#7 126#7 0#7).check = some .badScalar ∧ (Instr.sadd 127#7 63#7 0#7).check = none ∧
    (Instr.jmpi 5#7).check = some .badPair ∧ (Instr.sleep 127#7).check = some .badPair ∧ (Instr.jmpi 127#7).check = none ∧
    (Instr.vleaI 3#7 0#7 0#7 0#2).check = some .badVectorPair ∧ (Instr.ldv128 6#7 0#7 0#4 0#7).check = some .badQuad ∧ (Instr.pset 48#7).check = some .badPredicate ∧
    (Instr.br 15#5 0#20).check = some .badCond ∧ (Instr.ssel 0#7 0#7 0#7 15#4).check = some .badCond ∧ (Instr.stv32 0#7 0#7 6#4 0#7).check = some .badScope ∧
    (Instr.stv32 0#7 0#7 13#4 0#7).check = none ∧ (Instr.frnd 0#7 0#7 5#3).check = some .badRounding ∧
    (Instr.mstat 0#7 7#3 0#1).check = some .badWord ∧ (Instr.clauseHeader 0#12 12#4 15#4 0#5).check = some .badFlag := by decide
theorem test_refused_words :
    decode 0b0001111_0000000_0000000_0000000_0000#32 = .error .unlistedMajor ∧ decode 0b0000000_0000000_0000000_0000000_0111#32 = .error .unlistedMinor ∧
    decode 0b0000000_0000001_0000000_0000000_0000#32 = .error .mustBeZero ∧ decode 0b0000010_00001_00000000000000000001#32 = .error .mustBeZero := by
  refine ⟨?_, ?_, ?_, ?_⟩ <;> rfl

/-! ## Witnesses: states and operands that meet the hypotheses of the statements about words -/

def allIssue (s : State) (is : List Instr) : Bool := is.all fun i => issues s i fun _ => true
def pc0 : DWord := 0x10000#64
def full : Word := 0xFFFFFFFF#32
/-- `base` with this split at the word. -/
def split (exec : Word) (mstk : List Word) (cstk : List DWord) : State :=
  wave fun w => { w with a := { w.a with tab := w.a.tab.setSlot 0 (some ⟨pc0, pc0, full, exec, mstk, cstk⟩) } }
def readableB (e : Env) (a : BitVec 7) (m : Word) : Bool :=
  e.landed a m && (match e.place? a.toNat with | some p => (e.poisoned [p] (m &&& e.w.live)).2.isNone | none => true)

theorem wit_ScalarAlu : allIssue base [.sadd 3#7 1#7 2#7, .sandn 127#7 63#7 0#7, .saddi 0#7 0#7 0x7FF#11, .sshlImm 1#7 2#7 31#5] = true := by decide
theorem wit_ScalarMoves : allIssue base [.smovi 5#7 0#18, .smovhi 63#7 1#18, .ssel 1#7 2#7 3#7 14#4, .ssext16 127#7 0#7] = true := by decide
theorem wit_VectorAlu : allIssue base [.vadd 127#7 1#7 2#7, .vandn 0#7 1#7 2#7, .vrot 1#7 2#7 31#5] = true := by decide
theorem wit_VectorScalarAlu : allIssue base [.vaddS 1#7 2#7 63#7, .vandnS 0#7 0#7 127#7] = true := by decide
theorem wit_VectorMoves : allIssue base [.vmovi 127#7 0x3FFFF#18, .vlane 0#7, .vsext8 1#7 1#7, .vbfi 1#7 2#7 3#7] = true := by decide
theorem wit_VectorCompares : allIssue base [.vcmpEq 47#7 1#7 2#7, .vcmpsGen 0#7 1#7 63#7] = true := by decide
theorem wit_PredicatesAndVotes : allIssue base [.pand 47#7 0#7 1#7, .pset 0#7, .ptov 1#7 2#7, .voteBallot 3#7 4#7] = true := by decide
theorem wit_ScalarComparesAndPairs : allIssue base [.scmp 1#7 2#7, .scmpiN 127#7 0#11, .saddp 62#7 0#7 2#7 1#1 3#2, .saddp 127#7 0#7 1#7 0#1 0#2] = true := by decide
theorem wit_ScalarDivisions : allIssue base [.sdivi 1#7 2#7 3#7, .sremn 127#7 0#7 0#7] = true := by decide
theorem wit_VectorWide : allIssue base [.madloI32 1#7 2#7 3#7, .vleaI 126#7 62#7 3#7 3#2, .vrand 1#7 2#7 3#7 3#2] = true := by decide
theorem wit_CrossLane :
    (issues base (.shflIdx 1#7 2#7 3#7) (fun e => readableB e 2#7 full) && issues base (.rdlane 1#7 2#7 3#7) (fun e => readableB e 2#7 1#32) &&
     issues (split 0#32 [] []) (.rdlane 1#7 2#7 3#7) (fun e => e.exec == 0#32) && issues base (.bcast 1#7 2#7 3#7) (fun e => readableB e 2#7 1#32) &&
     issues (split 0#32 [] []) (.bcast 1#7 2#7 3#7) (fun e => e.exec == 0#32) && issues base (.wrlane 1#7 2#7 3#7) (fun _ => true)) = true := by decide
theorem wit_Reductions : allIssue base [.reduceAddI32 1#7 2#7, .scanOr 1#7 2#7 0#1, .matchLanes 1#7 2#7] = true := by decide
theorem wit_FloatArithmetic : allIssue base [.fadd 1#7 2#7 3#7, .ffma 1#7 2#7 3#7 1#2, .fcmpUnord 47#7 1#7 2#7] = true := by decide
theorem wit_FloatFunctions :
    (allIssue base [.fsin 1#7 2#7, .fmovi 1#7 0#18, .fclass 1#7 2#7] &&
     issues base (.fcvtscE4m3F32 1#7 2#7 3#7 3#2) (fun e => readableB e 3#7 (scaleLanes e.exec))) = true := by decide
theorem wit_PackedAndDots : allIssue base [.hadd2 1#7 2#7 3#7 0#1, .hfma2Neg 1#7 2#7 3#7 1#1, .dot8Cb4 1#7 2#7 3#7] = true := by decide
theorem wit_Transfers_gives :
    (issues base (.br 0#5 0xFFFFF#20) (fun _ => true) && issues base (.br 2#5 1#20) (fun e => e.cond 2) && issues base (.br 1#5 1#20) (fun e => !e.cond 1) &&
     issues (split full [] (List.replicate 7 0#64)) (.call 1#20) (fun e => decide (e.sp.cstk.length = 7)) &&
     issues base (.jmpi 2#7) (fun e => (e.s64 2#7).toNat % 4 == 0) &&
     issues (split full [] (List.replicate 7 0#64)) (.calli 2#7) (fun e => e.sp.cstk.length == 7 && (e.s64 2#7).toNat % 4 == 0) &&
     issues (split full [] [4#64]) .ret (fun e => !e.sp.cstk.isEmpty && (e.sp.cstk.headD 0#64).toNat % 4 == 0)) = true := by decide
theorem wit_Transfers_traps :
    (issues (split full [] (List.replicate 8 0#64)) (.call 1#20) (fun e => e.sp.cstk.length == 8) &&
     issues (split full [] (List.replicate 8 0#64)) (.calli 0#7) (fun e => e.sp.cstk.length == 8) && issues base .ret (fun e => e.sp.cstk.isEmpty) &&
     issues (regs [(0, 3#32)]) (.jmpi 0#7) (fun e => (e.s64 0#7).toNat % 4 == 3)) = true := by decide
theorem wit_MaskStack :
    (issues (split full (List.replicate 15 0#32) []) (.mpush 47#7) (fun e => e.sp.mstk.length == 15) &&
     issues (split full (List.replicate 16 0#32) []) (.mpush 0#7) (fun e => e.sp.mstk.length == 16) &&
     issues (split full [0#32] []) .melse (fun e => e.sp.mstk == [0#32]) && issues (split full [0#32] []) .mpop (fun e => e.sp.mstk == [0#32]) &&
     issues base .melse (fun e => e.sp.mstk.isEmpty) && issues base .mpop (fun e => e.sp.mstk.isEmpty) && issues base (.mset 63#7) (fun _ => true)) = true := by
  decide
/-- Predicates 0 to 2: no lane, every lane, the lower half. -/
def preds (w : Wave) : Wave := { w with preds := (w.preds.setIfInBounds 1 full).setIfInBounds 2 0xFFFF#32 }
def tabAs (f : SplitTab → SplitTab) : State := wave fun w => { preds w with a := { w.a with tab := f w.a.tab } }
def aSplit : Split := ⟨pc0, pc0, 0#32, 0#32, [], []⟩
theorem wit_Fork :
    (issues (split 0#32 [] []) (.fork 0#7 0#3 1#11) (fun e => e.exec == 0#32) && issues (tabAs id) (.fork 0#7 0#3 1#11) (fun e => e.exec &&& e.p32 0#7 == 0#32) &&
     issues (tabAs id) (.fork 1#7 0#3 1#11) (fun e => e.exec &&& e.p32 1#7 == e.exec) &&
     issues (tabAs id) (.fork 2#7 7#3 1#11) (fun e => e.exec &&& e.p32 2#7 == 0xFFFF#32 && e.tab.freeSlot == some 1) &&
     issues (tabAs fun t => { (t.setSlot 1 (some aSplit) |>.setSlot 2 (some aSplit) |>.setSlot 3 (some aSplit)) with pend := List.replicate 15 aSplit })
       (.fork 2#7 7#3 1#11) (fun e => e.tab.freeSlot.isNone && e.tab.pend.length == 15) &&
     issues (tabAs fun t => { (t.setSlot 1 (some aSplit) |>.setSlot 2 (some aSplit) |>.setSlot 3 (some aSplit)) with pend := List.replicate 16 aSplit })
       (.fork 2#7 7#3 1#11) (fun e => e.tab.freeSlot.isNone && e.tab.pend.length == 16)) = true := by decide
def token (out : Word) (m : List Word) : Token := { Token.idle with active := true, out := out, mstk := m }
theorem wit_Join :
    (issues base (.join 7#3) (fun e => !(e.tab.tok 7).active) &&
     issues (tabAs fun t => t.setTok 0 (token full [0#32])) (.join 0#3) (fun e => e.sp.mstk.length != (e.tab.tok 0).mstk.length) &&
     issues (tabAs fun t => t.setTok 0 (token full [])) (.join 0#3) (fun e => (e.tab.tok 0).active && (joined e 0#3).complete) &&
     issues (tabAs fun t => (t.setTok 0 { token full [] with out := full }).setSlot 0 (some ⟨pc0, pc0, 1#32, 1#32, [], []⟩)) (.join 0#3) (fun e => (e.tab.tok 0).active && e.sp.mstk.length == 0 && e.sp.cstk.length == 0 && !(joined e 0#3).complete)) = true := by decide
/-- One active lane, a table of one entry in the code object, and lane 0's index 0. -/
def jtabAt : State := wave fun w =>
  let regs := (w.a.regs.setIfInBounds 0 4#32).setIfInBounds 2 0x10000#32
  { w with a := { w.a with regs := regs, tab := w.a.tab.setSlot 0 (some ⟨pc0, pc0, 1#32, 1#32, [], []⟩) } }
theorem wit_Jtab :
    (issues (split 0#32 [] []) (.jtab 0#7 1#7 2#7 0#3) (fun e => e.exec == 0#32 && (e.s64 2#7).toNat % 4 == 0) &&
     issues (regs [(2, 1#32)]) (.jtab 0#7 1#7 2#7 0#3) (fun e => (e.s64 2#7).toNat % 4 == 1) &&
     issues jtabAt (.jtab 0#7 1#7 2#7 0#3) (fun e => lanesOf e.exec == [0] && decide ((e.v32 1#7 0).toNat < (e.s32 0#7).toNat) &&
       decide (e.w.codeLo.toNat ≤ (e.s64 2#7).toNat) && decide ((e.s64 2#7).toNat + 4 ≤ e.w.codeHi.toNat) &&
       (match e.jtabEntries (e.s64 2#7) [(0, 0)] [] e.s with | .inl (xs, _) => xs == [(0, 0, 0x10000#64)] | .inr _ => false))) = true := by decide
/-- Two active lanes with indices 0 and 1 and the bound, a table of two entries at `at_`, and free places in the split table or none. -/
def jtabTwo (bound : Word) (at_ : DWord) (room : Bool) : State :=
  let s := wave fun w =>
    let regs := ((w.a.regs.setIfInBounds 0 bound).setIfInBounds 2 (loHalf at_)).setIfInBounds 3 (hiHalf at_)
    let full (t : SplitTab) : SplitTab := { (t.setSlot 1 (some aSplit) |>.setSlot 2 (some aSplit) |>.setSlot 3 (some aSplit)) with pend := List.replicate 16 aSplit }
    let tab := w.a.tab.setSlot 0 (some ⟨pc0, pc0, 3#32, 3#32, [], []⟩)
    { w with a := { w.a with regs := regs, tab := if room then tab else full tab }, codeHi := 0x40000#64, vregs := [(1, Lanes.zero.write 2#32 fun _ => 1#32)] }
  { s with mem := memPuts s.mem 0x10010 (natToBytes 8 0x400000000) }
def jtabRead (e : Env) (c : List (Nat × Nat × DWord) → Bool) (no : Bool) : Bool :=
  match e.jtabEntries (e.s64 2#7) [(0, 0), (1, 1)] [] e.s with | .inl (xs, _) => c xs | .inr _ => no
theorem wit_Jtab_two :
    (issues (jtabTwo 2#32 0x10010#64 true) (.jtab 0#7 1#7 2#7 7#3) (fun e => lanesOf e.exec == [0, 1] && (e.v32 1#7 1).toNat == 1 && e.s32 0#7 == 2#32 &&
       (e.s64 2#7).toNat == 0x10010 && decide (1 ≤ e.tab.freeCount + (16 - e.tab.pend.length)) && jtabRead e (· == [(0, 0, 0x10010#64), (1, 1, 0x10014#64)]) false) &&
     issues (jtabTwo 2#32 0x10010#64 false) (.jtab 0#7 1#7 2#7 7#3) (fun e => decide (e.tab.freeCount + 1 + (16 - e.tab.pend.length) < 2) &&
       jtabRead e (· == [(0, 0, 0x10010#64), (1, 1, 0x10014#64)]) false) &&
     issues (jtabTwo 2#32 0x30000#64 true) (.jtab 0#7 1#7 2#7 7#3) (fun e => (e.s64 2#7).toNat == 0x30000 && jtabRead e (fun _ => false) true) &&
     issues (jtabTwo 1#32 0x10010#64 true) (.jtab 0#7 1#7 2#7 7#3) (fun e => jtabBeyond e 0#7 1#7 == [(1, 1)]) &&
     issues (jtabTwo 2#32 0x3FFFC#64 true) (.jtab 0#7 1#7 2#7 7#3) (fun e => (jtabBeyond e 0#7 1#7).isEmpty && jtabOutside e 1#7 2#7 == [(1, 1)])) = true := by decide
theorem wit_Jtab_groups : jtabGroups [(0, 0, 0x10010#64), (1, 1, 0x10014#64)] = [(0x10010#64, 1#32), (0x10014#64, 2#32)] := by
  change ([(0, 0x10010#64, 1#32), (1, 0x10014#64, 2#32)].mergeSort fun (a b : Nat × DWord × Word) => decide (a.1 ≤ b.1)).map (fun g => g.2) = _
  rw [List.mergeSort_of_pairwise] <;> decide
theorem wit_Jtab_lanes : [((0 : Nat), (0 : Nat)), (1, 1)].mergeSort (fun x y => decide (x.2 ≤ y.2)) = [(0, 0), (1, 1)] := by
  rw [List.mergeSort_of_pairwise]; decide
def aTask : Task :=
  { launch := ⟨0, 0, 1, 1, 1, 0, 0, 0, 0, 0, 0, 0, 0, 0⟩, queue := 0, tenant := 0, level := 1, node := none, commit := false, det := false, nblocks := 0,
    gang := 1, runs := 0, started := true, doneBlocks := [], eligible := [], spawned := 0, cores := [], epochs := [], lastRun := [], applied := 0, order := 0,
    hdr := ⟨true, 0, 0, 0, 0, 0, 1, 1, 1, 0, 32⟩, retired := false }
def withTask (s : State) (k : Nat) (t : Task) : State := { s with lch := { s.lch with tasks := tabPut s.lch.tasks k t } }
theorem wit_WaveControl :
    (allIssue base [.nop, .yield, .roleL, .roleS] && issues base .flusha (fun e => !e.det) &&
     issues (withTask base 65536 { aTask with det := true }) .flusha (fun e => e.det) &&
     issues base (.waita 15#4 0#6) (fun e => (e.w.cnt.getD 15 []).length == 0) && issues base (.waitf 0xFFF#12) (fun _ => true) &&
     issues (wave fun w => { w with flags := w.flags.setIfInBounds 11 1 }) (.waitf 0x800#12) (fun e => e.w.flags.getD 11 0 == 1) &&
     issues base (.sleep 0#7) (fun e => decide ((e.s64 0#7).toNat ≤ e.s.gtc.toNat)) &&
     issues (regs [(0, 1#32)]) (.sleep 0#7) (fun e => decide (e.s.gtc.toNat < (e.s64 0#7).toNat))) = true := by decide
theorem wit_SystemRegisters :
    (issues base (.mfsr 1#7 0x030#11) (fun e => (e.sysReg 0x030).isSome) && issues base (.mfsr 1#7 0x010#11) (fun _ => true) &&
     (base.env?.map fun e => (e.sysReg 0x7FF).isNone) == some true && allIssue base [.mtsr 1#7 0x020#11, .mtsr 1#7 0x036#11, .mtsr 1#7 0x037#11] &&
     issues (regs [(0, 4#32)]) (.mtsr 0#7 0x021#11) (fun e => decide ((e.s32 0#7).toNat % 8 < 5)) &&
     issues (regs [(0, 5#32)]) (.mtsr 0#7 0x021#11) (fun e => decide (5 ≤ (e.s32 0#7).toNat % 8)) && allIssue base [.evt 0#7 1#7, .causeGet 0#7, .trcOff] &&
     issues (regs [(0, 1#32)]) (.causeSet 0#7) (fun e => e.s64 0#7 != 0#64) && issues base (.causeSet 0#7) (fun e => e.s64 0#7 == 0#64) &&
     issues base (.trcOn 0#7) (fun e => (e.s64 0#7).toNat % 64 == 0) && issues (regs [(0, 63#32)]) (.trcOn 0#7) (fun e => (e.s64 0#7).toNat % 64 == 63)) = true := by
  decide
/-- In a handler: the saved context is that of an empty stream. `kind` is the trap's: 0 precise, 1 software, 2 deferred. -/
def inHandler (kind : Nat) : State := wave fun w =>
  { w with ctx := some ⟨SplitTab.empty, SplitTab.empty, false, false, false, false, none, none, none, false⟩, trapCode := BitVec.ofNat 32 (kind * 1024 + 5) }
theorem wit_TrapsAndExit :
    (issues base (.trap 127#7) (fun _ => true) && issues base .tret (fun e => e.w.ctx.isNone) &&
     issues (inHandler 2) .tret (fun e => e.w.ctx.isSome && e.w.trapCode.toNat / 1024 % 4 == 2) &&
     issues (inHandler 1) .tret (fun e => e.w.ctx.isSome && e.w.trapCode.toNat / 1024 % 4 == 1) &&
     issues (inHandler 0) .exit (fun e => e.w.ctx.isSome) && issues base .exit (fun e => e.w.ctx.isNone)) = true := by decide
/-- A wave of two streams whose queues hold these entries. -/
def queues (qac qca : List QEntry) : State := wave fun w => { w with single := false, qac := qac, qca := qca }
def entry : QEntry := ⟨7#32, false, none, 0⟩
theorem wit_Queues :
    (issues (queues (List.replicate 15 entry) []) (.qpush 0#7) (fun e => !e.w.single && e.outgoing.length == 15 && !e.pushHit) &&
     issues (queues (List.replicate 16 entry) []) (.qpush 0#7) (fun e => !e.w.single && e.outgoing.length == 16) &&
     issues (queues [] [entry]) (.qpop 0#7) (fun e => !e.w.single && e.incoming == [entry]) &&
     issues (queues [] [entry]) (.qpeek 0#7) (fun e => !e.w.single && e.incoming == [entry]) &&
     issues { queues (List.replicate 15 entry) [] with inj := { base.inj with arm := true, log := 4, channel := 0, loc := queueLoc 0 0 15 } } (.qpush 0#7)
       (fun e => !e.w.single && e.outgoing.length == 15 && e.pushHit) &&
     [some false, some true].all (fun j => [Instr.qpop 0#7, .qpeek 0#7].all fun i =>
       issues (queues [] [{ entry with inj := j }]) i fun e => !e.w.single && e.incoming == [{ entry with inj := j }]) &&
     [Instr.qpop 0#7, .qpeek 0#7].all (fun i =>
       issues (queues [] [{ entry with bad := true }]) i fun e => !e.w.single && e.incoming == [{ entry with bad := true }]) &&
     issues (queues [] []) (.qpeek 0#7) (fun e => !e.w.single && e.incoming.isEmpty) &&
     issues (queues [] []) (.qpop 0#7) (fun e => !e.w.single && e.incoming.isEmpty) && issues (queues [] []) (.qlen 0#7) (fun e => !e.w.single) &&
     [Instr.qpush 0#7, .qpop 0#7, .qpeek 0#7, .qlen 0#7].all fun i => issues base i fun e => e.w.single) = true := by decide
/-- A load of wave 0 into element 0 of physical vector register `p`, in flight. -/
def landing (p : Nat) : Access :=
  { id := 1, op := 1, wave := 0, core := 0, tenant := 0, lane := 0, traps := 1#32, kind := .load 4 false [.vec p], addr := 0x20000#64, place := .mem 0x20000,
    pageKind := 0, posted := false, scope := 1, pc := pc0, slot := 0, causal := 0#64, disc := false, st := .waiting, after := [], overlay := [], page := (0, 2),
    sent := none }
theorem wit_Wrlane :
    (issues base (.wrlane 1#7 2#7 3#7) (fun e => e.landed 1#7 (e.exec &&& BitVec.ofNat 32 (2 ^ ((e.s32 3#7).toNat % 32)))) &&
     issues { base with flight := [landing 1] } (.wrlane 1#7 2#7 3#7) (fun e => !e.landed 1#7 (e.exec &&& BitVec.ofNat 32 (2 ^ ((e.s32 3#7).toNat % 32))))) = true := by
  decide
/-- `base` with s0 and with so many blocks free on the core. -/
def pool (n free : Nat) : State :=
  let s := regs [(0, BitVec.ofNat 32 n)]
  s.setCore 0 { s.core 0 with freeBlocks := (s.core 0).freeBlocks.take free }
theorem wit_Blocks :
    (issues (pool 24 188) (.vacqB 0#7) (fun e => decide (e.w.blocks.length + (e.s32 0#7).toNat + e.asked = 32) && e.poolFits 24) &&
     issues (pool 1 0) (.vacqB 0#7) (fun e => decide (e.w.blocks.length + (e.s32 0#7).toNat + e.asked ≤ 32) && !e.poolFits 1) &&
     issues (pool 24 188) (.vacqT 47#7 0#7) (fun e => decide (e.w.blocks.length + (e.s32 0#7).toNat + e.asked = 32) && e.poolFits 24) &&
     issues (pool 1 0) (.vacqT 0#7 0#7) (fun e => decide (e.w.blocks.length + (e.s32 0#7).toNat + e.asked ≤ 32) && !e.poolFits 1) &&
     issues (pool 25 188) (.vacqB 0#7) (fun e => decide (e.w.blocks.length + (e.s32 0#7).toNat + e.asked = 33)) &&
     issues (pool 25 188) (.vacqT 0#7 0#7) (fun e => decide (e.w.blocks.length + (e.s32 0#7).toNat + e.asked = 33)) &&
     issues (pool 8 188) (.vrel 0#7) (fun e => e.w.blocks.length == 8 && !e.s.pendingFrom e.key e.w (16 * (8 - 8))) &&
     issues (pool 0 0) (.vacqB 0#7) (fun e => e.s32 0#7 == 0#32 && decide (e.w.blocks.length + e.asked ≤ 32)) &&
     issues (pool 0 0) (.vacqT 0#7 0#7) (fun e => e.s32 0#7 == 0#32 && decide (e.w.blocks.length + e.asked ≤ 32)) &&
     issues (pool 0 188) (.vrel 0#7) (fun e => e.s32 0#7 == 0#32) &&
     issues { pool 1 188 with flight := [landing 112] } (.vrel 0#7) (fun e => e.s32 0#7 == 1#32 && e.s.pendingFrom e.key e.w (16 * (8 - 1))) &&
     issues (pool 9 188) (.vrel 0#7) (fun e => e.w.blocks.length == 8) && issues (pool 31 188) (.vwin 0#7) (fun e => e.s32 0#7 == 31#32) &&
     issues (pool 32 188) (.vwin 0#7) (fun e => e.s32 0#7 == 32#32)) = true := by decide

/-! Accesses: s2 and every lane of v0 address the data page. -/
def lanes1 (d : Dir) (scope size : Nat) (release : Bool) (ls : Env → List (Nat × Nat)) (k : Nat) (e : Env) : Bool :=
  decide ((e.w.cnt.getD k []).length < 63) && lanes d scope size release ls e
theorem wit_Loads :
    (issues (split 0#32 [] []) (.ldv128 8#7 0#7 15#4 127#7) (fun e => e.exec == 0#32) &&
     issues (addressed []) (.ldv128 8#7 0#7 15#4 127#7) (gate .load false (lanes1 .load 99 16 false (fun e => e.laneAddrs 0#7 127#7 16) 15)) &&
     issues (addressed []) (.ldvI8 8#7 0#7 0#4 0#7) (gate .load false (lanes1 .load 99 1 false (fun e => e.laneAddrs 0#7 0#7 1) 0)) &&
     issues (addressed []) (.lds64 62#7 2#7 15#4 127#7) (gate .load false (lanes1 .load 99 8 false (fun e => [(0, (memAddr (e.s64 2#7) 127#7 8).toNat)]) 15))) =
    true := by decide
theorem wit_Stores :
    (issues (split 0#32 [] []) (.stv8 8#7 0#7 12#4 63#7) (fun e => e.exec == 0#32) &&
     issues (addressed []) (.stv128 8#7 0#7 0#4 63#7) (gate .held false (lanes .store 0 16 false fun e => e.laneAddrs 0#7 63#7 16)) &&
     issues (addressed []) (.stv8 8#7 0#7 11#4 0#7) (gate .held true (lanes .store 3 1 true fun e => e.laneAddrs 0#7 0#7 1)) &&
     issues (addressed []) (.sts64 62#7 2#7 11#4 63#7) (gate .held true (lanes .store 3 8 true fun e => [(0, (memAddr (e.s64 2#7) 63#7 8).toNat)]))) = true := by
  decide
/-- In a combiner batch whose object's state is the last 64 bytes before 0x20080. -/
def stores (a : Nat) : State := (regs [(2, BitVec.ofNat 32 a)]).updWave 0 fun w =>
  { w with batch := some batch, vregs := [(0, Vector.replicate 32 (BitVec.ofNat 32 a))] }
def buffers (size : Nat) (ls : Env → List (Nat × Nat)) (data : Env → Nat → List Byte) (e : Env) : Bool :=
  match e.w.batch with
  | some b => (ls e).all (fun x => x.2 % size == 0 && decide (b.stateVa.toNat ≤ x.2) && decide (x.2 + size ≤ b.stateVa.toNat + b.ssize)) &&
      decide ((b.buffer (ls e) (data e)).entries ≤ 128)
  | none => false
theorem wit_Stores_batch :
    (issues (stores 0x20070) (.stv128 8#7 0#7 0#4 0#7) (buffers 16 (fun e => e.laneAddrs 0#7 0#7 16) fun e l => storeBytes e 8#7 16 l) &&
     issues (stores 0x20078) (.sts64 4#7 2#7 0#4 0#7) (buffers 8 (fun e => [(0, (memAddr (e.s64 2#7) 0#7 8).toNat)]) fun e _ => natToBytes 8 (e.s64 4#7).toNat) &&
     issues (stores 0x20040) (.sts32 4#7 2#7 0#4 0#7) (buffers 4 (fun e => [(0, (memAddr (e.s64 2#7) 0#7 4).toNat)]) fun e _ => natToBytes 4 (e.s32 4#7).toNat)) =
    true := by decide
theorem wit_Atomics :
    (issues (split 0#32 [] []) (.atomCas 3#2 8#7 0#7 4#7) (fun e => e.exec == 0#32) &&
     issues (addressed []) (.atomCas 1#2 8#7 0#7 4#7) (gate .held false (lanes1 .atomic 3 4 false (fun e => e.laneAddrs 0#7 0#7 4) 15)) &&
     issues (addressed []) (.atomAddI64 0#2 8#7 0#7 4#7) (gate .held false (lanes1 .atomic 2 8 false (fun e => e.laneAddrs 0#7 0#7 8) 15)) &&
     issues (addressed []) (.redAddBf16x2 0#3 0#7 4#7) (gate .held false fun e => !e.det && lanes .atomic 1 4 false (fun e => e.laneAddrs 0#7 0#7 4) e) &&
     issues (addressed []) (.redAddI64 3#3 0#7 4#7) (gate .held false fun e => !e.det && lanes .atomic 3 8 false (fun e => e.laneAddrs 0#7 0#7 8) e)) = true := by decide
theorem wit_Fences :
    (issues base (.fenceAcq 0#3) (gate .held true fun _ => true) && issues base (.fenceSc 7#3) (fun _ => false) == false &&
     [Instr.fenceAcq 1#3, .fenceRel 5#3, .fenceAcqrel 3#3, .fenceSc 4#3, .fenceOpnd 0#3, .fenceFlush 0#3, .fenceEng 0#3].all (fun i => issues base i (gate .held true fun _ => true)) &&
     issues (addressed []) (.pft 0#7 2#2 127#7) (fun _ => true)) = true := by decide
theorem wit_BarriersAndSemaphores :
    ([Instr.barInit 2#7 0#7, .barExpect 2#7 0#7, .semInit 2#7 0#7].all (fun i => issues (addressed []) i (gate .held false fun e => (e.wordAt (e.s64 2#7)).isSome)) &&
     [Instr.barArrive 5#7 2#7, .barWait 2#7 0#7, .barTrywait 0#7 2#7 0#7, .semP 2#7, .semTryp 0#7 2#7].all
       (fun i => issues (addressed []) i (gate .held true fun e => (e.wordAt (e.s64 2#7)).isSome)) &&
     issues (addressed []) (.jdec 47#7 2#7) (gate .load true fun e => (e.wordAt (e.s64 2#7)).isSome) &&
     issues (regs [(2, 0x20020#32)]) (.semV 2#7) (gate .held true fun e => (e.s64 2#7).toNat % 64 == 32)) = true := by decide
theorem wit_EngineCommands :
    (issues (addressed []) (.copy 0#7 2#7 4#7) (gate .held true fun e => decide (e.s.queued (srcOf 1 (ceOf e.core)) < 64)) &&
     issues (addressed []) (.copyNp 0#7 2#7 4#7) (gate .held true fun e => decide (e.s.queued (srcOf 1 (ceOf e.core)) < 64)) &&
     issues (addressed []) (.gpool 0#7 2#7 4#7) (gate .held true fun e => decide (e.s.queued (srcOf 2 (gpeOf e.core)) < 32)) &&
     issues (addressed []) (.coll 0#7 2#7 4#7) (gate .held true fun e => decide (e.s.queued (srcOf 3 (cleOf e.core)) < 16))) = true := by decide
/-- Two of the forms that complete; the others' states are those above (`wit_Fork`, `wit_Jtab_two`, `wit_Queues`, `wit_Blocks`). -/
theorem wit_FormsComplete :
    (issues (tabAs fun t => t.setTok 0 (token full [])) (.join 0#3) (fun e => (e.tab.tok 0).active && e.sp.mstk.length == (e.tab.tok 0).mstk.length &&
       e.sp.cstk.length == (e.tab.tok 0).cstk.length) &&
     issues (pool 1 188) (.vacqB 0#7) (fun e => decide (0 < (e.s32 0#7).toNat) && e.poolFits (e.s32 0#7).toNat) && !(Instr.coreCycles 1).hasWord) = true := by decide
theorem wit_AvenueWords :
    (issues (regs [(0, 1#32)]) (.falloc 8#7 0#7 0#7) (gate .load false fun e => avSizeOk (e.s64 0#7) && (avenueAsked e (e.s64 0#7) 0 8#7 0#7 false).isSome) &&
     issues (regs [(0, 0xFFFF0000#32), (1, 0xFFFF#32)]) (.falloc 8#7 0#7 0#7) (gate .load false fun e => avSizeOk (e.s64 0#7)) &&
     issues (regs [(0, 0xFFFF0001#32), (1, 0xFFFF#32)]) (.falloc 8#7 0#7 0#7) (gate .load false fun e => !avSizeOk (e.s64 0#7)) &&
     issues (regs []) (.falloc 8#7 0#7 0#7) (gate .load false fun e => !avSizeOk (e.s64 0#7)) &&
     issues base (.ffree 0#7) (gate .held true fun e => (e.s.releaseSet e.key 4).isEmpty && !e.s.barred e.key e.s.nextId && (avenueAsked e (e.s64 0#7) 1 0#7 0#7 false).isSome) &&
     issues base (.fquota 127#7 127#7) (gate .load false fun e => (avenueAsked e (e.s64 127#7) 3 127#7 0#7 false).isSome)) = true := by decide
/-- `base` with bytes in the data page and s2 at its start, and the queue table in it. -/
def paged (bs : List (Nat × List Byte)) : State :=
  let s := bs.foldl (fun (s : State) b => { s with mem := memPuts s.mem b.1 b.2 }) (regs [(2, 0x20000#32)])
  { s with lch := { s.lch with qtab := 0x21000#64 } }
theorem wit_Spawns :
    issues (paged []) (.spawn 2#7) (gate .load true fun e => (e.s64 2#7).toNat % 32 == 0 && !vaBad (e.s64 2#7).toNat && !isAvenueVa (e.s64 2#7).toNat &&
      (match e.recordAt .store (e.s64 2#7).toNat 32 true with
       | some (e', r) => (e'.s.spawnOk r e'.w.tenant e'.w.task).1 && !(e'.s.spawnOk r e'.w.tenant e'.w.task).2.lch.ringFull (contRecOf r).level &&
           ((e'.s.spawnOk r e'.w.tenant e'.w.task).2.releaseSet e'.key 3).isEmpty && !e'.s.barred e'.key (e'.s.spawnOk r e'.w.tenant e'.w.task).2.nextId
       | none => false)) = true := by decide
/-- A descriptor of an object of this core. -/
def combBytes : List Byte := natToBytes 8 0x10000 ++ natToBytes 8 0x20040 ++ natToBytes 4 64 ++ natToBytes 2 0xFFF ++ natToBytes 2 0 ++ [1#8, 1#8, 0#8, 0#8] ++ natToBytes 4 0
theorem wit_CombinerWords :
    (issues (split 0#32 [] []) (.callo 8#7 2#7 4#7) (fun e => e.exec == 0#32 && e.w.batch.isNone) &&
     issues (paged [(0x20000, combBytes)]) (.callo 8#7 2#7 4#7) (gate .held true fun e => e.w.batch.isNone && (e.s64 2#7).toNat % 64 == 0 &&
       (match e.recordAt .load (e.s64 2#7).toNat 32 with
        | some (e', r) => calloAllowed e' (combDescOf r) && decide ((e'.w.cnt.getD 14 []).length < 63)
        | none => false)) &&
     (base.env?.map fun e => e.w.batch.isNone) == some true &&
     issues inBatch (.creply 1#7) (fun e => e.w.batch == some batch && gate .load false (fun e => readableB e 1#7 (e.w.preds.getD 0 0#32)) e) &&
     issues inBatch (.cabort 0#7) (fun e => e.w.batch == some batch && gate .load false (fun _ => true) e) &&
     issues (wave fun w => { w with batch := some { batch with commit := [(0x20040, 5#8)] } }) .cdone (fun e => e.w.batch.isSome &&
       gate .load false (fun e => match e.s.commitXlat (e.s.waveAsker e.key e.cs e.w) 1 [(0x20040, 5#8)] [] with
        | (.ok ks, s) => ks.all fun k => ((commitFound e s ks).writeError k.1 1).isNone && !(commitFound e s ks).writeLateIn k.1 (srcCore e.core) &&
           !(commitFound e s ks).needsSpill k.1 [k.2]
        | _ => false) e)) = true := by decide
/-- A stream at a clause boundary at PC 0x10000, and what follows the header there. -/
def header (next : Word) : State :=
  let s := State.reset.withFetchWord 32 0xFE0001E0
  { s with cur := ⟨0, false, 0⟩, tape := [], mem := memPuts s.mem 0x10004 (natToBytes 4 next.toNat) }
def atHeader (s : State) (c : List Byte → Bool) : Bool :=
  match s.wave? 0 with
  | some v => match (v.stream false).tab.slot 0 with
    | some p => s.atBoundary v false && decide (p.pc.toNat + 8 ≤ v.codeHi.toNat) && v.flagsClear 0xFFF#12 &&
        (match s.fetchCode 0 false v 0 p.pc p.exec (p.pc.toNat + 4) 4 with | .inl (b, _) => c b | .inr _ => false)
    | none => false
  | none => false
theorem wit_ClauseHeaders :
    (atHeader (header 0#32) (fun b => (badWord 0 (wordsOf 1 b)).isNone) && atHeader (header 0xFE0001E0#32) (fun b => badWord 0 (wordsOf 1 b) == some 0)) = true := by
  decide
/-- `base` with records in the first granule of core 0's slice, which s2 and s3 address, and s0 a descriptor. -/
def plazaRec : List Byte := natToBytes 8 0xFF000000000400 ++ natToBytes 8 0xFF000000000800 ++ natToBytes 4 0 ++ natToBytes 4 0 ++ natToBytes 4 1
def drainRec : List Byte := natToBytes 8 0xFF000000000400 ++ natToBytes 4 0 ++ [1#8]
def plaza (desc : Word) (r : List Byte) : State :=
  let s := regs [(0, desc), (2, 0#32), (3, 0xFF0000#32)]
  { s with granules := tabPut s.granules 0 0, mem := memPuts s.mem (plazaKey 0 0) r }
def freeEngine (e : Env) : Bool := e.mayClaim && decide ((e.s.engine e.core).queue.length < 8)
def loopOk (fmt : Nat) (e : Env) : Bool :=
  freeEngine e && descOk (e.s32 0#7) (some (fmt == 4)) &&
    (e.mxRecordAt (e.s64 2#7).toNat
      (fun r => (mloopOf e fmt 0 0#7 127#7 r).fieldsOk && decide ((mloopOf e fmt 0 0#7 127#7 r).stop ≤ (mloopOf e fmt 0 0#7 127#7 r).steps))
      (fun r => (mloopOf e fmt 0 0#7 127#7 r).ranges e.core)).isSome
theorem wit_MatrixLoops :
    (minorOf 0#1 0#1 0#1 0#1 == 0 && issues (plaza 0#32 plazaRec) (.mloopBf16 0#7 2#7 127#7 0#1 0#1 0#1) (loopOk 0) &&
     issues (plaza 0x80000000#32 plazaRec) (.mloopI8 0#7 2#7 127#7 0#1 0#1 0#1) (loopOk 4) &&
     issues (plaza 0#32 plazaRec) (.mloopCb4 0#7 2#7 127#7 0#1 0#1 0#1 0#1) (loopOk 5) &&
     issues (plaza 0x00C00000#32 plazaRec) (.mloopCb4 0#7 2#7 127#7 0#1 0#1 0#1 0#1) (fun e => e.mayClaim && !descOk (e.s32 0#7) (some false))) = true := by decide
theorem wit_MatrixWords :
    (issues (plaza 0#32 []) (.mzero 0#7) (fun e => freeEngine e && descOk (e.s32 0#7) none) &&
     issues (plaza 0x08000000#32 []) (.mzero 0#7) (fun e => e.mayClaim && !descOk (e.s32 0#7) none) &&
     issues (paged []) (.mcb 7#3 2#7) (gate .load false fun e => freeEngine e && (e.s64 2#7).toNat % 32 == 0 &&
       (match e.s.resolve (e.s.waveAsker e.key e.cs e.w) .load 99 (e.s64 2#7).toNat with | (.ok (.mem k) _ false, _) => k == 0x20000 | _ => false)) &&
     issues base (.mstat 63#7 6#3 1#1) freeEngine &&
     issues (plaza 0#32 drainRec) (.mdrainStoreF32 0#7 2#7 1#1) (gate .load false fun e => freeEngine e && descOk (e.s32 0#7) none &&
       (e.mxRecordAt (e.s64 2#7).toNat (drainOk 0) fun _ => []).isSome) &&
     issues (plaza 0#32 drainRec) (.mdrainAddOrdered 0#7 2#7 0#1) (gate .load false fun e => freeEngine e &&
       (e.mxRecordAt (e.s64 2#7).toNat (drainOk 4) fun _ => []).isSome) &&
     issues (paged []) (.msave 2#7) (gate .load false fun e => freeEngine e && (e.s64 2#7).toNat % 1024 == 0) &&
     issues (paged []) (.mrestore 2#7) (gate .load false fun e => freeEngine e && (e.s64 2#7).toNat % 1024 == 0)) = true := by decide

/-! ## Witnesses: states that meet the conditions of the statements about steps without a word -/

theorem wit_StreamEvents :
    (((base.setCore 0 { base.core 0 with vacq := [⟨0, false, 180⟩] }).core 0).vacq = [⟨0, false, 180⟩] ∧
      180 ≤ ((base.setCore 0 { base.core 0 with vacq := [⟨0, false, 180⟩] }).core 0).freeBlocks.length) ∧
    (((wave fun w => { w with late := [⟨1, false, .scalar false 3, 1#32, Lanes.zero, 0#32, 0#32, 15, false, false, 0#32⟩] }).wave? 0).bind
      fun w => w.late.find? fun x => x.id == 1 && !x.engine && !x.done).isSome = true ∧
    (((wave fun w => { w with deferred := [⟨1, 0x11, 0#64, 0#64, 1#32, 0, false, 0⟩], a := { w.a with clause := none } }).wave? 0).map fun w =>
      !w.deferred.isEmpty && w.deferredReady && w.batch.isNone && (tabGet? base.aborts w.task).isNone) = some true ∧
    (let s := { (wave fun w => { w with a := { w.a with readySince := some 0#64, clause := none } }) with cycle := 256 }
     ((s.wave? 0).map fun w => (w.stream false).readySince == some 0#64 && !(w.stream false).aged && decide (256 ≤ s.cycle) && s.atBoundary w false &&
       (s.pickSplit 0 false w).isSome) = some true) := by decide
theorem wit_StreamEvents_sleep : ∃ w x, (wave fun w => { w with a := { w.a with wait := some ⟨.sleep 0#64, 0#64⟩ } }).wave? 0 = some w ∧
    ∀ f : WaitFor → Bool, f (.sleep 0#64) = true → w.whichWait false f = some x :=
  ⟨_, false, rfl, fun f h => by simp [Wave.whichWait, Wave.stream, h]⟩

/-- Accesses of wave 0 to the data page. -/
def access (id : Nat) (kind : AccessKind) (st : AccessSt) : Access :=
  { id := id, op := id, wave := 0, core := 0, tenant := 0, lane := 0, traps := 1#32, kind := kind, addr := 0x20000#64, place := .mem 0x20000, pageKind := 0,
    posted := false, scope := 1, pc := pc0, slot := 0, causal := 0#64, disc := false, st := st, after := [], overlay := [], page := (0, 2), sent := none }
def flying (a : Access) : State := { base with flight := [a] }
theorem wit_MemoryEvents :
    ((flying (access 1 (.load 4 false []) .waiting)).flight.find? fun a => a.id == 1) = some (access 1 (.load 4 false []) .waiting) ∧
    ((flying (access 1 (.atomic 0 1#64 0#32 []) .waiting)).flight.find? fun a => a.id == 1) = some (access 1 (.atomic 0 1#64 0#32 []) .waiting) ∧
    ((flying (access 1 (.load 4 false [.scalar false 3]) (.performed [1#8, 0#8, 0#8, 0#8]))).wave? 0).isSome = true ∧
    (((((flying (access 1 (.load 4 false []) (.failed 0x11))).dropAccess 1).deferTrap (access 1 (.load 4 false []) (.failed 0x11)) 0x11).wave? 0).map fun w =>
      w.batch.isNone) = some true ∧
    (base.writeLateIn 0x20000 (srcCore 0) = false ∧ base.barred 0 1 = false ∧
      (flying (access 1 (.atomic 0 1#64 0#32 []) .waiting)).mates (access 1 (.atomic 0 1#64 0#32 []) .waiting) = [access 1 (.atomic 0 1#64 0#32 []) .waiting]) ∧
    (let s := { flying (access 1 (.store [1#8] false) .waiting) with spillWait := [⟨1, 0x20000, 0, 0#64, 0#64⟩] }
     s.spillWait = [⟨1, 0x20000, 0, 0#64, 0#64⟩] ∧ mcOf 0x20000 = 8 ∧ mcOf 0x20000 ≠ 1) := by decide
theorem wit_MemoryEvents_settled : base.settled [] := fun _ h => by cases h

def homeOp (cls minor : Nat) : HomeOp := ⟨1, 0, cls, minor, 0x20000, 0x20000#64, 0#32, 5#7, 0#64, 1#32, none, none⟩
def homing (h : HomeOp) : State := { base with homeOps := [h] }
/-- The A-stream waits for a promise at the barrier word of the data page, whose ETICK has passed. -/
def promised : State :=
  let s := wave fun w => { w with a := { w.a with wait := some ⟨.barrier 0x20000 0#32 true 0x20000#64, 0#64⟩ } }
  { s with gtc := 6#64, lastGtc := 5#64, mem := memPuts s.mem 0x20018 [4#8], waiters := [⟨0x20000, 0, 0#32⟩] }
theorem wit_HomeEvents :
    ((homing (homeOp 0 3)).homeOp? 1 = some (homeOp 0 3) ∧ (homing (homeOp 1 2)).homeOp? 1 = some (homeOp 1 2) ∧
      (homing (homeOp 0 3)).behind 0 (.mem 0x20000) 64 = false ∧ (homing (homeOp 1 2)).behind 0 (.mem 0x20000) 64 = false) ∧
    ((homing (homeOp 2 1)).homeOp? 1 = some (homeOp 2 1) ∧ (homing (homeOp 2 1)).releaseSet 0 3 = [] ∧
      (homing (homeOp 2 1)).behind 0 (.mem 0x20000) 64 = false ∧ ((homing (homeOp 2 1)).findErrors 0x20000 64 0 0#64).readError 0x20000 64 = none ∧
      (homing (homeOp 2 1)).barred 0 1 = false ∧ (homing (homeOp 2 1)).writeLateIn 0x20000 (srcCore 0) = false ∧ (homing (homeOp 2 1)).tenantOf 0 = 0 ∧
      (((homing (homeOp 2 1)).findErrors 0x20000 64 0 0#64).wave? 0).isSome = true) ∧
    ((homing (homeOp 1 1)).homeOp? 1 = some (homeOp 1 1) ∧ ((homing (homeOp 1 1)).waiters.any fun w => w.key == 0x20000 && w.wave == 0) = false) ∧
    (homing { homeOp 0 0 with reply := some (7#32, 0) }).homeOp? 1 = some { homeOp 0 0 with reply := some (7#32, 0) } ∧
    (({ base with flips := [⟨0, 0x20000, 1#32⟩] } : State).flips.find? fun f => f.core == 0 && f.key == 0x20000) = some ⟨0, 0x20000, 1#32⟩ ∧
    (promised.rd (0x20000 + 24) 8 = 4 ∧ 4 ≤ promised.lastGtc.toNat ∧ phasePassed (BitVec.ofNat 32 (promised.rd (0x20000 + 8) 4)) 0#32 = false ∧ (promised.envAt 0 false).isSome = true ∧
      (promised.wave? 0).isSome = true) := by decide
/-! A copy's record at the page's start, its tensors at 0x20040 and 0x20080, its barrier word at 0x200C0. -/
def tensor (va : Nat) (fmt rank : Nat) (n0 n1 : Nat) (stride : Nat) : List Byte :=
  natToBytes 8 va ++ [BitVec.ofNat 8 fmt, BitVec.ofNat 8 rank, 0#8, 0#8] ++ natToBytes 4 n0 ++ natToBytes 4 n1 ++ natToBytes 4 1 ++ natToBytes 4 1 ++ natToBytes 4 0 ++
    natToBytes 8 stride ++ natToBytes 16 0 ++ natToBytes 2 n0 ++ natToBytes 2 n1 ++ natToBytes 2 1 ++ natToBytes 2 1
def copyRec (scope : Nat) : List Byte := natToBytes 8 0x20040 ++ natToBytes 8 0x20080 ++ natToBytes 32 0 ++ [BitVec.ofNat 8 scope]
def poolRec : List Byte := natToBytes 8 0x20040 ++ natToBytes 24 0 ++ natToBytes 8 0x20080 ++ natToBytes 4 1 ++ [0#8, 1#8]
def collRec : List Byte := [2#8, 0#8, 3#8, 3#8] ++ natToBytes 12 0 ++ natToBytes 8 0x20040 ++ natToBytes 8 0x20080 ++ natToBytes 4 1
def cmd (kind : Nat) : Cmd :=
  { kind := kind, engine := 0, wave := 0, task := 65536, block := 0, tenant := 0, causal := 0#64, record := 0x20000#64, bar := 0x200C0#64, dest := 8#7, pc := pc0, slot := 0,
    st := .issued, scope := 0, evt := false, after := [], src := none, dst := none, sorg := [], dorg := [], extra := [], barKey := 0, counted := 0, left := 0,
    pieces := [], skipped := 0, estimate := 0#64, status := 0, order := 0, redirect := none }
/-- A command waits for its acceptance, with these records. -/
def commanded (c : Cmd) (r a b : List Byte) : State :=
  let s := paged [(0x20000, r), (0x20040, a), (0x20080, b)]
  let gs : Tab Group := [(0, ⟨0, 0, 0, true, false, [(0xFFF, 0)], 1, 0⟩)]
  { s with cmds := [(1, c)], grpBase := 1#64, groups := gs, tteTlb := [(0, [⟨dataLeaf, 3, 0, 0, 2, 0⟩])] }
def accepts (s : State) (kind : Nat) (check : State → Nat → Cmd → Wave → Nat) : Bool :=
  match s.cmd? 1, s.wave? 0 with
  | some c, some w => c.st == .issued && c.kind == kind && !s.heldFor (.command 1) && check s 1 c w == 1
  | _, _ => false
theorem wit_CommandEvents_accept :
    (accepts (commanded (cmd 0) (copyRec 1) (tensor 0x20100 2 1 4 1 0) (tensor 0x20200 2 1 4 1 0)) 0
       (fun s i c w => match s.checkCopy i c w with | (.inl _, _) => 1 | _ => 0) &&
     accepts (commanded (cmd 1) (copyRec 6) (tensor 0x20100 2 1 4 1 0) (tensor 0x20200 2 1 4 1 0)) 1
       (fun s i c w => match s.checkCopy i c w with | (.inr (.trap _), _) => 1 | _ => 0) &&
     accepts (commanded (cmd 2) poolRec (tensor 0x20100 4 2 2 4 8) (tensor 0x20200 4 2 2 1 8)) 2
       (fun s i c w => match s.checkPool i c w with | (.inl _, _) => 1 | _ => 0) &&
     accepts (commanded (cmd 3) collRec (tensor 0x20100 2 1 1 1 0) (tensor 0x20200 2 1 1 1 0)) 3
       (fun s i c w => match s.checkColl i c w with | (.inl _, _) => 1 | _ => 0)) = true := by decide
/-- A copy of one 32-bit element that runs. -/
def running : Cmd :=
  { cmd 0 with st := .running, scope := 1, src := some (tensorOf (tensor 0x20100 2 1 1 1 0)), dst := some (tensorOf (tensor 0x20200 2 1 1 1 0)),
               sorg := [0, 0, 0, 0], dorg := [0, 0, 0, 0], barKey := 0x200C0, counted := 4, left := 4, pieces := [0] }
def copying : State :=
  let s := commanded running (copyRec 1) (tensor 0x20100 2 1 1 1 0) (tensor 0x20200 2 1 1 1 0)
  { s with gtc := 5#64, mem := memPuts s.mem 0x200D8 [4#8] }
def coll1 : Coll :=
  { group := 0, version := 0, seq := 0, rank := 0, ranks := [(0xFFF, 0), (0xFFF, 1)], key := [2, 0, 3, 0, 1], cfault := false, armed := 0#64, deadline := 5,
    reported := false, got := [], unacked := [3] }
def collMsg (kind : Nat) (key : List Nat) : CollMsg :=
  { id := 9, kind := kind, cle := 0, group := 0, version := 0, seq := 0, rank := 1, key := key, off := 0, piece := 3, code := 0x40, tenant := 0, causal := 0#64, data := [] }
/-- A live instance of a collective, with a message for it. -/
def collecting (m : CollMsg) : State :=
  { base with cmds := [(1, { cmd 3 with st := .running, pieces := [0] })], colls := [(1, coll1)], collIn := [m], gtc := 5#64, groups := [(0, ⟨0, 0, 0, true, false, [], 0, 0⟩)] }
theorem wit_CommandEvents :
    (copying.cmd? 1 = some running ∧ running.st = .running ∧ running.left ≠ 0 ∧ running.kind ≤ 2 ∧ copying.heldFor (.line 1 promisePiece) = false ∧
      (match copying.barReady 1 promisePiece running with | (.ok key, s) => s.rd (key + 24) 8 == 4 && decide (4 < s.gtc.toNat) | _ => false) = true ∧
      (match ({ copying with gtc := 3#64 } : State).barReady 1 promisePiece running with
       | (.ok key, s) => s.rd (key + 24) 8 == 4 && decide (s.gtc.toNat < 4) | _ => false) = true) ∧
    ((collecting (collMsg 1 coll1.key)).liveColl 0 0 0 = some (1, coll1) ∧ ((collecting (collMsg 1 coll1.key)).cmd? 1).isSome = true) ∧
    ((collecting (collMsg 1 coll1.key)).collMsg? 9 fun k => decide (k ≤ 1)) = some (collMsg 1 coll1.key) ∧
    ((collecting (collMsg 1 [])).collMsg? 9 fun k => decide (k ≤ 1)) = some (collMsg 1 []) ∧
    ((collecting (collMsg 2 [])).collMsg? 9 fun k => k == 2) = some (collMsg 2 []) ∧
    (((collecting (collMsg 3 [])).collMsg? 9 fun k => decide (k ≥ 3)) = some (collMsg 3 []) ∧
      ((collecting (collMsg 3 [])).dropMsg 9).liveColl 0 0 0 = some (1, coll1) ∧ ((collecting (collMsg 3 [])).groupOf 0).version = 0 ∧ (collecting (collMsg 3 [])).collLate 0 0 (endRow 0x40) = false) ∧
    (collecting (collMsg 1 [])).collLate 0 0 1 = false ∧
    (base.readGroup (7 % 65536)).1.version = (base.groupOf (7 % 65536)).version := by decide
/-- `State.lineRuns`, decided. -/
def lineReady (s : State) (k piece : Nat) (c : Cmd) : Bool :=
  s.cmd? k == some c && c.fin.isNone && !c.owed.contains piece && c.st == .running && c.pieces.contains piece && c.after.isEmpty && !s.heldFor (.line k piece) &&
    !(s.fab.txns.any fun t => t.what == .line k piece) && !s.tteFull (quadOf c.core) &&
    (match s.pieceLine k piece c with | some a => !s.lineBehind k c a | none => true)
theorem lineReady_sound {s : State} {k piece : Nat} {c : Cmd} (h : lineReady s k piece c = true) : s.lineRuns k piece c := by
  simp only [lineReady, Bool.and_eq_true, beq_iff_eq, Option.isNone_iff_eq_none, Bool.not_eq_true', List.isEmpty_iff] at h
  obtain ⟨⟨⟨⟨⟨⟨⟨⟨⟨h1, h2⟩, ho⟩, h3⟩, h4⟩, h5⟩, h6⟩, h7⟩, h8⟩, h9⟩ := h
  refine ⟨h1, h2, ho, h3, h4, (by rw [h5]; intro _ h; cases h), h6, h7, h8, fun a ha => ?_⟩
  simpa [ha] using h9
/-- A pool of one bag and one element that runs: indices at 0x20300, offsets at 0x20340. -/
def pooling : Cmd :=
  { cmd 2 with st := .running, scope := 1, src := some (tensorOf (tensor 0x20100 4 2 1 4 8)), dst := some (tensorOf (tensor 0x20200 4 2 1 1 8)), barKey := 0x200C0,
               counted := 4, left := 4, pieces := [0], extra := [0x20300, 0x20340, 0, 1, 0] }
def pools : State := commanded pooling poolRec [] []
theorem wit_CommandEvents_line :
    (lineReady pools 1 0 pooling && (tabGet? pools.colls 1).isNone &&
      (match ((pooling.aheadOf 0).foldl (fun s vas => s.walkAhead (s.cmdAsker 1 pooling) vas) pools).lineData 1 0 pooling (pooling.lines.getD 0 0) with
       | (.ok x, s) => x.1.length == 1 && (match s.lineWrite 1 0 pooling x.1 with | (.ok true, _) => true | _ => false)
       | _ => false)) = true := by decide +kernel
/-- A collective's command with a line to send and one to receive. -/
def collCmd : Cmd := { cmd 3 with st := .running, pieces := [0, 1] }
def sending : State := { base with cmds := [(1, collCmd)], colls := [(1, coll1)], groups := [(0, ⟨0, 0, 0, true, false, [], 0, 0⟩)] }
theorem wit_CommandEvents_parts : (lineReady sending 1 0 collCmd && lineReady sending 1 1 collCmd && tabGet? sending.colls 1 == some coll1) = true := by decide +kernel
/-! The matrix engine of core 0. -/
def engineEntry (op : EngineOp) (started : Bool) (places : List (Place × Nat × Bool)) : EngineEntry :=
  { id := 3, wave := 0, block := 0, task := 65536, tenant := 0, causal := 0#64, cs := false, tracks := [], pc := pc0, slot := 0, lanes := 1#32, op := op, started := started,
    phase := 0, redirect := none, places := places, after := [], bad := false, held := false }
def engined (claim : List Nat) (q : List EngineEntry) (fs : List Access) : State :=
  { base.setEngine 0 { Engine.reset with claim := claim, queue := q } with flight := fs }
def ticketRec : List Byte := natToBytes 12 0 ++ [1#8, 0#8, 0#8, 0#8] ++ natToBytes 8 0x20000 ++ natToBytes 4 5
def drain : EngineEntry := engineEntry (.drain 4 false 0#32 ticketRec) true [(.mem 0x20000, 0, false)]
def loops : EngineEntry := engineEntry (.loop ⟨0, 0, 0#32, plazaRec, 0, 1⟩ none) true []
theorem wit_MatrixEvents :
    (((engined [0] [] []).engine 0).holder = none ∧ ((engined [0] [] []).engine 0).claim = [0]) ∧
    (((engined [] [engineEntry (.zero 0#32) false []] []).engine 0).queue = [engineEntry (.zero 0#32) false []] ∧
      (savePoint ((engined [] [engineEntry (.zero 0#32) false []] []).engine 0).queue).isNone = true) ∧
    (((engined [] [drain] [{ access 1 (.load 8 false []) (.performed (natToBytes 8 5)) with wave := engineWave 3 }]).engineFlight drain).length = 1 ∧
      bytesToNat (natToBytes 8 5) = drainTval ticketRec) ∧
    ((engined [] [drain] []).engineFlight drain = [] ∧ drain.places.getLast? = some (.mem 0x20000, 0, false)) ∧
    ((engined [] [loops] []).mxPartners 0 = [0] ∧ ((engined [] [loops] []).engine 0).queue = [loops]) := by decide
theorem wit_MatrixEvents_start :
    (engined [] [engineEntry (.zero 0#32) false []] []).headFound 0 = (false, engined [] [engineEntry (.zero 0#32) false []] []) ∧
      (engineEntry (.zero 0#32) false []).started = false ∧ (engineEntry (.zero 0#32) false []).held = false := ⟨rfl, rfl, rfl⟩
/-- A poisoned entry at the head. -/
theorem wit_MatrixEvents_poisoned :
    ((engined [] [{ engineEntry (.zero 0#32) false [] with bad := true }] []).engine 0).queue = [{ engineEntry (.zero 0#32) false [] with bad := true }] ∧
      ((engined [] [{ engineEntry (.zero 0#32) false [] with bad := true }] []).headFound 0).1 = true := by decide

def gathering : State := { base with waitRegs := { WaitRegs.reset with gather := some ⟨0, 6, [0xFFF], [(5, 1, 0#64)], [], [], 1, [], [], false⟩ }, gtc := 1250000#64 }
def probe (reply : Option (List Byte)) : Probe := ⟨1, 0, (0xFFF, 1), 0, 0, 0#64, 0, 0, 0, 0, 1, false, 0#64, 0#64, reply⟩
def probing (reply : Option (List Byte)) : State := { base with waitRegs := { WaitRegs.reset with probes := [probe reply] }, gtc := 1250000#64 }
theorem wit_WaitEvents :
    (base.waitRegs.gather = none ∧ 6 ≤ (0x14#64 : DWord).toNat % 32 ∧ (0x14#64 : DWord).toNat % 32 ≤ 20) ∧
    (({ base with dpr := 4#32 } : State).dpr.getLsbD 2 = true ∧ (0xA000000000020100#64 : DWord).toNat / 2 ^ 59 = 20 ∧ (0xA000000000020100#64 : DWord).toNat % 512 = 256) ∧
    (gathering.waitRegs.gather.map fun g => g.waits.any fun w => w.1 == 5 && decide (w.2.2.toNat + 1250000 ≤ gathering.gtc.toNat)) = some true ∧
    ((collecting (collMsg 1 [])).cmd? 1).isSome = true ∧ tabGet? (collecting (collMsg 1 [])).colls 1 = some coll1 ∧ coll1.deadline ≤ ({ collecting (collMsg 1 []) with lastGtc := 5#64 } : State).lastGtc.toNat ∧
    gathering.waitRegs.gather.isSome = true ∧ coll1.reported = false ∧ coll1.cfault = false ∧
    (coll1.ranks.getD ((coll1.awaited { cmd 3 with st := .running, pieces := [0] }).headD coll1.rank) ((collecting (collMsg 1 [])).device, 0)).1 = (collecting (collMsg 1 [])).device ∧
    (probing (some [])).waitRegs.probes.find? (fun p => p.id == 1) = some (probe (some [])) ∧
    ((probing none).waitRegs.probes.find? (fun p => p.id == 1) = some (probe none) ∧ (probe none).expiry.toNat + 1250000 = (probing none).gtc.toNat) := by decide

def calling (r : CallReq) : State :=
  { base.setCore 0 { base.core 0 with calls := [r] } with callSends := [⟨1, 0xFFF, 0, 1, 0, [], false, [r]⟩], granules := [(0, 0)] }
def plazaReq : CallReq := { request with handle := 0xFF000000000000#64 }
def poisoned (s : State) : State := { s with mem := memPuts s.mem (plazaKey 0 0 + 26) [2#8] }
def answered : State :=
  let s := wave fun w => { w with callo := [⟨1, 0x20000#64, 0xFFF, 0, 8, 9, 1#32, pc0, 0, false⟩] }
  { s with callReplies := [⟨1, 0xFFF, 0, 0, 0, 7#32, 0#32, 1, false⟩] }
theorem wit_CombinerEvents :
    (((calling plazaReq).callSends.find? fun x => x.op == 1 && !x.arrived) = some ⟨1, 0xFFF, 0, 1, 0, [], false, [plazaReq]⟩ ∧ (calling plazaReq).device = 0xFFF ∧
      (calling plazaReq).callRoom 0 1 = true ∧ (calling plazaReq).barred 0 1 = false ∧ (calling plazaReq).tooLate 1 0 (0xFFF * 65536 + srcCore 0) = false ∧
      ((calling plazaReq).callSends.any fun y => y.arrived && y.home == 0 && y.dev == 0xFFF) = false) ∧
    ([46, 47].find? (fun i => ((calling plazaReq).wave? (48 * 0 + i)).isNone) = some 46 ∧
      (((calling plazaReq).core 0).calls.find? fun r => (calling plazaReq).callDue r && !(calling plazaReq).objectBusy 0 r.object) = some plazaReq ∧
      vaBad plazaReq.handle.toNat = false ∧ isAvenueVa plazaReq.handle.toNat = false ∧
      (match (calling plazaReq).walkResolve (unitAsker 0) .load plazaReq.handle.toNat with
       | (.ok (.mem key) _ false, s) => (s.readError key 64).isNone && !(combDescOf (memGets s.mem key 64)).poisoned
       | _ => false) = true) ∧
    (match (poisoned (calling plazaReq)).walkResolve (unitAsker 0) .load plazaReq.handle.toNat with
      | (.ok (.mem key) _ false, s) => (s.readError key 64).isNone && (combDescOf (memGets s.mem key 64)).poisoned
      | _ => false) = true ∧
    (answered.callReplies.find? (fun r => r.op == 1) = some ⟨1, 0xFFF, 0, 0, 0, 7#32, 0#32, 1, false⟩ ∧
      answered.loadsLandedTo 0 1 = true ∧ ((answered.wave? 0).map fun w => !w.ended && (w.callo.any fun c => c.op == 1 && laneIn c.lanes 0)) = some true) := by decide
/-! The launcher: task 7, whose block 1 runs as wave 0 of core 0, and a record. -/
def contRec (launcher : Bool) : ContRec := ⟨0#64, 0#64, 0#64, 7, 0, launcher, 1, 0⟩
def ready (saved : List Nat) : Ready := { id := 5, entry := contRec true, since := 0#64, lifted := 0, passed := some 0#64, reserved := [], saved := saved, front := false, addr := 0 }
def block (waves : List Nat) : Block := { task := 7, index := 1, core := 0, waves := waves, granules := [], entry := contRec false, started := 0#64, gang := [3], flushed := 0, epoch0 := 0, order := 0 }
def launching (t : Task) (rs : List Ready) (bs : Tab Block) (saved : Tab Saved) : State :=
  let s := withTask (paged [(0x21000, natToBytes 8 0x22000 ++ [8#8, 1#8, 0#8, 0#8, 1#8]), (0x21018, natToBytes 4 1)]) 7 t
  { s with gtc := 65536#64, lch := { s.lch with ready := rs, blocks := bs, saved := saved, victims := bs.map fun b => ⟨b.1, 9, false⟩, save := 16#64 } }
theorem ordered (s : State) (r : Ready) (h : s.lch.ready = [r]) : s.dispatchOrder = [r] := by
  unfold State.dispatchOrder; rw [h]; exact List.mergeSort_singleton _
def savedBlock : Saved := ⟨block [0], [(0, Wave.empty)], [], none, 0, 1, [], []⟩
/-- A deterministic task that may run on core 0 alone, where the block's wave holds register blocks that its own block needs. -/
def contended (commit : Bool) : State :=
  let t := { aTask with det := true, commit := commit, cores := [0], launch := { aTask.launch with lcores := 1 }, hdr := { aTask.hdr with blocks := 188 } }
  let s := withTask (launching aTask [ready []] [(3, block [0])] []) 7 t
  { withTask s 8 { aTask with commit := commit } with lch := { s.lch with tasks := [(7, t), (8, { aTask with commit := commit })], victims := [], blocks := [(3, { block [0] with task := 8 })] } }
theorem wit_LauncherEvents :
    ({ base with power := { base.power with ready := true } } : State).power.ready = true ∧
    (({ base with lch := { base.lch with waiting := [ready []] } } : State).lch.waiting.find? fun r => !base.lch.ringFull r.entry.level) = some (ready []) ∧
    (((launching aTask [ready []] [] []).queueEnt 0).map fun q => decide (q.1.lift = 1) && decide (1024 ≤ (q.2.gtc - 0#64).toNat)) = some true ∧
    ((launching aTask [ready []] [] []).task? 7 = some aTask ∧ (launching aTask [ready []] [] []).waitTicks = 65536) := by decide
theorem wit_LauncherEvents_preempt : ∀ c, ((contended c).mayPreempt (ready []) = true ∧ (contended c).fitsWithout (ready []) [3] = true ∧
    ((contended c).task? 8).map Task.commit = some c) := by decide +kernel
theorem wit_LauncherEvents_victim : ∀ c, (contended c).victimOrder (ready []) = [[3]] := by
  intro c; cases c <;> simp [State.victimOrder, contended, withTask, block, ready, contRec, Block.level, Ready.level, tabGet?]
theorem wit_LauncherEvents_save :
    let s := (launching aTask [] [(3, block [0])] []).updWave 0 fun w => { w with a := { w.a with clause := none }, block := 3, task := 7 }
    s.saveReady [(3, block [0])] = true ∧ s.mustPass 3 (block [0]) = false ∧ s.savePages 3 (block [0]) ≤ s.saveFree := by decide
/-- A victim of a deterministic task saves once its flush points have passed. -/
theorem wit_LauncherEvents_pass :
    let s := (launching { aTask with det := true } [] [(3, block [0])] []).updWave 0 fun w => { w with a := { w.a with clause := none }, block := 3, task := 7 }
    s.saveReady [(3, block [0])] false = true ∧ s.mustPass 3 (block [0]) = true := by decide
theorem wit_LauncherEvents_restore :
    let s := launching aTask [ready [2]] [] [(2, savedBlock)]
    (s.dispatchOrder.find? fun r => (s.fit r 0).1 != .no) = some (ready [2]) ∧ (s.fit (ready [2]) 0).1 = .restore ∧
      s.savedCores (ready [2]) 0 = [(0, savedBlock)] := by
  intro s; rw [ordered s (ready [2]) rfl]; decide
theorem wit_LauncherEvents_leave :
    (let b := block [0]
     let s := (launching { aTask with spawned := 1 } [] [(3, b)] []).updWave 0 fun w => { w with ended := true, blocks := [] }
     s.blockWaves b ≠ [] ∧ ((s.blockWaves b).all fun w => w.ended && w.blocks.isEmpty) = true ∧ (b.waves.any s.waveBusy) = false ∧ (s.slotsFree 3 b).blockEntries b 3 = [] ∧
       ((s.slotsFree 3 b).releaseBlock 3 { b with waves := [] }).task? 7 = some { aTask with spawned := 1 } ∧
       (((s.slotsFree 3 b).releaseBlock 3 { b with waves := [] }).blockGone b { aTask with spawned := 1 } 0#64).task? 7 = some aTask) ∧
    -- an entry of the block stays in the engine's queue
    (let b := block [0]
     let s := (launching { aTask with spawned := 1 } [] [(3, b)] []).updWave 0 fun w => { w with ended := true, blocks := [] }
     let s := s.setEngine 0 { Engine.reset with queue := [{ engineEntry (.zero 0#32) false [] with block := 3 }] }
     (s.slotsFree 3 b).blockEntries b 3 ≠ [] ∧ (s.slotsFree 3 b).task? 7 = some { aTask with spawned := 1 }) ∧
    (let b := block []
     let s := launching aTask [] [(3, b)] []
     tabGet? s.lch.blocks 3 = some b ∧ (s.dropUnpairable b 3).blockEntries b 3 = []) := by decide
/-- `State.taskOver`, decided. -/
def taskDone (s : State) (t : Task) : Bool :=
  s.task? 7 == some t && !t.retired && !t.dead && (tabGet? s.aborts 7).isNone && decide (t.nblocks ≤ t.doneBlocks.length) && t.spawned == 0 &&
    !(s.lch.blocks.any fun b => b.2.task == 7) && !(s.cmds.any fun c => c.2.task == 7) && (s.lch.flushArea.filter fun x => x.2.task == 7).isEmpty &&
    !(s.flight.any fun a => a.wave == detWave 7)
def detTask : Task := { aTask with det := true, launch := { aTask.launch with lcores := 2 }, epochs := [1], lastRun := [1] }
theorem wit_LauncherEvents_tasks :
    (detTask.det = true ∧ detTask.passed detTask.applied = true ∧ base.detHeldIn 7 detTask.applied = false) ∧
    (taskDone (launching aTask [] [] []) aTask = true ∧ aTask.pubWaits = none ∧ (launching aTask [] [] []).publishUses 7 = []) ∧
    (let s := { launching aTask [] [] [] with flight := [{ access 1 (.store [1#8] false) .waiting with place := .mem 0x50000 }] }
     let s := { s with lch := { s.lch with shadows := [⟨7, 0, 2, 5, 6⟩] } }
     taskDone s aTask = true ∧ s.publishUses 7 = [1]) ∧
    (let t := { aTask with pubWaits := some [] }
     taskDone (launching t [] [] []) t = true) ∧
    (let s := { (launching aTask [] [] []) with aborts := [(7, 5)] }
     tabGet? s.aborts 7 = some 5 ∧ (s.lch.blocks.filter fun b => b.2.task == 7) = [] ∧ ((s.abortHeld 7 5).cmds.any fun c => c.2.task == 7) = false) := by decide
/-! Translation tables in frame 2: every upper level in its entry 0, the leaves of pages 2, 3 and 4 in entries 2 to 4. -/
def lazyLeaf : DWord := 0x30000006#64
def tabled (bs : List (Nat × List Byte)) : State :=
  { paged ([(0x20000, natToBytes 8 0x20000001), (0x20010, natToBytes 8 dataLeaf.toNat), (0x20018, natToBytes 8 lazyLeaf.toNat), (0x20020, natToBytes 8 0x40000007),
            (0x22000, natToBytes 8 0x20000001)] ++ bs) with trnRoot := 0x22000#64 }
def silentFault (va flags : Nat) (e : DWord := lazyLeaf) : FaultRec := ⟨BitVec.ofNat 64 va, 0#64, 0, 0, cTranslation, 0, flags, 7, 0, e, 0⟩
def aWalk (id : Nat) : Walk := { id := id, core := 0, tte := false, tenant := 0, tag := 0, vpn := 2, askers := [] }
/-- The duty has set MOVING in this entry of page 2, as far as it knows. -/
def moving (e : DWord) : State := { tabled [] with dpr := 2#32, lch := { (tabled []).lch with moves := [(0, 2, e)] } }
/-- A walk behind `n` others of its die. -/
def walking (n : Nat) : State := { tabled [] with walks := List.replicate n (aWalk 2) ++ [aWalk 1] }
theorem wit_TranslationEvents_walks :
    ((walking 1023).walkRuns (aWalk 1) && !(walking 1024).walkRuns (aWalk 1) && (walking 1024).walks.find? (fun w => w.id == 1) == some (aWalk 1)) = true := by
  decide +kernel
theorem wit_TranslationEvents_held :
    let s := { tabled [] with walks := [{ aWalk 1 with held := some 4 }] }
    s.walks.find? (fun w => w.id == 1) = some { aWalk 1 with held := some 4 } ∧ s.walkRuns { aWalk 1 with held := some 4 } = true := by decide
theorem wit_TranslationEvents :
    ((walking 0).walks.find? (fun w => w.id == 1) = some (aWalk 1) ∧ (walking 0).walkRuns (aWalk 1) = true ∧ (aWalk 1).held = none) ∧
    (match (tabled []).walkFill { tte := false, unit := 0, tenant := 0, tag := 0, id := 0, redirect := none } 2 with | (.leaf _ e, _) => e == 3 | _ => false) = true ∧
    (({ base with faultQ := [silentFault 0x30000 0], faultBase := 0x21008#64, faultTail := 255 } : State).faultRing = some (0, 0x21000, 8)) ∧
    ((tabled []).entryOf 0 3 = some (0x20018, 3, lazyLeaf) ∧ pteLazy lazyLeaf = true ∧ pteLoc lazyLeaf = 0 ∧
      (match (tabled []).bindCheck (pteFrame lazyLeaf) 0 3 with
       | some t => (match ({ t with silent := [] } : State).zeroPage (silentFault 0x30000 0) lazyLeaf (pteFrame lazyLeaf) 3 1 with
         | (true, _, u) => !u.writeLateIn 0x20018 (dutySource 0) && BitVec.ofNat 64 (u.rd 0x20018 8) == lazyLeaf
         | _ => false)
       | none => false) = true ∧ (silentFault 0x30000 0).code = cTranslation ∧ (silentFault 0x30000 0 dataLeaf).entry ≠ lazyLeaf) ∧
    ((tabled []).entryOf 0 2 = some (0x20010, 3, dataLeaf) ∧ ({ tabled [] with dpr := 2#32 } : State).dpr.getLsbD 1 = true ∧ pteV dataLeaf = true ∧ pteLoc dataLeaf = 0 ∧
      pteVers dataLeaf = false ∧ pteFrame dataLeaf = 2 ∧ tabGetD (tabled []).pvt 2 PvtEntry.free = dataPte ∧ (tabGetD (tabled []).pvt 5 PvtEntry.free).bound = false ∧
      (tabled []).frameExists 5 false = true ∧ ((tabled []).usesOf 2#64).any (tabled []).stillUses = false ∧
      (tabled []).frameVerifies 2 0 2 1 = true ∧ (tabled []).moveOf 0 2 = none ∧ pteMoving dataLeaf = false ∧ (tabled []).writeLateIn 0x20010 (dutySource (tabled []).migDie) = false ∧
      BitVec.ofNat 64 ((tabled []).rd 0x20010 8) = dataLeaf) ∧
    ((moving dataLeaf).moveOf 0 2 = some dataLeaf ∧ (moving dataLeaf).entryOf 0 2 = some (0x20010, 3, dataLeaf) ∧ (moving 1#64).moveOf 0 2 = some 1#64) ∧
    (({ base with invals := [⟨0#64, true, []⟩] } : State).invals = [⟨0#64, true, []⟩]) := by decide

def blockAt (op tenant blob src dst : Nat) : List Byte :=
  [BitVec.ofNat 8 op, 0#8] ++ natToBytes 2 tenant ++ natToBytes 4 0 ++ natToBytes 8 blob ++ natToBytes 8 src ++ natToBytes 8 dst
/-- The oldest security command is this block. Frame 6 is free, and what it holds was written under the binding of frame 2. -/
def secured (b : List Byte) : State :=
  let s := paged [(0x23000, b)]
  { s with sec := { s.sec with cmds := [0x23000] }, pvt := tabPut s.pvt 6 { PvtEntry.free with content := (0, 2, 1) } }
def secOk (s : State) (op : Nat) (c : SecCmd → State → Bool) : Bool :=
  match s.secHead fun _ => true with
  | some (x, t) => x.op == op && x.ok && c x t
  | none => false
/-- A blob that can be read meets `f`. -/
def blob (c : SecCmd) (t : State) (f : State → List Byte → Bool) : Bool :=
  c.blob % 64 == 0 && (match (List.range 3).foldl (fun (o : Option State) i => o.bind fun s => s.sysCheck (c.blob + 64 * i)) (some t) with
    | some u => (u.readError c.blob 192).isNone && f u (memGets u.mem c.blob 192)
    | none => false)
theorem wit_SecurityEvents :
    (secOk (secured (blockAt 1 0 0 0 0)) 1 (fun c _ => c.tenant == 0) && secOk (secured (blockAt 2 5 0 0 0)) 2 (fun c t => c.tenant == 5 && !t.tenantLive 5) &&
     secOk (secured (blockAt 2 0 0 0 0)) 2 (fun c _ => c.tenant == 0) &&
     secOk (secured (blockAt 3 0 0 2 6)) 3 (fun c t => t.boundTo c.src 0 && !t.isBound c.dst && t.frameExists c.dst false && t.frameVerifies c.dst 0 2 1) &&
     secOk (secured (blockAt 4 0 0 2 0)) 4 (fun c t => t.boundTo c.src 0) && secOk (secured (blockAt 4 0 0 7 0)) 4 (fun c t => !t.boundTo c.src 0) &&
     secOk (secured (blockAt 5 0 0 2 6)) 5 (fun c t => t.boundTo c.src 0 && !t.isBound c.dst && t.frameExists c.dst false) &&
     ((List.range 8).foldl (fun (o : Option State) p => o.bind fun x => x.newTxn false p (parityOf 10 1) (quotaPacket base.gtc 0x100000000#64) (.access [])) (some base)).isSome &&
     decide (base.sec.leaf < 2 ^ 40) && decide (base.sec.sessions.length < 64) && (List.replicate 32 0#8 : List Byte).length == 32 && (List.replicate 1568 0#8 : List Byte).length == 1568 &&
     (({ base with sec := { base.sec with sessions := [⟨4, 0, 9, 0#256⟩] } } : State).sec.sessions.find? fun x => x.num == 4) == some ⟨4, 0, 9, 0#256⟩) = true := by decide
/-- The blob's session does not exist; its alignment or a byte that must be zero is wrong. -/
theorem wit_SecurityEvents_refused :
    (secOk (secured (blockAt 1 5 0x24001 0 0)) 1 (fun c t => c.tenant == 5 && !t.isKeyed 5 && c.blob % 64 == 1) &&
     secOk { secured (blockAt 1 5 0x24000 0 0) with mem := memPuts (secured (blockAt 1 5 0x24000 0 0)).mem 0x2400E [1#8] } 1 (fun c t => blob c t fun u b => !blobZeros b && u.isKeyed 0) &&
     secOk (secured (blockAt 1 5 0x24000 0 0)) 1 (fun c t => blob c t fun u b => blobZeros b && (u.openBlob c.tenant b).isNone)) = true := by decide
/-- Whether a blob is authentic, the spec does not say how to compute: where it is, a key installs. -/
theorem wit_SecurityEvents_install :
    let b := blockAt 1 5 0x24000 0 0
    let s := { secured b with mem := memPuts (secured b).mem 0x2400C [5#8] }
    let s := { s with sec := { s.sec with sessions := [⟨0, 0, 5, 0#256⟩] } }
    secOk s 1 (fun c t => c.tenant == 5 && !t.isKeyed 5 && blob c t fun u b => blobZeros b && fld b 12 2 == 5 && u.sec.sessions.any fun x => x.num == fld b 176 8) =
      true := by decide

def snapList (n st : Nat) : List Byte := natToBytes 64 n ++ natToBytes 8 0x20000 ++ natToBytes 8 0x40000 ++ natToBytes 8 0x40000 ++ natToBytes 2 0 ++ [BitVec.ofNat 8 st, 0#8]
/-- An epoch runs whose list has its entry at 0 or, after an empty one, at 1. -/
def snapping (st cur : Nat) : State :=
  let s := tabled [(0x24000, snapList 1 st), (0x24060, (snapList 1 st).drop 64)]
  { s with snap := { Snap.reset with state := 1, list := 0x24000, cur := cur }, silent := [silentFault 0x20000 8], dpr := 0x140#32 }
def packet (op : PktOp) : Packet :=
  { dst := 0xFFF, srcDev := 5, src := 0, xtag := 0, op := op, scope := 4, release := false, retry := false, unlocked := false, tenant := 0, minor := 0, len := 4, addr := 0x20000,
    causal := 0#64, sent := 0#64, opnd := 0#64, data := [] }
def marked (s : State) (key : Nat) : State := { s with marks := [(key, ⟨true, false, []⟩)] }
def lineHeld (s : State) (i : Nat) : State :=
  { s with held := [{ cls := 0, owner := 0, entry := 0, tenant := 0, vpn := 2, span := 1, va := 0x20000, what := .line snapCmd i, joined := [], order := 0, wave := 0, pc := pc0,
                      replaying := [], again := false }] }
def snapSent (code : Nat) : State := { snapping 1 0 with snap := { (snapping 1 0).snap with sent := true, code := code } }
/-- `State.stages` of entry 1 and `State.drains`, decided, with what the copy gives. -/
def staging (s : State) (c : SnapGot → Bool) : Bool :=
  s.snap.state == 1 && !s.snap.mode && decide (s.snap.cur < 1) && (match s.snapEnt 1 with
    | some (e, t) => e.st == 0 && t.snapWanted e && !t.snapLate e.tenant e.src && c (t.snapCopy 1 (t.snapDie e.tenant e.src) e.tenant e.src e.stage).1
    | none => false)
def draining (s : State) (c : SnapGot → Bool) : Bool :=
  s.snap.state == 1 && (match s.snapEnt s.snap.cur with
    | some (e, t) => decide (e.st < 2) && !t.snap.sent && !t.snapLate e.tenant e.src && c (t.snapCopy t.snap.cur (t.snapDie e.tenant e.from_) e.tenant e.from_ e.dest).1
    | none => false)
theorem wit_RecoveryEvents_snap :
    (base.snap.state ≠ 1 ∧ ({ base with dpr := 0#32 } : State).dpr.getLsbD 6 = false) ∧
    ((snapping 0 0).dpr.getLsbD 6 = true ∧ (tabled [(0x24000, snapList 1 0)]).snapCheck 0x24000 = some 1) ∧
    (({ base with snap := { Snap.reset with state := 1, list := 0x25000 } } : State).snapCount = 0) ∧
    ((tabled [(0x24000, snapList 0 0)]).snapCheck 0x24000 = none ∧ (snapping 0 0).snap.state = 1) ∧
    (staging (snapping 0 0) (fun g => match g with | .ok => true | _ => false) && staging (marked (snapping 0 0) 0x20000) (fun g => match g with | .stop _ => true | _ => false) &&
     staging (lineHeld (snapping 0 0) 1) (fun g => match g with | .wait => true | _ => false)) = true ∧
    (draining (snapping 1 0) (fun g => match g with | .ok => true | _ => false) &&
     draining (marked (snapping 0 0) 0x20000) (fun g => match g with | .stop _ => true | _ => false)) = true ∧
    ((((snapSent 0).snapEnt 0).map fun x => x.1.st == 1 && x.2.snap.sent && x.2.fab.txns.isEmpty && x.2.snap.code == 0 && !x.2.snapLate x.1.tenant x.1.src) = some true ∧
     (((snapSent 0x11).snapEnt 0).map fun x => x.1.st == 1 && x.2.snap.sent && x.2.fab.txns.isEmpty && x.2.snap.code != 0 && !x.2.snapLate x.1.tenant x.1.src) = some true) ∧
    (((snapping 2 0).snapEnt 0).map fun x => x.1.st == 2) = some true := by decide
/-- The entry's page goes to another module: the copy is sent, since tags are free. -/
theorem freeTag_isSome (f : Fabric) (a b : Nat) (h : f.txns.length < 65535) : (f.freeTag a b).isSome = true := by
  unfold Fabric.freeTag
  by_contra hn
  rw [Option.not_isSome_iff_eq_none, List.find?_eq_none] at hn
  generalize hu : (f.txns.filter fun t => t.pkt.src == a && t.pkt.dst == b).map (fun t => t.pkt.xtag) = used at hn
  have hl : used.length ≤ f.txns.length := by rw [← hu, List.length_map]; exact List.length_filter_le _ _
  have hs : List.range (min 65536 (used.length + 1)) ⊆ used := fun i hi => by simpa using hn i hi
  have := (List.nodup_range.subperm hs).length_le
  rw [List.length_range] at this
  omega
theorem newTxn_some (s : State) (plane : Nat) (p : Packet) (w : TxnWhat) (h : s.fab.txns.length < 4096) :
    ∃ t, s.newTxn true plane 0 p w = some t ∧ t.fab.txns.length = s.fab.txns.length + 1 := by
  unfold State.newTxn
  obtain ⟨g, hg⟩ := Option.isSome_iff_exists.1 (freeTag_isSome s.fab p.src p.dst (by omega))
  have full (n : Nat) : s.fab.linesFull n = false := by
    simpa [Fabric.linesFull] using Nat.lt_of_le_of_lt (List.length_filter_le _ _) h
  simp only [hg, full, Bool.and_false, Bool.false_eq_true, if_false]
  refine ⟨_, rfl, ?_⟩
  dsimp only
  split <;> simp [Fabric.send, Fabric.setLink]
/-- Line `j` of a page on its way to another module. -/
def snapPacket (die tenant dev pa : Nat) (b : List Byte) (j : Nat) : Packet :=
  { packet .write with dst := dev, srcDev := 0, src := srcOf 1 (16 * die + 15), scope := 5, tenant := tenant, len := 128, addr := pa + 128 * j,
                       data := (b.drop (128 * j)).take 128 }
theorem snapSend_isSome (s : State) (i die tenant dev pa : Nat) (b : List Byte) (h : s.fab.txns.length = 0) : (s.snapSend i die tenant dev pa b).isSome = true := by
  unfold State.snapSend
  have key : ∀ (l : List Nat) (s : State), s.fab.txns.length + l.length ≤ 4096 → ((l.foldl (fun (o : Option State) j => o.bind fun (s : State) =>
      s.newTxn true (planeOfPa (pa + 128 * j)) 0 (snapPacket die tenant dev pa b j) (.line snapCmd i)) (some s))).isSome = true := by
    intro l
    induction l with
    | nil => intro s _; rfl
    | cons j l ih =>
      intro s hs
      rw [List.length_cons] at hs
      obtain ⟨t, ht, hn⟩ := newTxn_some s (planeOfPa (pa + 128 * j)) _ (.line snapCmd i) (by omega)
      rw [List.foldl_cons, Option.bind_some, ht]
      exact ih t (by omega)
  exact key _ _ (by rw [h, List.length_range]; omega)
theorem snapCopy_sent {s t u : State} {i die tenant src dst k dev pa : Nat} {disc d : Bool} (h : s.heldFor (.line snapCmd i) = false)
    (hs : s.snapPlace i die tenant src .load = (.inl (.mem k, disc), t)) (hr : t.readError k 65536 = none)
    (hd : t.snapPlace i die tenant dst .store = (.inl (.remote dev pa, d), u)) (hn : u.fab.txns.length = 0) : (s.snapCopy i die tenant src dst).1 = .sent := by
  unfold State.snapCopy
  obtain ⟨v, hv⟩ := Option.isSome_iff_exists.1 (snapSend_isSome u i die tenant dev pa
    (if u.snapSpoilt k then u.spoiltPage else if disc then List.replicate 65536 0#8 else memGets u.mem k 65536) hn)
  have hx : (if disc = true then none else t.readError k 65536) = none := by rw [hr]; exact ite_self _
  rw [if_neg (by simp [h]), hs]
  dsimp only
  rw [hx]
  dsimp only
  rw [hd]
  dsimp only
  rw [hv]
/-- The pages of the destination lie on module 5. -/
def away (s : State) : State := { s with mem := memPuts s.mem 0x20020 (natToBytes 8 0x40051007) }
def sendable (s : State) (i : Nat) (from_ dst : SnapEnt → Nat) : Bool :=
  match s.snapEnt i with
  | some (e, s) => !s.heldFor (.line snapCmd i) && !s.snapLate e.tenant e.src && (match s.snapPlace i (s.snapDie e.tenant (from_ e)) e.tenant (from_ e) .load with
    | (.inl (.mem k, _), t) => (t.readError k 65536).isNone && (match t.snapPlace i (s.snapDie e.tenant (from_ e)) e.tenant (dst e) .store with
      | (.inl (.remote _ _, _), u) => u.fab.txns.length == 0
      | _ => false)
    | _ => false)
  | none => false
theorem wit_RecoveryEvents_sent : (sendable (away (snapping 0 0)) 1 SnapEnt.src SnapEnt.stage && sendable (away (snapping 0 0)) 0 SnapEnt.src SnapEnt.dest) = true := by decide
theorem wit_RecoveryEvents_rebuild :
    (match (paged [(0x24000, natToBytes 2 1 ++ natToBytes 2 1)]).sysRead 0x24000 64 with | (.ok h, _) => h == 0x10001 | _ => false) = true ∧
    (match (marked (paged []) 0x24000).sysRead 0x24000 64 with | (.error _, _) => true | _ => false) = true ∧ fld (natToBytes 64 0x10001) 0 2 = 1 ∧ fld (natToBytes 64 0x10001) 2 2 = 1 ∧
    (match State.rebuildLen 1 (paged []) 0x24000 (rebuildBlocks 1) with
      | some n => (match (paged []).sysRead 0x24000 n with | (.ok _, _) => true | _ => false)
      | none => false) = true ∧ (snapping 0 0).dpr.getLsbD 8 = true ∧ base.rebuild = none ∧
    (({ base with rebuild := some ⟨0, 0, [(5, 0#64)], false, false⟩, gtc := 1250000#64 } : State).rebuild.map fun r => r.waits.any fun w =>
      w.1 == 5 && decide ((1250000#64 - w.2).toNat ≥ 1250000)) = some true := by decide
theorem wit_RecoveryEvents_list :
    (({ base with rebuildIn := [⟨0, 0, packet .coll⟩] } : State).rebuildIn.filter fun r => r.pkt.srcDev == 5).mergeSort (fun a b => decide (a.off ≤ b.off)) =
      [⟨0, 0, packet .coll⟩] ∧ ((rebuildNums (fld [] 2 2) (([] : List Byte).drop (rebuildBlocks (fld [] 0 2)))).any fun g =>
        (List.range 16).any fun cle => base.collLate cle g 0) = false := ⟨List.mergeSort_singleton _, by decide⟩
theorem wit_RecoveryEvents_short :
    (({ base with rebuildIn := [⟨0, 4, packet .coll⟩] } : State).rebuildIn.filter fun r => r.pkt.srcDev == 5).mergeSort (fun a b => decide (a.off ≤ b.off)) =
      [⟨0, 4, packet .coll⟩] ∧ ([⟨0, 4, packet .coll⟩].flatMap fun r : RebuildIn => r.pkt.data).length < 4 := ⟨List.mergeSort_singleton _, by decide⟩
def event (source : Nat) : EvRec := ⟨0#64, source, 0xF01, 0, 0#64, 0#64, true⟩
def recorded : State :=
  { base with evq := [event 0], dpr := 0x80#32, traceOut := [⟨0, false, 0, 0#64, 0#64, 0#32, 0, 0, 0, [], false, (0, 0, 0), 0, 0, 0, none, 0, false⟩],
              evr := { base.evr with holdHubs := false, hubs := [(0, ⟨[⟨event 0, 0, 0xFFF, 0#256⟩], 0, 0#64, 0#64⟩)], wptr := 1, dusk := [(0, ⟨event 0, 0, 0xFFF, 0#256⟩)], hostRing := 0x21008#64, timeCtl := 1#64 } }
theorem wit_RecorderEvents :
    logChannels 0 319 = true ∧ logChannels 6 11 = true ∧
    ((event 0).gtc = recorded.gtc ∧ (event 0).gtc ≠ ({ recorded with gtc := 1#64 } : State).gtc ∧ firstHanded recorded.evq = some (event 0) ∧ firstHanded [event 3, event 2] = some (event 2) ∧ (event 0).source ≠ srcOf 11 0) ∧
    (recorded.evr.holdHubs = false ∧ recorded.evr.mgmt = [] ∧ (recorded.hub 0).buf = [⟨event 0, 0, 0xFFF, 0#256⟩] ∧ (recorded.hub 1).buf = []) ∧
    (recorded.drainRing = some (0, 0x21000, 8) ∧ recorded.dpr.getLsbD 7 = true ∧ max recorded.evr.hostNext (recorded.evr.wptr - duskSlots) < recorded.evr.wptr ∧
      (recorded.evr.hostTail + 2 ^ 32 - recorded.evr.hostHead) % 2 ^ 32 < 2 ^ 8 ∧ recorded.marks = []) ∧
    ((recorded.traceOut.find? fun c => c.wave == 0 && c.cs == false).bind fun c => recorded.traceOut.find? fun x => x.who == c.who && x.cs == c.cs).isSome = true ∧ recorded.evr.timeCtl.toNat % 4 = 1 := by decide

/-- A flit on virtual channel 3 whose GCM tag is this. -/
def flit (seq tag : Nat) : Flit := ⟨seq, 0, .data, 0, false, false, 3, true, 0, 0, List.replicate 48 0#8, tag⟩
def linked (f : LinkSt → LinkSt) : State := { base.setLink 15 (f LinkSt.reset) with gtc := 1250000#64, dpr := 0x10#32 }
def txn (attempts : Nat) (busy : Option DWord) : Txn := ⟨1, packet .write, false, 0, 0, 0, attempts, false, false, busy, .access []⟩
def transacting (t : Txn) (ps : List Packet) (gtc : DWord) : State :=
  { base with gtc := gtc, fab := { base.fab with txns := [t], inbox := ps.map fun p => (0, p), fence := some (1, 0, 0) } }
def keyedLink (fails : Nat) : State := linked fun l => { l with state := 2, keyed := true, authFails := fails }
theorem bytesToNat_lt (b : List Byte) : bytesToNat b < 256 ^ b.length := by
  induction b with
  | nil => simp [bytesToNat]
  | cons x b ih => rw [bytesToNat, List.length_cons, Nat.pow_succ]; have := x.isLt; omega
theorem flitTag_lt (key : BitVec 256) (n : Nat) (f : Flit) : flitTag key n f < 2 ^ 32 :=
  Nat.lt_of_lt_of_le (bytesToNat_lt _) (Nat.le_trans (Nat.pow_le_pow_right (by decide) (List.length_take_le 4 _)) (by decide))
theorem flit_reads (seq tag : Nat) (h : seq < 4096) (ht : tag < 2 ^ 32) : flitOf (flitBody (flit seq tag) ++ bytes4 (crc32 (flitBody (flit seq tag)))) = some (flit seq tag) :=
  flitOf_flitBytes _ h Nat.two_pos (Nat.succ_pos _) (Nat.lt_succ_self 3) (Nat.succ_pos _) (Nat.succ_pos _) rfl ht
theorem opened_bad {l : LinkSt} {f : Flit} (hk : l.keyed = true) (hs : f.seq = 1) (hg : l.got = 0) (hc : l.rxCount = 0)
    (h : ¬f.tag = flitTag (pairAt l.rxKeys f.keySlot) 1 f) : l.opened f = none := by
  simp [LinkSt.opened, hk, hs, hg, hc, h]
/-- On a keyed link: a sealed flit of the next number, one of the number before, and one whose tag is wrong. -/
theorem wit_FabricEvents_flits :
    ((keyedLink 0).link 15).state = 2 ∧ ((keyedLink 0).link 15).keyed = true ∧ ((keyedLink 14).link 15).authFails < 15 ∧ 15 ≤ ((keyedLink 15).link 15).authFails ∧
    flitOf ([] ++ bytes4 0#32) = none ∧
    (∃ b c f g, flitOf (b ++ bytes4 c) = some f ∧ ((keyedLink 0).link 15).opened f = some g ∧ g.kind ≠ .idle ∧ g.seq = (((keyedLink 0).link 15).got + 1) % 4096) ∧
    (∃ b c f g, flitOf (b ++ bytes4 c) = some f ∧ ((keyedLink 0).link 15).opened f = some g ∧ g.kind ≠ .idle ∧ g.seq ≠ (((keyedLink 0).link 15).got + 1) % 4096 ∧
      2048 ≤ (((keyedLink 0).link 15).got + 4096 - g.seq) % 4096) ∧
    (∀ n, ∃ b c f, flitOf (b ++ bytes4 c) = some f ∧ ((keyedLink n).link 15).opened f = none) := by
  refine ⟨rfl, rfl, by decide, by decide, by decide, ?_, ?_, fun n => ?_⟩
  · exact ⟨_, _, _, _, flit_reads 1 (flitTag 0#256 1 (flit 1 0)) (by decide) (flitTag_lt _ _ _), if_pos rfl, by decide, by decide⟩
  · exact ⟨_, _, _, _, flit_reads 2 (flitTag 0#256 2 (flit 2 0)) (by decide) (flitTag_lt _ _ _), if_pos rfl, by decide, by decide, by decide⟩
  · refine ⟨_, _, flit 1 (if flitTag 0#256 1 (flit 1 0) = 0 then 1 else 0), flit_reads 1 _ (by decide) (by split <;> decide), ?_⟩
    have h : ¬(if flitTag 0#256 1 (flit 1 0) = 0 then 1 else 0) = flitTag 0#256 1 (flit 1 0) := by split <;> omega
    generalize (if flitTag 0#256 1 (flit 1 0) = 0 then 1 else 0) = x at h
    have k : (keyedLink n).link 15 = { LinkSt.reset with state := 2, keyed := true, authFails := n } := rfl
    rw [k, opened_bad rfl rfl rfl rfl h]
theorem wit_FabricEvents_links :
    halfOk (BitVec.ofNat 16 ((linked fun l => { l with state := 2 }).link 15).failed ||| (0x8000#32).setWidth 16).toNat false = true ∧
    (((linked fun l => { l with state := 1 }).link 15).state = 1 ∧ ({ linked (fun l => { l with state := 1 }) with dpr := 0#32 } : State).dpr.getLsbD 4 = false) ∧
    ((linked fun l => { l with state := 1, failed := 0x8000 }).dpr.getLsbD 4 = true ∧ halfOk ((linked fun l => { l with state := 1, failed := 0x8000 }).link 15).failed false = true) ∧
    (((linked fun l => { l with state := 5 }).link 15).state = 5 ∧
      1250000 ≤ ((linked fun l => { l with state := 5 }).gtc - ((linked fun l => { l with state := 5 }).link 15).trainSince).toNat) ∧
    (((linked fun l => { l with state := 3 }).link 15).state = 3 ∧ (0x10000#32 : Word).toNat % 65536 = 0) ∧
    (((linked fun l => { l with state := 4 }).link 15).state = 4 ∧ ((linked fun l => { l with state := 4 }).link 15).keyed = false) := by decide
/-- The same request again, its key being executed or done. -/
def heard (done : Bool) : State :=
  let s := transacting (txn 1 none) [packet .read] 0#64
  { s with fab := { s.fab with filter := [(pktKey (packet .read), done, [packet .reply])] } }
theorem wit_FabricEvents_again : [false, true].all (fun d => (heard d).nextRequest == some (0, packet .read) && (heard d).resumes (packet .read) == false &&
    decide (((heard d).gtc - (packet .read).sent).toInt ≤ 2000000) &&
    ((heard d).fab.filter.find? fun x => x.1 == pktKey (packet .read)) == some (pktKey (packet .read), d, [packet .reply])) = true := by decide
theorem wit_FabricEvents :
    (let s := transacting (txn 1 none) [packet .read] 0#64
     s.nextRequest = some (0, packet .read) ∧ s.resumes (packet .read) = false ∧ (s.gtc - (packet .read).sent).toInt ≤ 2000000 ∧ s.fab.filter.length < 262144 ∧
       (s.fab.filter.find? fun x => x.1 == pktKey (packet .read)) = none ∧ ((s.takePkt (0, packet .read)).execRequest 0 (packet .read)).isSome = true) ∧
    (let p := { packet .busy with srcDev := 0xFFF }
     let s := transacting (txn 1 none) [p] 0#64
     s.fab.inbox.find? (fun p => isReply p.2) = some (0, p) ∧ p.op = .busy ∧
       (s.fab.txns.find? fun x => x.pkt.src == p.src && x.pkt.dst == p.srcDev && x.pkt.xtag == p.xtag && x.pkt.sent == p.sent) = some (txn 1 none)) ∧
    (let p := { packet .reply with srcDev := 0xFFF }
     let s := transacting (txn 1 none) [p] 0#64
     s.fab.inbox.find? (fun p => isReply p.2) = some (0, p) ∧
       (s.fab.txns.find? fun x => x.pkt.src == p.src && x.pkt.dst == p.srcDev && x.pkt.xtag == p.xtag && x.pkt.sent == p.sent) = some (txn 1 none) ∧
       ((s.takePkt (0, p)).replied (txn 1 none) p).avPending (txn 1 none) = false) ∧
    ((transacting (txn 1 none) [] 2000000#64).txnDue (txn 1 none) = true ∧ (transacting (txn 1 none) [] 2000000#64).txnDead (txn 1 none) = true) ∧
    ((transacting (txn 1 none) [] 250000#64).txnDue (txn 1 none) = true ∧ (transacting (txn 1 none) [] 250000#64).txnDead (txn 1 none) = false) ∧
    ((txn 1 (some 0#64)).busy = some 0#64 ∧ 2500 ≤ ((transacting (txn 1 (some 0#64)) [] 2500#64).gtc - 0#64).toNat ∧
      (transacting (txn 1 (some 0#64)) [] 2500#64).txnDead (txn 1 (some 0#64)) = false) ∧
    base.fab.fence = none ∧
    (let s := { base with fab := { base.fab with fence := some (1, 0, 0) } }
     s.fab.fence = some (1, 0, 0) ∧ (s.fab.txns.any fun t => !t.held && s.fab.fenced t.plane) = false) ∧
    (let s := { base with dpr := 0#32, fab := { base.fab with dead := 0x80 } }
     (s.linkEvent 14 0x069 7).fab.deadPlane 7 = true ∧ (s.linkEvent 14 0x069 7).dpr.getLsbD 5 = false) := by decide

def hosted (bs : List (Nat × List Byte)) : State :=
  { tabled bs with power := { base.power with ready := true }, sec := { base.sec with ide := [⟨1, 1, 0, 0, 0#256⟩] }, tteTlb := [(40, [⟨dataLeaf ||| 64#64, 3, 0, 0, 2, 0⟩]), (0, [⟨dataLeaf ||| 64#64, 3, 0, 0, 2, 0⟩])] }
theorem wit_HostAndPowerEvents :
    (isTlp 0x20000 4 = true ∧ 0x20000 < hbmBytes ∧ ((hosted []).sysCheck 0x20000).isSome = true) ∧
    (isTlp 0x20FFF 4 = false ∧ isTlp hbmBytes 4 = true) ∧
    ((hosted []).pasidOk 1 0 = true ∧ (match (hosted []).translateNow (hostAsker 1 0) .load 5 0x20000 with
      | (.ok (.mem key) _ false, _) => key == 0x20000
      | _ => false) = true) ∧
    (match (hosted []).hostBoth (hostAsker 1 0) 0x20000 with
      | (.ok (.mem key) _ _, t) => key == 0x20000 && t.hostSysAtom 1 0 0x20000
      | _ => false) = true ∧
    ((hosted []).power.ready = true ∧ (hosted []).tooLate 5 0 0 = false ∧ ((hosted []).serve 5 0 0).tooLate 5 0 1 = false) ∧
    (base.power.ready = false ∧ base.power.devWait = true ∧ ({ base with power := { base.power with devWait := false } } : State).power.devWait = false) ∧
    (base.booting = true ∧ ({ base with power := { base.power with devWait := false, recWait := false } } : State).booting = false) ∧
    ({ base with power := { base.power with recWait := true } } : State).power.recWait = true ∧ (0x8000000000FFFFC0#64 : DWord).getLsbD 63 = true ∧
    (0x8000000000FFFFC0#64 : DWord).toNat % 2 ^ 24 = 16777152 ∧ base.power.cap < 4095 ∧ 0 ≤ base.power.cap := by decide

/-! ## Witnesses for encodings, steps, checks and frames -/

theorem wit_DecodeEncode : (encodeRaw (.sadd 127#7 63#7 0#7)).isSome = true ∧ (Instr.sadd 127#7 63#7 0#7).wellFormed := by decide
theorem wit_EncodeDecode : decode 0x200C0820#32 = .ok (.sadd 3#7 1#7 2#7) := rfl
theorem wit_RunsDecoded : isHeader 0x1E000000#32 = false ∧ decode 0x1E000000#32 = .error .unlistedMajor := ⟨rfl, rfl⟩
theorem wit_StepRunsWord :
    let s := State.reset.withFetchWord 32 0x200C0820
    s.powered = true ∧ s.tape = [.issue 0 false] ∧ (({ s with tape := [] } : State).portStreams (coreOf 0) (portOf 0)).contains (0, false) = true ∧
      ((s.wave? 0).bind fun w => (w.stream false).clause.map fun c => c.words) = some [0x200C0820#32] := by decide
theorem wit_StepRunsWord_event :
    ({ base with tape := [.event (.coreCycles 1)] } : State).powered = true ∧ (Instr.coreCycles 1).hasWord = false ∧ ({ base with powered := false } : State).tape = [] := by decide
/-- One word fails each check of R39; the last passes them all. -/
theorem wit_IssueChecks :
    (inBatch.updWave 0 fun w => { w with batch := some { batch with issued := 4096 } }).env?.map Env.batchSpent = some true ∧
    (base.env?.isSome = true ∧ (Instr.form (.sadd 64#7 0#7 0#7)).check.isSome = true) ∧
    (({ wave (fun w => { w with single := false, c := { w.a with exited := false } }) with cur := ⟨0, true, 0⟩ } : State).env?.map fun e => e.cs) = some true ∧
    (Instr.form .tret).aOnly = true ∧ ((Instr.form .yield).forbidden = true ∧ inBatch.env?.isSome = true) ∧
    ((wave fun w => { w with blocks := [] }).env?.map fun e => e.inWindow (Instr.form (.vmovi 0#7 0#18)).ops) = some false ∧
    ((wave fun w => { w with vpoison := [(0, full)] }).env?.map fun e => (e.poisoned [0] e.exec).2.isSome) = some true ∧
    issues base (.sadd 0#7 0#7 0#7) (fun _ => true) = true := by decide
/-- A block that holds the engine, and one that does not (R108, R115). -/
theorem wit_Dot8 :
    (issues (base.setEngine 0 { Engine.reset with holder := some 0 }) (.dot8Cb4 8#7 0#7 1#7) (fun e => (e.s.core e.core).engine.holder == some e.w.block) &&
     issues base (.dot8Cb4 8#7 0#7 1#7) (fun e => (e.s.core e.core).engine.holder != some e.w.block)) = true := by decide
theorem wit_ComputeKeepsMemory : computes 0x200C0820#32 ∧ base.MemOk ∧ ∃ t, runWord 0x200C0820#32 base = .next t :=
  ⟨by unfold computes; decide, by unfold State.MemOk; decide, _, rfl⟩
/-- A wave with a vector whose streams have stopped; one in a handler; one of a task that aborts. -/
def stopped : State := wave fun w => { w with trapVector := 0x30000#64, a := { w.a with clause := none } }
theorem wit_TrapEntry :
    (stopped.wave? 0).map (fun w => w.batch.isNone && w.trapping.isNone && w.ctx.isNone && w.trapVector != 0#64 && (w.stream true).stopped && w.a.trace.isNone &&
      w.c.trace.isNone && (tabGet? stopped.aborts w.task).isNone) = some true ∧
    (base.wave? 0).map (fun w => w.trapping.isNone && w.trapVector == 0#64 && (tabGet? base.aborts w.task).isNone) = some true ∧
    ((inHandler 0).wave? 0).map (fun w => w.ctx.isSome) = some true ∧
    (tabGet? ({ base with aborts := [(65536, 5)] } : State).aborts 65536).isSome = true := by decide
theorem wit_ResultFrame : base.env?.map (fun e => (e.place? 0).isSome && (e.place? 127).isSome && (e.place? 128).isNone && !e.cs) = some true := by decide
theorem wit_AccessFrame :
    (flying (access 1 (.store [1#8] false) .waiting)).flight.find? (fun a => a.id == 1) = some (access 1 (.store [1#8] false) .waiting) ∧
    base.barSpoil 0x20000 [1#8] = [] ∧ base.writeLateIn 0x20000 (srcCore 0) = false ∧ base.needsSpill 0x20000 [1#8] = false ∧ Memory.wf base.mem = true ∧ base.marks = [] ∧ base.inj.arm = false := by decide

/-! ## Single steps -/

/-- What a word leaves in the wave. -/
def after (i : Instr) (s : State) (c : Wave → Bool) : Bool :=
  match exec i s with
  | .next t => match t.wave? 0 with
    | some w => c w
    | none => false
  | _ => false
def sreg (w : Wave) (r : Nat) : Word := w.a.regs.getD r 0#32
def vreg (w : Wave) (r l : Nat) : Word := (tabGetD w.vregs r Lanes.zero).lane l
/-- `base` with two vector registers, every lane alike. -/
def vecs (x y : Word) : State := wave fun w => { w with vregs := [(1, Vector.replicate 32 x), (2, Vector.replicate 32 y)] }

/-- R43 and the arithmetic of major 0x10: sums wrap; products keep their low word. -/
theorem test_sadd_wraps : after (.sadd 3#7 1#7 2#7) (regs [(1, full), (2, 2#32)]) (fun w => sreg w 3 == 1#32) = true := by decide
theorem test_smulh_signed : after (.smulh 3#7 1#7 2#7) (regs [(1, full), (2, 2#32)]) (fun w => sreg w 3 == full) = true := by decide
/-- R30: s127 discards, and reads as 0. -/
theorem test_s127 : after (.sadd 127#7 1#7 2#7) (regs [(1, 5#32)]) (fun w => (List.range 64).all fun i => sreg w i == if i = 1 then 5#32 else 0#32) = true := by decide
theorem test_smov_zero : after (.smov 1#7 127#7) (regs [(1, 5#32)]) (fun w => sreg w 1 == 0#32) = true := by decide
/-- The immediate of SADDI is sign-extended, that of SORI is not (R37). -/
theorem test_saddi : after (.saddi 3#7 1#7 0x7FF#11) (regs [(1, 1#32)]) (fun w => sreg w 3 == 0#32) = true := by decide
theorem test_sori : after (.sori 3#7 1#7 0x7FF#11) (regs [(1, 0x1000#32)]) (fun w => sreg w 3 == 0x17FF#32) = true := by decide
theorem test_smovhi : after (.smovhi 3#7 0x3FFFF#18) (regs [(3, 0x7FFF#32)]) (fun w => sreg w 3 == full) = true := by decide
/-- A lane instruction leaves the lanes outside exec. -/
theorem test_vadd_lanes :
    after (.vadd 1#7 1#7 2#7) ((vecs full 2#32).updWave 0 fun w => { w with a := { w.a with tab := w.a.tab.setSlot 0 (some ⟨pc0, pc0, full, 5#32, [], []⟩) } })
      (fun w => vreg w 1 0 == 1#32 && vreg w 1 1 == full && vreg w 1 2 == 1#32) = true := by decide
/-- FP32: 1.0 + 1.0 = 2.0; 1.0 ÷ 3.0 is inexact; the largest number doubled overflows (R58, R62). -/
theorem test_fadd : after (.fadd 3#7 1#7 2#7) (vecs 0x3F800000#32 0x3F800000#32) (fun w => vreg w 3 31 == 0x40000000#32 && w.fpFlags == 0#32) = true := by decide
theorem test_fmul_overflow : after (.fmul 3#7 1#7 2#7) (vecs 0x7F7FFFFF#32 0x40000000#32) (fun w => vreg w 3 0 == 0x7F800000#32 && w.fpFlags != 0#32) = true := by decide
/-- A comparison writes the active lanes of its predicate. -/
theorem test_vcmp : after (.vcmpLt 5#7 1#7 2#7) (vecs full 0#32) (fun w => w.preds.getD 5 0#32 == full) = true := by decide
/-- SCMP's unsigned form sees 0xFFFFFFFF above 0. -/
theorem test_sdivn : after (.sdivn 3#7 1#7 2#7) (regs [(1, 7#32), (2, 2#32)]) (fun w => w.late.any fun l => l.dest == .scalar false 3 && l.vals.lane 0 == 3#32) = true := by decide
/-- A scan's results are canonical: lane 0's NaN loses its sign and payload (R56, R278). -/
theorem test_scan_canonical :
    after (.scanAddF32 3#7 1#7 0#1) (vecs 0xFF800001#32 0#32) (fun w => w.late.any fun l => l.vals.lane 0 == 0x7FC00000#32 && l.vals.lane 31 == 0x7FC00000#32) = true := by decide
/-- A word that traps without a vector aborts its task (R414): TRAP_CODE holds a software trap's number. -/
theorem test_trap : after (.trap 5#7) base (fun w => w.trapCode == 0x485#32 && w.trapPc == pc0) = true := by decide
/-- MFSR of SYS_DEVICE_NO (R34). -/
theorem test_mfsr : after (.mfsr 3#7 0x006#11) base (fun w => sreg w 3 == 0xFFF#32) = true := by decide
/-- A store outside a batch changes no byte until its home unit performs it; then the byte is there. -/
theorem test_store_performs :
    (match exec (.homeUnitRequest 1) (flying (access 1 (.store [9#8] false) .waiting)) with
     | .next t => t.byteAt 0x20000 == 9#8 && t.byteAt 0x20001 == 0#8
     | _ => false) = true := by decide
end Sys2Proof.Tests
end

section
/-!
Every word of a clause meets the checks of R39 before its own rules: the meaning of each is `issue` of its form (O55).
-/
open Sys2Proof Sys2Proof.Machine

namespace Sys2Proof.Machine

/-- R39: the meaning of every word of a clause is `issue` of its form, with rules `k` that see only what the checks leave. -/
theorem exec_eq_issue_form (i : Instr) (h : inClause i) : ∃ k, ∀ s, exec i s = issue i.form s k := by
  obtain ⟨hword, hheader⟩ := h
  unfold exec
  cases i
  case clauseHeader w x y l => exact absurd rfl (hheader w x y l)
  -- a step without a word is no word of a clause; the meaning of each word unfolds to its `issue`
  all_goals cases hword
  all_goals exact ⟨_, fun _ => rfl⟩

/-- R76: a poisoned source traps, with the lanes that consume one. -/
theorem consume_poisoned {e : Env} {ps : List Nat} {m : Word} {p l : Nat} (h : (e.poisoned ps m).2 = some (p, l)) (k : Unit → Out) :
    e.consume ps m k = e.trapWith cRfUncorrectable (e.loc0 p l) (e.poisoned ps m).1 := by
  unfold Env.consume
  generalize e.poisoned ps m = q at h ⊢
  obtain ⟨lanes, o⟩ := q
  cases h
  rfl

/-- A word whose meaning is `issue` of its form meets the checks of R39, whatever its own rules. -/
theorem checked_of_issue {i : Instr} {s : State} {e : Env} {k : Env → Out} (hk : exec i s = issue i.form s k) (he : s.env? = some e) :
    checked i s e := by
  unfold checked
  rw [hk, issue_eq, he]
  dsimp only
  split_ifs with hillegal hstream hwindow hspent hforbidden hlanded
  iterate 6 rfl
  split
  case h_1 p l hpoison => exact consume_poisoned hpoison _
  case h_2 hpoison => simp [Issues, State.admitted, he, hillegal, hstream, hwindow, hspent, hforbidden, hlanded, hpoison]

end Sys2Proof.Machine

/-- Settles O55: a word of a clause does `issue` of its form, whose checks are those of R39 in their order. -/
theorem issueChecks : Obligations.IssueChecks := by
  intro i s e hi he
  obtain ⟨k, hk⟩ := exec_eq_issue_form i hi
  exact checked_of_issue (hk s) he
end

section
/-!
FP32 arithmetic, the special functions and conversions, packed halves and dot products: what each word gives wherever it issues (O13 to O15). Most words
always complete, with the result that their rules write out; FCVTSC first reads the lanes of the scales, and DOT8 the codebooks of the engine's holder.
-/
open Sys2Proof Sys2Proof.Machine

namespace Sys2Proof.Machine

/-- A word whose own rules always complete gives the state that they name. -/
theorem gives_of_completes {i : Instr} {t : Env → State} (m : State → Out) (hexec : ∀ s, exec i s = m s)
    (hrules : ∀ s, m s = issue i.form s fun e => .next (t e)) : Gives i t :=
  gives_of m hexec hrules fun _ => rfl

/-- R273, R280: a word that reads the lanes `m e` of v[b] across lanes, and then always completes, goes on once they may be read. -/
theorem givesIf_readable_of_crossRead {i : Instr} {b : BitVec 7} {m : Env → Word} (x : State → Out) (t : Env → State) (hexec : ∀ s, exec i s = x s)
    (hrules : ∀ s, x s = issue i.form s fun e => e.crossRead b (m e) fun e => .next (t e)) :
    GivesIf i (fun e => readable e b (m e)) (fun e => t (e.found b (m e))) :=
  givesIf_of x hexec hrules fun _ hread => crossRead_readable hread _

/-- R100: FCOPYSIGN of a lane, its NaN seen as an FP32 value. -/
theorem fCopySign_lane (e : Env) (a : BitVec 7) (l : Nat) (y : Word) : fCopySign (e.v32 a l) y =
    if (e.f32 a l).isNan then BitVec.ofNat 32 Fmt.f32.nanBits else y.extractLsb' 31 1 ++ (e.v32 a l).extractLsb' 0 31 :=
  fCopySign_eq _ _

/-- R115: the block that holds the engine sees the codebooks that are loaded. -/
theorem book_of_holder {e : Env} (h : (e.s.core e.core).engine.holder = some e.w.block) (slot : Nat) :
    e.book slot = (e.s.core e.core).book slot := by
  funext i
  simp [Env.book, h]

/-- R108, R115: for a block that does not hold the engine every entry is +0. -/
theorem book_of_not_holder {e : Env} (h : (e.s.core e.core).engine.holder ≠ some e.w.block) (slot : Nat) :
    e.book slot = fun _ => .zero false := by
  funext i
  simp [Env.book, h]

end Sys2Proof.Machine

/-- Settles O13: each word always completes; FCOPYSIGN's masks are the sign of one operand before the magnitude of the other. -/
theorem floatArithmetic : Obligations.FloatArithmetic := by
  intro d a b r
  exact
    ⟨-- sums, products, minimum and maximum, signs (R100)
     gives_of_completes (execFadd d a b) (fun _ => rfl) fun _ => rfl,
     gives_of_completes (execFsub d a b) (fun _ => rfl) fun _ => rfl,
     gives_of_completes (execFmul d a b) (fun _ => rfl) fun _ => rfl,
     gives_of_completes (execFmin d a b) (fun _ => rfl) fun _ => rfl,
     gives_of_completes (execFmax d a b) (fun _ => rfl) fun _ => rfl,
     gives_of (execFcopysign d a b) (fun _ => rfl) (fun _ => rfl) fun _ => by simp only [fCopySign_lane],
     -- the same with a scalar (R100)
     gives_of_completes (execFaddS d a b) (fun _ => rfl) fun _ => rfl,
     gives_of_completes (execFsubS d a b) (fun _ => rfl) fun _ => rfl,
     gives_of_completes (execFmulS d a b) (fun _ => rfl) fun _ => rfl,
     gives_of_completes (execFminS d a b) (fun _ => rfl) fun _ => rfl,
     gives_of_completes (execFmaxS d a b) (fun _ => rfl) fun _ => rfl,
     gives_of (execFcopysignS d a b) (fun _ => rfl) (fun _ => rfl) fun _ => by simp only [fCopySign_lane],
     -- fused products and sums, their rounding mode in the word (R101)
     gives_of_completes (execFfma d a b r) (fun _ => rfl) fun _ => rfl,
     gives_of_completes (execFfmaNeg d a b r) (fun _ => rfl) fun _ => rfl,
     gives_of_completes (execFfmaSub d a b r) (fun _ => rfl) fun _ => rfl,
     gives_of_completes (execFfmaNegsub d a b r) (fun _ => rfl) fun _ => rfl,
     gives_of_completes (execFfmas d a b r) (fun _ => rfl) fun _ => rfl,
     gives_of_completes (execFfmasNeg d a b r) (fun _ => rfl) fun _ => rfl,
     gives_of_completes (execFfmasSub d a b r) (fun _ => rfl) fun _ => rfl,
     gives_of_completes (execFfmasNegsub d a b r) (fun _ => rfl) fun _ => rfl,
     -- comparisons into a predicate (R102)
     gives_of_completes (execFcmpEq d a b) (fun _ => rfl) fun _ => rfl,
     gives_of_completes (execFcmpNe d a b) (fun _ => rfl) fun _ => rfl,
     gives_of_completes (execFcmpLt d a b) (fun _ => rfl) fun _ => rfl,
     gives_of_completes (execFcmpLe d a b) (fun _ => rfl) fun _ => rfl,
     gives_of_completes (execFcmpGt d a b) (fun _ => rfl) fun _ => rfl,
     gives_of_completes (execFcmpGe d a b) (fun _ => rfl) fun _ => rfl,
     gives_of_completes (execFcmpUnord d a b) (fun _ => rfl) fun _ => rfl,
     gives_of_completes (execFcmpOrd d a b) (fun _ => rfl) fun _ => rfl,
     -- exponents and significands (R112)
     gives_of_completes (execFscaleb d a b) (fun _ => rfl) fun _ => rfl,
     gives_of_completes (execFgetexp d a) (fun _ => rfl) fun _ => rfl,
     gives_of_completes (execFgetmant d a) (fun _ => rfl) fun _ => rfl⟩

/-- Settles O14: special functions and conversions always complete; FCVTSC does once the lanes of its scales may be read. -/
theorem floatFunctions : Obligations.FloatFunctions := by
  intro d a b r k
  exact
    ⟨-- special functions and the division (R66, R103)
     gives_of_completes (execFrcp d a) (fun _ => rfl) fun _ => rfl,
     gives_of_completes (execFrsq d a) (fun _ => rfl) fun _ => rfl,
     gives_of_completes (execFsqrt d a) (fun _ => rfl) fun _ => rfl,
     gives_of_completes (execFexp2 d a) (fun _ => rfl) fun _ => rfl,
     gives_of_completes (execFlog2 d a) (fun _ => rfl) fun _ => rfl,
     gives_of_completes (execFsin d a) (fun _ => rfl) fun _ => rfl,
     gives_of_completes (execFcos d a) (fun _ => rfl) fun _ => rfl,
     gives_of_completes (execFtanh d a) (fun _ => rfl) fun _ => rfl,
     gives_of_completes (execFdiv d a b) (fun _ => rfl) fun _ => rfl,
     -- conversions to and from narrow formats and integers, and to an integral value (R104, R110)
     gives_of_completes (execFcvtBf16F32 d a r) (fun _ => rfl) fun _ => rfl,
     gives_of_completes (execFcvtF32Bf16 d a r) (fun _ => rfl) fun _ => rfl,
     gives_of_completes (execFcvtF16F32 d a r) (fun _ => rfl) fun _ => rfl,
     gives_of_completes (execFcvtF32F16 d a r) (fun _ => rfl) fun _ => rfl,
     gives_of_completes (execFcvtE4m3F32 d a r) (fun _ => rfl) fun _ => rfl,
     gives_of_completes (execFcvtF32E4m3 d a r) (fun _ => rfl) fun _ => rfl,
     gives_of_completes (execFcvtE5m2F32 d a r) (fun _ => rfl) fun _ => rfl,
     gives_of_completes (execFcvtF32E5m2 d a r) (fun _ => rfl) fun _ => rfl,
     gives_of_completes (execFcvtI32F32 d a r) (fun _ => rfl) fun _ => rfl,
     gives_of_completes (execFcvtN32F32 d a r) (fun _ => rfl) fun _ => rfl,
     gives_of_completes (execFcvtF32I32 d a r) (fun _ => rfl) fun _ => rfl,
     gives_of_completes (execFcvtF32N32 d a r) (fun _ => rfl) fun _ => rfl,
     gives_of_completes (execFrnd d a r) (fun _ => rfl) fun _ => rfl,
     -- conversions under a block scale (R105)
     givesIf_readable_of_crossRead (execFcvtscE4m3F32 d a b k) (fun e => (e.cvtScTo d a b k.toNat Fmt.e4m3).done) (fun _ => rfl) fun _ => rfl,
     givesIf_readable_of_crossRead (execFcvtscF32E4m3 d a b k) (fun e => (e.cvtScFrom d a b k.toNat Fmt.e4m3).done) (fun _ => rfl) fun _ => rfl,
     givesIf_readable_of_crossRead (execFcvtscE5m2F32 d a b k) (fun e => (e.cvtScTo d a b k.toNat Fmt.e5m2).done) (fun _ => rfl) fun _ => rfl,
     givesIf_readable_of_crossRead (execFcvtscF32E5m2 d a b k) (fun e => (e.cvtScFrom d a b k.toNat Fmt.e5m2).done) (fun _ => rfl) fun _ => rfl⟩

/-- Settles O15: each word always completes; DOT8 reads the codebooks of the engine's holder, and +0 for every other block. -/
theorem packedAndDots : Obligations.PackedAndDots := by
  intro d a b f
  exact
    ⟨-- packed sums, products, minimum and maximum (R106)
     gives_of_completes (execHadd2 d a b f) (fun _ => rfl) fun _ => rfl,
     gives_of_completes (execHsub2 d a b f) (fun _ => rfl) fun _ => rfl,
     gives_of_completes (execHmul2 d a b f) (fun _ => rfl) fun _ => rfl,
     gives_of_completes (execHmin2 d a b f) (fun _ => rfl) fun _ => rfl,
     gives_of_completes (execHmax2 d a b f) (fun _ => rfl) fun _ => rfl,
     -- packed fused products and sums (R107)
     gives_of_completes (execHfma2 d a b f) (fun _ => rfl) fun _ => rfl,
     gives_of_completes (execHfma2Neg d a b f) (fun _ => rfl) fun _ => rfl,
     gives_of_completes (execHfma2Sub d a b f) (fun _ => rfl) fun _ => rfl,
     gives_of_completes (execHfma2Negsub d a b f) (fun _ => rfl) fun _ => rfl,
     -- dot products (R70, R108)
     gives_of_completes (execDot2Bf16 d a b) (fun _ => rfl) fun _ => rfl,
     gives_of_completes (execDot2F16 d a b) (fun _ => rfl) fun _ => rfl,
     gives_of_completes (execDot4E4m3 d a b) (fun _ => rfl) fun _ => rfl,
     gives_of_completes (execDot4E5m2 d a b) (fun _ => rfl) fun _ => rfl,
     givesIf_of (execDot8Cb4 d a b) (fun _ => rfl) (fun _ => rfl) fun _ h => by rw [book_of_holder h, book_of_holder h],
     givesIf_of (execDot8Cb4 d a b) (fun _ => rfl) (fun _ => rfl) fun _ h => by rw [book_of_not_holder h, book_of_not_holder h],
     gives_of_completes (execDot4I8 d a b) (fun _ => rfl) fun _ => rfl,
     gives_of_completes (execDot4N8 d a b) (fun _ => rfl) fun _ => rfl⟩
end

section
/-!
The integer arithmetic of the scalars and of the lanes: what each word writes wherever it issues (O1 to O6, O8 to O10). Every word always completes, so each
clause is the word's own rules, with the value in the terms of the rules where the model computes it otherwise.
-/
open Sys2Proof Sys2Proof.Machine

namespace Sys2Proof.Machine

/-- R73: a word whose own rules write a value to the scalar d and complete gives that write, the value named by an equal one. -/
theorem gives_put32 {i : Instr} {d : BitVec 7} {x y : Env → Word} (m : State → Out) (hexec : ∀ s, exec i s = m s)
    (hrules : ∀ s, m s = issue i.form s fun e => .next (e.put32 d (x e)).done) (hvalue : ∀ e, x e = y e) :
    Gives i fun e => (e.put32 d (y e)).done :=
  gives_of m hexec hrules fun e => by rw [hvalue e]

/-- R75: a word whose own rules write a value per active lane of the vector d and complete gives that write, each lane's value named by an equal one. -/
theorem gives_putV {i : Instr} {d : BitVec 7} {x y : Env → Nat → Word} (m : State → Out) (hexec : ∀ s, exec i s = m s)
    (hrules : ∀ s, m s = issue i.form s fun e => .next (e.putV d e.exec (x e)).done) (hvalue : ∀ e l, x e l = y e l) :
    Gives i fun e => (e.putV d e.exec (y e)).done :=
  gives_of m hexec hrules fun e => by rw [funext (hvalue e)]

/-- R83: a word whose own rules set the condition codes and complete gives those codes, named by equal ones. -/
theorem gives_putCodes {i : Instr} {x y : Env → CondCodes} (m : State → Out) (hexec : ∀ s, exec i s = m s)
    (hrules : ∀ s, m s = issue i.form s fun e => .next (e.putCodes (x e)).done) (hvalue : ∀ e, x e = y e) :
    Gives i fun e => (e.putCodes (y e)).done :=
  gives_of m hexec hrules fun e => by rw [hvalue e]

/-- R78: a word whose own rules give a late scalar result and complete gives that result, named by an equal one. -/
theorem gives_putLateS {i : Instr} {d : BitVec 7} {x y : Env → Word} (m : State → Out) (hexec : ∀ s, exec i s = m s)
    (hrules : ∀ s, m s = issue i.form s fun e => .next (e.putLateS d (x e)).done) (hvalue : ∀ e, x e = y e) :
    Gives i fun e => (e.putLateS d (y e)).done :=
  gives_of m hexec hrules fun e => by rw [hvalue e]

end Sys2Proof.Machine

/-- Settles O1: each word always completes; a shift by 32 or more leaves no bit of a, or its sign. -/
theorem scalarAlu : Obligations.ScalarAlu := by
  intro d a b
  exact
    ⟨-- sums and bitwise operations
     gives_of_completes (execSadd d a b) (fun _ => rfl) fun _ => rfl,
     gives_of_completes (execSsub d a b) (fun _ => rfl) fun _ => rfl,
     gives_of_completes (execSand d a b) (fun _ => rfl) fun _ => rfl,
     gives_of_completes (execSor d a b) (fun _ => rfl) fun _ => rfl,
     gives_of_completes (execSxor d a b) (fun _ => rfl) fun _ => rfl,
     -- shift amounts of 32 and more
     gives_put32 (execSshl d a b) (fun _ => rfl) (fun _ => rfl) fun e => alu_shl (e.s32 a) (e.s32 b),
     gives_put32 (execSshr d a b) (fun _ => rfl) (fun _ => rfl) fun e => alu_shr (e.s32 a) (e.s32 b),
     gives_put32 (execSsar d a b) (fun _ => rfl) (fun _ => rfl) fun e => alu_sar (e.s32 a) (e.s32 b),
     -- minimum, maximum, products and AND NOT
     gives_of_completes (execSmin d a b) (fun _ => rfl) fun _ => rfl,
     gives_of_completes (execSmax d a b) (fun _ => rfl) fun _ => rfl,
     gives_of_completes (execSminn d a b) (fun _ => rfl) fun _ => rfl,
     gives_of_completes (execSmaxn d a b) (fun _ => rfl) fun _ => rfl,
     gives_of_completes (execSmul d a b) (fun _ => rfl) fun _ => rfl,
     gives_of_completes (execSmulh d a b) (fun _ => rfl) fun _ => rfl,
     gives_of_completes (execSmulhn d a b) (fun _ => rfl) fun _ => rfl,
     gives_of_completes (execSandn d a b) (fun _ => rfl) fun _ => rfl⟩

/-- Settles O2: each word always completes; a five-bit amount shifts by itself, and SBREV's mask of bits is the reversal. -/
theorem scalarMoves : Obligations.ScalarMoves := by
  intro d a i n j
  exact
    ⟨-- immediates (R81); a five-bit amount is below 32
     gives_of_completes (execSaddi d a i) (fun _ => rfl) fun _ => rfl,
     gives_of_completes (execSandi d a i) (fun _ => rfl) fun _ => rfl,
     gives_of_completes (execSori d a i) (fun _ => rfl) fun _ => rfl,
     gives_of_completes (execSxori d a i) (fun _ => rfl) fun _ => rfl,
     gives_put32 (execSshlImm d a n) (fun _ => rfl) (fun _ => rfl) fun e => alu_shl_imm (e.s32 a) n,
     gives_put32 (execSshrImm d a n) (fun _ => rfl) (fun _ => rfl) fun e => alu_shr_imm (e.s32 a) n,
     gives_put32 (execSsarImm d a n) (fun _ => rfl) (fun _ => rfl) fun e => alu_sar_imm (e.s32 a) n,
     gives_put32 (execSrot d a n) (fun _ => rfl) (fun _ => rfl) fun e => rotl_eq (e.s32 a) n,
     -- moves of immediates (R82)
     gives_of_completes (execSmovi d j) (fun _ => rfl) fun _ => rfl,
     gives_of_completes (execSmovhi d j) (fun _ => rfl) fun _ => rfl,
     -- one operand (R87), and the exec mask (R261)
     gives_of_completes (execSmov d a) (fun _ => rfl) fun _ => rfl,
     gives_of_completes (execSnot d a) (fun _ => rfl) fun _ => rfl,
     gives_of_completes (execSneg d a) (fun _ => rfl) fun _ => rfl,
     gives_of_completes (execSclz d a) (fun _ => rfl) fun _ => rfl,
     gives_of_completes (execSpopc d a) (fun _ => rfl) fun _ => rfl,
     gives_put32 (execSbrev d a) (fun _ => rfl) (fun _ => rfl) fun e => brev_eq (e.s32 a),
     gives_of_completes (execSsext8 d a) (fun _ => rfl) fun _ => rfl,
     gives_of_completes (execSsext16 d a) (fun _ => rfl) fun _ => rfl,
     gives_of_completes (execMget d) (fun _ => rfl) fun _ => rfl⟩

/-- Settles O3: each word always completes, with the scalar operation of R80 in each active lane. -/
theorem vectorAlu : Obligations.VectorAlu := by
  intro d a b
  exact
    ⟨-- sums and bitwise operations
     gives_of_completes (execVadd d a b) (fun _ => rfl) fun _ => rfl,
     gives_of_completes (execVsub d a b) (fun _ => rfl) fun _ => rfl,
     gives_of_completes (execVand d a b) (fun _ => rfl) fun _ => rfl,
     gives_of_completes (execVor d a b) (fun _ => rfl) fun _ => rfl,
     gives_of_completes (execVxor d a b) (fun _ => rfl) fun _ => rfl,
     -- shift amounts of 32 and more
     gives_putV (execVshl d a b) (fun _ => rfl) (fun _ => rfl) fun e l => alu_shl (e.v32 a l) (e.v32 b l),
     gives_putV (execVshr d a b) (fun _ => rfl) (fun _ => rfl) fun e l => alu_shr (e.v32 a l) (e.v32 b l),
     gives_putV (execVsar d a b) (fun _ => rfl) (fun _ => rfl) fun e l => alu_sar (e.v32 a l) (e.v32 b l),
     -- minimum, maximum, products and AND NOT
     gives_of_completes (execVmin d a b) (fun _ => rfl) fun _ => rfl,
     gives_of_completes (execVmax d a b) (fun _ => rfl) fun _ => rfl,
     gives_of_completes (execVminn d a b) (fun _ => rfl) fun _ => rfl,
     gives_of_completes (execVmaxn d a b) (fun _ => rfl) fun _ => rfl,
     gives_of_completes (execVmul d a b) (fun _ => rfl) fun _ => rfl,
     gives_of_completes (execVmulh d a b) (fun _ => rfl) fun _ => rfl,
     gives_of_completes (execVmulhn d a b) (fun _ => rfl) fun _ => rfl,
     gives_of_completes (execVandn d a b) (fun _ => rfl) fun _ => rfl⟩

/-- Settles O4: each word always completes, with the operation of R80 on each active lane and the scalar. -/
theorem vectorScalarAlu : Obligations.VectorScalarAlu := by
  intro d a b
  exact
    ⟨-- sums and bitwise operations
     gives_of_completes (execVaddS d a b) (fun _ => rfl) fun _ => rfl,
     gives_of_completes (execVsubS d a b) (fun _ => rfl) fun _ => rfl,
     gives_of_completes (execVandS d a b) (fun _ => rfl) fun _ => rfl,
     gives_of_completes (execVorS d a b) (fun _ => rfl) fun _ => rfl,
     gives_of_completes (execVxorS d a b) (fun _ => rfl) fun _ => rfl,
     -- shift amounts of 32 and more
     gives_putV (execVshlS d a b) (fun _ => rfl) (fun _ => rfl) fun e l => alu_shl (e.v32 a l) (e.s32 b),
     gives_putV (execVshrS d a b) (fun _ => rfl) (fun _ => rfl) fun e l => alu_shr (e.v32 a l) (e.s32 b),
     gives_putV (execVsarS d a b) (fun _ => rfl) (fun _ => rfl) fun e l => alu_sar (e.v32 a l) (e.s32 b),
     -- minimum, maximum, products and AND NOT
     gives_of_completes (execVminS d a b) (fun _ => rfl) fun _ => rfl,
     gives_of_completes (execVmaxS d a b) (fun _ => rfl) fun _ => rfl,
     gives_of_completes (execVminnS d a b) (fun _ => rfl) fun _ => rfl,
     gives_of_completes (execVmaxnS d a b) (fun _ => rfl) fun _ => rfl,
     gives_of_completes (execVmulS d a b) (fun _ => rfl) fun _ => rfl,
     gives_of_completes (execVmulhS d a b) (fun _ => rfl) fun _ => rfl,
     gives_of_completes (execVmulhnS d a b) (fun _ => rfl) fun _ => rfl,
     gives_of_completes (execVandnS d a b) (fun _ => rfl) fun _ => rfl⟩

/-- Settles O5: each word always completes; the zero extensions, which the model computes by a mask, are the low byte and half. -/
theorem vectorMoves : Obligations.VectorMoves := by
  intro d a i n j
  exact
    ⟨-- immediates (R90); a five-bit amount is below 32
     gives_of_completes (execVaddi d a i) (fun _ => rfl) fun _ => rfl,
     gives_of_completes (execVandi d a i) (fun _ => rfl) fun _ => rfl,
     gives_of_completes (execVori d a i) (fun _ => rfl) fun _ => rfl,
     gives_of_completes (execVxori d a i) (fun _ => rfl) fun _ => rfl,
     gives_putV (execVshlImm d a n) (fun _ => rfl) (fun _ => rfl) fun e l => alu_shl_imm (e.v32 a l) n,
     gives_putV (execVshrImm d a n) (fun _ => rfl) (fun _ => rfl) fun e l => alu_shr_imm (e.v32 a l) n,
     gives_putV (execVsarImm d a n) (fun _ => rfl) (fun _ => rfl) fun e l => alu_sar_imm (e.v32 a l) n,
     gives_putV (execVrot d a n) (fun _ => rfl) (fun _ => rfl) fun e l => rotl_eq (e.v32 a l) n,
     gives_of_completes (execVmovi d j) (fun _ => rfl) fun _ => rfl,
     -- one operand (R94)
     gives_of_completes (execVmov d a) (fun _ => rfl) fun _ => rfl,
     gives_of_completes (execVnot d a) (fun _ => rfl) fun _ => rfl,
     gives_of_completes (execVneg d a) (fun _ => rfl) fun _ => rfl,
     gives_of_completes (execVabs d a) (fun _ => rfl) fun _ => rfl,
     gives_of_completes (execVclz d a) (fun _ => rfl) fun _ => rfl,
     gives_of_completes (execVpopc d a) (fun _ => rfl) fun _ => rfl,
     gives_putV (execVbrev d a) (fun _ => rfl) (fun _ => rfl) fun e l => brev_eq (e.v32 a l),
     gives_of_completes (execVsext8 d a) (fun _ => rfl) fun _ => rfl,
     gives_of_completes (execVsext16 d a) (fun _ => rfl) fun _ => rfl,
     gives_putV (execVzext8 d a) (fun _ => rfl) (fun _ => rfl) fun e l => low8_eq (e.v32 a l),
     gives_putV (execVzext16 d a) (fun _ => rfl) (fun _ => rfl) fun e l => low16_eq (e.v32 a l),
     gives_of_completes (execVlane d) (fun _ => rfl) fun _ => rfl,
     -- class masks (R109) and FMOVI (R37)
     gives_of_completes (execFclass d a) (fun _ => rfl) fun _ => rfl,
     gives_of_completes (execFmovi d j) (fun _ => rfl) fun _ => rfl⟩

/-- Settles O6: each word always completes; greater is less with the operands exchanged. -/
theorem vectorCompares : Obligations.VectorCompares := by
  intro d a b
  exact
    ⟨-- equality
     gives_of_completes (execVcmpEq d a b) (fun _ => rfl) fun _ => rfl,
     gives_of_completes (execVcmpsEq d a b) (fun _ => rfl) fun _ => rfl,
     gives_of_completes (execVcmpNe d a b) (fun _ => rfl) fun _ => rfl,
     gives_of_completes (execVcmpsNe d a b) (fun _ => rfl) fun _ => rfl,
     -- order by signed values
     gives_of_completes (execVcmpLt d a b) (fun _ => rfl) fun _ => rfl,
     gives_of_completes (execVcmpsLt d a b) (fun _ => rfl) fun _ => rfl,
     gives_of_completes (execVcmpLe d a b) (fun _ => rfl) fun _ => rfl,
     gives_of_completes (execVcmpsLe d a b) (fun _ => rfl) fun _ => rfl,
     gives_of_completes (execVcmpGt d a b) (fun _ => rfl) fun _ => rfl,
     gives_of_completes (execVcmpsGt d a b) (fun _ => rfl) fun _ => rfl,
     gives_of_completes (execVcmpGe d a b) (fun _ => rfl) fun _ => rfl,
     gives_of_completes (execVcmpsGe d a b) (fun _ => rfl) fun _ => rfl,
     -- order by unsigned values
     gives_of_completes (execVcmpLtn d a b) (fun _ => rfl) fun _ => rfl,
     gives_of_completes (execVcmpsLtn d a b) (fun _ => rfl) fun _ => rfl,
     gives_of_completes (execVcmpLen d a b) (fun _ => rfl) fun _ => rfl,
     gives_of_completes (execVcmpsLen d a b) (fun _ => rfl) fun _ => rfl,
     gives_of_completes (execVcmpGtn d a b) (fun _ => rfl) fun _ => rfl,
     gives_of_completes (execVcmpsGtn d a b) (fun _ => rfl) fun _ => rfl,
     gives_of_completes (execVcmpGen d a b) (fun _ => rfl) fun _ => rfl,
     gives_of_completes (execVcmpsGen d a b) (fun _ => rfl) fun _ => rfl⟩

/-- Settles O8: each word always completes; bit 31 of the difference is its sign, and the form of SADDP says whether b is a pair. -/
theorem scalarComparesAndPairs : Obligations.ScalarComparesAndPairs := by
  intro d a b i w c
  exact
    ⟨-- compares (R83)
     gives_putCodes (execScmp a b) (fun _ => rfl) (fun _ => rfl) fun e => compareSigned_eq (e.s32 a) (e.s32 b),
     gives_of_completes (execScmpN a b) (fun _ => rfl) fun _ => rfl,
     gives_putCodes (execScmpi a i) (fun _ => rfl) (fun _ => rfl) fun e => compareSigned_eq (e.s32 a) (immS i),
     gives_of_completes (execScmpiN a i) (fun _ => rfl) fun _ => rfl,
     -- pairs (R85) and the selection by a condition (R84, R86)
     gives_of_completes (execSaddp d a b 0#1 w) (fun _ => rfl) fun _ => rfl,
     gives_of_completes (execSaddp d a b 1#1 w) (fun _ => rfl) fun _ => rfl,
     gives_of_completes (execSsel d a b c) (fun _ => rfl) fun _ => rfl⟩

/-- Settles O9: each word always completes with a late result; the unsigned quotients and remainders are those of the words themselves. -/
theorem scalarDivisions : Obligations.ScalarDivisions := by
  intro d a b
  exact
    ⟨gives_of_completes (execSdivi d a b) (fun _ => rfl) fun _ => rfl,
     gives_putLateS (execSdivn d a b) (fun _ => rfl) (fun _ => rfl) fun e => sdivn_eq (e.s32 a) (e.s32 b),
     gives_of_completes (execSremi d a b) (fun _ => rfl) fun _ => rfl,
     gives_putLateS (execSremn d a b) (fun _ => rfl) (fun _ => rfl) fun e => sremn_eq (e.s32 a) (e.s32 b)⟩

/-- Settles O10: each word always completes; the sum with d of an exact product, taken modulo 2^32, is the sum of words. -/
theorem vectorWide : Obligations.VectorWide := by
  intro d a b w
  exact
    ⟨-- multiply-add (R91)
     gives_putV (execMadloI32 d a b) (fun _ => rfl) (fun _ => rfl) fun e l => madLo_signed (e.v32 a l) (e.v32 b l) (e.v32 d l),
     gives_putV (execMadhiI32 d a b) (fun _ => rfl) (fun _ => rfl) fun e l => madHi_signed (e.v32 a l) (e.v32 b l) (e.v32 d l),
     gives_putV (execMadloN32 d a b) (fun _ => rfl) (fun _ => rfl) fun e l => madLo_unsigned (e.v32 a l) (e.v32 b l) (e.v32 d l),
     gives_putV (execMadhiN32 d a b) (fun _ => rfl) (fun _ => rfl) fun e l => madHi_unsigned (e.v32 a l) (e.v32 b l) (e.v32 d l),
     -- bit fields (R95)
     gives_of_completes (execVbfeN d a b) (fun _ => rfl) fun _ => rfl,
     gives_of_completes (execVbfeI d a b) (fun _ => rfl) fun _ => rfl,
     gives_putV (execVbfi d a b) (fun _ => rfl) (fun _ => rfl) fun e l => vbfi_eq (e.v32 d l) (e.v32 a l) (e.v32 b l),
     -- lane addresses (R96) and random words (R97)
     gives_of_completes (execVleaN d a b w) (fun _ => rfl) fun _ => rfl,
     gives_of_completes (execVleaI d a b w) (fun _ => rfl) fun _ => rfl,
     gives_of_completes (execVrand d a b w) (fun _ => rfl) fun _ => rfl⟩

end

section
/-!
What a stream waits for, or takes, without a word of its own (O35): each step with its condition met does what its rule names.
-/
open Sys2Proof Sys2Proof.Machine

namespace Sys2Proof.Machine

/-- R293, R294: the oldest waiting request of a core is granted once enough blocks are free. -/
theorem execVregGrant_fits {s : State} {core : Nat} {r : BlockReq} {rest : List BlockReq} (hqueue : (s.core core).vacq = r :: rest)
    (hfits : r.n ≤ (s.core core).freeBlocks.length) :
    execVregGrant core s = .next (((s.setCore core { s.core core with vacq := rest }).grantBlocks r.wave r.n).finishWord r.wave r.cs
      (((s.wave? r.wave).bind fun w => w.whichWait r.cs fun x => match x with | .grant _ => true | _ => false).getD false) id) := by
  unfold execVregGrant
  dsimp only
  rw [hqueue]
  exact if_pos hfits

/-- R78: a long-latency result that is still to come is written. -/
theorem execLongLatencyWrite_pending {s : State} {wave i : Nat} {w : Wave} {l : Late} (hwave : s.wave? wave = some w)
    (hlate : w.late.find? (fun x => x.id == i && !x.engine && !x.done) = some l) :
    execLongLatencyWrite wave i s = .next (s.writeLate wave w l) := by
  simp only [execLongLatencyWrite, hwave, hlate]

/-- R417: the oldest deferred trap of a wave that is ready for it, and whose task is not aborting, is taken. -/
theorem takeDeferred_ready {s : State} {wave : Nat} {w : Wave} {d : Deferred} {rest : List Deferred} (hwave : s.wave? wave = some w)
    (hdeferred : w.deferred = d :: rest) (hready : w.deferredReady = true) (haborts : tabGet? s.aborts w.task = none) :
    s.takeDeferred wave =
      ((s.dropBarred wave d.op).updWave wave fun v => { v with deferred := rest }).takeTrap wave d.cs d.slot d.pc d.code d.addr d.lanes 2 := by
  simp [State.takeDeferred, hwave, hdeferred, hready, haborts]

/-- R306: a stream that sleeps to a tick wakes once the GTC has reached it. -/
theorem execSleepWake_due {s : State} {wave : Nat} {cs x : Bool} {w : Wave} {t : DWord} (hwave : s.wave? wave = some w)
    (hdue : t.toNat ≤ s.gtc.toNat) (hwaits : ∀ f : WaitFor → Bool, f (.sleep t) = true → w.whichWait cs f = some x) :
    execSleepWake wave cs s = .next (s.finishWord wave cs x id) := by
  simp only [execSleepWake, hwave]
  rw [hwaits _ (decide_eq_true hdue)]

/-- R284: a stream that has been ready for 256 cycles at a clause boundary, with a split to pick, ages. -/
theorem streamAge_due {s : State} {wave : Nat} {cs : Bool} {w : Wave} {t : DWord} (hwave : s.wave? wave = some w)
    (hsince : (w.stream cs).readySince = some t) (hyoung : (w.stream cs).aged = false) (hdue : t.toNat + 256 ≤ s.cycle)
    (hboundary : s.atBoundary w cs = true) (hsplit : (s.pickSplit wave cs w).isSome = true) :
    s.streamAge wave cs = ((s.updPort (coreOf wave) (portOf wave) fun p => { p with aged := p.aged ++ [(wave, cs)] }).setWave wave
      (w.updStream cs fun st => { st with aged := true })).count (srcCore (coreOf wave)) 0x108 := by
  have hsome : (s.pickSplit wave cs w).isNone = false := by simpa using hsplit
  simp only [State.streamAge, hwave, hsince]
  simp [hyoung, Nat.not_lt.2 hdue, hboundary, hsome]

end Sys2Proof.Machine

/-- Settles O35: each of the five steps, its condition met, gives the state that its rule names. -/
theorem streamEvents : Obligations.StreamEvents := by
  refine ⟨?grant, ?late, ?deferred, ?sleep, ?age⟩
  case grant =>
    rintro core r rest s ⟨hqueue, hfits⟩
    exact execVregGrant_fits hqueue hfits
  case late =>
    rintro wave i w l s ⟨hwave, hlate⟩
    exact execLongLatencyWrite_pending hwave hlate
  case deferred =>
    rintro wave w d rest s ⟨hwave, hdeferred, hready, -, haborts⟩
    exact congrArg Host.Outcome.next (takeDeferred_ready hwave hdeferred hready haborts)
  case sleep =>
    rintro wave cs w t x s ⟨hwave, hdue, hwaits⟩
    exact execSleepWake_due hwave hdue hwaits
  case age =>
    rintro wave cs w t s ⟨hwave, hsince, hyoung, hdue, hboundary, hsplit⟩
    exact congrArg Host.Outcome.next (streamAge_due hwave hsince hyoung hdue hboundary hsplit)
end

section
/-!
The matrix engine: what its words put into the engine queue, and the steps that start, run and complete the entries (O33, O34, O39).
-/
open Sys2Proof Sys2Proof.Machine

namespace Sys2Proof.Machine

/-! ## Words that enter the engine queue -/

/-- R118: where the engine is free, a word that only enters the queue completes with its entry there. -/
theorem enqueue_done {e : Env} (hfree : e.engineFree) (op : EngineOp) (reads writes : List (Nat × Nat)) (elems : List Nat) (book : Option Nat)
    (vreads vwrites : List (Nat × Nat)) :
    e.enqueue op false reads writes elems book (fun e _ => .next e.done) vreads vwrites =
      .next (e.entered op reads writes elems book vreads vwrites).done :=
  enqueue_ok hfree.2 op reads writes elems book _ vreads vwrites

/-- R118: entering the queue leaves the word in its stream … -/
theorem entered_cs (e : Env) (op : EngineOp) (reads writes : List (Nat × Nat)) (elems : List Nat) (book : Option Nat) (vreads vwrites : List (Nat × Nat)) :
    (e.entered op reads writes elems book vreads vwrites).cs = e.cs := by
  unfold Env.entered
  dsimp only
  split_ifs <;> rfl

/-- … and in its clause. -/
theorem entered_cl (e : Env) (op : EngineOp) (reads writes : List (Nat × Nat)) (elems : List Nat) (book : Option Nat) (vreads vwrites : List (Nat × Nat)) :
    (e.entered op reads writes elems book vreads vwrites).cl = e.cl := by
  unfold Env.entered
  dsimp only
  split_ifs <;> rfl

/-- R133, R134: a word whose own rules are those of MLOOP enters its loop, or traps on its descriptor. -/
theorem loops_of_mloop {i : Instr} {fmt minor : Nat} {d a b : BitVec 7} (m : State → Out) (hexec : ∀ s, exec i s = m s)
    (hrules : ∀ s, m s = issue i.form s fun e => e.mloop fmt minor d a b) : Loops i fmt minor d a b := by
  refine ⟨fun s e r hissues hclaim hfree hdesc hgang hrecord => exec_of_issues m hissues hexec hrules ?enters,
    trapsIf_of m hexec hrules fun e h => ?traps⟩
  case enters =>
    have hquad : (mxQuad minor && !e.s.gangOfFour e.w.block) = false := by
      cases hq : mxQuad minor with
      | false => rfl
      | true => simp [hgang hq]
    calc e.mloop fmt minor d a b
      _ = _ := claimed_ok hclaim _
      _ = _ := if_neg (by simp [hdesc])
      _ = _ := if_neg (by simp [hquad])
      _ = _ := mxRecord_ok hrecord _
      _ = _ := enqueue_done hfree ..
  case traps =>
    obtain ⟨hclaim, hdesc⟩ := h
    exact (claimed_ok hclaim _).trans (if_pos (by simp [hdesc]))

/-- R141, R142: a word whose own rules are those of MDRAIN enters its drain. -/
theorem drains_of_mdrain {i : Instr} {kind : Nat} {d a : BitVec 7} {clr : Bool} (m : State → Out) (hexec : ∀ s, exec i s = m s)
    (hrules : ∀ s, m s = issue i.form s fun e => e.mdrain kind d a clr) : Drains i kind d a clr := by
  intro s e e' r hissues hgate hclaim hfree hdesc hrecord
  refine exec_of_issues m hissues hexec hrules ?_
  calc e.mdrain kind d a clr
    _ = _ := memGate_gated hgate _
    _ = _ := claimed_ok hclaim _
    _ = _ := if_neg (by simp [hdesc])
    _ = _ := mxRecord_ok hrecord _
    _ = _ := enqueue_done hfree ..

/-- R138: MZERO enters its entry. -/
theorem mzero_enters {e : Env} {d : BitVec 7} (hfree : e.engineFree) (hdesc : descOk (e.s32 d) none = true) :
    e.mzero d = .next (e.entered (.zero (e.s32 d)) [] [] (tileElems (e.s32 d)) none).done :=
  calc e.mzero d
    _ = _ := claimed_ok hfree.1 _
    _ = _ := if_neg (by simp [hdesc])
    _ = _ := enqueue_done hfree ..

/-- R117, R138: MZERO traps on an illegal descriptor. -/
theorem mzero_badDesc {e : Env} {d : BitVec 7} (hclaim : e.mayClaim = true) (hdesc : descOk (e.s32 d) none = false) :
    e.mzero d = e.trap cMxAccRange 0#64 :=
  (claimed_ok hclaim _).trans (if_pos (by simp [hdesc]))

/-- R139: MCB enters its entry where its address translates at once. -/
theorem mcb_enters {e e' : Env} {slot : Nat} {a : BitVec 7} {key kind : Nat} {s' : State} (hgate : e.gated .load false = some e')
    (hfree : e'.engineFree) (haligned : (e'.s64 a).toNat % 32 = 0)
    (hresolve : e'.s.resolve (e'.s.waveAsker e'.key e'.cs e'.w) .load 99 (e'.s64 a).toNat = (.ok (.mem key) kind false, s'))
    (hfree' : (({ e' with s := s' } : Env).readsDone).engineFree) :
    e.mcb slot a =
      .next (({ e' with s := s' } : Env).readsDone.entered (.mcb slot (e'.s64 a) (.mem key) kind false) [(key, 32)] [] [] (some slot)).done := by
  unfold Env.mcb
  rw [memGate_gated hgate, claimed_ok hfree.1]
  dsimp only
  rw [if_neg (not_not.2 haligned), if_neg (Nat.not_le.2 hfree.2), hresolve]
  exact enqueue_done hfree' ..

/-- R140: MSTAT enters its entry, and its destination waits for the engine. -/
theorem mstat_enters {e : Env} {d : BitVec 7} {w : Nat} {clr : Bool} (hfree : e.engineFree) :
    e.mstat d w clr = .next (
      let e' := { e with s := e.s.newId.2 }.entered (.mstat e.s.nextId w clr) [] [] [] none
      { e' with w := { e'.w.clobber (.scalar e.cs d.toNat) 1#32 with late := e'.w.late ++
        [({ id := e.s.nextId, cs := e.cs, dest := .scalar e.cs d.toNat, mask := 1#32, vals := Lanes.zero, clob := 0#32, fp := 0#32, flag := e.cl.sety,
            engine := true, done := false, pick := 0#32 } : Late)] } }.done) := by
  have hroom : (({ e with s := e.s.newId.2 } : Env).s.engine e.core).queue.length < 8 := hfree.2
  unfold Env.mstat
  rw [claimed_ok hfree.1]
  refine (enqueue_ok hroom ..).trans ?_
  simp only [entered_cs, entered_cl]

/-- R146: MSAVE and MRESTORE, an aligned image named, enter their entry. -/
theorem mimage_enters {e e' : Env} {a : BitVec 7} {op : DWord → EngineOp} (hgate : e.gated .load false = some e') (hfree : e'.engineFree)
    (haligned : (e'.s64 a).toNat % 1024 = 0) : e.mimage a op = .next (e'.entered (op (e'.s64 a)) [] [] [] none).done :=
  calc e.mimage a op
    _ = _ := memGate_gated hgate _
    _ = _ := claimed_ok hfree.1 _
    _ = _ := if_neg (not_not.2 haligned)
    _ = _ := enqueue_done hfree ..

/-- R146: a word whose own rules are those of MSAVE and MRESTORE enters its entry. -/
theorem gatedGives_of_mimage {i : Instr} {a : BitVec 7} {op : DWord → EngineOp} (m : State → Out) (hexec : ∀ s, exec i s = m s)
    (hrules : ∀ s, m s = issue i.form s fun e => e.mimage a op) :
    GatedGives i .load false (fun e => e.engineFree ∧ (e.s64 a).toNat % 1024 = 0) fun e => (e.entered (op (e.s64 a)) [] [] [] none).done :=
  fun _ _ _ hissues hgate ⟨hfree, haligned⟩ => exec_of_issues m hissues hexec hrules (mimage_enters hgate hfree haligned)

/-! ## Steps of the engine -/

/-- R115: a free engine goes to the block that has waited longest. -/
theorem execMatrixClaimPass_free {s : State} {core b : Nat} {rest : List Nat} (hfree : (s.engine core).holder = none)
    (hclaim : (s.engine core).claim = b :: rest) :
    execMatrixClaimPass core s = .next (s.setEngine core { s.engine core with holder := some b, claim := rest }) := by
  unfold execMatrixClaimPass
  dsimp only
  rw [hfree, hclaim]

section
variable {s s' : State} {core : Nat} {x : EngineEntry} {rest : List EngineEntry} (hqueue : (s.engine core).queue = x :: rest)
include hqueue

/-- R412: a head that is found poisoned leaves the queue unrun. -/
theorem execEngineEntryStart_poisoned (hfound : s.headFound core = (true, s')) : execEngineEntryStart core s = .next s' := by
  unfold execEngineEntryStart
  simp [hqueue, hfound]

/-- R118: a sound head whose turn it is starts, where no save stops loops ahead of it. -/
theorem execEngineEntryStart_ready (hfound : s.headFound core = (false, s')) (hstarted : x.started = false) (hheld : x.held = false)
    (hafter : s'.settled x.after) (hsave : savePoint (s'.engine core).queue = none) :
    execEngineEntryStart core s = .next (s'.startEntry core x) := by
  have hperformed : (x.after.any fun i => s'.unperformed i) = false := List.any_eq_false.2 fun i hi => by simp [hafter i hi]
  unfold execEngineEntryStart
  simp [hqueue, hfound, hsave, hstarted, hheld, hperformed]

/-- R119: a started head completes. -/
theorem execEngineEntryComplete_started (hstarted : x.started = true) : execEngineEntryComplete core s = .next (s.completeEntry core x) := by
  simp only [execEngineEntryComplete, hqueue, hstarted, if_true]

section
variable {clr : Bool} {d : Word} {r : List Byte} (hop : x.op = .drain 4 clr d r) (hstarted : x.started = true) (hphase : x.phase = 0)
include hop hstarted hphase

/-- R143: a drain whose ticket word holds its turn sends its elements. -/
theorem execDrainTicketRead_turn {a : Access} {fs : List Access} {v : List Byte} (hflight : s.engineFlight x = a :: fs) (hread : a.st = .performed v)
    (hturn : bytesToNat v = drainTval r) : execDrainTicketRead core s = .next ((s.dropAccess a.id).drainElems core x 4 clr d r) := by
  unfold execDrainTicketRead
  simp [hqueue, hop, hstarted, hphase, hflight, hread, hturn]

/-- R143: a drain with no read of its ticket word in flight reads it. -/
theorem execDrainTicketRead_asks {p : Place × Nat × Bool} (hflight : s.engineFlight x = []) (hplace : x.places.getLast? = some p) :
    execDrainTicketRead core s = .next (s.engineSend core x (.load 8 false []) (drainTicket r) p (drainScope r)) := by
  unfold execDrainTicketRead
  simp [hqueue, hop, hstarted, hphase, hflight, hplace]

end

/-- R135: a K-step of a loop that runs with no other core ends. -/
theorem execMloopKstepEnd_alone {l : LoopRec} {idx : Option (List Nat)} (halone : s.mxPartners core = [core]) (hop : x.op = .loop l idx) :
    execMloopKstepEnd core s = .next ((s.mxStep core).stopHere core) := by
  unfold execMloopKstepEnd
  simp [halone, hqueue, hop]

end

end Sys2Proof.Machine

/-- Settles O33: the seven formats share the rules of MLOOP and differ in their format number and in whether their scale bit is fixed. -/
theorem matrixLoops : Obligations.MatrixLoops := by
  intro d a b z c q g
  exact
    ⟨loops_of_mloop (execMloopBf16 d a b z q g) (fun _ => rfl) fun _ => rfl,
     loops_of_mloop (execMloopF16 d a b z q g) (fun _ => rfl) fun _ => rfl,
     loops_of_mloop (execMloopE4m3 d a b z c q g) (fun _ => rfl) fun _ => rfl,
     loops_of_mloop (execMloopE5m2 d a b z c q g) (fun _ => rfl) fun _ => rfl,
     loops_of_mloop (execMloopI8 d a b z q g) (fun _ => rfl) fun _ => rfl,
     loops_of_mloop (execMloopCb4 d a b z c q g) (fun _ => rfl) fun _ => rfl,
     loops_of_mloop (execMloopCb4bf d a b z c q g) (fun _ => rfl) fun _ => rfl⟩

/-- Settles O34: past its gate and the claim, each word enters the queue. -/
theorem matrixWords : Obligations.MatrixWords := by
  intro d a n w c
  exact
    ⟨-- MZERO (R138)
     givesIf_of (execMzero d) (fun _ => rfl) (fun _ => rfl) fun _ ⟨hfree, hdesc⟩ => mzero_enters hfree hdesc,
     trapsIf_of (execMzero d) (fun _ => rfl) (fun _ => rfl) fun _ ⟨hclaim, hdesc⟩ => mzero_badDesc hclaim hdesc,
     -- MCB (R139) and MSTAT (R140)
     fun _ _ _ _ _ _ hissues hgate hfree haligned hresolve hfree' => exec_of_issues (execMcb n a) hissues (fun _ => rfl) (fun _ => rfl)
       (mcb_enters hgate hfree haligned hresolve hfree'),
     givesIf_of (execMstat d w c) (fun _ => rfl) (fun _ => rfl) fun _ hfree => mstat_enters hfree,
     -- MDRAIN (R142, R143)
     drains_of_mdrain (execMdrainStoreF32 d a c) (fun _ => rfl) fun _ => rfl,
     drains_of_mdrain (execMdrainStoreBf16 d a c) (fun _ => rfl) fun _ => rfl,
     drains_of_mdrain (execMdrainStoreE4m3 d a c) (fun _ => rfl) fun _ => rfl,
     drains_of_mdrain (execMdrainAddF32 d a c) (fun _ => rfl) fun _ => rfl,
     drains_of_mdrain (execMdrainAddOrdered d a c) (fun _ => rfl) fun _ => rfl,
     -- MSAVE and MRESTORE (R146)
     gatedGives_of_mimage (op := fun va => .save va none) (execMsave a) (fun _ => rfl) fun _ => rfl,
     gatedGives_of_mimage (op := .restore) (execMrestore a) (fun _ => rfl) fun _ => rfl⟩

/-- Settles O39: each of the engine's steps, its condition met, gives the state that its rule names. -/
theorem matrixEvents : Obligations.MatrixEvents := by
  refine ⟨?claim, ?start, ?poisoned, ?complete, ?turn, ?asks, ?kstep⟩
  case claim =>
    rintro core b rest s ⟨hfree, hclaim⟩
    exact execMatrixClaimPass_free hfree hclaim
  case start =>
    rintro core x rest s' s ⟨hqueue, hstarted, hheld, hfound, hafter, hsave⟩
    exact execEngineEntryStart_ready hqueue hfound hstarted hheld hafter hsave
  case poisoned =>
    rintro core x rest s' s ⟨hqueue, hfound⟩
    exact execEngineEntryStart_poisoned hqueue hfound
  case complete =>
    rintro core x rest s ⟨hqueue, hstarted⟩
    exact execEngineEntryComplete_started hqueue hstarted
  case turn =>
    rintro core x rest clr d r a fs v s ⟨hqueue, hop, hstarted, hphase, hflight, hread, hturn⟩
    exact execDrainTicketRead_turn hqueue hop hstarted hphase hflight hread hturn
  case asks =>
    rintro core x rest clr d r p s ⟨hqueue, hop, hstarted, hphase, hflight, hplace⟩
    exact execDrainTicketRead_asks hqueue hop hstarted hphase hflight hplace
  case kstep =>
    rintro core x rest l z s ⟨halone, hqueue, hop⟩
    exact execMloopKstepEnd_alone hqueue halone hop
end

section
/-!
An access in flight at its home unit (R204), its landing (R195), its end with an error (R197), and the retry of the writes that wait for spill space (R160):
each step with its condition met does what its rule names (O36).
-/
open Sys2Proof Sys2Proof.Machine

namespace Sys2Proof.Machine

/-- Accesses that are settled hold nothing back. -/
theorem any_unperformed_of_settled {s : State} {ids : List Nat} (h : s.settled ids) : (ids.any fun i => s.unperformed i) = false :=
  List.any_eq_false.2 fun i hi => by simp [h i hi]

/-- R185, R204: no lane of a run is held back once all that its lanes must follow has been performed. -/
theorem any_after_unperformed_of_settled {s : State} {ms : List Access} (h : ∀ x ∈ ms, s.settled x.after) :
    (ms.any fun b => b.after.any fun i => s.unperformed i) = false :=
  List.any_eq_false.2 fun x hx => by simp [any_unperformed_of_settled (h x hx)]

/-- R200: a load goes alone … -/
theorem mates_load {s : State} {a : Access} {n : Nat} {signed : Bool} {ds : List LateDest} (h : a.kind = .load n signed ds) : s.mates a = [a] := by
  unfold State.mates
  rw [h]

/-- … and so does a store. -/
theorem mates_store {s : State} {a : Access} {data : List Byte} {rel : Bool} (h : a.kind = .store data rel) : s.mates a = [a] := by
  unfold State.mates
  rw [h]

section
variable {s : State} {i key : Nat} {a : Access} (hfind : s.flight.find? (fun a => a.id == i) = some a) (hwaiting : a.st = .waiting)
  (hsent : a.sent = none) (hplace : a.place = .mem key)
include hfind hwaiting hsent hplace

/-- R204: a local load that follows nothing open is performed. -/
theorem perform_load {n : Nat} {signed : Bool} {ds : List LateDest} (hafter : s.settled a.after) (hkind : a.kind = .load n signed ds) :
    s.perform i = (s.applyAccess a key).heldPrune := by
  have hgoes : ([a].any fun b => b.after.any fun i => s.unperformed i) = false :=
    any_after_unperformed_of_settled (by simpa using hafter)
  unfold State.perform
  simp only [hfind, mates_load hkind, hwaiting, hsent, hgoes, hplace]
  simp [hkind]

/-- R172, R185, R204: a local store that follows nothing open, and, as a release, no failed access, is performed in its turn of the cycle. -/
theorem perform_store {data : List Byte} {rel : Bool} (hafter : s.settled a.after) (hkind : a.kind = .store data rel)
    (hrelease : rel = true → s.barred a.wave a.op = false) (hturn : s.writeLateIn key (srcCore a.core) = false) :
    s.perform i = ((s.applyAccess a key).writeServed key (srcCore a.core)).heldPrune := by
  have hgoes : ([a].any fun b => b.after.any fun i => s.unperformed i) = false :=
    any_after_unperformed_of_settled (by simpa using hafter)
  unfold State.perform
  simp only [hfind, mates_store hkind, hwaiting, hsent, hgoes, hplace]
  cases rel with
  | false => simp [hkind, hturn]
  | true => simp [hkind, hturn, hrelease rfl]

/-- R172, R200, R204: the lanes of a local atomic on one word, none of which follows anything open, are performed as one run in their turn of the cycle. -/
theorem perform_atomic {m : Nat} {b : DWord} {v : Word} {ds : List LateDest} (hafter : ∀ x ∈ s.mates a, s.settled x.after)
    (hkind : a.kind = .atomic m b v ds) (hturn : s.writeLateIn key (srcCore a.core) = false) :
    s.perform i = ((s.applyGroup a (s.mates a) key).writeServed key (srcCore a.core)).heldPrune := by
  have hgoes : ((s.mates a).any fun b => b.after.any fun i => s.unperformed i) = false := any_after_unperformed_of_settled hafter
  unfold State.perform
  simp only [hfind, hwaiting, hsent, hgoes, hplace]
  simp [hkind, hturn]

end

/-- R79, R126: the vector elements that a landing lane of `a` writes are noted at its core. -/
def State.wroteDests (s : State) (a : Access) (w : Wave) (ds : List LateDest) : State :=
  ds.foldl (fun (s : State) d => match d with
    | .vec p => s.wroteVec a.core w p (BitVec.ofNat 32 (2 ^ a.lane))
    | .scalar _ _ => s) s

/-- R195: a performed lane of a wave writes its destinations, and its instruction lands with its last lane. -/
theorem execLoadLand_performed {s : State} {i : Nat} {a : Access} {v : List Byte} {w : Wave}
    (hfind : s.flight.find? (fun a => a.id == i) = some a) (hperformed : a.st = .performed v) (hwave : byEngine a.wave = false)
    (hw : s.wave? a.wave = some w) :
    execLoadLand i s = .next (
      let s := s.wroteDests a w a.kind.dests
      (((s.dropAccess i).updWave a.wave fun w => w.landLane s.free s.cycle a.op a.lane a.kind.dests (landWords a.kind v)).landCheck
        a.wave a.op).reap a.wave) := by
  simp only [execLoadLand, hfind, hperformed, hwave, hw]
  rfl

/-- R197: a failed lane of a wave outside a batch ends, and its wave takes a deferred trap. -/
theorem execLoadError_failed {s : State} {i : Nat} {a : Access} {c : Nat} {w : Wave} (hfind : s.flight.find? (fun a => a.id == i) = some a)
    (hfailed : a.st = .failed c) (hengine : byEngine a.wave = false)
    (hw : (((s.dropAccess i).deferTrap a c).updWave a.wave fun w => w.endCross a.lane a.kind.dests).wave? a.wave = some w) (hbatch : w.batch = none) :
    execLoadError i s = .next ((((s.dropAccess i).deferTrap a c).updWave a.wave fun w => w.endCross a.lane a.kind.dests).reap a.wave) := by
  simp [execLoadError, hfind, hfailed, hengine, hw, hbatch]

/-- R160: freed spill space tries the only waiting write of its controller again … -/
theorem execSpillFreed_single {s : State} {mc : Nat} {x : SpillWait} (hwaits : s.spillWait = [x]) (hmc : mcOf x.key = mc) :
    execSpillFreed mc s = .next (s.perform x.id) := by
  simp [execSpillFreed, hwaits, hmc]

/-- … and changes nothing where no write waits at the controller. -/
theorem execSpillFreed_none {s : State} {mc : Nat} (hnone : ∀ x ∈ s.spillWait, mcOf x.key ≠ mc) : execSpillFreed mc s = .next s :=
  congrArg Host.Outcome.next <| List.foldlRecOn s.spillWait _ (motive := fun t => t = s) rfl fun _ ht x hx => by rw [if_neg (hnone x hx), ht]

end Sys2Proof.Machine

/-- Settles O36: an access whose condition is met is performed, lands or ends; freed spill space tries the writes of its own controller. -/
theorem memoryEvents : Obligations.MemoryEvents := by
  refine ⟨?load, ?store, ?atomic, ?land, ?error, ?retry, ?idle⟩
  case load =>
    rintro i a key n signed ds s ⟨hfind, hwaiting, hsent, hafter, hplace, hkind⟩
    exact congrArg Host.Outcome.next (perform_load hfind hwaiting hsent hplace hafter hkind)
  case store =>
    rintro i a key data rel s ⟨hfind, hwaiting, hsent, hafter, hplace, hkind, hrelease, hturn⟩
    exact congrArg Host.Outcome.next (perform_store hfind hwaiting hsent hplace hafter hkind hrelease hturn)
  case atomic =>
    rintro i a key m b v ds s ⟨hfind, hwaiting, hsent, hafter, hplace, hkind, hturn⟩
    exact congrArg Host.Outcome.next (perform_atomic hfind hwaiting hsent hplace hafter hkind hturn)
  case land =>
    rintro i a n signed ds v w s ⟨hfind, hperformed, hkind, hengine, hw⟩
    have hdests : a.kind.dests = ds := by rw [hkind]; rfl
    subst hdests
    exact execLoadLand_performed hfind hperformed hengine hw
  case error =>
    rintro i a c w s ⟨hfind, hfailed, hengine, hw, hbatch⟩
    exact execLoadError_failed hfind hfailed hengine hw hbatch
  case retry =>
    rintro mc x s ⟨hwaits, hmc⟩
    exact execSpillFreed_single hwaits hmc
  case idle =>
    intro mc s hnone
    exact execSpillFreed_none hnone
end

section
/-!
The fences and PFT (O26): past its gate a fence completes or is recorded, and PFT prefetches for each active lane.
-/
open Sys2Proof Sys2Proof.Machine

namespace Sys2Proof.Machine

/-- R180, R207: the word done, with its fence among those of its wave; what can complete completes. -/
def Env.fenceRecorded (e : Env) (kind scope : Nat) : State :=
  ({ e with s := { e.s with fences := e.s.fences ++ [e.fenceOf kind scope], nextId := e.s.nextId + 1 } }.done).fenceSettle e.key

/-- R206, R207: past its gate an ACQ to SC fence of wave scope is done, and every other fence is recorded. -/
theorem fence_gated {e e' : Env} (hgate : e.gated .load true = some e') (kind : Nat) (sc : BitVec 3) :
    e.fence kind sc = .next (if sc.toNat = 0 ∧ kind < 4 then e'.done else e'.fenceRecorded kind sc.toNat) := by
  unfold Env.fence
  rw [memGate_gated hgate]
  by_cases hwave : sc.toNat = 0 ∧ kind < 4
  · simp [hwave]
  · rw [if_neg hwave, if_neg (by simpa using hwave)]
    rfl

section
variable {i : Instr} {kind : Nat} {sc : BitVec 3} (m : State → Out) (hexec : ∀ s, exec i s = m s)
  (hrules : ∀ s, m s = issue i.form s fun e => e.fence kind sc)
include hexec hrules

/-- R206: an ACQ to SC fence of wave scope completes at issue. -/
theorem gatedGives_done_of_fence (hkind : kind < 4) : GatedGives i .load true (fun _ => sc.toNat = 0) fun e => e.done :=
  fun _ _ _ hissues hgate hscope => exec_of_issues m hissues hexec hrules <| by rw [fence_gated hgate, if_pos ⟨hscope, hkind⟩]

/-- R207: a fence of a wider scope is recorded. -/
theorem gatedGives_recorded_of_wide_fence :
    GatedGives i .load true (fun _ => sc.toNat ≠ 0) fun e => e.fenceRecorded kind sc.toNat :=
  fun _ _ _ hissues hgate hscope => exec_of_issues m hissues hexec hrules <| by rw [fence_gated hgate, if_neg fun h => hscope h.1]

/-- R207: OPND, FLUSH and ENG are recorded at every scope. -/
theorem gatedGives_recorded_of_special_fence (hkind : 4 ≤ kind) :
    GatedGives i .load true (fun _ => True) fun e => e.fenceRecorded kind sc.toNat :=
  fun _ _ _ hissues hgate _ => exec_of_issues m hissues hexec hrules <| by rw [fence_gated hgate, if_neg fun h => Nat.not_lt.2 hkind h.2]

end

end Sys2Proof.Machine

/-- Settles O26: ACQ to SC of wave scope are done at issue, and every other fence is recorded; PFT completes with its lanes' prefetches. -/
theorem fences : Obligations.Fences := by
  intro x a h o
  exact
    ⟨gatedGives_done_of_fence (execFenceAcq x) (fun _ => rfl) (fun _ => rfl) (by decide),
     gatedGives_recorded_of_wide_fence (execFenceAcq x) (fun _ => rfl) fun _ => rfl,
     gatedGives_done_of_fence (execFenceRel x) (fun _ => rfl) (fun _ => rfl) (by decide),
     gatedGives_recorded_of_wide_fence (execFenceRel x) (fun _ => rfl) fun _ => rfl,
     gatedGives_done_of_fence (execFenceAcqrel x) (fun _ => rfl) (fun _ => rfl) (by decide),
     gatedGives_recorded_of_wide_fence (execFenceAcqrel x) (fun _ => rfl) fun _ => rfl,
     gatedGives_done_of_fence (execFenceSc x) (fun _ => rfl) (fun _ => rfl) (by decide),
     gatedGives_recorded_of_wide_fence (execFenceSc x) (fun _ => rfl) fun _ => rfl,
     gatedGives_recorded_of_special_fence (execFenceOpnd x) (fun _ => rfl) (fun _ => rfl) (by decide),
     gatedGives_recorded_of_special_fence (execFenceFlush x) (fun _ => rfl) (fun _ => rfl) (by decide),
     gatedGives_recorded_of_special_fence (execFenceEng x) (fun _ => rfl) (fun _ => rfl) (by decide),
     fun _ _ _ hissues hgate _ => exec_of_issues (execPft a h o) hissues (fun _ => rfl) (fun _ => rfl) (memGate_gated hgate _)⟩
end

section
/-!
The bytes that an access performed at its home unit changes (O59): a load changes none, and a store changes those that it stores and the fields of the
barrier words that it touches (R171, R204, R297).
-/
open Sys2Proof Sys2Proof.Machine

namespace Sys2Proof.Machine

/-! ## What changes no byte -/

/-- What every step of a fold keeps, the fold keeps. -/
theorem foldl_field {α β : Type} {g : State → β} {f : State → α → State} (h : ∀ s x, g (f s x) = g s) (l : List α) (s : State) :
    g (l.foldl f s) = g s :=
  List.foldlRecOn l f (motive := fun t => g t = g s) rfl fun t ht x _ => (h t x).trans ht

theorem noFill_mem (s : State) (core : Nat) (p : Nat → Bool) : (s.noFill core p).mem = s.mem := by
  unfold State.noFill
  split_ifs <;> rfl

theorem nearDrop_mem (s : State) (core line : Nat) : (s.nearDrop core line).mem = s.mem := noFill_mem _ _ _

theorem nearForget_mem (s : State) (core : Nat) (p : Place) : (s.nearForget core p).mem = s.mem := by
  unfold State.nearForget
  split
  · exact nearDrop_mem _ _ _
  · rfl

theorem nearCheck_mem (s : State) (core key : Nat) : (s.nearCheck core key).mem = s.mem := by
  unfold State.nearCheck
  split_ifs
  · rfl
  · split
    · rfl
    · exact nearDrop_mem _ _ _

theorem nearFill_mem (s : State) (core key : Nat) : (s.nearFill core key).mem = s.mem := (injectAt_quiet _ _ _ _ _).mem

theorem nearRead_mem (s : State) (core key n : Nat) : (s.nearRead core key n).2.mem = s.mem := by
  unfold State.nearRead
  dsimp only
  split
  · exact nearCheck_mem s core key
  · exact (nearFill_mem _ _ _).trans (nearCheck_mem s core key)

theorem nearStore_mem (s : State) (core : Nat) (p : Place) (data : List Byte) : (s.nearStore core p data).mem = s.mem := by
  unfold State.nearStore
  split
  · rfl
  · dsimp only
    split <;> exact noFill_mem _ _ _

/-- R155, R376: a load's counting and its line in the near cache change no byte. -/
theorem loadValue_mem (s : State) (a : Access) (key n : Nat) : (s.loadValue a key n).2.mem = s.mem := by
  unfold State.loadValue
  dsimp only
  rw [apply_ite Prod.snd, ite_self]
  split_ifs
  · exact (nearRead_mem _ _ _ _).trans (count_quiet _ _ _).mem
  · exact (nearRead_mem _ _ _ _).trans (count_quiet _ _ _).mem
  · exact nearForget_mem _ _ _
  · rfl

theorem opndDone_mem (s : State) (f : FenceSt) : (s.opndDone f).mem = s.mem := by
  unfold State.opndDone
  dsimp only
  split_ifs <;> rfl

theorem opndSettle_mem (s : State) : s.opndSettle.mem = s.mem := by
  unfold State.opndSettle
  dsimp only
  split_ifs
  · exact foldl_field opndDone_mem _ s
  · rfl

theorem heldPrune_mem (s : State) : s.heldPrune.mem = s.mem := opndSettle_mem s

theorem drainErr_mem (s : State) (core tenant : Nat) (causal : DWord) (code addr : Nat) : (s.drainErr core tenant causal code addr).mem = s.mem :=
  (emit_quiet _ _ _ _ _ _).mem

theorem deferTrap_mem (s : State) (a : Access) (code : Nat) : (s.deferTrap a code).mem = s.mem := by
  unfold State.deferTrap
  split
  · rfl
  · split
    · exact drainErr_mem _ _ _ _ _ _
    · rfl

theorem spillHold_mem (s : State) (id key tenant : Nat) (causal : DWord) : (s.spillHold id key tenant causal).mem = s.mem := by
  unfold State.spillHold
  split_ifs
  · rfl
  · exact (emit_quiet _ _ _ _ _ _).mem

theorem findPart_mem (s : State) (key n tenant : Nat) (causal : DWord) : (s.findPart key n tenant causal).mem = s.mem := by
  unfold State.findPart
  split_ifs
  · rfl
  · exact foldl_field (fun s k => (findErrors_quiet s k 1 tenant causal).mem) _ s

/-- R126: what a store spoils in the engines' windows is no byte of memory. -/
theorem storeInWindows_mem (s : State) (key n : Nat) (own : Option Nat) : (s.storeInWindows key n own).mem = s.mem :=
  foldl_field (fun s c => by dsimp only; split_ifs <;> rfl) _ s

/-! ## What changes no barrier word -/

theorem storeInWindows_barWords (s : State) (key n : Nat) (own : Option Nat) : (s.storeInWindows key n own).barWords = s.barWords :=
  foldl_field (fun s c => by dsimp only; split_ifs <;> rfl) _ s

theorem overflow_barWords (s : State) (wrapped : Bool) (source number : Nat) {again : State → Nat → Nat → State}
    (h : ∀ s x k, (again s x k).barWords = s.barWords) : (s.overflow wrapped source number again).barWords = s.barWords := by
  unfold State.overflow
  split_ifs
  · exact h _ _ _
  · rfl

theorem countUpTo_barWords (n : Nat) (s : State) (source kind : Nat) : (s.countUpTo n source kind).barWords = s.barWords := by
  induction n generalizing s source kind with
  | zero => rfl
  | succ n ih =>
    unfold State.countUpTo
    dsimp only
    refine (foldl_field (fun s x => ?die) _ _).trans ?core
    case die =>
      split_ifs
      · exact overflow_barWords _ _ _ _ ih
      · rfl
    case core =>
      split_ifs
      · split
        · rfl
        · refine foldl_field (fun s i => ?_) _ s
          split_ifs
          · exact overflow_barWords _ _ _ _ ih
          · rfl
      · rfl

theorem count_barWords (s : State) (source kind : Nat) : (s.count source kind).barWords = s.barWords := countUpTo_barWords _ _ _ _

theorem countSectors_barWords (s : State) (key n kind : Nat) : (s.countSectors key n kind).barWords = s.barWords := by
  unfold State.countSectors
  split_ifs
  · rfl
  · exact foldl_field (fun s _ => count_barWords s _ _) _ s

theorem findErrors_barWords (s : State) (key n tenant : Nat) (causal : DWord) : (s.findErrors key n tenant causal).barWords = s.barWords := by
  unfold State.findErrors
  dsimp only
  split_ifs
  · exact countSectors_barWords _ _ _ _
  · refine (foldl_field (fun s k => ?_) _ _).trans (countSectors_barWords _ _ _ _)
    split
    · rfl
    · split_ifs
      · exact count_barWords _ _ _
      · rfl
      · exact count_barWords _ _ _
      · rfl

theorem findPart_barWords (s : State) (key n tenant : Nat) (causal : DWord) : (s.findPart key n tenant causal).barWords = s.barWords := by
  unfold State.findPart
  split_ifs
  · rfl
  · exact foldl_field (fun s k => findErrors_barWords s k 1 tenant causal) _ s

/-! ## A plain write -/

/-- R297: memory with `data` at `key`, and then an undefined byte at each key of `spoil`. -/
def spoiledWrite (m : List (Nat × Byte)) (key : Nat) (data : List Byte) (spoil : List (Nat × Byte)) : List (Nat × Byte) :=
  spoil.foldl (fun m x => memPut m x.1 x.2) (memPuts m key data)

/-- A write that spoils nothing writes its bytes. -/
theorem spoiledWrite_nil (m : List (Nat × Byte)) (key : Nat) (data : List Byte) : spoiledWrite m key data [] = memPuts m key data := rfl

theorem spoiledWrite_wf {m : List (Nat × Byte)} (h : Memory.wf m = true) (key : Nat) (data : List Byte) (spoil : List (Nat × Byte)) :
    Memory.wf (spoiledWrite m key data spoil) = true :=
  List.foldlRecOn spoil _ (motive := fun m => Memory.wf m = true) (memPuts_wf h key data) fun _ h x _ => memPut_wf h x.1 x.2

/-- A byte that is neither written nor spoiled reads as before. -/
theorem memGet_spoiledWrite_of_outside {m : List (Nat × Byte)} (h : Memory.wf m = true) {key k : Nat} {data : List Byte} {spoil : List (Nat × Byte)}
    (hout : k < key ∨ key + data.length ≤ k) (hspoil : ∀ x ∈ spoil, x.1 ≠ k) : memGet (spoiledWrite m key data spoil) k = memGet m k := by
  have hwrite : memGet (memPuts m key data) k = memGet m k := by
    rw [memGet_memPuts h, if_neg (by omega)]
  refine (List.foldlRecOn spoil _ (motive := fun m' => Memory.wf m' = true ∧ memGet m' k = memGet m k)
    ⟨memPuts_wf h key data, hwrite⟩ fun m' ⟨hwf, hk⟩ x hx => ⟨memPut_wf hwf x.1 x.2, ?_⟩).2
  rw [memGet_memPut hwf, if_neg (hspoil x hx).symm, hk]

/-- R297: which bytes a write spoils depends on the barrier words alone. -/
theorem barSpoil_keys_congr {r s : State} (h : r.barWords = s.barWords) (key : Nat) (data : List Byte) :
    (r.barSpoil key data).map Prod.fst = (s.barSpoil key data).map Prod.fst := by
  simp [State.barSpoil, List.map_flatMap, Function.comp_def, h]

theorem barSpoil_no_barWords {s : State} (h : s.barWords.isEmpty = true) (key : Nat) (data : List Byte) : s.barSpoil key data = [] := by
  simp [State.barSpoil, List.isEmpty_iff.1 h]

theorem codeNote_mem (s : State) (key n : Nat) : (s.codeNote key n).mem = s.mem := by
  unfold State.codeNote State.codeFind
  dsimp only
  split_ifs <;> rfl

theorem spillNote_mem (s : State) : s.spillNote.mem = s.mem := by
  unfold State.spillNote
  split_ifs <;> rfl

theorem homeWrite_mem (s : State) (key : Nat) (data : List Byte) (eng : Option Nat) : (s.homeWrite key data eng).mem = memPuts s.mem key data := by
  unfold State.homeWrite
  dsimp only
  split_ifs
  · exact spillNote_mem _
  · exact (wroteMem_quiet _ _ _).mem.trans (spillNote_mem _)
  · rfl
  · exact (wroteMem_quiet _ _ _).mem

theorem plainWrite_mem (s : State) (key : Nat) (data : List Byte) (eng : Option Nat) :
    (s.plainWrite key data eng).mem = spoiledWrite s.mem key data (s.barSpoil key data) := by
  unfold State.plainWrite
  dsimp only
  split_ifs with hnone
  · rw [homeWrite_mem, barSpoil_no_barWords hnone, spoiledWrite_nil]
  · rw [spoiledWrite, ← homeWrite_mem s key data eng]
    exact (List.foldl_hom State.mem fun _ _ => rfl).symm

/-! ## Performing a local access -/

/-- R204: a local load changes no byte. -/
theorem applyAccess_load_mem {a : Access} {n : Nat} {signed : Bool} {ds : List LateDest} (hkind : a.kind = .load n signed ds) (s : State) (key : Nat) :
    (s.applyAccess a key).mem = s.mem := by
  have hfound := (findErrors_quiet s key n a.tenant a.causal).mem
  unfold State.applyAccess
  rw [hkind]
  dsimp only
  split_ifs
  · exact hfound
  · split
    · exact hfound
    · exact (loadValue_mem _ _ _ _).trans hfound

/-- R204, R297: memory after a local store: unchanged where the store fails or waits for spill space, and else the write with what it spoils. -/
theorem applyAccess_store_mem {a : Access} {data : List Byte} {rel : Bool} (hkind : a.kind = .store data rel) (s : State) (key : Nat) :
    let r := s.findPart key data.length a.tenant a.causal
    (s.applyAccess a key).mem = if (r.writeError key data.length).isSome = true ∨ r.needsSpill key data = true then s.mem
      else spoiledWrite s.mem key data ((r.storeInWindows key data.length (engOf a)).barSpoil key data) := by
  have hfound := findPart_mem s key data.length a.tenant a.causal
  unfold State.applyAccess
  rw [hkind]
  dsimp only
  generalize s.findPart key data.length a.tenant a.causal = r at hfound ⊢
  split
  case h_1 c herror =>
    rw [if_pos (.inl (by rw [herror]; rfl))]
    exact (deferTrap_mem _ _ _).trans hfound
  case h_2 herror =>
    by_cases hspill : r.needsSpill key data = true
    · rw [if_pos hspill, if_pos (.inr hspill)]
      exact (spillHold_mem _ _ _ _ _).trans hfound
    · have hwritten : ((r.storeInWindows key data.length (engOf a)).plainWrite key data (engOf a)).mem =
          spoiledWrite s.mem key data ((r.storeInWindows key data.length (engOf a)).barSpoil key data) := by
        rw [plainWrite_mem, storeInWindows_mem, hfound]
      rw [if_neg hspill, if_neg (not_or.2 ⟨by simp [herror], hspill⟩), ← hwritten]
      split_ifs
      · exact nearStore_mem _ _ _ _
      · exact nearForget_mem _ _ _

/-- R204, R297: a local store leaves memory as it is, or writes its bytes and spoils fields of the barrier words that the state holds. -/
theorem applyAccess_store_cases {a : Access} {data : List Byte} {rel : Bool} (hkind : a.kind = .store data rel) (s : State) (key : Nat) :
    (s.applyAccess a key).mem = s.mem ∨ ∃ spoil, spoil.map Prod.fst = (s.barSpoil key data).map Prod.fst ∧
      (s.applyAccess a key).mem = spoiledWrite s.mem key data spoil := by
  rw [applyAccess_store_mem hkind s key]
  split_ifs
  · exact .inl rfl
  · exact .inr ⟨_, barSpoil_keys_congr ((storeInWindows_barWords _ _ _ _).trans (findPart_barWords _ _ _ _ _)) key data, rfl⟩

/-- R204: a store that meets no marked unit, lacks no spill space and touches no barrier word writes its bytes. -/
theorem applyAccess_store_unspoiled {s : State} {a : Access} {key : Nat} {data : List Byte} {rel : Bool} (hkind : a.kind = .store data rel)
    (hmarks : s.marks = []) (hspill : s.needsSpill key data = false) (hspoil : s.barSpoil key data = []) :
    (s.applyAccess a key).mem = memPuts s.mem key data := by
  have hfound : s.findPart key data.length a.tenant a.causal = s := by simp [State.findPart, hmarks]
  have herror : s.writeError key data.length = none := by simp [State.writeError, State.readError, hmarks]
  have hkeys := barSpoil_keys_congr (storeInWindows_barWords s key data.length (engOf a)) key data
  rw [hspoil, List.map_nil, List.map_eq_nil_iff] at hkeys
  rw [applyAccess_store_mem hkind s key, hfound, if_neg (by simp [herror, hspill]), hkeys, spoiledWrite_nil]

section
variable {s : State} {i key : Nat} {a : Access} (hfind : s.flight.find? (fun a => a.id == i) = some a) (hplace : a.place = .mem key)
include hfind hplace

/-- R204: a local load in flight waits on, or is performed. -/
theorem perform_load_cases {n : Nat} {signed : Bool} {ds : List LateDest} (hkind : a.kind = .load n signed ds) :
    s.perform i = s ∨ s.perform i = (s.applyAccess a key).heldPrune := by
  unfold State.perform
  simp only [hfind, hplace, hkind]
  split_ifs
  · exact .inl rfl
  · exact .inr rfl

/-- R172, R204: a local store in flight waits on, or is performed in its turn. -/
theorem perform_store_cases {data : List Byte} {rel : Bool} (hkind : a.kind = .store data rel) :
    s.perform i = s ∨ s.perform i = ((s.applyAccess a key).writeServed key (srcCore a.core)).heldPrune := by
  unfold State.perform
  simp only [hfind, hplace, hkind]
  split_ifs
  · exact .inl rfl
  · exact .inl rfl
  · exact .inr rfl

/-- R171: performing a local load changes no byte. -/
theorem perform_load_mem {n : Nat} {signed : Bool} {ds : List LateDest} (hkind : a.kind = .load n signed ds) : (s.perform i).mem = s.mem := by
  obtain hwaits | hperformed := perform_load_cases hfind hplace hkind
  · rw [hwaits]
  · rw [hperformed, heldPrune_mem, applyAccess_load_mem hkind]

/-- R171, R297: a local store in flight leaves memory as it is, or writes its bytes and spoils fields of the barrier words that the state holds. -/
theorem perform_store_mem_cases {data : List Byte} {rel : Bool} (hkind : a.kind = .store data rel) :
    (s.perform i).mem = s.mem ∨ ∃ spoil, spoil.map Prod.fst = (s.barSpoil key data).map Prod.fst ∧
      (s.perform i).mem = spoiledWrite s.mem key data spoil := by
  obtain hwaits | hperformed := perform_store_cases hfind hplace hkind
  · exact .inl (by rw [hwaits])
  · rw [hperformed, heldPrune_mem, State.writeServed, (serve_quiet _ _ _ _).mem]
    exact applyAccess_store_cases hkind s key

/-- R171, R297: a local store keeps the canonical form, and every byte that it neither writes nor spoils. -/
theorem perform_store_frame {data : List Byte} {rel : Bool} (hkind : a.kind = .store data rel) (hmem : s.MemOk) :
    (s.perform i).MemOk ∧ ∀ k, k < key ∨ key + data.length ≤ k → (∀ x ∈ s.barSpoil key data, x.1 ≠ k) → (s.perform i).byteAt k = s.byteAt k := by
  unfold State.MemOk State.byteAt
  obtain hsame | ⟨spoil, hkeys, hwritten⟩ := perform_store_mem_cases hfind hplace hkind
  · rw [hsame]
    exact ⟨hmem, fun _ _ _ => rfl⟩
  · rw [hwritten]
    refine ⟨spoiledWrite_wf hmem key data spoil, fun k hout hspoil => memGet_spoiledWrite_of_outside hmem hout fun x hx => ?_⟩
    have hkey : x.1 ∈ (s.barSpoil key data).map Prod.fst := hkeys ▸ List.mem_map_of_mem hx
    obtain ⟨y, hy, heq⟩ := List.mem_map.1 hkey
    exact heq ▸ hspoil y hy

end

end Sys2Proof.Machine

/-- Settles O59: only a store that is performed changes memory, by its write; on a sound place outside the barrier words its bytes are then read back. -/
theorem accessFrame : Obligations.AccessFrame := by
  refine ⟨?load, ?store, ?written⟩
  case load =>
    rintro s t i a key n signed ds hfind hplace hkind ⟨⟩
    exact perform_load_mem hfind hplace hkind
  case store =>
    rintro s t i a key data rel hfind hplace hkind ⟨⟩ hmem
    exact perform_store_frame hfind hplace hkind hmem
  case written =>
    intro s i a key data rel hfind hplace hkind hwaiting hsent hafter hrelease hturn hmarks _ hspoil hspill hmem
    refine ⟨s.perform i, rfl, ?_⟩
    rw [perform_store hfind hwaiting hsent hplace hafter hkind hrelease hturn, heldPrune_mem, State.writeServed, (serve_quiet _ _ _ _).mem,
      applyAccess_store_unspoiled hkind hmarks hspill hspoil]
    exact memGets_memPuts hmem key data
end

section
/-!
Loads, stores and atomics (O23 to O25): past its gate, with its lanes sound, each word puts its accesses in flight; a store of a combiner wave goes into the
commit buffer.
-/
open Sys2Proof Sys2Proof.Machine

namespace Sys2Proof.Machine

/-! ## Loads -/

/-- R193 to R195: past its gate, with room on its counter and its lanes sound, a load puts its accesses in flight. -/
theorem load_starts {e e' e'' : Env} {k size : Nat} {ls : List (Nat × Nat)} {oks : List LaneOk} (hgate : e.gated .load false = some e')
    (hroom : (e'.w.cnt.getD k []).length < 63) (hlanes : e'.lanesAt .load 99 size false ls = some (e'', oks)) (one signed : Bool)
    (dests : Nat → List LateDest) :
    e.load one k size signed ls dests =
      .next { e''.started one .load 0 oks (fun l => .load size signed (dests l)) (buffered e'' ls size) with
        w := e''.w.count1 k e''.s.nextId }.done :=
  calc e.load one k size signed ls dests
    _ = _ := memGate_gated hgate _
    _ = _ := if_neg (Nat.not_le.2 hroom)
    _ = _ := checkLanes_lanesAt hlanes _

/-- R192, R193: a word whose own rules are those of LDV does nothing under an all-zero exec, and else loads its lanes. -/
theorem loadsLanes_of_ldv {i : Instr} {size : Nat} {signed : Bool} {d a : BitVec 7} {k : BitVec 4} {o : BitVec 7} (m : State → Out)
    (hexec : ∀ s, exec i s = m s) (hrules : ∀ s, m s = issue i.form s fun e => e.ldv d a k o size signed) :
    LoadsLanes i size signed (fun e => (List.range ((size + 3) / 4)).filterMap fun j => (e.place? (d.toNat + j)).map LateDest.vec) a k o :=
  ⟨givesIf_of m hexec hrules fun _ hnone => if_pos hnone,
   fun _ _ _ _ _ hissues hactive hgate hroom hlanes =>
    exec_of_issues m hissues hexec hrules <| (if_neg hactive).trans (load_starts hgate hroom hlanes ..)⟩

/-- R194: a word whose own rules are those of LDS loads its scalars. -/
theorem loadsScalar_of_lds {i : Instr} {size : Nat} {d a : BitVec 7} {k : BitVec 4} {o : BitVec 7} (m : State → Out)
    (hexec : ∀ s, exec i s = m s) (hrules : ∀ s, m s = issue i.form s fun e => e.lds d a k o size) :
    LoadsScalar i size (if d.toNat ≥ 64 then [] else (List.range (size / 4)).map fun j => LateDest.scalar false (d.toNat + j)) a k o :=
  fun _ _ _ _ _ hissues hgate hroom hlanes => exec_of_issues m hissues hexec hrules (load_starts hgate hroom hlanes ..)

/-! ## Stores -/

/-- R198: past its gate, with its lanes sound, a store outside a batch puts its accesses in flight. -/
theorem store_starts {e e' e'' : Env} {k : BitVec 4} {size : Nat} {ls : List (Nat × Nat)} {oks : List LaneOk} (hbatch : e.w.batch = none)
    (hgate : e.gated .held (k.getLsbD 3) = some e')
    (hlanes : e'.lanesAt .store (k.toNat % 8) size (k.getLsbD 3) ls = some (e'', oks)) (one : Bool) (data : Nat → List Byte) :
    e.store one k size ls data =
      .next (e''.started one .store (k.toNat % 8) oks (fun l => .store (data l) (k.getLsbD 3)) fun _ => []).done := by
  unfold Env.store
  rw [hbatch]
  exact (memGate_gated hgate _).trans (checkLanes_lanesAt hlanes _)

/-- R232, R233: aligned bytes inside the object's state, at most 128 entries with what stands there, go into the commit buffer of the batch. -/
theorem store_buffers {e : Env} {b : Batch} {size : Nat} {ls : List (Nat × Nat)} {data : Nat → List Byte} (hbatch : e.w.batch = some b)
    (hinside : ∀ x ∈ ls, x.2 % size = 0 ∧ b.stateVa.toNat ≤ x.2 ∧ x.2 + size ≤ b.stateVa.toNat + b.ssize)
    (hroom : (b.buffer ls data).entries ≤ 128) (one : Bool) (k : BitVec 4) :
    e.store one k size ls data = .next { e with w := { e.w with batch := some (b.buffer ls data) } }.done := by
  have haligned : ¬ (ls.any fun x => x.2 % size != 0) = true := by
    simpa using fun lane va hx => (hinside (lane, va) hx).1
  have hstate : ¬ (ls.any fun x => decide (x.2 < b.stateVa.toNat) || decide (x.2 + size > b.stateVa.toNat + b.ssize)) = true := by
    simpa using fun lane va hx => (hinside (lane, va) hx).2
  unfold Env.store
  rw [hbatch]
  calc e.batchStore b size ls data
    _ = _ := if_neg haligned
    _ = _ := if_neg hstate
    _ = _ := if_neg (Nat.not_lt.2 hroom)

/-- R192, R198: a word whose own rules are those of STV does nothing under an all-zero exec, and else stores its lanes. -/
theorem storesLanes_of_stv {i : Instr} {size : Nat} {d a : BitVec 7} {k : BitVec 4} {o : BitVec 7} (m : State → Out)
    (hexec : ∀ s, exec i s = m s) (hrules : ∀ s, m s = issue i.form s fun e => e.stv d a k o size) : StoresLanes i size d a k o :=
  ⟨givesIf_of m hexec hrules fun _ hnone => if_pos hnone,
   fun _ _ _ _ _ hissues hactive hbatch hgate hlanes =>
    exec_of_issues m hissues hexec hrules <| (if_neg hactive).trans (store_starts hbatch hgate hlanes ..)⟩

/-- R233: in a combiner wave it buffers the bytes of its lanes. -/
theorem storesBatch_of_stv {i : Instr} {size : Nat} {d a : BitVec 7} {k : BitVec 4} {o : BitVec 7} (m : State → Out)
    (hexec : ∀ s, exec i s = m s) (hrules : ∀ s, m s = issue i.form s fun e => e.stv d a k o size) :
    StoresBatch i true size (fun e => e.laneAddrs a o size) fun e l => storeBytes e d size l :=
  fun _ _ _ hissues hactive hbatch hinside hroom =>
    exec_of_issues m hissues hexec hrules <| (if_neg (hactive rfl)).trans (store_buffers hbatch hinside hroom ..)

section
variable {i : Instr} {size : Nat} {d a : BitVec 7} {k : BitVec 4} {o : BitVec 7} (m : State → Out) (hexec : ∀ s, exec i s = m s)
  (hrules : ∀ s, m s = issue i.form s fun e => e.sts d a k o size)
include hexec hrules

/-- R198: a word whose own rules are those of STS stores its scalars. -/
theorem storesScalar_of_sts :
    StoresScalar i size (fun e => natToBytes size (if size = 8 then (e.s64 d).toNat else (e.s32 d).toNat)) a k o :=
  fun _ _ _ _ _ hissues hbatch hgate hlanes => exec_of_issues m hissues hexec hrules (store_starts hbatch hgate hlanes ..)

/-- R233: in a combiner wave it buffers their bytes. -/
theorem storesBatch_of_sts :
    StoresBatch i false size (fun e => [(0, (memAddr (e.s64 a) o size).toNat)])
      fun e _ => natToBytes size (if size = 8 then (e.s64 d).toNat else (e.s32 d).toNat) :=
  fun _ _ _ hissues _ hbatch hinside hroom => exec_of_issues m hissues hexec hrules (store_buffers hbatch hinside hroom ..)

end

/-! ## Atomics -/

/-- R199, R201: a word whose own rules are those of ATOM does nothing under an all-zero exec, and else puts its atomics in flight, counted on a15. -/
theorem atomic_of_atom {i : Instr} {minor : Nat} {sc : BitVec 2} {d a b : BitVec 7} (m : State → Out) (hexec : ∀ s, exec i s = m s)
    (hrules : ∀ s, m s = issue i.form s fun e => e.atom minor sc d a b) :
    Atomic i minor (if minor = 11 then 8 else 4) (sc.toNat + 2) d a b := by
  refine ⟨givesIf_of m hexec hrules fun _ hnone => if_pos hnone, ?_⟩
  intro s e e' e'' oks hissues hactive hgate hroom hlanes
  refine exec_of_issues m hissues hexec hrules ?_
  calc e.atom minor sc d a b
    _ = _ := if_neg hactive
    _ = _ := memGate_gated hgate _
    _ = _ := if_neg (Nat.not_le.2 hroom)
    _ = _ := checkLanes_lanesAt hlanes _

/-- R202: a word whose own rules are those of RED does nothing under an all-zero exec, and else, outside a deterministic task, puts its atomics in flight. -/
theorem reduces_of_red {i : Instr} {minor : Nat} {sc : BitVec 3} {a b : BitVec 7} (m : State → Out) (hexec : ∀ s, exec i s = m s)
    (hrules : ∀ s, m s = issue i.form s fun e => e.red minor sc a b) :
    Reduces i minor (if minor = 11 then 8 else 4) (max 1 sc.toNat) a b := by
  refine ⟨givesIf_of m hexec hrules fun _ hnone => if_pos hnone, ?_⟩
  intro s e e' e'' oks hissues hactive hgate hdet hlanes
  refine exec_of_issues m hissues hexec hrules ?_
  calc e.red minor sc a b
    _ = _ := if_neg hactive
    _ = _ := memGate_gated hgate _
    _ = _ := if_neg (by simp [hdet])
    _ = _ := checkLanes_lanesAt hlanes _

end Sys2Proof.Machine

/-- Settles O23: the forms of LDV and of LDS differ in the bytes of an element and in its extension alone. -/
theorem loads : Obligations.Loads := by
  intro d a k o
  exact
    ⟨loadsLanes_of_ldv (execLdvN8 d a k o) (fun _ => rfl) fun _ => rfl,
     loadsLanes_of_ldv (execLdvI8 d a k o) (fun _ => rfl) fun _ => rfl,
     loadsLanes_of_ldv (execLdvN16 d a k o) (fun _ => rfl) fun _ => rfl,
     loadsLanes_of_ldv (execLdvI16 d a k o) (fun _ => rfl) fun _ => rfl,
     loadsLanes_of_ldv (execLdv32 d a k o) (fun _ => rfl) fun _ => rfl,
     loadsLanes_of_ldv (execLdv64 d a k o) (fun _ => rfl) fun _ => rfl,
     loadsLanes_of_ldv (execLdv128 d a k o) (fun _ => rfl) fun _ => rfl,
     loadsScalar_of_lds (execLds32 d a k o) (fun _ => rfl) fun _ => rfl,
     loadsScalar_of_lds (execLds64 d a k o) (fun _ => rfl) fun _ => rfl⟩

/-- Settles O24: the forms of STV and of STS differ in the bytes that a lane, or the wave, stores. -/
theorem stores : Obligations.Stores := by
  intro d a k o
  exact
    ⟨storesLanes_of_stv (execStv8 d a k o) (fun _ => rfl) fun _ => rfl,
     storesBatch_of_stv (execStv8 d a k o) (fun _ => rfl) fun _ => rfl,
     storesLanes_of_stv (execStv16 d a k o) (fun _ => rfl) fun _ => rfl,
     storesBatch_of_stv (execStv16 d a k o) (fun _ => rfl) fun _ => rfl,
     storesLanes_of_stv (execStv32 d a k o) (fun _ => rfl) fun _ => rfl,
     storesBatch_of_stv (execStv32 d a k o) (fun _ => rfl) fun _ => rfl,
     storesLanes_of_stv (execStv64 d a k o) (fun _ => rfl) fun _ => rfl,
     storesBatch_of_stv (execStv64 d a k o) (fun _ => rfl) fun _ => rfl,
     storesLanes_of_stv (execStv128 d a k o) (fun _ => rfl) fun _ => rfl,
     storesBatch_of_stv (execStv128 d a k o) (fun _ => rfl) fun _ => rfl,
     storesScalar_of_sts (execSts32 d a k o) (fun _ => rfl) fun _ => rfl,
     storesBatch_of_sts (execSts32 d a k o) (fun _ => rfl) fun _ => rfl,
     storesScalar_of_sts (execSts64 d a k o) (fun _ => rfl) fun _ => rfl,
     storesBatch_of_sts (execSts64 d a k o) (fun _ => rfl) fun _ => rfl⟩

/-- Settles O25: the fourteen operations differ in their number alone, and ADD_I64 in its eight bytes. -/
theorem atomics : Obligations.Atomics := by
  intro w x d a b
  exact
    ⟨-- ATOM (R199, R201)
     atomic_of_atom (execAtomAddI32 w d a b) (fun _ => rfl) fun _ => rfl,
     atomic_of_atom (execAtomAddF32 w d a b) (fun _ => rfl) fun _ => rfl,
     atomic_of_atom (execAtomMinI w d a b) (fun _ => rfl) fun _ => rfl,
     atomic_of_atom (execAtomMaxI w d a b) (fun _ => rfl) fun _ => rfl,
     atomic_of_atom (execAtomMinN w d a b) (fun _ => rfl) fun _ => rfl,
     atomic_of_atom (execAtomMaxN w d a b) (fun _ => rfl) fun _ => rfl,
     atomic_of_atom (execAtomAnd w d a b) (fun _ => rfl) fun _ => rfl,
     atomic_of_atom (execAtomOr w d a b) (fun _ => rfl) fun _ => rfl,
     atomic_of_atom (execAtomXor w d a b) (fun _ => rfl) fun _ => rfl,
     atomic_of_atom (execAtomXchg w d a b) (fun _ => rfl) fun _ => rfl,
     atomic_of_atom (execAtomCas w d a b) (fun _ => rfl) fun _ => rfl,
     atomic_of_atom (execAtomAddI64 w d a b) (fun _ => rfl) fun _ => rfl,
     atomic_of_atom (execAtomIncw w d a b) (fun _ => rfl) fun _ => rfl,
     atomic_of_atom (execAtomAddBf16x2 w d a b) (fun _ => rfl) fun _ => rfl,
     -- RED (R202)
     reduces_of_red (execRedAddI32 x a b) (fun _ => rfl) fun _ => rfl,
     reduces_of_red (execRedAddF32 x a b) (fun _ => rfl) fun _ => rfl,
     reduces_of_red (execRedMinI x a b) (fun _ => rfl) fun _ => rfl,
     reduces_of_red (execRedMaxI x a b) (fun _ => rfl) fun _ => rfl,
     reduces_of_red (execRedMinN x a b) (fun _ => rfl) fun _ => rfl,
     reduces_of_red (execRedMaxN x a b) (fun _ => rfl) fun _ => rfl,
     reduces_of_red (execRedAnd x a b) (fun _ => rfl) fun _ => rfl,
     reduces_of_red (execRedOr x a b) (fun _ => rfl) fun _ => rfl,
     reduces_of_red (execRedXor x a b) (fun _ => rfl) fun _ => rfl,
     reduces_of_red (execRedXchg x a b) (fun _ => rfl) fun _ => rfl,
     reduces_of_red (execRedCas x a b) (fun _ => rfl) fun _ => rfl,
     reduces_of_red (execRedAddI64 x a b) (fun _ => rfl) fun _ => rfl,
     reduces_of_red (execRedIncw x a b) (fun _ => rfl) fun _ => rfl,
     reduces_of_red (execRedAddBf16x2 x a b) (fun _ => rfl) fun _ => rfl⟩
end

section
/-!
Words that send a request and wait: the commands of the copy, gather-pool and collective engines (O28), and the Avenue words (O29).
-/
open Sys2Proof Sys2Proof.Machine

namespace Sys2Proof.Machine

/-! ## Engine commands -/

/-- R212: a word whose own rules send a command enters its engine's queue where there is room, and waits for the acceptance. -/
theorem gatedGives_of_sendCmd {i : Instr} {d a b : BitVec 7} (kind room : Nat) (engine : Env → Nat) (m : State → Out)
    (hexec : ∀ s, exec i s = m s) (hrules : ∀ s, m s = issue i.form s fun e =>
      e.memGate .held true fun e => e.sendCmd (e.newCmd kind (engine e) d (e.s64 a) (e.s64 b)) room) :
    GatedGives i .held true (fun e => e.s.queued (e.newCmd kind (engine e) d (e.s64 a) (e.s64 b)).source < room) (commandSent kind engine d a b) :=
  fun _ _ _ hissues hgate hroom => exec_of_issues m hissues hexec hrules <| (memGate_gated hgate _).trans (if_neg (Nat.not_le.2 hroom))

/-! ## Avenue words -/

/-- R218: the request is sent where a fabric tag is free. -/
theorem avAsk_sent {e : Env} {x : DWord} {what : Nat} {dest pred : BitVec 7} {trapq : Bool} {t : State}
    (hasked : avenueAsked e x what dest pred trapq = some t) : e.avAsk x what dest pred trapq = .next t := by
  obtain ⟨s, hsent, rfl⟩ := Option.map_eq_some_iff.1 hasked
  unfold Env.avAsk
  dsimp only
  rw [hsent]

/-- R219: FALLOC's request is in range. -/
theorem avSizeOk_eq_true_iff {x : DWord} : avSizeOk x = true ↔
    ¬ (x.toNat % 2 ^ 48 = 0 ∨ x.toNat % 2 ^ 48 > 2 ^ 48 - 2 ^ 16 ∨ x.toNat / 2 ^ 48 % 256 ≠ 0 ∨ x.toNat / 2 ^ 62 ≠ 0) := by
  simp only [avSizeOk, Bool.and_eq_true, Bool.not_eq_true', beq_eq_false_iff_ne, decide_eq_true_eq, beq_iff_eq]
  omega

section
variable {e e' : Env} {d a b : BitVec 7} {s : State}

/-- R219: FALLOC asks for an allocation whose size is in range … -/
theorem execFalloc_asks {t : State} (hissues : Issues (.falloc d a b) s e) (hgate : e.gated .load false = some e') (hsize : avSizeOk (e'.s64 a) = true)
    (hasked : avenueAsked e' (e'.s64 a) 0 d b ((e'.s64 a).toNat.testBit 61) = some t) : exec (.falloc d a b) s = .next t := by
  refine exec_of_issues (execFalloc d a b) hissues (fun _ => rfl) (fun _ => rfl) <| (memGate_gated hgate _).trans ?_
  refine (if_neg ?_).trans (avAsk_sent hasked)
  simpa [or_assoc] using avSizeOk_eq_true_iff.1 hsize

/-- … and traps on any other. -/
theorem execFalloc_traps (hissues : Issues (.falloc d a b) s e) (hgate : e.gated .load false = some e') (hsize : avSizeOk (e'.s64 a) = false) :
    exec (.falloc d a b) s = e'.trap cAvRequest 0#64 := by
  refine exec_of_issues (execFalloc d a b) hissues (fun _ => rfl) (fun _ => rfl) <| (memGate_gated hgate _).trans (if_pos ?_)
  have hrange := mt avSizeOk_eq_true_iff.2 (Bool.eq_false_iff.1 hsize)
  simpa [or_assoc] using not_not.1 hrange

/-- R220: FFREE asks once its release set has been performed … -/
theorem execFfree_asks {t : State} (hissues : Issues (.ffree a) s e) (hgate : e.gated .held true = some e')
    (hreleased : e'.s.releaseSet e'.key 4 = []) (hbarred : e'.s.barred e'.key e'.s.nextId = false)
    (hasked : avenueAsked e' (e'.s64 a) 1 0#7 0#7 false = some t) : exec (.ffree a) s = .next t := by
  refine exec_of_issues (execFfree a) hissues (fun _ => rfl) (fun _ => rfl) <| (memGate_gated hgate _).trans ?_
  exact (if_neg (by simp [hreleased, hbarred])).trans (avAsk_sent hasked)

/-- … and waits until then. -/
theorem execFfree_waits (hissues : Issues (.ffree a) s e) (hgate : e.gated .held true = some e')
    (hopen : e'.s.releaseSet e'.key 4 ≠ [] ∨ e'.s.barred e'.key e'.s.nextId = true) : exec (.ffree a) s = e'.hold 15 2 :=
  exec_of_issues (execFfree a) hissues (fun _ => rfl) (fun _ => rfl) <| (memGate_gated hgate _).trans (if_pos (by simpa using hopen))

/-- R221: FQUOTA asks for an allocation, or with sz for its tenant. -/
theorem execFquota_asks {t : State} (hissues : Issues (.fquota d a) s e) (hgate : e.gated .load false = some e')
    (hasked : avenueAsked e' (e'.s64 a) (if a.toNat = 127 then 3 else 2) d 0#7 false = some t) : exec (.fquota d a) s = .next t :=
  exec_of_issues (execFquota d a) hissues (fun _ => rfl) (fun _ => rfl) <| (memGate_gated hgate _).trans (avAsk_sent hasked)

end

end Sys2Proof.Machine

/-- Settles O28: the four words differ in the kind of their command, in its engine and in the length of the queue. -/
theorem engineCommands : Obligations.EngineCommands := by
  intro d a b
  exact
    ⟨gatedGives_of_sendCmd 0 64 (fun e => ceOf e.core) (execCopy d a b) (fun _ => rfl) fun _ => rfl,
     gatedGives_of_sendCmd 1 64 (fun e => ceOf e.core) (execCopyNp d a b) (fun _ => rfl) fun _ => rfl,
     gatedGives_of_sendCmd 2 32 (fun e => gpeOf e.core) (execGpool d a b) (fun _ => rfl) fun _ => rfl,
     gatedGives_of_sendCmd 3 16 (fun e => cleOf e.core) (execColl d a b) (fun _ => rfl) fun _ => rfl⟩

/-- Settles O29: FALLOC asks or traps by its size, FFREE asks or waits by its release set, and FQUOTA asks. -/
theorem avenueWords : Obligations.AvenueWords := by
  intro d a b
  exact
    ⟨fun _ _ _ _ => execFalloc_asks, fun _ _ _ => execFalloc_traps, fun _ _ _ _ => execFfree_asks, fun _ _ _ => execFfree_waits,
     fun _ _ _ _ => execFquota_asks⟩
end

section
/-!
Events of the engines' commands (O38): acceptance (R212, R217, R246), the promise (R465), the lines (R214, R249), the messages of a collective (R248 to R250,
R252) and the reload of a group (R243). Each step with its condition met does what its rule names.
-/
open Sys2Proof Sys2Proof.Machine

namespace Sys2Proof.Machine

/-! ## Acceptance -/

section
variable {s s' : State} {cmd : Nat} {c : Cmd} {w : Wave} (hcmd : s.cmd? cmd = some c) (hissued : c.st = .issued)
  (hheld : s.heldFor (.command cmd) = false) (hwave : s.wave? c.wave = some w)
include hcmd hissued hheld hwave

/-- R212: an issued command whose check gives it ready is accepted … -/
theorem tryAccept_accepts {kinds : Nat → Bool} {check : State → Nat → Cmd → Wave → (Cmd ⊕ AccRead) × State} {c' : Cmd} (hkind : kinds c.kind = true)
    (hcheck : check s cmd c w = (.inl c', s')) : s.tryAccept cmd kinds check = s'.acceptCmd cmd c' := by
  simp [State.tryAccept, hcmd, hissued, hkind, hheld, hwave, hcheck]

/-- … and one whose check gives a trap traps at its word. -/
theorem tryAccept_traps {kinds : Nat → Bool} {check : State → Nat → Cmd → Wave → (Cmd ⊕ AccRead) × State} {k : Nat} (hkind : kinds c.kind = true)
    (hcheck : check s cmd c w = (.inr (.trap k), s')) : s.tryAccept cmd kinds check = s'.acceptTrap cmd c k := by
  simp [State.tryAccept, hcmd, hissued, hkind, hheld, hwave, hcheck]

/-- R246, R247: an issued collective whose checks pass is accepted as a live one. -/
theorem execCollAccept_accepts {c' : Cmd} {x : Coll} (hkind : c.kind = 3) (hcheck : s.checkColl cmd c w = (.inl (c', x), s')) :
    execCollAccept cmd s = .next (s'.acceptColl cmd c' x) := by
  simp [execCollAccept, hcmd, hissued, hkind, hheld, hwave, hcheck]

end

/-! ## The promise -/

/-- R465: has the promise of a word passed? -/
theorem promiseGone_eq_true_iff {s : State} {key : Nat} : s.promiseGone key = true ↔ s.rd (key + 24) 8 ≠ 0 ∧ s.rd (key + 24) 8 < s.gtc.toNat := by
  simp [State.promiseGone]

section
variable {s s' : State} {cmd key : Nat} {c : Cmd} (hcmd : s.cmd? cmd = some c) (hrunning : c.st = .running) (hleft : c.left ≠ 0) (hkind : c.kind ≤ 2)
  (hheld : s.heldFor (.line cmd promisePiece) = false) (hready : s.barReady cmd promisePiece c = (.ok key, s'))
include hcmd hrunning hleft hkind hheld hready

/-- R465: a promise that has passed with bytes outstanding is put off. -/
theorem execPromiseRevise_passed (hpromise : s'.rd (key + 24) 8 ≠ 0) (hgone : s'.rd (key + 24) 8 < s'.gtc.toNat) :
    execPromiseRevise cmd s = .next (s'.promised c key (min (s'.gtc.toNat + 25000) (2 ^ 64 - 1))) := by
  have hrevises : s.revises cmd c = true := by simp [State.revises, hrunning, hleft, hkind, hheld]
  simp only [execPromiseRevise, hcmd, hrevises, hready]
  rw [if_neg (by simp), if_neg (by simp [hpromise]), if_pos (promiseGone_eq_true_iff.2 ⟨hpromise, hgone⟩)]
  rfl

/-- R465: a promise that has not passed is raised to the estimate where that has moved later, as the firmware chooses. -/
theorem execPromiseRevise_open (hcopy : c.kind = 1 → s'.rd (key + 24) 8 ≠ 0)
    (hopen : s'.rd (key + 24) 8 = 0 ∨ s'.gtc.toNat ≤ s'.rd (key + 24) 8) :
    execPromiseRevise cmd s = .next (if Config.freeBit s'.free 7001 = true ∧ s'.rd (key + 24) 8 < s'.estimate.toNat
      then s'.promised c key s'.estimate.toNat else s') := by
  have hrevises : s.revises cmd c = true := by simp [State.revises, hrunning, hleft, hkind, hheld]
  have hnone : ¬ (decide (c.kind = 1) && decide (s'.rd (key + 24) 8 = 0)) = true := by simpa using hcopy
  have hgone : ¬ s'.promiseGone key = true := by
    rw [promiseGone_eq_true_iff]
    omega
  simp only [execPromiseRevise, hcmd, hrevises, hready]
  rw [if_neg (by simp), if_neg hnone, if_neg hgone]
  by_cases hraised : Config.freeBit s'.free 7001 = true ∧ s'.rd (key + 24) 8 < s'.estimate.toNat
  · rw [if_pos hraised, if_pos (by simpa using hraised)]
    rfl
  · rw [if_neg hraised, if_neg (by simpa using hraised)]

end

/-! ## Lines -/

section
variable {s : State} {cmd piece : Nat} {c : Cmd} (hruns : s.lineRuns cmd piece c)
include hruns

/-- R186, R215, R336: nothing holds back a piece that may go. -/
theorem lineRuns_goes :
    (c.st != .running || !c.pieces.contains piece || c.after.any s.unperformed || s.heldFor (.line cmd piece) ||
      s.fab.txns.any (fun t => t.what == .line cmd piece) || (s.tteFull (quadOf c.core) && !s.held.any fun h => h.what == .line cmd piece)) = false ∧
    ((s.pieceLine cmd piece c).map fun a => s.lineBehind cmd c a).getD false = false := by
  obtain ⟨-, -, -, hrunning, hleft, hafter, hheld, htxns, hroom, hbehind⟩ := hruns
  constructor
  · have hperformed : c.after.any s.unperformed = false := any_unperformed_of_settled hafter
    rw [hleft, hperformed, hheld, htxns, hroom, hrunning]
    rfl
  · cases hline : s.pieceLine cmd piece c with
    | none => rfl
    | some a => exact hbehind a hline

section
variable {x : Coll} (hcoll : tabGet? s.colls cmd = some x)
include hcoll

/-- R249: a piece of a collective that may go starts the walks ahead of it; then its part of SEND is read and sent, or its line of RECV written. -/
theorem execEngineLinePerformed_coll : execEngineLinePerformed cmd piece s = .next (
    let s := s.walkAhead (s.cmdAsker cmd c) ((if piece % 2 = 1 then (x.sendParts c (piece / 2 / x.stride)).drop (piece / 2 % x.stride + 1)
      else (x.recvParts c).drop (piece / 2 + 1)).map Prod.fst)
    if piece % 2 = 1 then s.collSendPart cmd piece c x else s.collRecvLine cmd piece c x) := by
  obtain ⟨hgoes, hfirst⟩ := lineRuns_goes hruns
  obtain ⟨hcmd, hfin, howed, -⟩ := hruns
  simp only [execEngineLinePerformed, hcmd, hfin, howed, hgoes, hfirst, hcoll]
  rfl

/-- R249: an odd piece is a part of SEND … -/
theorem execEngineLinePerformed_send (hodd : piece % 2 = 1) :
    execEngineLinePerformed cmd piece s = .next ((s.walkAhead (s.cmdAsker cmd c)
      (((x.sendParts c (piece / 2 / x.stride)).drop (piece / 2 % x.stride + 1)).map Prod.fst)).collSendPart cmd piece c x) := by
  rw [execEngineLinePerformed_coll hruns hcoll]
  simp only [if_pos hodd]

/-- … and an even one a line of RECV. -/
theorem execEngineLinePerformed_recv (heven : piece % 2 = 0) :
    execEngineLinePerformed cmd piece s =
      .next ((s.walkAhead (s.cmdAsker cmd c) (((x.recvParts c).drop (piece / 2 + 1)).map Prod.fst)).collRecvLine cmd piece c x) := by
  have hodd : ¬ piece % 2 = 1 := by omega
  rw [execEngineLinePerformed_coll hruns hcoll]
  simp only [if_neg hodd]

end

/-- R214: a line of a copy or of the pool engine that may go, and whose data are there, is written and counted. -/
theorem execEngineLinePerformed_written {x : List (Nat × List Byte) × Nat} {s' s'' : State} (hcoll : tabGet? s.colls cmd = none)
    (hdata : ((c.aheadOf piece).foldl (fun s vas => s.walkAhead (s.cmdAsker cmd c) vas) s).lineData cmd piece c (c.lines.getD piece 0) = (.ok x, s'))
    (hwrite : s'.lineWrite cmd piece c x.1 = (.ok true, s'')) :
    execEngineLinePerformed cmd piece s = .next ((((s''.dropReads (engineWave cmd)).dropHeld (.line cmd piece)).setCmd cmd
      { c with skipped := c.skipped + x.2 }).lineDone cmd piece) := by
  obtain ⟨hgoes, hfirst⟩ := lineRuns_goes hruns
  obtain ⟨hcmd, hfin, howed, -⟩ := hruns
  simp only [execEngineLinePerformed, hcmd, hfin, howed, hgoes, hfirst, hcoll, hdata, hwrite]
  rfl

end

/-! ## Messages of a collective -/

/-- R248: the live collective that a message names is matched where it has the message's version. -/
theorem liveColl_filter_version {s : State} {cle g seq v cid : Nat} {x : Coll} (hlive : s.liveColl cle g seq = some (cid, x)) (hversion : x.version = v) :
    (s.liveColl cle g seq).filter (fun x => x.2.version == v) = some (cid, x) := by
  simp [hlive, hversion]

section
variable {s : State} {i cid : Nat} {m : CollMsg} {x : Coll}

section
variable {c : Cmd} (hmsg : s.collMsg? i (fun k => decide (k ≤ 1)) = some m) (hlive : s.liveColl m.cle m.group m.seq = some (cid, x))
  (hversion : x.version = m.version) (hcmd : (s.dropMsg i).cmd? cid = some c)
include hmsg hlive hversion hcmd

/-- R249: data of a matched collective is kept and acknowledged … -/
theorem execCollDataArrival_data (hkey : m.key = x.key) (hdata : m.kind = 1) :
    execCollDataArrival i s = .next (
      let y := { x with heard := if x.heard.contains m.rank then x.heard else x.heard ++ [m.rank], got := x.got ++ [(m.rank, m.off, m.data)] }
      let s := { s.dropMsg i with colls := tabPut (s.dropMsg i).colls cid y }
      s.tell (x.ranks.getD m.rank (s.device, c.engine)) { x.msg c 2 with piece := m.piece }) := by
  simp only [execCollDataArrival, hmsg, liveColl_filter_version hlive hversion, hcmd]
  rw [if_neg (by simp [hkey]), if_neg (not_not.2 hkey), if_neg (by simp [hdata])]
  rfl

/-- R252: … and a message of a collective of another kind of command ends it, in its turn of the cycle. -/
theorem execCollDataArrival_disagrees (hkey : m.key ≠ x.key) (hturn : s.collLate m.cle m.group 1 = false) :
    execCollDataArrival i s = .next (((s.dropMsg i).collEndAll cid cCollGroup 0 cCollGroup).collServe m.cle m.group 1) := by
  simp only [execCollDataArrival, hmsg, liveColl_filter_version hlive hversion, hcmd]
  rw [if_neg (by simp [hturn]), if_pos hkey]

end

/-- R250: an acknowledgement takes its piece of SEND from those outstanding. -/
theorem execCollAck_live (hmsg : s.collMsg? i (fun k => k == 2) = some m) (hlive : s.liveColl m.cle m.group m.seq = some (cid, x))
    (hversion : x.version = m.version) :
    execCollAck i s = .next (({ s.dropMsg i with
      colls := tabPut (s.dropMsg i).colls cid { x with unacked := x.unacked.filter (· ≠ m.piece) } } : State).collSettle m.cle m.group) := by
  simp only [execCollAck, hmsg, liveColl_filter_version hlive hversion]

/-- R252: the end that another rank sends, of a version that is loaded, ends the live collective in its turn of the cycle. -/
theorem execCollEndMessage_live (hmsg : s.collMsg? i (fun k => decide (k ≥ 3)) = some m) (hloaded : m.version ≤ (s.groupOf m.group).version)
    (hturn : s.collLate m.cle m.group (endRow m.code) = false) (hlive : (s.dropMsg i).liveColl m.cle m.group m.seq = some (cid, x))
    (hversion : x.version = m.version) :
    execCollEndMessage i s = .next (((s.dropMsg i).collEnd cid m.code 0).collServe m.cle m.group (endRow m.code)) := by
  simp only [execCollEndMessage, hmsg, liveColl_filter_version hlive hversion]
  rw [if_neg (by simp [hturn, hloaded])]

end

/-- R243: an entry whose version is the loaded one is read again, and no collective ends. -/
theorem execGroupReload_same {s : State} {g : Nat} (hsame : (s.readGroup (g % 65536)).1.version = (s.groupOf (g % 65536)).version) :
    execGroupReload g s = .next { (s.readGroup (g % 65536)).2 with
      groups := tabPut (s.readGroup (g % 65536)).2.groups (g % 65536) (s.readGroup (g % 65536)).1 } := by
  unfold execGroupReload
  dsimp only
  rw [if_neg (by simp [hsame]), if_pos hsame]

end Sys2Proof.Machine

/-- Settles O38: each step of a command, of a collective and of a group, its condition met, gives the state that its rule names. -/
theorem commandEvents : Obligations.CommandEvents := by
  refine ⟨?copy, ?copyTrap, ?pool, ?coll, ?passed, ?raised, ?line, ?send, ?recv, ?data, ?disagrees, ?ack, ?endMessage, ?reload⟩
  case copy =>
    rintro cmd c w c' s' s ⟨hcmd, hissued, hkind, hheld, hwave, hcheck⟩
    exact congrArg Host.Outcome.next (tryAccept_accepts hcmd hissued hheld hwave (decide_eq_true hkind) hcheck)
  case copyTrap =>
    rintro cmd c w k s' s ⟨hcmd, hissued, hkind, hheld, hwave, hcheck⟩
    exact congrArg Host.Outcome.next (tryAccept_traps hcmd hissued hheld hwave (decide_eq_true hkind) hcheck)
  case pool =>
    rintro cmd c w c' s' s ⟨hcmd, hissued, hkind, hheld, hwave, hcheck⟩
    exact congrArg Host.Outcome.next (tryAccept_accepts hcmd hissued hheld hwave (beq_iff_eq.2 hkind) hcheck)
  case coll =>
    rintro cmd c w c' x s' s ⟨hcmd, hissued, hkind, hheld, hwave, hcheck⟩
    exact execCollAccept_accepts hcmd hissued hheld hwave hkind hcheck
  case passed =>
    rintro cmd c key s' s ⟨hcmd, hrunning, hleft, hkind, hheld, hready, hpromise, hgone⟩
    exact execPromiseRevise_passed hcmd hrunning hleft hkind hheld hready hpromise hgone
  case raised =>
    rintro cmd c key s' s ⟨hcmd, hrunning, hleft, hkind, hheld, hready, hcopy, hopen⟩
    exact execPromiseRevise_open hcmd hrunning hleft hkind hheld hready hcopy hopen
  case line =>
    rintro cmd piece c x s' s'' s ⟨hruns, hcoll, hdata, hwrite⟩
    exact execEngineLinePerformed_written hruns hcoll hdata hwrite
  case send =>
    rintro cmd piece c x s ⟨hruns, hcoll, hodd⟩
    exact execEngineLinePerformed_send hruns hcoll hodd
  case recv =>
    rintro cmd piece c x s ⟨hruns, hcoll, heven⟩
    exact execEngineLinePerformed_recv hruns hcoll heven
  case data =>
    rintro i m cid x c s ⟨hmsg, hlive, hversion, hcmd, hkey, hdata⟩
    exact execCollDataArrival_data hmsg hlive hversion hcmd hkey hdata
  case disagrees =>
    rintro i m cid x c s ⟨hmsg, hlive, hversion, hcmd, hkey, hturn⟩
    exact execCollDataArrival_disagrees hmsg hlive hversion hcmd hkey hturn
  case ack =>
    rintro i m cid x s ⟨hmsg, hlive, hversion⟩
    exact execCollAck_live hmsg hlive hversion
  case endMessage =>
    rintro i m cid x s ⟨hmsg, hloaded, hturn, hlive, hversion⟩
    exact execCollEndMessage_live hmsg hloaded hturn hlive hversion
  case reload =>
    intro g s hsame
    exact execGroupReload_same (s := s) (g := g) hsame
end

section
/-!
Combining objects: the words CALLO, CREPLY, CDONE and CABORT (O31), and the steps that bring a CALLO's requests to its home, form a batch and land the
replies (O41).
-/
open Sys2Proof Sys2Proof.Machine

namespace Sys2Proof.Machine

/-! ## What the gates leave of the wave -/

/-- R185, R207: a gate that lets a word through changes nothing of its wave … -/
theorem gated_w {e e' : Env} {c : MemClass} {ordered : Bool} (h : e.gated c ordered = some e') : e'.w = e.w := by
  obtain ⟨-, ⟨⟩⟩ := Option.ite_none_left_eq_some.1 h
  rfl

/-- … and so does a record that is read at once. -/
theorem recordAt_w {e e' : Env} {d : Dir} {va n : Nat} {look : Bool} {b : List Byte} (h : e.recordAt d va n look = some (e', b)) : e'.w = e.w := by
  unfold Env.recordAt at h
  split at h
  · cases h
    rfl
  · cases h

/-! ## CALLO -/

/-- R226: a descriptor that allows the call fails none of the checks that trap. -/
theorem calloAllowed_eq_true_iff {e : Env} {c : CombDesc} : calloAllowed e c = true ↔
    c.ok = true ∧ ¬ (decide (c.tenant ≠ e.w.tenant) || !c.admits e.s.device e.core || isAvenueVa c.state ||
      !(!c.det || (e.det && c.homeDev == e.s.device))) = true := by
  cases hdet : c.det <;> simp [calloAllowed, hdet, and_assoc]

/-- R225: under an all-zero exec, outside a batch, CALLO does nothing. -/
theorem execCallo_idle (d a b : BitVec 7) : GivesIf (.callo d a b) (fun e => e.exec = 0#32 ∧ e.w.batch = none) Env.done :=
  givesIf_of (execCallo d a b) (fun _ => rfl) (fun _ => rfl) fun _ ⟨hnone, hbatch⟩ => (if_pos hnone).trans (if_neg (by simp [hbatch]))

/-- R225 to R227: outside a batch, with a record that allows the call and room on a14, CALLO sends its requests. -/
theorem execCallo_sends {d a b : BitVec 7} {s : State} {e e' e'' : Env} {rec_ : List Byte} (hissues : Issues (.callo d a b) s e)
    (hactive : e.exec ≠ 0#32) (hbatch : e.w.batch = none) (hgate : e.gated .held true = some e') (haligned : (e'.s64 a).toNat % 64 = 0)
    (hrecord : e'.recordAt .load (e'.s64 a).toNat 32 = some (e'', rec_)) (hallowed : calloAllowed e'' (combDescOf rec_) = true)
    (hroom : (e''.w.cnt.getD 14 []).length < 63) :
    exec (.callo d a b) s = .next (calloSent e'' (combDescOf rec_) (e'.s64 a) d b).done := by
  obtain ⟨hok, hpermitted⟩ := calloAllowed_eq_true_iff.1 hallowed
  have hbatch'' : e''.w.batch = none := by rw [recordAt_w hrecord, gated_w hgate, hbatch]
  refine exec_of_issues (execCallo d a b) hissues (fun _ => rfl) (fun _ => rfl) ?_
  refine (if_neg hactive).trans <| (memGate_gated hgate _).trans <| (if_neg (not_not.2 haligned)).trans <| (readRecord_recordAt hrecord _).trans ?_
  exact (if_neg (by simp [hok])).trans <| (if_neg hpermitted).trans <| (if_neg (by simp [hbatch''])).trans <| if_neg (Nat.not_le.2 hroom)

/-! ## COMB -/

/-- R39, R234: outside a combiner wave a word that only a batch may use is illegal, before every other check. -/
theorem exec_illegal_outside_batch {i : Instr} {s : State} {e : Env} {k : Env → Out} (m : State → Out) (hexec : ∀ s, exec i s = m s)
    (hrules : ∀ s, m s = issue i.form s k) (hcomb : i.form.combOnly = true) (he : s.env? = some e) (hbatch : e.w.batch = none) :
    exec i s = e.trap cIllegal 0#64 := by
  rw [hexec, hrules, issue_eq, he]
  exact if_pos (by simp [illegalHere, hcomb, hbatch])

/-- R234: in a batch a COMB word passes the gate of memory-class words, and its rules see the batch. -/
theorem inBatch_gated {e e' : Env} {x : Batch} (hbatch : e.w.batch = some x) (hgate : e.gated .load false = some e') (k : Env → Batch → Out) :
    e.inBatch k = k e' x := by
  unfold Env.inBatch
  rw [hbatch]
  exact memGate_gated hgate _

/-- R232, R238: the batch of a wave that has one ends with the code. -/
theorem batchFault_batch {e : Env} {x : Batch} (hbatch : e.w.batch = some x) (code : Nat) :
    e.batchFault code = .next (e.s.faultBatch e.key e.w x code) := by
  unfold Env.batchFault
  rw [hbatch]

/-- R236: with every byte on a sound sector, in its turn of the cycle and with spill space, the commit writes its bytes and answers. -/
theorem commitWrite_commits {e : Env} {s : State} {x : Batch} {ks : List (Nat × Byte)}
    (hks : ∀ k ∈ ks, (commitFound e s ks).writeError k.1 1 = none ∧ (commitFound e s ks).writeLateIn k.1 (srcCore e.core) = false ∧
      (commitFound e s ks).needsSpill k.1 [k.2] = false) :
    ({ e with s := s } : Env).commitWrite x ks = .next (batchCommitted e (commitFound e s ks) x ks) := by
  have hsound : (ks.findSome? fun (k : Nat × Byte) => (commitFound e s ks).writeError k.1 1) = none :=
    List.findSome?_eq_none_iff.2 fun k hk => (hks k hk).1
  have hturn : ¬ (ks.any fun k => (commitFound e s ks).writeLateIn k.1 (srcCore e.core)) = true := by
    simpa using fun key byte hk => (hks (key, byte) hk).2.1
  have hspace : (ks.find? fun k => (commitFound e s ks).needsSpill k.1 [k.2]) = none :=
    List.find?_eq_none.2 fun k hk => Bool.eq_false_iff.1 (hks k hk).2.2
  have hcore : Env.core { e with s := commitFound e s ks } = e.core := rfl
  unfold commitFound at hsound hturn hspace hcore
  simp only [Env.commitWrite, hsound, hcore]
  rw [if_neg hturn]
  simp only [hspace]
  rfl

section
variable {s : State} {e e' : Env} {x : Batch}

/-- R235: CREPLY sets the replies of the lanes in p0. -/
theorem execCreply_sets {b : BitVec 7} (hissues : Issues (.creply b) s e) (hbatch : e.w.batch = some x) (hgate : e.gated .load false = some e')
    (hread : readable e' b (e'.w.preds.getD 0 0#32)) :
    exec (.creply b) s = .next (replied (e'.found b (e'.w.preds.getD 0 0#32)) x (e'.w.preds.getD 0 0#32) b).done :=
  exec_of_issues (execCreply b) hissues (fun _ => rfl) (fun _ => rfl) <| (inBatch_gated hbatch hgate _).trans (crossRead_readable hread _)

/-- R236: CDONE commits a batch whose bytes all translate and may be written. -/
theorem execCdone_commits {s' : State} {ks : List (Nat × Byte)} (hissues : Issues .cdone s e) (hbatch : e.w.batch = some x)
    (hgate : e.gated .load false = some e')
    (hxlat : e'.s.commitXlat (e'.s.waveAsker e'.key e'.cs e'.w) x.scope x.commit [] = (.ok ks, s'))
    (hks : ∀ k ∈ ks, (commitFound e' s' ks).writeError k.1 1 = none ∧ (commitFound e' s' ks).writeLateIn k.1 (srcCore e'.core) = false ∧
      (commitFound e' s' ks).needsSpill k.1 [k.2] = false) :
    exec .cdone s = .next (batchCommitted e' (commitFound e' s' ks) x ks) := by
  refine exec_of_issues execCdone hissues (fun _ => rfl) (fun _ => rfl) <| (inBatch_gated hbatch hgate _).trans ?_
  dsimp only
  rw [hxlat]
  exact commitWrite_commits hks

/-- R237: CABORT faults the batch with the low byte of its scalar. -/
theorem execCabort_faults {a : BitVec 7} (hissues : Issues (.cabort a) s e) (hbatch : e.w.batch = some x) (hgate : e.gated .load false = some e') :
    exec (.cabort a) s = .next (e'.s.faultBatch e'.key e'.w x ((e'.s32 a).toNat % 256)) := by
  have hbatch' : e'.w.batch = some x := by rw [gated_w hgate, hbatch]
  exact exec_of_issues (execCabort a) hissues (fun _ => rfl) (fun _ => rfl) <| (inBatch_gated hbatch hgate _).trans (batchFault_batch hbatch' _)

end

/-!
## Requests that arrive

What comes in a cycle is noted without a change to the requests on their way, the module or its cores.
-/

@[simp] theorem serve_callSends (s : State) (kind place rank : Nat) : (s.serve kind place rank).callSends = s.callSends := by
  unfold State.serve
  split_ifs <;> rfl

@[simp] theorem serve_device (s : State) (kind place rank : Nat) : (s.serve kind place rank).device = s.device := by
  unfold State.serve
  split_ifs <;> rfl

@[simp] theorem serve_cores (s : State) (kind place rank : Nat) : (s.serve kind place rank).cores = s.cores := by
  unfold State.serve
  split_ifs <;> rfl

@[simp] theorem serve_callRoom (s : State) (kind place rank home n : Nat) : (s.serve kind place rank).callRoom home n = s.callRoom home n := by
  unfold State.callRoom State.core
  rw [serve_cores]

/-- R228: the requests of a CALLO whose release set is performed enter, in their turn, a home queue of this module that has room and no earlier waiter. -/
theorem execCalloRequestArrival_enters {s : State} {op : Nat} {x : CallSend} {r : CallReq} {rs : List CallReq}
    (hfind : s.callSends.find? (fun x => x.op == op && !x.arrived) = some x) (hafter : s.settled x.after) (hdev : x.dev = s.device)
    (hreqs : x.reqs = r :: rs) (hbarred : r.dev = s.device → s.barred x.wave op = false)
    (hturn : s.tooLate 1 x.home (r.dev * 65536 + srcCore r.core) = false)
    (hfirst : (s.callSends.any fun y => y.arrived && y.home == x.home && y.dev == s.device) = false) (hroom : s.callRoom x.home x.reqs.length = true) :
    execCalloRequestArrival op s = .next (
      let t := s.serve 1 x.home (r.dev * 65536 + srcCore r.core)
      ({ t with callSends := t.callSends.filter fun y => y.op != op } : State).takeIn x.home x.reqs) := by
  have hperformed : x.after.any s.unperformed = false := any_unperformed_of_settled hafter
  have hheld : (r.dev == s.device && s.barred x.wave op) = false := by simpa using hbarred
  have hhead : x.reqs.head? = some r := by rw [hreqs]; rfl
  unfold execCalloRequestArrival
  simp only [hfind, hhead, Option.map_some, Option.getD_some]
  rw [if_neg (by simp [hperformed, hheld]), if_neg (by simp [hturn]), if_pos hdev, if_pos (hdev.trans (serve_device ..).symm)]
  exact if_pos (by simp only [serve_callSends, serve_callRoom, serve_device, hfirst, hroom, Bool.not_false, Bool.and_self])

/-! ## Batches that form -/

/-- R239: a poisoned object answers all its requests that are due. -/
theorem withDesc_poisoned {s : State} {core slot key : Nat} {o : Nat × Nat} {b : List Byte} {at_ : Option (Nat × Nat)}
    (hpoisoned : (combDescOf b).poisoned = true) :
    s.withDesc core slot key o b at_ = ((s.dropHeld (.batch core o.2)).takeCalls core (s.dueReqs core o)).answer (s.dueReqs core o)
      (combDescOf b).scope fun _ => callStatus 0 0 cObjectPoisoned :=
  if_pos hpoisoned

/-- R229: a sound one forms a batch. -/
theorem withDesc_sound {s : State} {core slot key : Nat} {o : Nat × Nat} {b : List Byte} {at_ : Option (Nat × Nat)}
    (hsound : (combDescOf b).poisoned = false) : s.withDesc core slot key o b at_ = s.formBatch core slot (combDescOf b) key o at_ :=
  if_neg (by simp [hsound])

/-- R229: a free reserved slot reads the descriptor of the oldest request that may form a batch, where that lies in sound memory of this module. -/
theorem execBatchForm_reads {s s' : State} {core slot key kind : Nat} {r : CallReq} (hcore : core < 320)
    (hslot : [46, 47].find? (fun i => (s.wave? (48 * core + i)).isNone) = some slot)
    (hfirst : (s.core core).calls.find? (fun r => s.callDue r && !s.objectBusy core r.object) = some r) (hlegal : vaBad r.handle.toNat = false)
    (havenue : isAvenueVa r.handle.toNat = false) (hwalk : s.walkResolve (unitAsker r.tenant) .load r.handle.toNat = (.ok (.mem key) kind false, s'))
    (hsound : s'.readError key 64 = none) :
    execBatchForm core s = .next (s'.withDesc core slot key r.object (memGets s'.mem key 64) none).flushReplies := by
  unfold execBatchForm
  rw [if_neg (Nat.not_le.2 hcore)]
  simp only [hslot, hfirst, hlegal, havenue, hwalk]
  rw [if_neg (by simp)]
  simp [hsound]

/-! ## Replies that land -/

/-- R197: writing a vector leaves the list of failed instructions. -/
@[simp] theorem putVec_failed (w : Wave) (p : Nat) (m : Word) (f : Nat → Word) : (w.putVec p m f).failed = w.failed := by
  unfold Wave.putVec
  split_ifs <;> rfl

/-- The wave of the CALLO `op` with a reply in its lane; with the last one the instruction has landed, unless a lane of it has failed (R197, R227). -/
def Wave.replyLanded (w : Wave) (op : Nat) (c : CallPend) (r : CallReply) : Wave :=
  let m : Word := BitVec.ofNat 32 (2 ^ r.lane)
  let left := c.lanes &&& ~~~m
  let v := (w.putVec c.dest m fun _ => r.val).putVec c.status m fun _ => r.status
  let v := { v with callo := v.callo.filterMap fun (x : CallPend) =>
    if x.op = op then (if left = 0#32 then none else some { x with lanes := left }) else some x }
  if left = 0#32 ∧ v.failed.contains op = false then v.landOp op else v

/-- The state with that wave, the reply taken, and an acquire at the object's scope (R188, R227). -/
def State.replyLanded (s : State) (op : Nat) (w : Wave) (c : CallPend) (r : CallReply) : State :=
  let m : Word := BitVec.ofNat 32 (2 ^ r.lane)
  let t := ({ s with callReplies := s.callReplies.erase r }.wroteVec r.core w c.dest m).wroteVec r.core w c.status m
  ((t.acquireAt r.core r.scope).setWave (48 * r.core + r.slot) (w.replyLanded op c r)).reap (48 * r.core + r.slot)

/-- R178, R227: a reply for a lane that still waits, the wave's earlier loads landed, is written, and the last lane ends the CALLO. -/
theorem execCalloReplyLand_lands {s : State} {op : Nat} {r : CallReply} {w : Wave} {c : CallPend}
    (hfind : s.callReplies.find? (fun r => r.op == op) = some r) (hwave : s.wave? (48 * r.core + r.slot) = some w) (hlive : w.ended = false)
    (hcallo : w.callo.find? (fun c => c.op == op) = some c) (hlane : laneIn c.lanes r.lane = true)
    (hlanded : s.loadsLandedTo (48 * r.core + r.slot) op = true) :
    execCalloReplyLand op s = .next (s.replyLanded op w c r) := by
  have hwave' : ({ s with callReplies := s.callReplies.erase r } : State).wave? (48 * r.core + r.slot) = some w := hwave
  unfold execCalloReplyLand State.replyLanded Wave.replyLanded
  simp only [hfind]
  rw [if_neg (by simp [hlanded])]
  simp only [hwave', hcallo]
  rw [if_neg (by simp [hlane])]
  simp [hlive]

end Sys2Proof.Machine

/-- Settles O31: CALLO does nothing under an all-zero exec and else sends; outside a batch the COMB words are illegal, and in one each acts on it. -/
theorem combinerWords : Obligations.CombinerWords := by
  intro d a b
  refine ⟨execCallo_idle d a b, fun _ _ _ _ _ => execCallo_sends, ?outside, fun _ _ _ _ => execCreply_sets, fun _ _ _ _ _ _ => execCdone_commits,
    fun _ _ _ _ => execCabort_faults⟩
  case outside =>
    intro s e he hbatch
    exact
      ⟨exec_illegal_outside_batch (execCreply b) (fun _ => rfl) (fun _ => rfl) rfl he hbatch,
       exec_illegal_outside_batch execCdone (fun _ => rfl) (fun _ => rfl) rfl he hbatch,
       exec_illegal_outside_batch (execCabort a) (fun _ => rfl) (fun _ => rfl) rfl he hbatch⟩

/-- Settles O41: requests enter a home queue with room, a sound object forms a batch and a poisoned one is answered, and replies land. -/
theorem combinerEvents : Obligations.CombinerEvents := by
  refine ⟨?arrival, ?forms, ?poisoned, ?lands⟩
  case arrival =>
    rintro op x r rs s ⟨hfind, hafter, hdev, hreqs, hbarred, hturn, hfirst, hroom⟩
    exact execCalloRequestArrival_enters hfind hafter hdev hreqs hbarred hturn hfirst hroom
  case forms =>
    rintro core slot r key kind s' s ⟨hcore, hslot, hfirst, hlegal, havenue, hwalk, herror, hsound⟩
    refine (execBatchForm_reads hcore hslot hfirst hlegal havenue hwalk herror).trans ?_
    rw [withDesc_sound hsound]
  case poisoned =>
    rintro core slot r key kind s' s ⟨hcore, hslot, hfirst, hlegal, havenue, hwalk, herror, hpoisoned⟩
    refine (execBatchForm_reads hcore hslot hfirst hlegal havenue hwalk herror).trans ?_
    rw [withDesc_poisoned hpoisoned]
  case lands =>
    rintro op r w c s ⟨hfind, hwave, hlive, hcallo, hlane, hlanded⟩
    exact execCalloReplyLand_lands hfind hwave hlive hcallo hlane hlanded
end

section
/-!
Predicate logic and the words that read or combine other lanes: votes, MATCH and WRLANE (O7), SHFL, RDLANE and BCAST (O11), REDUCE and SCAN (O12). Most words
always complete; a word that reads lanes across the wave completes once they may be read.
-/
open Sys2Proof Sys2Proof.Machine

namespace Sys2Proof.Machine

/-- R98, R276: a word whose own rules write a value to the predicate d and complete gives that write, the value named by an equal one. -/
theorem gives_putP {i : Instr} {d : BitVec 7} {x y : Env → Word} (m : State → Out) (hexec : ∀ s, exec i s = m s)
    (hrules : ∀ s, m s = issue i.form s fun e => .next (e.putP d e.exec (x e)).done) (hvalue : ∀ e, x e = y e) :
    Gives i fun e => (e.putP d e.exec (y e)).done :=
  gives_of m hexec hrules fun e => by rw [hvalue e]

/-- R277: a word whose own rules give every active lane of the vector d one late value and complete gives that value, named by an equal one. -/
theorem gives_putLateV {i : Instr} {d : BitVec 7} {x y : Env → Word} (m : State → Out) (hexec : ∀ s, exec i s = m s)
    (hrules : ∀ s, m s = issue i.form s fun e => .next (e.putLateV d (fun _ => x e) 0#32).done) (hvalue : ∀ e, x e = y e) :
    Gives i fun e => (e.putLateV d (fun _ => y e) 0#32).done :=
  gives_of m hexec hrules fun e => by rw [hvalue e]

/-! ## Votes and WRLANE -/

/-- R276: VOTE.ANY holds unless no active lane holds the predicate. -/
theorem voteAny_value (x : Word) : (if x != 0#32 then 0xFFFFFFFF#32 else 0#32) = if x = 0#32 then 0#32 else 0xFFFFFFFF#32 := by
  by_cases hnone : x = 0#32 <;> simp [hnone]

/-- R276: VOTE.ALL fails as soon as one active lane does not hold the predicate. -/
theorem voteAll_value (x : Word) : (if x == 0#32 then 0xFFFFFFFF#32 else 0#32) = if x = 0#32 then 0xFFFFFFFF#32 else 0#32 := by
  simp only [beq_iff_eq]

/-- R276: VOTE.UNI compares every active value with the lowest lane's. -/
theorem voteUni_value (xs : List Word) : (if xs.all fun x => x == xs.headD 0#32 then 0xFFFFFFFF#32 else 0#32) =
    if ∀ x ∈ xs, x = xs.headD 0#32 then 0xFFFFFFFF#32 else 0#32 := by
  simp only [List.all_eq_true, beq_iff_eq]

section
variable (d a b : BitVec 7)

/-- The lane that WRLANE writes, if it is active (R280). -/
def wrlaneMask (e : Env) : Word := e.exec &&& BitVec.ofNat 32 (2 ^ ((e.s32 b).toNat % 32))

/-- R280: WRLANE writes its element once that has landed … -/
theorem execWrlane_writes :
    GivesIf (.wrlane d a b) (fun e => e.landed d (wrlaneMask b e) = true) fun e => (e.putV d (wrlaneMask b e) fun _ => e.s32 a).done :=
  givesIf_of (execWrlane d a b) (fun _ => rfl) (fun _ => rfl) fun _ hlanded =>
    if_neg (ne_of_eq_of_ne (congrArg not hlanded) Bool.false_ne_true)

/-- … and holds until then (R196). -/
theorem execWrlane_holds {s : State} {e : Env} (hissues : Issues (.wrlane d a b) s e) (hflying : e.landed d (wrlaneMask b e) = false) :
    exec (.wrlane d a b) s = e.hold 0 0 :=
  exec_of_issues (execWrlane d a b) hissues (fun _ => rfl) (fun _ => rfl) <| if_pos (congrArg not hflying)

end

/-! ## Reading across lanes -/

/-- The lanes that a shuffle reads: the source of each active lane, or the lane itself where its source lies outside the wave (R275). -/
def shflLanes (m : ShflMode) (n : Nat → Nat) (e : Env) : Word :=
  maskOf fun j => (lanesOf e.exec).any fun l => (shflSource m l (n l)).getD l == j

/-- R275: the shuffle of lanes that may be read. -/
theorem shfl_readable {e : Env} {d a : BitVec 7} {m : ShflMode} {n : Nat → Nat} (hread : readable e a (shflLanes m n e)) :
    e.shfl d a m n = .next (shuffleFrom e d a m n (shflLanes m n e)).done := by
  unfold Env.shfl
  exact crossRead_readable hread _

/-- R273, R275: a word whose own rules shuffle v[a] by mode `m` and amounts `n` moves the lanes once they may be read. -/
theorem givesIf_readable_of_shfl {i : Instr} {d a : BitVec 7} {m : ShflMode} {n : Env → Nat → Nat} (x : State → Out) (hexec : ∀ s, exec i s = x s)
    (hrules : ∀ s, x s = issue i.form s fun e => e.shfl d a m (n e)) :
    GivesIf i (fun e => readable e a (shflLanes m (n e) e)) fun e => (shuffleFrom e d a m (n e) (shflLanes m (n e) e)).done :=
  givesIf_of x hexec hrules fun _ hread => shfl_readable hread

section
variable {i : Instr} {a b : BitVec 7} {t : Nat → Env → State} (x : State → Out) (hexec : ∀ s, exec i s = x s)
  (hrules : ∀ s, x s = issue i.form s fun e => if e.exec = 0#32 then .next e.done
    else e.crossRead a (BitVec.ofNat 32 (2 ^ ((e.s32 b).toNat % 32))) fun e' => .next (t ((e.s32 b).toNat % 32) e'))
include hexec hrules

/-- R280: a word that reads one lane, named by s[b], does nothing under an all-zero exec … -/
theorem givesIf_idle_of_laneRead : GivesIf i (fun e => e.exec = 0#32) Env.done :=
  givesIf_of x hexec hrules fun _ hnone => if_pos hnone

/-- … and else completes once that lane may be read. -/
theorem givesIf_readable_of_laneRead :
    GivesIf i (fun e => e.exec ≠ 0#32 ∧ readable e a (BitVec.ofNat 32 (2 ^ ((e.s32 b).toNat % 32))))
      fun e => t ((e.s32 b).toNat % 32) (e.found a (BitVec.ofNat 32 (2 ^ ((e.s32 b).toNat % 32)))) :=
  givesIf_of x hexec hrules fun _ ⟨hactive, hread⟩ => (if_neg hactive).trans (crossRead_readable hread _)

end

end Sys2Proof.Machine

/-- Settles O7: each word always completes but WRLANE, which waits for the element that it writes. -/
theorem predicatesAndVotes : Obligations.PredicatesAndVotes := by
  intro d a b p
  exact
    ⟨-- predicate logic (R98, R99) and VSEL (R93)
     gives_of_completes (execPand d a b) (fun _ => rfl) fun _ => rfl,
     gives_of_completes (execPor d a b) (fun _ => rfl) fun _ => rfl,
     gives_of_completes (execPxor d a b) (fun _ => rfl) fun _ => rfl,
     gives_of_completes (execPandn d a b) (fun _ => rfl) fun _ => rfl,
     gives_of_completes (execPorn d a b) (fun _ => rfl) fun _ => rfl,
     gives_of_completes (execPnot d a) (fun _ => rfl) fun _ => rfl,
     gives_of_completes (execPmov d a) (fun _ => rfl) fun _ => rfl,
     gives_of_completes (execPset d) (fun _ => rfl) fun _ => rfl,
     gives_of_completes (execPclr d) (fun _ => rfl) fun _ => rfl,
     gives_of_completes (execPtov d a) (fun _ => rfl) fun _ => rfl,
     gives_of_completes (execVtop d a) (fun _ => rfl) fun _ => rfl,
     gives_of_completes (execVsel d a b p) (fun _ => rfl) fun _ => rfl,
     -- votes (R276) and MATCH (R279)
     gives_putP (execVoteAny d a) (fun _ => rfl) (fun _ => rfl) fun e => voteAny_value (e.p32 a &&& e.exec),
     gives_putP (execVoteAll d a) (fun _ => rfl) (fun _ => rfl) fun e => voteAll_value (e.exec &&& ~~~(e.p32 a)),
     gives_of_completes (execVoteBallot d a) (fun _ => rfl) fun _ => rfl,
     gives_putP (execVoteUni d a) (fun _ => rfl) (fun _ => rfl) fun e => voteUni_value (e.activeVals a),
     gives_of_completes (execVoteElect d) (fun _ => rfl) fun _ => rfl,
     gives_of_completes (execMatchLanes d a) (fun _ => rfl) fun _ => rfl,
     -- WRLANE (R280)
     execWrlane_writes d a b, fun _ _ => execWrlane_holds d a b,
     -- the words of the votes and of MATCH (R36)
     rfl, rfl, rfl, rfl, rfl, rfl⟩

/-- Settles O11: a shuffle differs from the others in its mode and in where its amounts come from; RDLANE and BCAST read one lane. -/
theorem crossLane : Obligations.CrossLane := by
  intro d a b n
  refine
    ⟨?shuffles,
     givesIf_idle_of_laneRead (execRdlane d a b) (t := fun l e => (e.put32 d (e.readLane a l)).done) (fun _ => rfl) fun _ => rfl,
     givesIf_readable_of_laneRead (execRdlane d a b) (t := fun l e => (e.put32 d (e.readLane a l)).done) (fun _ => rfl) fun _ => rfl,
     givesIf_idle_of_laneRead (execBcast d a b) (t := fun l e => (e.putV d e.exec fun _ => e.readLane a l).done) (fun _ => rfl) fun _ => rfl,
     givesIf_readable_of_laneRead (execBcast d a b) (t := fun l e => (e.putV d e.exec fun _ => e.readLane a l).done) (fun _ => rfl) fun _ => rfl⟩
  case shuffles =>
    rintro i m f (⟨rfl, rfl, rfl⟩ | ⟨rfl, rfl, rfl⟩ | ⟨rfl, rfl, rfl⟩ | ⟨rfl, rfl, rfl⟩ | ⟨rfl, rfl, rfl⟩ | ⟨rfl, rfl, rfl⟩ | ⟨rfl, rfl, rfl⟩ |
      ⟨rfl, rfl, rfl⟩)
    -- amounts from v[b]
    · exact givesIf_readable_of_shfl (execShflIdx d a b) (fun _ => rfl) fun _ => rfl
    · exact givesIf_readable_of_shfl (execShflUp d a b) (fun _ => rfl) fun _ => rfl
    · exact givesIf_readable_of_shfl (execShflDn d a b) (fun _ => rfl) fun _ => rfl
    · exact givesIf_readable_of_shfl (execShflXor d a b) (fun _ => rfl) fun _ => rfl
    -- the amount of the word
    · exact givesIf_readable_of_shfl (execShfliIdx d a n) (fun _ => rfl) fun _ => rfl
    · exact givesIf_readable_of_shfl (execShfliUp d a n) (fun _ => rfl) fun _ => rfl
    · exact givesIf_readable_of_shfl (execShfliDn d a n) (fun _ => rfl) fun _ => rfl
    · exact givesIf_readable_of_shfl (execShfliXor d a n) (fun _ => rfl) fun _ => rfl

/-- Settles O12: each word always completes with a late result; a sum, OR or XOR may start from 0, which changes no value. -/
theorem reductions : Obligations.Reductions := by
  intro d a x
  exact
    ⟨-- integer reductions (R277)
     gives_putLateV (execReduceAddI32 d a) (fun _ => rfl) (fun _ => rfl) fun e => reduceInt_foldl .add BitVec.zero_add (actives e a),
     gives_of_completes (execReduceAnd d a) (fun _ => rfl) fun _ => rfl,
     gives_putLateV (execReduceOr d a) (fun _ => rfl) (fun _ => rfl) fun e => reduceInt_foldl .or (fun _ => BitVec.zero_or) (actives e a),
     gives_putLateV (execReduceXor d a) (fun _ => rfl) (fun _ => rfl) fun e => reduceInt_foldl .xor (fun _ => BitVec.zero_xor) (actives e a),
     gives_of_completes (execReduceMinI d a) (fun _ => rfl) fun _ => rfl,
     gives_of_completes (execReduceMaxI d a) (fun _ => rfl) fun _ => rfl,
     gives_of_completes (execReduceMinN d a) (fun _ => rfl) fun _ => rfl,
     gives_of_completes (execReduceMaxN d a) (fun _ => rfl) fun _ => rfl,
     -- FP32 reductions: the sum along the tree of R68, minimum and maximum in lane order (R277)
     gives_of_completes (execReduceAddF32 d a) (fun _ => rfl) fun _ => rfl,
     gives_of_completes (execReduceMinF32 d a) (fun _ => rfl) fun _ => rfl,
     gives_of_completes (execReduceMaxF32 d a) (fun _ => rfl) fun _ => rfl,
     -- scans (R278)
     gives_of_completes (execScanAddI32 d a x) (fun _ => rfl) fun _ => rfl,
     gives_of_completes (execScanMinI d a x) (fun _ => rfl) fun _ => rfl,
     gives_of_completes (execScanMaxI d a x) (fun _ => rfl) fun _ => rfl,
     gives_of_completes (execScanOr d a x) (fun _ => rfl) fun _ => rfl,
     gives_of_completes (execScanAddF32 d a x) (fun _ => rfl) fun _ => rfl⟩
end

section
/-!
Transfers (O16), the mask stack (O17), and the words that divide a split and gather it again (O18). Each word's rules are a chain of checks; a clause follows
the chain to the branch that its condition names.
-/
open Sys2Proof Sys2Proof.Machine

namespace Sys2Proof.Machine

/-! ## Steps that several of these words share -/

/-- R84: condition 0 always holds. -/
theorem cond_zero (e : Env) : e.cond 0 = true := rfl

/-- R20: a target that is a multiple of 4 is reached, with the transfer's packet … -/
theorem transfer_aligned {e : Env} {pc : DWord} {pkt : List Byte} (haligned : pc.toNat % 4 = 0) : e.transfer pc pkt = .next (e.jumped pc pkt) :=
  if_neg (not_not.2 haligned)

/-- … and any other traps. -/
theorem transfer_misaligned {e : Env} {pc : DWord} {pkt : List Byte} (hmisaligned : pc.toNat % 4 ≠ 0) : e.transfer pc pkt = e.trap cMisaligned pc :=
  if_pos hmisaligned

/-- R259: a call stack with room takes the return address … -/
theorem pushCall_room {e : Env} (hroom : e.sp.cstk.length < 8) (k : Env → Out) :
    e.pushCall k = k (e.setSplit fun p => { p with cstk := (e.pc + 4#64) :: p.cstk }) :=
  if_neg (Nat.not_le.2 hroom)

/-- … and a full one traps before the push. -/
theorem pushCall_full {e : Env} (hfull : 8 ≤ e.sp.cstk.length) (k : Env → Out) : e.pushCall k = e.trap cStackLimit 0#64 :=
  if_pos hfull

/-- Changes that make the issuing split the same make the wave the same. -/
theorem setSplit_congr {e : Env} {f g : Split → Split} (h : f e.sp = g e.sp) : e.setSplit f = e.setSplit g := by
  simp only [Env.setSplit, h]

/-! ## Transfers -/

section
variable (a : BitVec 7) (c : BitVec 5) (o : BitVec 20)

/-- R258: BR with condition 0 goes to its target without a packet. -/
theorem execBr_always : GivesIf (.br c o) (fun _ => c = 0#5) fun e => e.jump (e.pc + (o.signExtend 64 <<< 2)) :=
  givesIf_of (execBr c o) (fun _ => rfl) (fun _ => rfl) fun e hc => by
    subst hc
    simp [cond_zero, relTarget]

/-- R258, R390: a condition that holds goes to the target … -/
theorem execBr_taken : GivesIf (.br c o) (fun e => c ≠ 0#5 ∧ e.cond c.toNat = true)
    fun e => e.jumped (e.pc + (o.signExtend 64 <<< 2)) [pktHead 2 e.cl.slot 1] :=
  givesIf_of (execBr c o) (fun _ => rfl) (fun _ => rfl) fun e ⟨hc, htaken⟩ => by
    simp [hc, htaken, relTarget, Env.jumpPkt, Env.jumped]

/-- … and one that fails to the next word. -/
theorem execBr_untaken : GivesIf (.br c o) (fun e => c ≠ 0#5 ∧ e.cond c.toNat = false) fun e => e.jumped (e.pc + 4#64) [pktHead 2 e.cl.slot 0] :=
  givesIf_of (execBr c o) (fun _ => rfl) (fun _ => rfl) fun e ⟨hc, hfails⟩ => by
    simp [hc, hfails, Env.jumpPkt, Env.jumped]

/-- R260: CALLI with room on the call stack and an aligned target. -/
theorem execCalli_calls : GivesIf (.calli a) (fun e => e.sp.cstk.length < 8 ∧ (e.s64 a).toNat % 4 = 0) fun e =>
    (e.setSplit fun p => { p with cstk := (e.pc + 4#64) :: p.cstk }).jumped (e.s64 a) (pktHead 6 e.cl.slot 0 :: bytes8 (e.s64 a)) :=
  givesIf_of (execCalli a) (fun _ => rfl) (fun _ => rfl) fun _ ⟨hroom, haligned⟩ =>
    (if_neg (Nat.not_le.2 hroom)).trans <| (if_neg (not_not.2 haligned)).trans (pushCall_room hroom _)

/-- R260: RET to the address that it pops. -/
theorem execRet_returns : GivesIf .ret (fun e => e.sp.cstk ≠ [] ∧ (e.sp.cstk.headD 0#64).toNat % 4 = 0) fun e =>
    (e.setSplit fun p => { p with cstk := p.cstk.tail }).jumped (e.sp.cstk.headD 0#64)
      (pktHead 6 e.cl.slot 0 :: bytes8 (e.sp.cstk.headD 0#64)) :=
  givesIf_of execRet (fun _ => rfl) (fun _ => rfl) fun e ⟨hsome, haligned⟩ => by
    obtain ⟨t, rest, hstack⟩ := List.exists_cons_of_ne_nil hsome
    rw [setSplit_congr (g := fun p => { p with cstk := rest }) (by simp only [hstack, List.tail_cons])]
    simp only [hstack, List.headD_cons] at haligned ⊢
    exact if_neg (not_not.2 haligned)

/-- R260: RET with an empty call stack. -/
theorem execRet_empty : TrapsIf .ret (fun e => e.sp.cstk = []) cStackLimit fun _ => 0#64 :=
  trapsIf_of execRet (fun _ => rfl) (fun _ => rfl) fun e hempty => by simp only [hempty]

/-- R20, R21: the pieces of a 20-bit offset stand side by side in its word, so that each bit of the word is that of one field. -/
theorem offset_pieces (m : BitVec 7) : m ++ (c ++ o.extractLsb' 18 2) ++ o.extractLsb' 11 7 ++ o.extractLsb' 4 7 ++ o.extractLsb' 0 4 = m ++ c ++ o := by
  apply BitVec.eq_of_getLsbD_eq
  intro i hi
  simp only [BitVec.getLsbD_append, BitVec.getLsbD_extractLsb']
  grind

end

/-! ## The mask stack -/

/-- R261: MELSE activates the lanes of the mask that was pushed last which are not active … -/
theorem execMelse_complements : GivesIf .melse (fun e => e.sp.mstk ≠ []) fun e =>
    (e.setSplit fun p => { p with exec := e.sp.mstk.headD 0#32 &&& ~~~p.exec }).passed
      (pktHead 3 e.cl.slot 0 :: bytes4 (e.sp.mstk.headD 0#32 &&& ~~~e.exec)) :=
  givesIf_of execMelse (fun _ => rfl) (fun _ => rfl) fun e hsome => by
    obtain ⟨top, rest, hstack⟩ := List.exists_cons_of_ne_nil hsome
    simp only [hstack, List.headD_cons]
    rfl

/-- … and MPOP takes that mask back. -/
theorem execMpop_pops : GivesIf .mpop (fun e => e.sp.mstk ≠ []) fun e =>
    (e.setSplit fun p => { p with exec := e.sp.mstk.headD 0#32, mstk := p.mstk.tail }).passed
      (pktHead 3 e.cl.slot 0 :: bytes4 (e.sp.mstk.headD 0#32)) :=
  givesIf_of execMpop (fun _ => rfl) (fun _ => rfl) fun e hsome => by
    obtain ⟨top, rest, hstack⟩ := List.exists_cons_of_ne_nil hsome
    rw [setSplit_congr (g := fun p => { p with exec := top, mstk := rest }) (by simp only [hstack, List.headD_cons, List.tail_cons])]
    simp only [hstack, List.headD_cons]
    rfl

/-! ## FORK -/

/-- A mask that holds every lane of x leaves none of them out. -/
theorem and_not_eq_zero_of_and_eq_self {x y : Word} (h : x &&& y = x) : x &&& ~~~y = 0#32 := by
  rw [← h, BitVec.and_assoc, BitVec.and_not_self]
  exact BitVec.and_zero

/-- A mask that shares a lane with another has a lane. -/
theorem ne_zero_of_and_ne_zero {x y : Word} (h : x &&& y ≠ 0#32) : x ≠ 0#32 := by
  rintro rfl
  exact h BitVec.zero_and

section
variable (d a b : BitVec 7) (t : BitVec 3) (i : BitVec 11)

/-- R263: with no lane taken the split goes on … -/
theorem execFork_none : GivesIf (.fork d t i) (fun e => e.exec ≠ 0#32 ∧ e.exec &&& e.p32 d = 0#32) fun e =>
    e.jumped (e.pc + 4#64) (pktHead 4 e.cl.slot 0 :: (bytes4 0#32 ++ [255#8])) :=
  givesIf_of (execFork d t i) (fun _ => rfl) (fun _ => rfl) fun e ⟨hactive, hnone⟩ =>
    (if_neg hactive).trans <| (if_pos hnone).trans <| by rw [hnone]; rfl

/-- … with every lane taken it goes to the target … -/
theorem execFork_all : GivesIf (.fork d t i) (fun e => e.exec ≠ 0#32 ∧ e.exec &&& e.p32 d = e.exec) fun e =>
    e.jumped (e.pc + (i.signExtend 64 <<< 2)) (pktHead 4 e.cl.slot 0 :: (bytes4 e.exec ++ [255#8])) :=
  givesIf_of (execFork d t i) (fun _ => rfl) (fun _ => rfl) fun e ⟨hactive, hall⟩ =>
    (if_neg hactive).trans <| (if_neg (ne_of_eq_of_ne hall hactive)).trans <| (if_pos (and_not_eq_zero_of_and_eq_self hall)).trans <| by rw [hall]; rfl

/-- The split table after a FORK that divides the split, and where the taken part has gone (R263). -/
def forked (e : Env) : SplitTab × Nat :=
  ((e.tab.widen t.toNat e.sp).setSlot e.cl.slot
    (some (e.sp.part e.pc e.sp.src (e.sp.base &&& ~~~(e.exec &&& e.p32 d)) (e.exec &&& ~~~(e.p32 d))))).place
      (e.sp.part (e.pc + (i.signExtend 64 <<< 2)) e.pc (e.exec &&& e.p32 d) (e.exec &&& e.p32 d))

/-- … and with both parts it is divided, where there is room … -/
theorem execFork_divides : GivesIf (.fork d t i)
    (fun e => e.exec &&& e.p32 d ≠ 0#32 ∧ e.exec &&& ~~~(e.p32 d) ≠ 0#32 ∧ (e.tab.freeSlot.isSome ∨ e.tab.pend.length < 16)) fun e =>
      (e.setTab (forked d t i e).1).jumped (e.pc + 4#64)
        (pktHead 4 e.cl.slot 0 :: (bytes4 (e.exec &&& e.p32 d) ++ [BitVec.ofNat 8 (forked d t i e).2])) :=
  givesIf_of (execFork d t i) (fun _ => rfl) (fun _ => rfl) fun e ⟨htaken, hleft, hroom⟩ =>
    (if_neg (ne_zero_of_and_ne_zero htaken)).trans <| (if_neg htaken).trans <| (if_neg hleft).trans <| if_neg (by
      simpa [Option.isSome_iff_ne_none, or_iff_not_imp_left] using hroom)

/-- … or traps (R263, R268). -/
theorem execFork_full : TrapsIf (.fork d t i)
    (fun e => e.exec &&& e.p32 d ≠ 0#32 ∧ e.exec &&& ~~~(e.p32 d) ≠ 0#32 ∧ e.tab.freeSlot = none ∧ 16 ≤ e.tab.pend.length)
    cStackLimit fun _ => 0#64 :=
  trapsIf_of (execFork d t i) (fun _ => rfl) (fun _ => rfl) fun _ ⟨htaken, hleft, hnone, hfull⟩ =>
    (if_neg (ne_zero_of_and_ne_zero htaken)).trans <| (if_neg htaken).trans <| (if_neg hleft).trans <| if_pos (by simp [hnone, hfull])

/-! ## JOIN -/

/-- R264: an idle token leaves JOIN nothing to do … -/
theorem execJoin_idle : GivesIf (.join t) (fun e => (e.tab.tok t.toNat).active = false) fun e => e.jump (e.pc + 4#64) :=
  givesIf_of (execJoin t) (fun _ => rfl) (fun _ => rfl) fun _ hidle => if_pos (congrArg not hidle)

/-- … and stacks of another depth trap … -/
theorem execJoin_traps : TrapsIf (.join t) (fun e => (e.tab.tok t.toNat).active = true ∧
    (e.sp.mstk.length ≠ (e.tab.tok t.toNat).mstk.length ∨ e.sp.cstk.length ≠ (e.tab.tok t.toNat).cstk.length)) cStackLimit fun _ => 0#64 :=
  trapsIf_of (execJoin t) (fun _ => rfl) (fun _ => rfl) fun _ ⟨hactive, hdepth⟩ =>
    (if_neg (by simp [hactive])).trans <| if_pos (by simpa using hdepth)

/-- R264, R265: … the last group merges with those that have arrived, and goes on in its slot … -/
theorem execJoin_merges : GivesIf (.join t) (fun e => joins e t ∧ (joined e t).complete = true) fun e =>
    (({ e with sp := (joined e t).merged (e.pc + 4#64) } : Env).setTab
      ({ (e.tab.setTok t.toNat Token.idle) with merges := e.tab.merges.filter (· ≠ t.toNat) }.setSlot e.cl.slot
        (some ((joined e t).merged (e.pc + 4#64))))).jumped (e.pc + 4#64)
      (pktHead 5 e.cl.slot 1 :: BitVec.ofNat 8 t.toNat :: bytes4 ((joined e t).merged (e.pc + 4#64)).exec) :=
  givesIf_of (execJoin t) (fun _ => rfl) (fun _ => rfl) fun _ ⟨⟨hactive, hmasks, hcalls⟩, hcomplete⟩ =>
    (if_neg (by simp [hactive])).trans <| (if_neg (by simp [hmasks, hcalls])).trans <| if_pos hcomplete

/-- … and an earlier one leaves its slot (R264). -/
theorem execJoin_leaves : GivesIf (.join t) (fun e => joins e t ∧ (joined e t).complete = false) fun e =>
    e.leaveSlot (e.tab.setTok t.toNat (joined e t)) [BitVec.ofNat 8 (5 * 16 + e.cl.slot * 4), BitVec.ofNat 8 t.toNat] :=
  givesIf_of (execJoin t) (fun _ => rfl) (fun _ => rfl) fun _ ⟨⟨hactive, hmasks, hcalls⟩, hwaiting⟩ =>
    (if_neg (by simp [hactive])).trans <| (if_neg (by simp [hmasks, hcalls])).trans <| if_neg (Bool.eq_false_iff.1 hwaiting)

/-- R20, R36: the word of JOIN has its token at the end. -/
theorem token_word (t : BitVec 3) : 6#7 ++ 0#7 ++ 0#7 ++ 0#7 ++ (0#1 ++ t) = 6#7 ++ 0#22 ++ t := by
  decide +revert

/-! ## JTAB -/

section
variable {d a b : BitVec 7} {t : BitVec 3} {s : State} {e : Env}

/-- R266: JTAB's checks pass where the table is aligned and no index and no entry is outside. -/
theorem jtabInside_iff : jtabInside e d a b ↔ (e.s64 b).toNat % 4 = 0 ∧ jtabBeyond e d a = [] ∧ jtabOutside e a b = [] := by
  simp only [jtabInside, jtabBeyond, jtabOutside, List.filter_eq_nil_iff, List.forall_mem_map, Bool.or_eq_true, decide_eq_true_eq, not_or, not_le, not_lt,
    ← forall_and]

/-- R266: a check of JTAB that lanes fail traps them … -/
theorem not_isEmpty_of_ne_nil {α : Type} {l : List α} (h : l ≠ []) : (!l.isEmpty) = true :=
  congrArg not (List.isEmpty_eq_false_iff.2 h)

/-- … and one that no lane fails lets JTAB go on. -/
theorem isEmpty_of_eq_nil {α : Type} {l : List α} (h : l = []) : ¬ (!l.isEmpty) = true :=
  h ▸ Bool.false_ne_true

/-- R266: the table must be aligned … -/
theorem execJtab_misaligned (d a b : BitVec 7) (t : BitVec 3) :
    TrapsIf (.jtab d a b t) (fun e => (e.s64 b).toNat % 4 ≠ 0) cMisaligned fun e => e.s64 b :=
  trapsIf_of (execJtab d a b t) (fun _ => rfl) (fun _ => rfl) fun _ hmisaligned => if_pos hmisaligned

/-- … each index below the bound … -/
theorem execJtab_beyond (hissues : Issues (.jtab d a b t) s e) (haligned : (e.s64 b).toNat % 4 = 0) (hbeyond : jtabBeyond e d a ≠ []) :
    exec (.jtab d a b t) s = e.trapWith cJtabBound (e.s64 b) (lanesMask (jtabBeyond e d a)) :=
  exec_of_issues (execJtab d a b t) hissues (fun _ => rfl) (fun _ => rfl) <|
    (if_neg (not_not.2 haligned)).trans <| if_pos (not_isEmpty_of_ne_nil hbeyond)

/-- … and each entry inside the code object. -/
theorem execJtab_outside (hissues : Issues (.jtab d a b t) s e) (haligned : (e.s64 b).toNat % 4 = 0) (hbelow : jtabBeyond e d a = [])
    (houtside : jtabOutside e a b ≠ []) :
    exec (.jtab d a b t) s = e.trapWith cPermission (BitVec.ofNat 64 (((jtabOutside e a b).map fun x =>
      (e.s64 b + BitVec.ofNat 64 (4 * x.2)).toNat).foldl min (2 ^ 64 - 1))) (lanesMask (jtabOutside e a b)) :=
  exec_of_issues (execJtab d a b t) hissues (fun _ => rfl) (fun _ => rfl) <|
    (if_neg (not_not.2 haligned)).trans <| (if_neg (isEmpty_of_eq_nil hbelow)).trans <| if_pos (not_isEmpty_of_ne_nil houtside)

/-- R266, R477: past its checks JTAB waits, or traps, where a word of the table cannot be read … -/
theorem execJtab_unread {s' : State} (hissues : Issues (.jtab d a b t) s e) (hinside : jtabInside e d a b)
    (hread : e.jtabEntries (e.s64 b) (jtabLanes e a) [] e.s = .inr s') : exec (.jtab d a b t) s = .next s' := by
  obtain ⟨haligned, hbelow, hwithin⟩ := jtabInside_iff.1 hinside
  refine exec_of_issues (execJtab d a b t) hissues (fun _ => rfl) (fun _ => rfl) <|
    (if_neg (not_not.2 haligned)).trans <| (if_neg (isEmpty_of_eq_nil hbelow)).trans <| (if_neg (isEmpty_of_eq_nil hwithin)).trans ?_
  unfold jtabLanes at hread
  simp only [hread]

/-- … and divides the split by the entries read where there is room for the groups (R267). -/
theorem execJtab_read {s' : State} {xs : List (Nat × Nat × DWord)} (hissues : Issues (.jtab d a b t) s e) (hinside : jtabInside e d a b)
    (hread : e.jtabEntries (e.s64 b) (jtabLanes e a) [] e.s = .inl (xs, s')) :
    exec (.jtab d a b t) s = if (jtabGroups xs).length > e.tab.freeCount + 1 + (16 - e.tab.pend.length)
      then ({ e with s := s' } : Env).trap cStackLimit (e.s64 b) else ({ e with s := s' } : Env).jtabSplit t.toNat (jtabGroups xs) := by
  obtain ⟨haligned, hbelow, hwithin⟩ := jtabInside_iff.1 hinside
  refine exec_of_issues (execJtab d a b t) hissues (fun _ => rfl) (fun _ => rfl) <|
    (if_neg (not_not.2 haligned)).trans <| (if_neg (isEmpty_of_eq_nil hbelow)).trans <| (if_neg (isEmpty_of_eq_nil hwithin)).trans ?_
  unfold jtabLanes at hread
  simp only [hread]
  rfl

/-- A mask of no lane has none. -/
theorem lanesOf_zero : lanesOf 0#32 = [] := rfl

/-- R267: no entry read makes no group. -/
theorem jtabGroups_nil : jtabGroups [] = [] := by simp [jtabGroups]

/-- R266: under an all-zero exec an aligned table passes JTAB's checks … -/
theorem jtabInside_of_exec_zero (hnone : e.exec = 0#32) (haligned : (e.s64 b).toNat % 4 = 0) : jtabInside e d a b :=
  ⟨haligned, fun l hl => absurd hl (by simp [hnone, lanesOf_zero])⟩

/-- … no entry is read … -/
theorem jtabEntries_of_exec_zero (hnone : e.exec = 0#32) : e.jtabEntries (e.s64 b) (jtabLanes e a) [] e.s = .inl ([], e.s) := by
  have hlanes : jtabLanes e a = [] := by simp [jtabLanes, hnone, lanesOf_zero]
  rw [hlanes]
  rfl

/-- … and the split goes on. -/
theorem execJtab_idle (d a b : BitVec 7) (t : BitVec 3) :
    GivesIf (.jtab d a b t) (fun e => e.exec = 0#32 ∧ (e.s64 b).toNat % 4 = 0) fun e => e.jump (e.pc + 4#64) := by
  intro s e hissues ⟨hnone, haligned⟩
  rw [execJtab_read hissues (jtabInside_of_exec_zero hnone haligned) (jtabEntries_of_exec_zero hnone), jtabGroups_nil]
  exact if_neg (Nat.not_lt_zero _)

/-- R267, R268: more groups than the free slots and the pending list hold trap … -/
theorem execJtab_full {s' : State} {xs : List (Nat × Nat × DWord)} (hissues : Issues (.jtab d a b t) s e) (hinside : jtabInside e d a b)
    (hread : e.jtabEntries (e.s64 b) (jtabLanes e a) [] e.s = .inl (xs, s'))
    (hfull : e.tab.freeCount + 1 + (16 - e.tab.pend.length) < (jtabGroups xs).length) :
    exec (.jtab d a b t) s = ({ e with s := s' } : Env).trap cStackLimit (e.s64 b) :=
  (execJtab_read hissues hinside hread).trans (if_pos hfull)

/-- … and otherwise the first group goes on in the slot and each other one is placed. -/
theorem execJtab_divides {s' : State} {xs : List (Nat × Nat × DWord)} {v : DWord} {m : Word} {rest : List (DWord × Word)}
    (hissues : Issues (.jtab d a b t) s e) (hinside : jtabInside e d a b)
    (hread : e.jtabEntries (e.s64 b) (jtabLanes e a) [] e.s = .inl (xs, s')) (hgroups : jtabGroups xs = (v, m) :: rest)
    (hroom : rest.length ≤ e.tab.freeCount + (16 - e.tab.pend.length)) :
    exec (.jtab d a b t) s = .next ((({ e with s := s' } : Env).setTab (jtabParts e t v m rest).1).readsDone.leaveWith v true fun s =>
      (jtabParts e t v m rest).2.foldl (fun s p => s.tracePkt e.key e.cs p) s) := by
  have hfits : ¬ ((v, m) :: rest).length > e.tab.freeCount + 1 + (16 - e.tab.pend.length) := by
    rw [List.length_cons]
    omega
  rw [execJtab_read hissues hinside hread, hgroups, if_neg hfits]
  rfl

end

end

end Sys2Proof.Machine

/-- Settles O17: each word of the mask stack checks the depth that it needs, and else changes the mask with its packet. -/
theorem maskStack : Obligations.MaskStack := by
  intro a
  exact
    ⟨givesIf_of (execMpush a) (fun _ => rfl) (fun _ => rfl) fun _ hroom => if_neg (Nat.not_le.2 hroom),
     execMelse_complements, execMpop_pops,
     gives_of_completes (execMset a) (fun _ => rfl) fun _ => rfl,
     trapsIf_of (execMpush a) (fun _ => rfl) (fun _ => rfl) fun _ hfull => if_pos hfull,
     trapsIf_of execMelse (fun _ => rfl) (fun _ => rfl) fun _ hempty => by simp only [hempty],
     trapsIf_of execMpop (fun _ => rfl) (fun _ => rfl) fun _ hempty => by simp only [hempty]⟩

/-- Settles O16: a transfer with room on its call stack and an aligned target is made, with its packet where it is conditional or indirect. -/
theorem transfers : Obligations.Transfers := by
  intro a c o
  exact
    ⟨execBr_always c o, execBr_taken c o, execBr_untaken c o,
     givesIf_of (execCall o) (fun _ => rfl) (fun _ => rfl) fun _ hroom => pushCall_room hroom _,
     givesIf_of (execJmpi a) (fun _ => rfl) (fun _ => rfl) fun _ haligned => transfer_aligned haligned,
     execCalli_calls a, execRet_returns,
     trapsIf_of (execCall o) (fun _ => rfl) (fun _ => rfl) fun _ hfull => pushCall_full hfull _,
     trapsIf_of (execCalli a) (fun _ => rfl) (fun _ => rfl) fun _ hfull => if_pos hfull,
     execRet_empty,
     trapsIf_of (execJmpi a) (fun _ => rfl) (fun _ => rfl) fun _ hmisaligned => transfer_misaligned hmisaligned,
     offset_pieces c o 1#7, offset_pieces 0#5 o 2#7⟩

/-- Settles O18: FORK by which parts have lanes, JOIN by its token, JTAB by its checks in their order and then by the groups that it has read. -/
theorem forkAndJoin : Obligations.ForkAndJoin := by
  intro d a b t i
  exact
    ⟨givesIf_of (execFork d t i) (fun _ => rfl) (fun _ => rfl) fun _ hnone => if_pos hnone,
     execFork_none d t i, execFork_all d t i, execFork_divides d t i, execFork_full d t i,
     execJoin_idle t, execJoin_traps t, execJoin_merges t, execJoin_leaves t,
     execJtab_idle d a b t, fun _ _ _ _ _ _ _ => execJtab_divides, fun _ _ _ _ => execJtab_full, fun _ _ _ => execJtab_unread,
     fun _ _ => execJtab_beyond, fun _ _ => execJtab_outside, execJtab_misaligned d a b t, token_word t⟩
end

section
/-!
Between the streams of a wave and its core: the queues and the register blocks (O22). Each word either does what its rules name, waits or traps, by the length
of its queue, the state of the entry at its head, or the blocks that it asks for.
-/
open Sys2Proof Sys2Proof.Machine

namespace Sys2Proof.Machine

/-! ## The queues between the streams -/

/-- R290: a wave of two streams has its queues … -/
theorem queues_open {e : Env} (hpair : e.w.single = false) (k : Unit → Out) : e.queues k = k () :=
  if_neg (by simp [hpair])

/-- … and the wave of a `.single` kernel has none. -/
theorem queues_single {e : Env} (hsingle : e.w.single = true) (k : Unit → Out) : e.queues k = e.trap cIllegal 0#64 :=
  if_pos hsingle

/-- R290, R413: an entry enters a queue that has room; no injection names it … -/
theorem execQpush_room (a : BitVec 7) : GivesIf (.qpush a) (fun e => e.w.single = false ∧ e.outgoing.length < 16 ∧ e.pushHit = false)
    fun e => (e.setOutgoing (e.outgoing ++ [⟨e.s32 a, false, none, e.s.free⟩])).done :=
  givesIf_of (execQpush a) (fun _ => rfl) (fun _ => rfl) fun e ⟨hpair, hroom, hhit⟩ =>
    (queues_open hpair _).trans <| (if_neg (Nat.not_le.2 hroom)).trans <| by
      unfold Env.pushHit at hhit
      simp [hhit]

/-- … or one does, and is spent. -/
theorem execQpush_hit (a : BitVec 7) : GivesIf (.qpush a) (fun e => e.w.single = false ∧ e.outgoing.length < 16 ∧ e.pushHit = true) fun e =>
    let x := e.setOutgoing (e.outgoing ++ [(⟨e.s32 a, false, some e.s.inj.uncorr, e.s.free⟩ : QEntry)])
    { x with s := { x.s with inj := { x.s.inj with arm := false } } }.done :=
  givesIf_of (execQpush a) (fun _ => rfl) (fun _ => rfl) fun e ⟨hpair, hroom, hhit⟩ =>
    (queues_open hpair _).trans <| (if_neg (Nat.not_le.2 hroom)).trans <| by
      unfold Env.pushHit at hhit
      simp [hhit]

/-- R290: a push on a full queue waits. -/
theorem execQpush_full {a : BitVec 7} {s : State} {e : Env} (hissues : Issues (.qpush a) s e) (hpair : e.w.single = false)
    (hfull : 16 ≤ e.outgoing.length) : exec (.qpush a) s = e.hold 6 (if e.cs then 0 else 1) :=
  exec_of_issues (execQpush a) hissues (fun _ => rfl) (fun _ => rfl) <| (queues_open hpair _).trans (if_pos hfull)

/-- R408, R412: reading an entry with no undetected error finds what is known of it … -/
theorem findEntry_known {e : Env} {x : QEntry} (hinj : x.inj = none) : e.findEntry x = (x.bad, e) := by
  unfold Env.findEntry
  rw [hinj]

/-- … and reading one with an error reports it. -/
theorem findEntry_found {e : Env} {x : QEntry} {uncorr : Bool} (hinj : x.inj = some uncorr) :
    e.findEntry x = (x.bad || uncorr, e.headReport uncorr) := by
  unfold Env.findEntry
  rw [hinj]
  rfl

section
variable {d : BitVec 7} {s : State} {e : Env} {x : QEntry} {rest : List QEntry}

/-- R290: a pop of an empty queue waits … -/
theorem execQpop_empty (hissues : Issues (.qpop d) s e) (hpair : e.w.single = false) (hempty : e.incoming = []) :
    exec (.qpop d) s = e.hold 6 (if e.cs then 0 else 1) :=
  exec_of_issues (execQpop d) hissues (fun _ => rfl) (fun _ => rfl) <| (queues_open hpair _).trans <| by rw [hempty]

/-- … and so does a peek. -/
theorem execQpeek_empty (hissues : Issues (.qpeek d) s e) (hpair : e.w.single = false) (hempty : e.incoming = []) :
    exec (.qpeek d) s = e.hold 6 (if e.cs then 0 else 1) :=
  exec_of_issues (execQpeek d) hissues (fun _ => rfl) (fun _ => rfl) <| (queues_open hpair _).trans <| by rw [hempty]

/-- R79, R290, R412: QPOP takes the head of its queue, and gives the value or traps by what reading it finds … -/
theorem execQpop_head (hissues : Issues (.qpop d) s e) (hpair : e.w.single = false) (hhead : e.incoming = x :: rest) :
    exec (.qpop d) s =
      let r := (e.setIncoming rest).findEntry x
      if r.1 then r.2.commit.trap cPoison 0#64 else .next ((r.2.put32 d x.val).synced x.at_).done :=
  exec_of_issues (execQpop d) hissues (fun _ => rfl) (fun _ => rfl) <| (queues_open hpair _).trans <| by rw [hhead]

/-- … and QPEEK does so too, but leaves the head, corrected or poisoned. -/
theorem execQpeek_head (hissues : Issues (.qpeek d) s e) (hpair : e.w.single = false) (hhead : e.incoming = x :: rest) :
    exec (.qpeek d) s =
      let r := e.findEntry x
      if r.1 then (r.2.setIncoming ({ x with bad := true, inj := none } :: rest)).commit.trap cPoison 0#64
      else .next ((r.2.setIncoming ({ x with inj := none } :: rest)).put32 d x.val).done :=
  exec_of_issues (execQpeek d) hissues (fun _ => rfl) (fun _ => rfl) <| (queues_open hpair _).trans <| by rw [hhead]

end

/-! ## Register blocks -/

section
variable (d a : BitVec 7)

/-- R294: VACQ.B of no blocks only completes … -/
theorem execVacqB_none : GivesIf (.vacqB a) (fun e => (e.s32 a).toNat = 0 ∧ e.w.blocks.length + e.asked ≤ 32) Env.done :=
  givesIf_of (execVacqB a) (fun _ => rfl) (fun _ => rfl) fun _ ⟨hzero, hlimit⟩ => (if_neg (by omega)).trans (if_pos hzero)

/-- … and so does VACQ.T. -/
theorem execVacqT_none : GivesIf (.vacqT d a) (fun e => (e.s32 a).toNat = 0 ∧ e.w.blocks.length + e.asked ≤ 32) Env.done :=
  givesIf_of (execVacqT d a) (fun _ => rfl) (fun _ => rfl) fun _ ⟨hzero, hlimit⟩ => (if_neg (by omega)).trans (if_pos hzero)

/-- R294: VACQ.B is granted blocks that the pool has, with no request before it … -/
theorem execVacqB_fits : GivesIf (.vacqB a)
    (fun e => 0 < (e.s32 a).toNat ∧ e.w.blocks.length + (e.s32 a).toNat + e.asked ≤ 32 ∧ e.poolFits (e.s32 a).toNat = true)
    fun e => e.done.grantBlocks e.key (e.s32 a).toNat :=
  givesIf_of (execVacqB a) (fun _ => rfl) (fun _ => rfl) fun _ ⟨hsome, hlimit, hfits⟩ =>
    (if_neg (Nat.not_lt.2 hlimit)).trans <| (if_neg hsome.ne').trans (if_pos hfits)

/-- … and else waits behind the core's requests. -/
theorem execVacqB_waits : GivesIf (.vacqB a)
    (fun e => 0 < (e.s32 a).toNat ∧ e.w.blocks.length + (e.s32 a).toNat + e.asked ≤ 32 ∧ e.poolFits (e.s32 a).toNat = false)
    fun e => { e with s := e.s.setCore e.core { e.s.core e.core with
      vacq := (e.s.core e.core).vacq ++ [(⟨e.key, e.cs, (e.s32 a).toNat⟩ : BlockReq)] } }.await (.grant (e.s32 a).toNat) :=
  givesIf_of (execVacqB a) (fun _ => rfl) (fun _ => rfl) fun _ ⟨hsome, hlimit, hfits⟩ =>
    (if_neg (Nat.not_lt.2 hlimit)).trans <| (if_neg hsome.ne').trans (if_neg (Bool.eq_false_iff.1 hfits))

/-- R294: VACQ.T is granted blocks that the pool has, with no request before it, and says so … -/
theorem execVacqT_fits : GivesIf (.vacqT d a)
    (fun e => 0 < (e.s32 a).toNat ∧ e.w.blocks.length + (e.s32 a).toNat + e.asked ≤ 32 ∧ e.poolFits (e.s32 a).toNat = true)
    fun e => (e.putP d 0xFFFFFFFF#32 0xFFFFFFFF#32).done.grantBlocks e.key (e.s32 a).toNat :=
  givesIf_of (execVacqT d a) (fun _ => rfl) (fun _ => rfl) fun _ ⟨hsome, hlimit, hfits⟩ =>
    (if_neg (Nat.not_lt.2 hlimit)).trans <| (if_neg hsome.ne').trans (if_pos hfits)

/-- … and else says that it was not. -/
theorem execVacqT_refused : GivesIf (.vacqT d a)
    (fun e => 0 < (e.s32 a).toNat ∧ e.w.blocks.length + (e.s32 a).toNat + e.asked ≤ 32 ∧ e.poolFits (e.s32 a).toNat = false)
    fun e => (e.putP d 0xFFFFFFFF#32 0#32).done :=
  givesIf_of (execVacqT d a) (fun _ => rfl) (fun _ => rfl) fun _ ⟨hsome, hlimit, hfits⟩ =>
    (if_neg (Nat.not_lt.2 hlimit)).trans <| (if_neg hsome.ne').trans (if_neg (Bool.eq_false_iff.1 hfits))

/-- R295: VREL of no blocks only completes. -/
theorem execVrel_none : GivesIf (.vrel a) (fun e => (e.s32 a).toNat = 0) Env.done :=
  givesIf_of (execVrel a) (fun _ => rfl) (fun _ => rfl) fun _ hzero => (if_neg (by omega)).trans (if_pos hzero)

/-- R295: VREL gives back the wave's last blocks, of whose registers nothing is pending … -/
theorem execVrel_releases : GivesIf (.vrel a) (fun e => 0 < (e.s32 a).toNat ∧ (e.s32 a).toNat ≤ e.w.blocks.length ∧
      e.s.pendingFrom e.key e.w (16 * (e.w.blocks.length - (e.s32 a).toNat)) = false) fun e =>
    let keep := e.w.blocks.length - (e.s32 a).toNat
    let late := e.w.late.filter fun l => match l.dest with | .vec q => decide (q < 16 * keep) | .scalar _ _ => true
    { e with s := e.s.setCore e.core ((e.s.core e.core).giveBlocks (e.w.blocks.drop keep)),
             w := { e.w.forget (16 * keep) with blocks := e.w.blocks.take keep, late := late } }.done :=
  givesIf_of (execVrel a) (fun _ => rfl) (fun _ => rfl) fun _ ⟨hsome, hheld, hlanded⟩ =>
    (if_neg (Nat.not_lt.2 hheld)).trans <| (if_neg hsome.ne').trans (if_neg (Bool.eq_false_iff.1 hlanded))

end

/-- … and waits while something is. -/
theorem execVrel_waits {a : BitVec 7} {s : State} {e : Env} (hissues : Issues (.vrel a) s e) (hsome : 0 < (e.s32 a).toNat)
    (hheld : (e.s32 a).toNat ≤ e.w.blocks.length)
    (hpending : e.s.pendingFrom e.key e.w (16 * (e.w.blocks.length - (e.s32 a).toNat)) = true) :
    exec (.vrel a) s = e.hold 15 (5 + 16 * (e.w.blocks.length - (e.s32 a).toNat)) :=
  exec_of_issues (execVrel a) hissues (fun _ => rfl) (fun _ => rfl) <|
    (if_neg (Nat.not_lt.2 hheld)).trans <| (if_neg hsome.ne').trans (if_pos hpending)

end Sys2Proof.Machine

/-- Settles O22: a push by the room in its queue, a pop or peek by what reading the head finds, and the blocks by the limit, the pool and what is pending. -/
theorem queuesAndBlocks : Obligations.QueuesAndBlocks := by
  intro d a
  refine
    ⟨execQpush_room a, execQpush_hit a, fun _ _ => execQpush_full, ?pops, ?peeks, ?popsCorrected, ?peeksCorrected, ?popsPoisoned, ?popsFound,
     ?peeksPoisoned, ?peeksFound, fun _ _ => execQpop_empty, fun _ _ => execQpeek_empty,
     givesIf_of (execQlen d) (fun _ => rfl) (fun _ => rfl) fun _ hpair => queues_open hpair _,
     trapsIf_of (execQpush a) (fun _ => rfl) (fun _ => rfl) fun _ hsingle => queues_single hsingle _,
     trapsIf_of (execQpop d) (fun _ => rfl) (fun _ => rfl) fun _ hsingle => queues_single hsingle _,
     trapsIf_of (execQpeek d) (fun _ => rfl) (fun _ => rfl) fun _ hsingle => queues_single hsingle _,
     trapsIf_of (execQlen d) (fun _ => rfl) (fun _ => rfl) fun _ hsingle => queues_single hsingle _,
     execVacqB_none a, execVacqT_none d a, execVrel_none a, fun _ _ => execVrel_waits, execVacqB_fits a, execVacqB_waits a,
     execVacqT_fits d a, execVacqT_refused d a,
     trapsIf_of (execVacqB a) (fun _ => rfl) (fun _ => rfl) fun _ hover => if_pos hover,
     trapsIf_of (execVacqT d a) (fun _ => rfl) (fun _ => rfl) fun _ hover => if_pos hover,
     execVrel_releases a,
     trapsIf_of (execVrel a) (fun _ => rfl) (fun _ => rfl) fun _ hover => if_pos hover,
     givesIf_of (execVwin a) (fun _ => rfl) (fun _ => rfl) fun _ hwindow => if_neg (Nat.not_lt.2 hwindow),
     trapsIf_of (execVwin a) (fun _ => rfl) (fun _ => rfl) fun _ hover => if_pos hover⟩
  case pops =>
    intro s e x rest hissues hpair hhead hsound hinj
    rw [execQpop_head hissues hpair hhead, findEntry_known hinj, hsound]
    rfl
  case peeks =>
    intro s e x rest hissues hpair hhead hsound hinj
    have hkept : ({ x with bad := false, inj := none } : QEntry) = x := by rw [← hsound, ← hinj]
    rw [execQpeek_head hissues hpair hhead, findEntry_known hinj, hsound, hkept]
    rfl
  case popsCorrected =>
    intro s e x rest hissues hpair hhead hsound hinj
    rw [execQpop_head hissues hpair hhead, findEntry_found hinj, hsound]
    rfl
  case peeksCorrected =>
    intro s e x rest hissues hpair hhead hsound hinj
    rw [execQpeek_head hissues hpair hhead, findEntry_found hinj, hsound]
    rfl
  case popsPoisoned =>
    intro s e x rest hissues hpair hhead hbad hinj
    rw [execQpop_head hissues hpair hhead, findEntry_known hinj, hbad]
    rfl
  case popsFound =>
    intro s e x rest hissues hpair hhead hinj
    rw [execQpop_head hissues hpair hhead, findEntry_found hinj, Bool.or_true]
    rfl
  case peeksPoisoned =>
    intro s e x rest hissues hpair hhead hbad hinj
    have hkept : ({ x with bad := true, inj := none } : QEntry) = x := by rw [← hbad, ← hinj]
    rw [execQpeek_head hissues hpair hhead, findEntry_known hinj, hbad, hkept]
    rfl
  case peeksFound =>
    intro s e x rest hissues hpair hhead hinj
    rw [execQpeek_head hissues hpair hhead, findEntry_found hinj, Bool.or_true]
    rfl
end

section
/-!
Barriers, semaphores and join counters: the words that send an operation to a home unit (O27), and the steps that apply it there, bring its reply, wake the
waiters of a flip and trap those of a missed promise (O37).
-/
open Sys2Proof Sys2Proof.Machine

namespace Sys2Proof.Machine

/-! ## What settling fences and resolving an address leave of the free values

A scalar whose late result is pending reads as a free value (R78), so a word reads the same address again only as `State.free` stays. -/

theorem noFill_free (s : State) (core : Nat) (p : Nat → Bool) : (s.noFill core p).free = s.free := by
  unfold State.noFill
  split_ifs <;> rfl

theorem opndDone_free (s : State) (f : FenceSt) : (s.opndDone f).free = s.free := by
  unfold State.opndDone
  dsimp only
  split_ifs <;> rfl

theorem opndSettle_free (s : State) : s.opndSettle.free = s.free := by
  unfold State.opndSettle
  dsimp only
  split_ifs
  · exact foldl_field opndDone_free _ s
  · rfl

theorem fenceSettle_free (s : State) (k : Nat) : (s.fenceSettle k).free = s.free := by
  unfold State.fenceSettle
  dsimp only
  split_ifs
  · exact (noFill_free _ _ _).trans (opndSettle_free s)
  · exact opndSettle_free s

theorem freshMem_free (s : State) (key n : Nat) : (s.freshMem key n).free = s.free := by
  unfold State.freshMem State.injectAt
  dsimp only
  split_ifs <;> rfl

theorem nearDropFrame_free (s : State) (frame : Nat) : (s.nearDropFrame frame).free = s.free := by
  unfold State.nearDropFrame
  split_ifs <;> rfl

theorem spillNote_free (s : State) : s.spillNote.free = s.free := by
  unfold State.spillNote
  split_ifs <;> rfl

theorem bindFrame_free (s : State) (frame tenant vpn : Nat) : (s.bindFrame frame tenant vpn).free = s.free := by
  have hcleared : ((s.zeroMem (frame * 65536) 65536).nearDropFrame frame).free = s.free := (nearDropFrame_free _ _).trans (freshMem_free _ _ _)
  unfold State.bindFrame
  dsimp only
  split_ifs
  · exact (spillNote_free _).trans hcleared
  · exact hcleared

theorem bindCheck_free {s t : State} {frame tenant vpn : Nat} (h : s.bindCheck frame tenant vpn = some t) : t.free = s.free := by
  unfold State.bindCheck at h
  dsimp only at h
  split_ifs at h <;> cases h
  · rfl
  · exact bindFrame_free _ _ _ _

theorem takeShadow_free {s t : State} {entry tag tenant vpn : Nat} (h : s.takeShadow entry tag tenant vpn = some (.inl t)) : t.free = s.free := by
  unfold State.takeShadow at h
  split_ifs at h
  · cases h
    rfl
  · split at h
    · cases h
    · split at h
      · cases h
      · obtain ⟨u, hbound, hu⟩ := Option.map_eq_some_iff.1 h
        cases hu
        exact (bindFrame_free _ _ _ _).trans (bindCheck_free hbound)

theorem resolveLeaf_free (s : State) (w : Asker) (d : Dir) (scope va : Nat) (leaf : DWord) (level : Nat) :
    (s.resolveLeaf w d scope va leaf level).2.free = s.free := by
  unfold State.resolveLeaf
  dsimp only
  split
  · rfl
  · split
    · rfl
    · split
      -- a page of this module, which may be shadowed and bound
      · split
        · rfl
        · rfl
        · next t hshadow =>
          have ht : t.free = s.free := by
            split_ifs at hshadow
            · exact takeShadow_free hshadow
            · cases hshadow
              rfl
          generalize (if pteVers leaf then t.versFrame (leafPa leaf level va / 65536) w.tag else leafPa leaf level va / 65536) = frame
          split_ifs
          iterate 3 exact ht
          split
          · exact ht
          · next hbound => exact (bindCheck_free hbound).trans ht
      -- another module, pool and host memory
      · split_ifs <;> rfl
      · rfl
      · rfl

theorem resolve_free (s : State) (w : Asker) (d : Dir) (scope va : Nat) : (s.resolve w d scope va).2.free = s.free := by
  unfold State.resolve
  split_ifs
  · rfl
  · rfl
  -- the Plaza window
  · dsimp only
    split
    · split_ifs <;> rfl
    · rfl
  · rfl
  · rfl
  -- the Avenue window
  · split <;> rfl
  -- a page
  · dsimp only
    split
    · rfl
    · split
      · exact resolveLeaf_free _ _ _ _ _ _ _
      · split <;> rfl

/-- A word that reads the scalar pair again after a step that leaves the free values reads the same. -/
theorem s64_setState {e : Env} {t : State} (h : t.free = e.s.free) (r : BitVec 7) : ({ e with s := t } : Env).s64 r = e.s64 r := by
  have hs32 (r : BitVec 7) : ({ e with s := t } : Env).s32 r = e.s32 r := by
    unfold Env.s32
    rw [show ({ e with s := t } : Env).s.free = e.s.free from h]
    rfl
  unfold Env.s64
  rw [hs32, hs32]

theorem gated_s64 {e e' : Env} {c : MemClass} {ordered : Bool} (h : e.gated c ordered = some e') (r : BitVec 7) : e'.s64 r = e.s64 r := by
  obtain ⟨-, ⟨⟩⟩ := Option.ite_none_left_eq_some.1 h
  exact s64_setState (fenceSettle_free _ _) r

theorem wordAt_s64 {e e' : Env} {a : DWord} {key : Nat} (h : e.wordAt a = some (e', key)) (r : BitVec 7) : e'.s64 r = e.s64 r := by
  have hresolve := resolve_free e.s (e.s.waveAsker e.key e.cs e.w) .store 99 a.toNat
  unfold Env.wordAt at h
  split at h
  · cases h
  · split at h
    · next p _ _ s hok =>
      rw [hok] at hresolve
      obtain ⟨_, -, hpair⟩ := Option.map_eq_some_iff.1 h
      cases hpair
      exact s64_setState hresolve r
    · cases h

/-! ## Sending an operation -/

/-- R300: a misaligned word traps, with its address. -/
theorem homeWord_misaligned {e : Env} {a : DWord} (hmisaligned : a.toNat % 64 ≠ 0) (k : Env → Nat → Out) :
    e.homeWord 64 a k = e.trap cMisaligned a :=
  if_pos hmisaligned

/-- R300, R478: a word whose own rules are those of BAR and SEM sends its operation. -/
theorem sendsHome_of_sync {i : Instr} {cls minor : Nat} {ordered : Bool} {a dest : BitVec 7} {arg : Env → Word} (m : State → Out)
    (hexec : ∀ s, exec i s = m s) (hrules : ∀ s, m s = issue i.form s fun e => e.sync cls minor ordered (e.s64 a) (arg e) dest) (hcls : cls ≠ 2) :
    SendsHome i cls minor ordered a arg dest := by
  unfold SendsHome
  rw [if_neg hcls]
  constructor
  · intro s e e' e'' key hissues hgate hword
    exact exec_of_issues m hissues hexec hrules <| (memGate_gated hgate _).trans (homeWord_wordAt hword _)
  · intro s e e' hissues hgate hmisaligned
    exact exec_of_issues m hissues hexec hrules <| (memGate_gated hgate _).trans (homeWord_misaligned hmisaligned _)

/-- R320, R478: JDEC sends its operation; it reads its address again behind its gate, where it is the same. -/
theorem execJdec_sendsHome (d a : BitVec 7) : SendsHome (.jdec d a) 2 1 true a (fun _ => 0#32) d := by
  constructor
  · intro s e e' e'' key hissues hgate hword
    refine exec_of_issues (execJdec d a) hissues (fun _ => rfl) (fun _ => rfl) <| (memGate_gated hgate _).trans ?_
    rw [← gated_s64 hgate a] at hword
    refine (homeWord_wordAt hword _).trans ?_
    rw [wordAt_s64 hword, gated_s64 hgate]
    rfl
  · intro s e e' hissues hgate hmisaligned
    refine exec_of_issues (execJdec d a) hissues (fun _ => rfl) (fun _ => rfl) <| (memGate_gated hgate _).trans ?_
    rw [← gated_s64 hgate a] at hmisaligned ⊢
    exact homeWord_misaligned hmisaligned _

/-! ## At the home unit -/

section
variable {s : State} {op : Nat} {h : HomeOp} (hop : s.homeOp? op = some h)
include hop

section
variable (hopen : h.reply = none) (hbehind : s.behind h.wave (.mem h.key) 64 = false)
  (hturn : s.writeLateIn h.key (srcCore (coreOf h.wave)) = false)
include hopen hbehind hturn

/-- R298, R301: a BAR operation that follows the wave's accesses of its word applies in its turn of the cycle … -/
theorem execBarrierHomeOp_applies (hcls : h.cls = 0) :
    execBarrierHomeOp op s = .next ((s.barApply h (s.tenantOf h.wave)).writeServed h.key (srcCore (coreOf h.wave))) := by
  unfold execBarrierHomeOp
  rw [hop]
  exact if_pos (by simp [hcls, hopen, hbehind, hturn])

/-- … so does a SEM operation, a P only while its wave does not wait there already (R305) … -/
theorem execSemHomeOp_applies (hcls : h.cls = 1)
    (hwaits : h.minor = 1 → (s.waiters.any fun w => w.key == h.key && w.wave == h.wave) = false) :
    execSemHomeOp op s = .next ((s.semApply h (s.tenantOf h.wave)).writeServed h.key (srcCore (coreOf h.wave))) := by
  have hgoes : (h.minor == 1 && s.waiters.any fun w => w.key == h.key && w.wave == h.wave) = false := by
    cases hminor : h.minor == 1 with
    | false => rfl
    | true => exact hwaits (by simpa using hminor)
  unfold execSemHomeOp
  rw [hop]
  exact if_pos (by simp [hcls, hopen, hgoes, hbehind, hturn])

/-- … and a JDEC whose release set has been performed, at a counter without a poisoned sector (R320). -/
theorem execJdecHomeOp_applies {w : Wave} (hcls : h.cls = 2) (hreleased : s.releaseSet h.wave 3 = []) (hbarred : s.barred h.wave op = false)
    (hread : (s.findErrors h.key 64 (s.tenantOf h.wave) h.causal).readError h.key 64 = none)
    (hwave : (s.findErrors h.key 64 (s.tenantOf h.wave) h.causal).wave? h.wave = some w) :
    execJdecHomeOp op s = .next (
      let r := (s.findErrors h.key 64 (s.tenantOf h.wave) h.causal).joinDec h.key w.tenant w.task h.addr h.causal
      (r.2.replyHome op (r.1.getD 0#32) (if r.1.isSome then 0 else cPermission)).writeServed h.key (srcCore (coreOf h.wave))) := by
  unfold execJdecHomeOp
  rw [hop]
  refine (if_pos (by simp [hcls, hopen, hreleased, hbarred, hbehind, hturn])).trans ?_
  dsimp only
  rw [hread, hwave]
  dsimp only
  generalize State.joinDec _ _ _ _ _ _ = r
  obtain ⟨count, t⟩ := r
  cases count <;> rfl

end

/-- R478: the reply of an operation reaches its stream. -/
theorem execHomeReplyArrival_replied {v : Word} {c : Nat} (hreply : h.reply = some (v, c)) :
    execHomeReplyArrival op s = .next (s.homeReply h v c) := by
  unfold execHomeReplyArrival
  rw [hop]
  dsimp only
  rw [hreply]

end

/-- R302: a core that receives a flip wakes the waiters whose phase it passes. -/
theorem execFlipWake_wakes {s : State} {core key : Nat} {f : Flip} (hflip : s.flips.find? (fun f => f.core == core && f.key == key) = some f) :
    execFlipWake core key s = .next (
      let s' := ((s.waitersOf key).filter fun w => coreOf w.wave == core && phasePassed f.phase w.phase).foldl (fun s w => s.wakeWaiter w) s
      { s' with flips := s'.flips.erase f }) := by
  unfold execFlipWake
  rw [hflip]

/-- R303: a promise whose tick has come, of a phase that has not passed, traps the WAITP that waits on it. -/
theorem promiseTrap_missed {s : State} {wave now key : Nat} {w : Wave} {phase : Word} {addr t : DWord} {e : Env} (hw : s.wave? wave = some w)
    (hwait : w.a.wait = some ⟨.barrier key phase true addr, t⟩) (hhandler : w.trapping = none) (hpromise : s.rd (key + 24) 8 ≠ 0)
    (hgone : s.rd (key + 24) 8 ≤ now) (hphase : phasePassed (BitVec.ofNat 32 (s.rd (key + 8) 4)) phase = false) (henv : s.envAt wave false = some e) :
    s.promiseTrap wave now =
      let s' := { s with waiters := s.waiters.filter fun x => !(x.key == key && x.wave == wave) }.noteWaiters key 6 40
      (s'.wakeWord wave false false).takeTrap wave false e.cl.slot e.pc cPromiseMissed addr e.exec 0 := by
  unfold State.promiseTrap
  rw [hw]
  dsimp only
  rw [hwait]
  refine (if_neg (by simp [hhandler, hpromise, hphase, hgone])).trans ?_
  rw [henv]

end Sys2Proof.Machine

/-- Settles O27: the words of BAR and SEM differ in the class and minor of their operation, its operand and its destination; JDEC has a gate of its own. -/
theorem barriersAndSemaphores : Obligations.BarriersAndSemaphores := by
  intro d a b
  exact
    ⟨-- BAR (R301, R303)
     sendsHome_of_sync (execBarInit a b) (fun _ => rfl) (fun _ => rfl) (by decide),
     sendsHome_of_sync (execBarArrive d a) (fun _ => rfl) (fun _ => rfl) (by decide),
     sendsHome_of_sync (execBarWait a b) (fun _ => rfl) (fun _ => rfl) (by decide),
     sendsHome_of_sync (execBarArrwait d a) (fun _ => rfl) (fun _ => rfl) (by decide),
     sendsHome_of_sync (execBarExpect a b) (fun _ => rfl) (fun _ => rfl) (by decide),
     sendsHome_of_sync (execBarTrywait d a b) (fun _ => rfl) (fun _ => rfl) (by decide),
     sendsHome_of_sync (execBarWaitp a b) (fun _ => rfl) (fun _ => rfl) (by decide),
     sendsHome_of_sync (execBarDrop d a) (fun _ => rfl) (fun _ => rfl) (by decide),
     -- SEM (R305)
     sendsHome_of_sync (execSemInit a b) (fun _ => rfl) (fun _ => rfl) (by decide),
     sendsHome_of_sync (execSemP a) (fun _ => rfl) (fun _ => rfl) (by decide),
     sendsHome_of_sync (execSemV a) (fun _ => rfl) (fun _ => rfl) (by decide),
     sendsHome_of_sync (execSemTryp d a) (fun _ => rfl) (fun _ => rfl) (by decide),
     execJdec_sendsHome d a⟩

/-- Settles O37: an operation that may go is applied, a reply arrives, a flip wakes its core's waiters and a missed promise traps. -/
theorem homeEvents : Obligations.HomeEvents := by
  refine ⟨?barrier, ?semaphore, ?join, ?reply, ?flip, ?promise⟩
  case barrier =>
    rintro op h s ⟨hop, hcls, hopen, hbehind, hturn⟩
    exact execBarrierHomeOp_applies hop hopen hbehind hturn hcls
  case semaphore =>
    rintro op h s ⟨hop, hcls, hopen, hwaits, hbehind, hturn⟩
    exact execSemHomeOp_applies hop hopen hbehind hturn hcls hwaits
  case join =>
    rintro op h w s ⟨hop, hcls, hopen, hreleased, hbarred, hbehind, hturn, hread, hwave⟩
    exact execJdecHomeOp_applies hop hopen hbehind hturn hcls hreleased hbarred hread hwave
  case reply =>
    rintro op h v c s ⟨hop, hreply⟩
    exact execHomeReplyArrival_replied hop hreply
  case flip =>
    intro core key f s hflip
    exact execFlipWake_wakes hflip
  case promise =>
    rintro wave w key phase addr t e s ⟨hw, hwait, hhandler, hpromise, hgone, hphase, henv⟩
    exact congrArg Host.Outcome.next (promiseTrap_missed hw hwait hhandler hpromise hgone hphase henv)
end

section
/-!
Wait snapshots, gathers and Curfew reports (O40): each readout that is allowed starts, each that comes while a gather runs waits, and an expired Curfew reports.
-/
open Sys2Proof Sys2Proof.Machine

namespace Sys2Proof.Machine

/-- R398: a region of 2^6 to 2^20 entries takes the module's edges. -/
theorem snapshot_writes {s : State} {v : DWord} (hlow : 6 ≤ v.toNat % 32) (hhigh : v.toNat % 32 ≤ 20) :
    s.snapshot v = s.writeRegion (v.toNat / 4096 % 2 ^ 40 * 4096) (v.toNat % 32) 1 false (s.edges.map WaitEdge.bytes) :=
  if_neg (by simp [hlow, hhigh])

/-- R402, R446: a gather of 1 to 256 devices into such a region starts in hardware mode. -/
theorem gatherFor_starts {s : State} {v : DWord} (hmode : s.dpr.getLsbD 2 = true) (hlow : 6 ≤ v.toNat / 2 ^ 59) (hhigh : v.toNat / 2 ^ 59 ≤ 20)
    (hsome : 1 ≤ v.toNat % 512) (hmany : v.toNat % 512 ≤ 256) :
    s.gatherFor v = s.gatherStart (v.toNat / 4096 % 2 ^ 40 * 4096) (v.toNat / 2 ^ 59)
      (State.devList (v.toNat % 512) s (v.toNat / 4096 % 2 ^ 40 * 4096 + 64)) :=
  if_neg (by simp only [hmode, Bool.or_eq_true, decide_eq_true_eq, Bool.not_true, Bool.false_eq_true, false_or]; omega)

/-- R402: a device that has not answered in time contributes no edge. -/
theorem execGatherDeviceTimeout_late {s : State} {dev : Nat} {g : Gather} (hgather : s.waitRegs.gather = some g)
    (hlate : (g.waits.any fun w => w.1 == dev && decide (w.2.2.toNat + 1250000 ≤ s.gtc.toNat)) = true) :
    execGatherDeviceTimeout dev s = .next ((s.setGather (some { g with
      waits := g.waits.filter fun w => w.1 != dev, unsent := g.unsent.filter fun q => q.1 != dev, edges := g.edges.filter fun e => e.1 != dev,
      partial_ := true })).gatherNext 8) := by
  simp only [execGatherDeviceTimeout, hgather]
  exact if_neg (by simp [hlate])

/-- R404, R405: a Curfew without CFAULT that `now` has reached, whose first late rank is a device of this module, reports that rank's edge. -/
theorem curfewExpire_local {s : State} {cmd now : Nat} {c : Cmd} {x : Coll} (hcmd : s.cmd? cmd = some c) (hcoll : tabGet? s.colls cmd = some x)
    (hopen : x.reported = false) (hdue : x.deadline ≤ now) (hnofault : x.cfault = false)
    (hlocal : (x.ranks.getD ((x.awaited c).headD x.rank) (s.device, c.engine)).1 = s.device) :
    s.curfewExpire cmd now =
      let late := (x.awaited c).headD x.rank
      let p : Probe := { id := s.newId.1, txn := 0, to_ := x.ranks.getD late (s.device, c.engine), cle := c.engine, tenant := c.tenant, handle := c.causal,
                         group := x.group, seq := x.seq, rank := x.rank, late := late, nlate := (x.awaited c).length, cfault := false, armed := x.armed,
                         expiry := s.gtc, reply := none }
      let t := { s.newId.2 with colls := tabPut s.newId.2.colls cmd { x with reported := true } }
      let e := t.lateEdge (x.ranks.getD late (s.device, c.engine)).2 x.group x.seq
      t.curfewReport p (if e.isEmpty then none else some e) false := by
  simp only [State.curfewExpire, hcmd, hcoll]
  rw [if_neg (by simp [hopen, hdue])]
  simp only [hnofault]
  exact if_pos hlocal

/-- R405: the answer to a Curfew's probe is reported. -/
theorem execCurfewProbeReply_replied {s : State} {i : Nat} {p : Probe} {e : List Byte}
    (hprobe : s.waitRegs.probes.find? (fun p => p.id == i) = some p) (hreply : p.reply = some e) :
    execCurfewProbeReply i s = .next (s.curfewReport p (if e.isEmpty then none else some e) false) := by
  simp only [execCurfewProbeReply, hprobe, hreply]

/-- R405: a probe without an answer for 1 ms is reported as unreachable. -/
theorem execCurfewProbeTimeout_due {s : State} {i : Nat} {p : Probe} (hprobe : s.waitRegs.probes.find? (fun p => p.id == i) = some p)
    (hopen : p.reply = none) (hdue : p.expiry.toNat + 1250000 ≤ s.gtc.toNat) :
    execCurfewProbeTimeout i s = .next (s.curfewReport p none true) := by
  simp only [execCurfewProbeTimeout, hprobe]
  exact if_neg (by simp [hopen, hdue])

end Sys2Proof.Machine

/-- Settles O40: a readout starts, or waits behind the gather that runs; a device or a probe that is late is given up; a Curfew that expires reports. -/
theorem waitEvents : Obligations.WaitEvents := by
  refine ⟨?snapshot, ?snapshotWaits, ?gatherWaits, ?gather, ?deviceLate, ?curfew, ?probeReply, ?probeLate, ?ringHead⟩
  case snapshot =>
    rintro v s ⟨hidle, hlow, hhigh⟩
    exact congrArg Host.Outcome.next ((if_neg (by simp [hidle])).trans (snapshot_writes hlow hhigh))
  case snapshotWaits =>
    intro v s hruns
    exact congrArg Host.Outcome.next (if_pos hruns)
  case gatherWaits =>
    intro v s hruns
    exact congrArg Host.Outcome.next (if_pos hruns)
  case gather =>
    rintro v s ⟨hmode, hidle, hlow, hhigh, hsome, hmany⟩
    exact congrArg Host.Outcome.next ((if_neg (by simp [hidle])).trans (gatherFor_starts hmode hlow hhigh hsome hmany))
  case deviceLate =>
    rintro dev g s ⟨hgather, hlate⟩
    exact execGatherDeviceTimeout_late hgather hlate
  case curfew =>
    rintro cmd c x s ⟨hcmd, hcoll, hopen, hdue, hnofault, hlocal⟩
    exact congrArg Host.Outcome.next (curfewExpire_local hcmd hcoll hopen hdue hnofault hlocal)
  case probeReply =>
    rintro i p e s ⟨hprobe, hreply⟩
    exact execCurfewProbeReply_replied hprobe hreply
  case probeLate =>
    rintro i p s ⟨hprobe, hopen, hdue⟩
    exact execCurfewProbeTimeout_due hprobe hopen hdue
  case ringHead => exact fun _ _ _ => rfl
end

section
/-!
Host requests, resets, power and heat, and writes of registers (O48): each request that is allowed is made, each event does what its rule names.
-/
open Sys2Proof Sys2Proof.Machine

namespace Sys2Proof.Machine

/-! ## Requests of a host -/

section
variable {s t : State} {port pasid : Nat} {posted : Bool} {addr n : Nat} {data : List Byte}

/-- R356: a request without PASID that is one TLP and lies in HBM is made as tenant 0. -/
theorem execHostBar2PaRequest_made (hready : s.power.ready = true) (htlp : isTlp addr n = true) (hlength : posted = true → data.length = n)
    (hinside : addr < hbmBytes) (hcheck : s.sysCheck addr = some t) :
    execHostBar2PaRequest port posted addr n data s = .next (t.hostAt port addr 0 posted n data) := by
  unfold execHostBar2PaRequest
  rw [if_neg (by simp [hready]), if_neg (by simpa [htlp, hinside] using hlength)]
  simp only [hcheck]

/-- R356, R436: one that is no TLP, or lies past HBM, is unsupported. -/
theorem execHostBar2PaRequest_unsupported (hready : s.power.ready = true) (hbad : isTlp addr n = false ∨ hbmBytes ≤ addr) :
    execHostBar2PaRequest port posted addr n data s = .next (s.hostAnswerIf posted port 1) := by
  unfold execHostBar2PaRequest
  rw [if_neg (by simp [hready]), if_pos (by rcases hbad with h | h <;> simp [h])]

/-- R356: a request with the PASID of a tenant that the port takes is made at the address that its tables give, on a page that is not discarded. -/
theorem execHostBar2PasidRequest_made {key kind : Nat} (hready : s.power.ready = true) (htlp : isTlp addr n = true)
    (hlength : posted = true → data.length = n) (hpasid : s.pasidOk port pasid = true) (hlegal : addr < 0xFE000000000000)
    (hwalk : s.translateNow (hostAsker port pasid) (if posted then .store else .load) 5 addr = (.ok (.mem key) kind false, t)) :
    execHostBar2PasidRequest port pasid posted addr n data s = .next (t.hostAt port key pasid posted n data) := by
  unfold execHostBar2PasidRequest
  rw [if_neg (by simp [hready]), if_neg (by simpa [htlp, hpasid, hlegal] using hlength)]
  simp only [hwalk]
  rfl

/-- R205: an AtomicOp on an aligned word of a page with SYSATOM is made. -/
theorem execHostAtomicop_made {op a b key kind : Nat} {disc : Bool} (hready : s.power.ready = true) (hop : op ≤ 2) (hsize : n = 4 ∨ n = 8)
    (haligned : addr % n = 0) (hpasid : s.pasidOk port pasid = true) (hlegal : addr < 0xFE000000000000)
    (hwalk : s.hostBoth (hostAsker port pasid) addr = (.ok (.mem key) kind disc, t)) (hatomic : t.hostSysAtom port pasid addr = true) :
    execHostAtomicop port (some pasid) addr op n a b s = .next (t.hostAtomicAt port key pasid op n a b) := by
  have hwidth : (n != 4 && n != 8) = false := by rcases hsize with rfl | rfl <;> rfl
  unfold execHostAtomicop
  rw [if_neg (by simp [hready, hop, hwidth, haligned])]
  dsimp only
  rw [if_neg (by simp [hpasid, hlegal])]
  simp [hwalk, hatomic]

end

/-- R450: before READY a request for the configuration is retried, a read is unsupported and a write is counted. -/
theorem execHostEarlyAccess_early {s : State} {port k : Nat} (hearly : s.power.ready = false) :
    execHostEarlyAccess port k s = .next (match k with
      | 0 => s.hostAnswer port 3 []
      | 1 => s.hostAnswer port 1 []
      | _ => s.countEarly) :=
  if_neg (by simp [hearly])

/-! ## Resets, heat and power -/

/-- R449: a reset is performed at once where no boot waits … -/
theorem warm_now {s : State} {code : Nat} {ok : Bool} (hidle : s.booting = false) : s.warm code ok = (s.logReports.warmKeep code).boot ok :=
  if_neg (by simp [hidle])

/-- … and otherwise comes after it. -/
theorem warm_waits {s : State} {code : Nat} {ok : Bool} (hboots : s.booting = true) :
    s.warm code ok = { s with power := { s.power with pending := s.power.pending ++ [(code, ok)] } } :=
  if_pos hboots

/-- R451: a hot junction lowers its die's ceiling. -/
theorem execJunctionThrottle_hot {s : State} {die t level : Nat} (hdie : die < 4) (hhot : 105 ≤ t) (hrange : t < 256) :
    execJunctionThrottle die t level s = .next { s with power := { s.power with
      throttle := tabPut s.power.throttle die (max 1 (min level (tabGetD s.power.throttle die 64 - 1))), temps := tabPut s.power.temps die t } } := by
  unfold execJunctionThrottle
  rw [if_neg (Nat.not_lt.2 hhot), Nat.mod_eq_of_lt hdie, Nat.mod_eq_of_lt hrange]

/-- R451: a cool one ends its throttle. -/
theorem execThrottleEnd_cool {s : State} {die t : Nat} (hdie : die < 4) (hcool : t < 100) :
    execThrottleEnd die t s = .next { s with power := { s.power with throttle := tabErase s.power.throttle die, temps := tabPut s.power.temps die t } } := by
  unfold execThrottleEnd
  rw [if_neg (Nat.not_le.2 hcool), Nat.mod_eq_of_lt hdie]

/-- R451: a window above the power cap lowers the clocks … -/
theorem execPowerCapAdjust_above {s : State} {w level : Nat} (hrange : w < 4096) (habove : s.power.cap < w) :
    execPowerCapAdjust w level s = .next { s with power := { s.power with watts := w, capLevel := max 1 (min level (s.power.capLevel - 1)) } } := by
  unfold execPowerCapAdjust
  simp only [Nat.mod_eq_of_lt hrange, gt_iff_lt, habove, if_true]

/-- … and one below it lets them rise. -/
theorem execPowerCapAdjust_below {s : State} {w level : Nat} (hrange : w < 4096) (hbelow : w ≤ s.power.cap) :
    execPowerCapAdjust w level s = .next { s with power := { s.power with watts := w, capLevel := min 64 (max level s.power.capLevel) } } := by
  unfold execPowerCapAdjust
  simp only [Nat.mod_eq_of_lt hrange, gt_iff_lt, Nat.not_lt.2 hbelow, if_false]

/-- R454: a device number written while no boot waits for it is stored for the next one. -/
theorem execDevnoWrite_stored {s : State} {v : Word} (hidle : s.power.devWait = false) :
    execDevnoWrite v s = .next { s with power := { s.power with devno := v &&& 0x8FFF#32 } } :=
  congrArg Host.Outcome.next (if_neg (by simp [hidle]))

/-- R458: a recovery image that verifies, of a version that the fuses allow, runs, and boot goes on. -/
theorem execRecoveryGo_verified {s : State} {v : DWord} (hwaits : s.power.recWait = true) (hgo : v.getLsbD 63 = true) (hsize : v.toNat % 2 ^ 24 ≤ 16777152)
    (hverifies : Config.imageVerifies (s.recoveryImage (v.toNat % 2 ^ 24)) = true)
    (hversion : Config.fuseMinVersion ≤ Config.imageVersion (s.recoveryImage (v.toNat % 2 ^ 24))) :
    execRecoveryGo v s = .next (({ s with
      power := { s.power with recWait := false, recovery := [] },
      sec := { s.sec with fwDigest := Config.imageDigest (s.recoveryImage (v.toNat % 2 ^ 24)),
                          fwVersion := Config.imageVersion (s.recoveryImage (v.toNat % 2 ^ 24)) } } : State).resume State.boot410) := by
  unfold execRecoveryGo
  dsimp only
  rw [if_neg (by simp only [hwaits, hgo, Bool.not_true, Bool.false_or, decide_eq_true_eq]; omega)]
  exact if_pos (Bool.and_eq_true_iff.2 ⟨hverifies, decide_eq_true hversion⟩)

/-! ## Registers -/

/-- R172: what comes in a cycle is noted without a change to the power state. -/
@[simp] theorem serve_power (s : State) (kind place rank : Nat) : (s.serve kind place rank).power = s.power := by
  unfold State.serve
  split_ifs <;> rfl

section
variable {s : State} {port : Nat} {v : DWord}

/-- R455, R456: in its turn, a port's aligned write of a register below the management block, once the module is ready, is made through BAR0. -/
theorem execRegisterWrite_made {off size : Nat} (hport : port < 2) (hready : s.power.ready = true) (hturn : s.tooLate 5 0 port = false)
    (hsize : size = 4 ∨ size = 8) (haligned : off % 8 = 0) (hbelow : off < 0x20000) :
    execRegisterWrite port off size v s = match (s.serve 5 0 port).write32 off (loHalf v) with
      | some o => o
      | none => if size = 8 then (s.serve 5 0 port).write64 off v else .next (s.serve 5 0 port) := by
  have hpwr : (decide (0x20000 ≤ off) && decide (off < 0x20058)) = false := by simp [hbelow]
  have hwhole : ((size ≠ 4 && size ≠ 8) || off % size ≠ 0 || off ≥ 2 ^ 25 : Bool) = false := by
    have hdiv : off % size = 0 := by rcases hsize with rfl | rfl <;> omega
    rcases hsize with rfl | rfl <;> simp [hdiv] <;> omega
  unfold execRegisterWrite State.portWrite
  rw [if_neg (Nat.not_le.2 hport), if_neg (by simp [hturn])]
  dsimp only
  rw [if_neg (by simp [hready]), if_neg (by rw [hwhole]; decide), if_neg (by omega), if_neg (by omega)]
  exact if_neg (by simp [hpwr])

end

end Sys2Proof.Machine

/-- Settles O48: a host's request that is allowed is made, a reset asked for in a boot waits, heat and power act on the clocks, registers take their fields. -/
theorem hostAndPowerEvents : Obligations.HostAndPowerEvents := by
  refine ⟨?pa, ?paBad, ?pasid, ?atomic, ?retried, ?unsupported, ?counted, fun _ _ _ => rfl, ?warm, ?reload, ?warmWaits, ?reloadWaits, fun _ _ => rfl,
    fun _ _ => rfl, ?trip, fun _ _ => rfl, ?throttle, ?cool, ?above, ?below, ?devno, ?recovery, ?dpr, ?root, ?doorbell⟩
  case pa =>
    rintro port posted addr n data t s ⟨hready, htlp, hlength, hinside, hcheck⟩
    show execHostBar2PaRequest port posted addr n data s = _
    exact execHostBar2PaRequest_made hready htlp hlength hinside hcheck
  case paBad =>
    rintro port posted addr n data s ⟨hready, hbad⟩
    show execHostBar2PaRequest port posted addr n data s = _
    exact execHostBar2PaRequest_unsupported hready hbad
  case pasid =>
    rintro port pasid posted va n data key kind t s ⟨hready, htlp, hlength, hpasid, hlegal, hwalk⟩
    exact execHostBar2PasidRequest_made hready htlp hlength hpasid hlegal hwalk
  case atomic =>
    rintro port p addr op n a b key kind disc t s ⟨hready, hop, hsize, haligned, hpasid, hlegal, hwalk, hatomic⟩
    exact execHostAtomicop_made hready hop hsize haligned hpasid hlegal hwalk hatomic
  case retried =>
    rintro port k s ⟨hearly, rfl⟩
    exact execHostEarlyAccess_early (k := 0) hearly
  case unsupported =>
    rintro port k s ⟨hearly, rfl⟩
    exact execHostEarlyAccess_early (k := 1) hearly
  case counted =>
    rintro port k s ⟨hearly, hwrite⟩
    obtain ⟨j, rfl⟩ := Nat.exists_eq_add_of_le' hwrite
    exact execHostEarlyAccess_early (port := port) (k := j + 2) hearly
  case warm =>
    intro ok s hidle
    exact congrArg Host.Outcome.next (warm_now hidle)
  case reload =>
    intro ok s hidle
    exact congrArg Host.Outcome.next (warm_now hidle)
  case warmWaits =>
    intro ok s hboots
    exact congrArg Host.Outcome.next (warm_waits hboots)
  case reloadWaits =>
    intro ok s hboots
    exact congrArg Host.Outcome.next (warm_waits hboots)
  case trip =>
    intro t s hhot
    exact congrArg Host.Outcome.next (if_neg (Nat.not_lt.2 hhot))
  case throttle =>
    rintro die t level hdie s ⟨hhot, hrange⟩
    exact execJunctionThrottle_hot hdie hhot hrange
  case cool =>
    intro die t hdie s hcool
    exact execThrottleEnd_cool hdie hcool
  case above =>
    intro w level hrange s habove
    exact execPowerCapAdjust_above hrange habove
  case below =>
    intro w level hrange s hbelow
    exact execPowerCapAdjust_below hrange hbelow
  case devno =>
    intro v s hidle
    exact execDevnoWrite_stored hidle
  case recovery =>
    rintro v s ⟨hwaits, hgo, hsize, hverifies, hversion⟩
    exact execRecoveryGo_verified hwaits hgo hsize hverifies hversion
  case dpr =>
    rintro port v hport s ⟨hready, hturn⟩
    exact execRegisterWrite_made hport hready hturn (.inl rfl) (by decide) (by decide)
  case root =>
    rintro port v hport s ⟨hready, hturn⟩
    exact execRegisterWrite_made hport hready hturn (.inr rfl) (by decide) (by decide)
  case doorbell =>
    rintro port v hport s ⟨hready, hturn⟩
    refine (execRegisterWrite_made hport hready hturn (.inr rfl) (by decide) (by decide)).trans ?_
    exact congrArg Host.Outcome.next (if_pos ((congrArg Power.ready (serve_power ..)).trans hready))
end

section
/-!
Errors, events, traces and time (O46), and the module right after power-on (O54): each recorder step whose condition is met does what its rule names.
-/
open Sys2Proof Sys2Proof.Machine

namespace Sys2Proof.Machine

/-- R408, R410: an error of a channel that its log has is reported; an uncorrectable one acts on its array, which log 3 never has. -/
theorem execErrorReport_logged {s : State} {log chan loc : Nat} {u : Bool} (hchannel : logChannels log chan = true) :
    execErrorReport log chan loc u s = .next (
      let u := u && log != 3
      let t := (s.report log chan loc u false (u && log == 0) 0 0#64).nearError log chan loc
      if u then t.uncorrectable log chan loc else t) :=
  if_neg (by simp [hchannel])

/-- R378: the event whose turn it is stays until its tick is over … -/
theorem execEventHandoff_early {s : State} {x : EvRec} (hfirst : firstHanded s.evq = some x) (hnow : x.gtc = s.gtc) : execEventHandoff s = .next s := by
  simp only [execEventHandoff, hfirst]
  exact if_pos hnow

/-- … and then goes to the hub of its die, unless the management controller is its source. -/
theorem execEventHandoff_hub {s : State} {x : EvRec} (hfirst : firstHanded s.evq = some x) (hpast : x.gtc ≠ s.gtc) (hsource : x.source ≠ srcOf 11 0) :
    execEventHandoff s = .next (({ s with evq := s.evq.erase x } : State).hubTake (dieOfSource x.source) x) := by
  simp only [execEventHandoff, hfirst]
  rw [if_neg hpast, if_neg hsource]

/-- R379: a channel to Dusk takes the record of its first hub, where its second hub and the management controller have none. -/
theorem execDuskDrain_firstHub {s : State} {ch : Nat} {x : DuskRec} {rest : List DuskRec} (hchannel : ch = 1 ∨ ch = 3) (hopen : s.evr.holdHubs = false)
    (hmgmt : ch = 1 → s.evr.mgmt = []) (hfirst : (s.hub (if ch = 1 then 0 else 2)).buf = x :: rest)
    (hsecond : (s.hub ((if ch = 1 then 0 else 2) + 1)).buf = []) : execDuskDrain ch s = .next (s.drainHub ch (if ch = 1 then 0 else 2)) := by
  have hmine : (ch == 1 && !s.evr.mgmt.isEmpty) = false := by
    rcases hchannel with rfl | rfl
    · simp [hmgmt rfl]
    · rfl
  unfold execDuskDrain
  dsimp only
  rw [if_neg (by rcases hchannel with rfl | rfl <;> decide), if_neg (by simp [hmine])]
  simp [hfirst, hsecond, hopen]

/-- R446: in hardware mode the oldest slot of the Dusk store that the host's ring lacks is copied where the ring has room. -/
theorem execTraceDrainCopy_room {s : State} {w base n : Nat} (hring : s.drainRing = some (w, base, n)) (hmode : s.dpr.getLsbD 7 = true)
    (hsome : max s.evr.hostNext (s.evr.wptr - duskSlots) < s.evr.wptr) (hroom : (s.evr.hostTail + 2 ^ 32 - s.evr.hostHead) % 2 ^ 32 < 2 ^ n) :
    execTraceDrainCopy s = .next (
      let i := max s.evr.hostNext (s.evr.wptr - duskSlots)
      let u := s.duskFound i
      let t := u.regionPut w (base + 32 * (u.evr.hostTail % 2 ^ n)) (u.duskBytes i)
      { t with evr := { t.evr with hostTail := (t.evr.hostTail + 1) % 2 ^ 32, hostNext := i + 1 } }) := by
  simp only [execTraceDrainCopy, hring]
  refine if_neg ?_
  simp only [hmode, Bool.not_true, Bool.false_or, Bool.or_eq_true, decide_eq_true_eq]
  omega

/-- R388: the oldest chunk of a stream whose chunk is due is written. -/
theorem execTraceChunkWrite_first {s : State} {wave : Nat} {cs : Bool} {c : TraceChunk}
    (hfirst : (s.traceOut.find? fun c => c.wave == wave && c.cs == cs).bind
      (fun c => s.traceOut.find? fun x => x.who == c.who && x.cs == c.cs) = some c) : execTraceChunkWrite wave cs s = .next (s.chunkWrite c) := by
  simp only [execTraceChunkWrite, hfirst]

/-- R370: a message of the selected source that does not step the time gives its offset and lock. -/
theorem execPtpMessage_measures {s : State} {src ps : Nat} {ahead : Bool} (hsome : src ≠ 0) (hsource : s.evr.timeCtl.toNat % 4 = src)
    (hnostep : s.evr.stepped = true ∨ ahead = true ∨ ps < 800) :
    execPtpMessage src ahead ps s = .next { s with
      evr := { s.evr with timeCtl := setTimeCtl s.evr.timeCtl (offsetField ahead ps) (decide (ps ≤ 100000)),
                          stepped := s.evr.stepped || decide (ps ≤ 100000) } } := by
  have hstep : (!s.evr.stepped && !ahead && decide (ps ≥ 800)) = false := by
    rcases hnostep with h | h | h <;> simp [h]
  unfold execPtpMessage
  dsimp only
  rw [if_neg (by simp [hsome, hsource]), if_neg (by simp [hstep])]

end Sys2Proof.Machine

/-- Settles O46: an error of a channel that exists is logged, an event moves on once its tick is over, and records and chunks are written where there is room. -/
theorem recorderEvents : Obligations.RecorderEvents := by
  refine ⟨?report, ?logHead, fun _ _ _ => rfl, fun _ _ _ => rfl, ?early, ?handoff, ?drain, ?copy, ?chunk, ?time, fun _ _ _ => rfl⟩
  case report =>
    intro log chan loc u s hchannel
    exact execErrorReport_logged hchannel
  case logHead =>
    intro log v s hlog
    exact if_neg (Nat.not_le.2 hlog)
  case early =>
    rintro x s ⟨hfirst, hnow⟩
    exact execEventHandoff_early hfirst hnow
  case handoff =>
    rintro x s ⟨hfirst, hpast, hsource⟩
    exact execEventHandoff_hub hfirst hpast hsource
  case drain =>
    rintro ch x rest s ⟨hchannel, hopen, hmgmt, hfirst, hsecond⟩
    exact execDuskDrain_firstHub hchannel hopen hmgmt hfirst hsecond
  case copy =>
    rintro w base n s ⟨hring, hmode, hsome, hroom⟩
    exact execTraceDrainCopy_room hring hmode hsome hroom
  case chunk =>
    intro wave cs c s hfirst
    exact execTraceChunkWrite_first hfirst
  case time =>
    rintro src ahead ps s ⟨hsome, hsource, hnostep⟩
    exact execPtpMessage_measures hsome hsource hnostep

/-- Settles O54: the fields of the reset state, whose empty memory reads 0 everywhere. -/
theorem resetState : Obligations.ResetState :=
  ⟨memory_wf_reset, rfl, rfl, rfl, rfl, fun _ => rfl, rfl, rfl, rfl, rfl⟩
end

section
/-!
The Volrida fabric (O47): flits by their CRC, authentication and number, links by their state and lanes, requests by their keys, timers, and the plane map.
-/
open Sys2Proof Sys2Proof.Machine

namespace Sys2Proof.Machine

/-! ## Flits -/

section
variable {s : State} {n : Nat} {f g : Flit} (hkeyed : (s.link n).keyed = true)
include hkeyed

/-- R362: on a keyed link, a flit that opens as g does what g's number says … -/
theorem flitIn_opened (hopened : (s.link n).opened f = some g) (hkind : g.kind ≠ .idle) :
    s.flitIn n f = if g.seq = ((s.link n).got + 1) % 4096 then (s.flitAck n g).flitTake n g
      else if ((s.link n).got + 4096 - g.seq) % 4096 < 2048 then s.flitAck n g else (s.flitAck n g).flitBad n := by
  unfold State.flitIn
  dsimp only
  rw [if_neg (by simp [hkeyed])]
  simp only [hopened]
  rw [if_neg hkind]

/-- R429: … the next one is taken … -/
theorem flitIn_next (hopened : (s.link n).opened f = some g) (hkind : g.kind ≠ .idle) (hseq : g.seq = ((s.link n).got + 1) % 4096) :
    s.flitIn n f = (s.flitAck n g).flitTake n g :=
  (flitIn_opened hkeyed hopened hkind).trans (if_pos hseq)

/-- R429: … and one that is ahead of the next is not. -/
theorem flitIn_ahead (hopened : (s.link n).opened f = some g) (hkind : g.kind ≠ .idle) (hseq : g.seq ≠ ((s.link n).got + 1) % 4096)
    (hahead : 2048 ≤ ((s.link n).got + 4096 - g.seq) % 4096) : s.flitIn n f = (s.flitAck n g).flitBad n :=
  (flitIn_opened hkeyed hopened hkind).trans <| (if_neg hseq).trans (if_neg (Nat.not_lt.2 hahead))

/-- R362: a flit that fails its authentication is counted and discarded … -/
theorem flitIn_unauthentic (hopened : (s.link n).opened f = none) (hfew : (s.link n).authFails < 15) :
    s.flitIn n f = (s.setLink n { s.link n with crcFails := (s.link n).crcFails + 1, authFails := (s.link n).authFails + 1 }).flitBad n := by
  unfold State.flitIn
  dsimp only
  rw [if_neg (by simp [hkeyed])]
  simp only [hopened]
  exact if_neg (by omega)

/-- … and the sixteenth in a row takes the link down. -/
theorem flitIn_sixteenth (hopened : (s.link n).opened f = none) (hmany : 15 ≤ (s.link n).authFails) :
    s.flitIn n f = (s.setLink n { s.link n with crcFails := (s.link n).crcFails + 1, authFails := 0 }).linkDown n := by
  unfold State.flitIn
  dsimp only
  rw [if_neg (by simp [hkeyed])]
  simp only [hopened]
  exact if_pos (by omega)

end

section
variable {s : State} {n : Nat} {b : List Byte} {c : Word} {fec : Bool} (hlink : n < 16) (hlow : 2 ≤ (s.link n).state) (hhigh : (s.link n).state ≤ 4)
include hlink hlow hhigh

/-- R427: a link that is up takes in a flit whose bits are good … -/
theorem execFlitReceive_good {f : Flit} (hflit : flitOf (b ++ bytes4 c) = some f) : execFlitReceive n b c true s = .next (s.flitIn n f) := by
  unfold execFlitReceive
  simp only [Nat.mod_eq_of_lt hlink, hlow, hhigh, hflit, decide_true, Bool.and_self, Bool.not_true, Bool.false_eq_true, if_false, if_true]

/-- … and counts and discards any other. -/
theorem execFlitReceive_bad (hbad : fec = false ∨ flitOf (b ++ bytes4 c) = none) :
    execFlitReceive n b c fec s = .next ((s.setLink n { s.link n with crcFails := (s.link n).crcFails + 1 }).flitBad n) := by
  have hnone : (if fec then flitOf (b ++ bytes4 c) else none) = none := by rcases hbad with h | h <;> simp [h]
  unfold execFlitReceive
  simp only [Nat.mod_eq_of_lt hlink, hlow, hhigh, hnone, decide_true, Bool.and_self, Bool.not_true, Bool.false_eq_true, if_false]

/-- R429: a NAK on such a link has what follows it sent again. -/
theorem execNakReceive_up (a : Nat) : execNakReceive n a s = .next (s.nak n (a % 4096)) := by
  simp [execNakReceive, Nat.mod_eq_of_lt hlink, hlow, hhigh]

/-- R362: the ends of such a link agree a key. -/
theorem execLinkKeyAgree_up (hopen : (s.link n).keyed = false) : execLinkKeyAgree n s = .next (s.setLink n ((s.link n).agree n)) := by
  simp [execLinkKeyAgree, Nat.mod_eq_of_lt hlink, hlow, hhigh, hopen]

end

/-! ## Lanes and training -/

section
variable {s : State} {n : Nat} {x : Word} (hlink : n < 16)
include hlink

/-- R430: lanes of a full link fail, a half of it still works: the link trains again. -/
theorem execLaneFail_half (hfull : (s.link n).state = 2)
    (hhalf : halfOk (BitVec.ofNat 16 (s.link n).failed ||| x.setWidth 16).toNat false = true ∨
      halfOk (BitVec.ofNat 16 (s.link n).failed ||| x.setWidth 16).toNat true = true) :
    execLaneFail n x s = .next (
      let f := (BitVec.ofNat 16 (s.link n).failed ||| x.setWidth 16).toNat
      let t := (s.setLink n { s.link n with failed := f }).linkEvent n 0x062 f
      (t.setLink n { t.link n with state := 1, trainSince := t.gtc }).moveQueue n) := by
  unfold execLaneFail
  simp only [Nat.mod_eq_of_lt hlink, hfull]
  rw [if_pos (by simpa only [Bool.or_eq_true] using hhalf)]

/-- R430: training ends in HOLD in host-assisted mode … -/
theorem execLinkTrainDone_hold (htrain : (s.link n).state = 1) (hmode : s.dpr.getLsbD 4 = false) :
    execLinkTrainDone n s = .next (s.setLink n { s.link n with state := 5 }) := by
  unfold execLinkTrainDone
  simp only [Nat.mod_eq_of_lt hlink, htrain, hmode]
  rfl

/-- … and on the low half in hardware mode, where that half works. -/
theorem execLinkTrainDone_low (htrain : (s.link n).state = 1) (hmode : s.dpr.getLsbD 4 = true) (hhalf : halfOk (s.link n).failed false = true) :
    execLinkTrainDone n s = .next ((s.linkHalf n false).linkReplay n) := by
  unfold execLinkTrainDone
  simp only [Nat.mod_eq_of_lt hlink, htrain, hmode, hhalf]
  rfl

/-- R430: 1 ms in TRAIN or HOLD takes the link down. -/
theorem execLinkTrainTimeout_due (htrain : (s.link n).state = 1 ∨ (s.link n).state = 5) (hdue : 1250000 ≤ (s.gtc - (s.link n).trainSince).toNat) :
    execLinkTrainTimeout n s = .next ((s.setLink n (s.link n).restart).linkDown n) := by
  unfold execLinkTrainTimeout
  simp only [Nat.mod_eq_of_lt hlink]
  exact if_pos (by simp only [ge_iff_le, hdue, Bool.and_eq_true, Bool.or_eq_true, decide_eq_true_eq, and_true, htrain])

/-- R430: CMD 1 brings a link that is down, or on a half, back to its 16 lanes, if none of them fails. -/
theorem execLinkCmd16_full (hstate : (s.link n).state = 0 ∨ (s.link n).state = 3 ∨ (s.link n).state = 4) (hnone : x.toNat % 65536 = 0) :
    execLinkCmd16 n x s = .next (((s.setLink n { s.link n with failed := 0, state := 2 }).linkEvent n 0x065 16).linkReplay n) := by
  unfold execLinkCmd16
  simp only [Nat.mod_eq_of_lt hlink, hnone]
  rw [if_neg (by simp only [Bool.not_eq_true', Bool.not_eq_false, Bool.or_eq_true, decide_eq_true_eq, or_assoc, hstate]), if_neg (by simp)]

/-- R362: a keyed link goes to its other key slot. -/
theorem execLinkRekey_keyed (hkeyed : (s.link n).keyed = true) :
    execLinkRekey n s = .next ((s.setLink n (s.link n).rekey).linkEvent n 0x06B (1 - (s.link n).keySlot)) := by
  simp [execLinkRekey, Nat.mod_eq_of_lt hlink, hkeyed]

end

/-! ## Requests and replies -/

section
variable {s : State} {n : Nat} {p : Packet} (hnext : s.nextRequest = some (n, p)) (hfresh : s.resumes p = false)
  (hintime : p.unlocked = true ∨ (s.gtc - p.sent).toInt ≤ 2000000)
include hnext hfresh hintime

/-- R433: a request that is not late is judged by its key. -/
theorem execFabricRequestArrival_intime : execFabricRequestArrival s = match s.fab.filter.find? fun x => x.1 == pktKey p with
    | some (_, false, _) => .next (s.takePkt (n, p))
    | some (_, true, kept) => .next ((s.takePkt (n, p)).duplicate n p kept)
    | none =>
      if s.fab.filter.length ≥ 262144 then .next ((s.takePkt (n, p)).sendBare { (s.takePkt (n, p)).replyTo p 0 [] with op := .busy })
      else match (s.takePkt (n, p)).execRequest n p with
        | some t => .next t
        | none => .next (s.homeWaits p) := by
  have hlate : (!p.unlocked && decide ((s.gtc - p.sent).toInt > 2000000)) = false := by
    rcases hintime with h | h
    · simp [h]
    · rw [decide_eq_false (not_lt.2 h), Bool.and_false]
  unfold execFabricRequestArrival
  simp only [hnext]
  rw [if_neg (by simp [hfresh])]
  exact if_neg (by simp only [hlate, Bool.false_eq_true, not_false_eq_true])

/-- R433: with a new key, for which the filter has room, it is executed … -/
theorem execFabricRequestArrival_new {t : State} (hnew : s.fab.filter.find? (fun x => x.1 == pktKey p) = none) (hroom : s.fab.filter.length < 262144)
    (hrun : (s.takePkt (n, p)).execRequest n p = some t) : execFabricRequestArrival s = .next t := by
  rw [execFabricRequestArrival_intime hnext hfresh hintime, hnew]
  dsimp only
  rw [if_neg (Nat.not_le.2 hroom), hrun]

/-- … with a key being executed it is dropped … -/
theorem execFabricRequestArrival_running {x : (Nat × Nat × Nat × Nat) × Bool × List Packet}
    (hknown : s.fab.filter.find? (fun x => x.1 == pktKey p) = some x) (hruns : x.2.1 = false) : execFabricRequestArrival s = .next (s.takePkt (n, p)) := by
  obtain ⟨key, done, kept⟩ := x
  cases hruns
  rw [execFabricRequestArrival_intime hnext hfresh hintime, hknown]

/-- … and with a key that is done it is answered again. -/
theorem execFabricRequestArrival_done {x : (Nat × Nat × Nat × Nat) × Bool × List Packet}
    (hknown : s.fab.filter.find? (fun x => x.1 == pktKey p) = some x) (hdone : x.2.1 = true) :
    execFabricRequestArrival s = .next ((s.takePkt (n, p)).duplicate n p x.2.2) := by
  obtain ⟨key, done, kept⟩ := x
  cases hdone
  rw [execFabricRequestArrival_intime hnext hfresh hintime, hknown]

end

section
variable {s : State} {n : Nat} {p : Packet} {x : Txn} (hfirst : s.fab.inbox.find? (fun p => isReply p.2) = some (n, p))
  (htxn : s.fab.txns.find? (fun x => x.pkt.src == p.src && x.pkt.dst == p.srcDev && x.pkt.xtag == p.xtag && x.pkt.sent == p.sent) = some x)
include hfirst htxn

/-- R432: a BUSY reply has its transaction wait … -/
theorem execFabricReplyArrival_busy (hbusy : p.op = .busy) : execFabricReplyArrival s = .next (
    let t := s.takePkt (n, p)
    { t with fab := t.fab.updTxn x.id fun x => { x with busy := some t.gtc } }) := by
  have htxn' : (s.takePkt (n, p)).fab.txns.find? (fun x => x.pkt.src == p.src && x.pkt.dst == p.srcDev && x.pkt.xtag == p.xtag && x.pkt.sent == p.sent) =
    some x := htxn
  simp only [execFabricReplyArrival, hfirst, htxn']
  exact if_pos hbusy

/-- … and any other reaches its source. -/
theorem execFabricReplyArrival_reply (hreply : p.op ≠ .busy) (hsettled : ((s.takePkt (n, p)).replied x p).avPending x = false) :
    execFabricReplyArrival s = .next ((s.takePkt (n, p)).replied x p) := by
  have htxn' : (s.takePkt (n, p)).fab.txns.find? (fun x => x.pkt.src == p.src && x.pkt.dst == p.srcDev && x.pkt.xtag == p.xtag && x.pkt.sent == p.sent) =
    some x := htxn
  simp only [execFabricReplyArrival, hfirst, htxn']
  rw [if_neg hreply]
  exact if_neg (by simp [hsettled])

end

/-! ## Timers -/

/-- R424: an ordered transaction is of no relaxed line. -/
theorem sameLine_ordered {t : Txn} (hordered : t.relaxed = false) (u : Txn) : t.sameLine u = false := by
  simp [Txn.sameLine, hordered]

section
variable {s : State} {k : Nat} {t : Txn} (htxn : s.fab.txns.find? (fun t => t.id == k) = some t)
include htxn

/-- R432: a timer that is due ends a transaction that is 1,600 µs old … -/
theorem execE2eTimerExpiry_dead (hdue : s.txnDue t = true) (hdead : s.txnDead t = true) : execE2eTimerExpiry k s = .next (s.failTxn t) := by
  simp only [execE2eTimerExpiry, htxn]
  rw [if_neg (by simp [hdue]), if_pos hdead]

/-- … and sends an ordered one that is younger again, alone. -/
theorem execE2eTimerExpiry_again (hdue : s.txnDue t = true) (hlive : s.txnDead t = false) (hordered : t.relaxed = false) :
    execE2eTimerExpiry k s = .next (
      let u := s.linkEvent t.link 0x066 (t.pkt.xtag + t.pkt.dst % 4096 * 65536 + t.attempts % 16 * 2 ^ 28 + t.pkt.sent.toNat % 2 ^ 32 * 2 ^ 32)
      ({ u with fab := u.fab.updTxn t.id fun t => { t with attempts := t.attempts + 1 } } : State).resendTxn t true) := by
  simp only [execE2eTimerExpiry, htxn]
  rw [if_neg (by simp [hdue]), if_neg (by simp [hlive])]
  simp only [sameLine_ordered hordered, Bool.false_and, List.filter_false, List.foldl_nil]

/-- R432: 2 µs after a BUSY reply a transaction is sent again. -/
theorem execBusyResend_due {b : DWord} (hbusy : t.busy = some b) (hdue : 2500 ≤ (s.gtc - b).toNat) (hlive : s.txnDead t = false) :
    execBusyResend k s = .next (s.resendTxn t false) := by
  simp only [execBusyResend, htxn, hbusy]
  rw [if_neg (Nat.not_lt.2 hdue), if_neg (by simp [hlive])]

end

/-! ## The plane map -/

/-- R431: a fence ends once no transaction of the planes that move is left. -/
theorem execMapFenceDone_clear {s : State} {v m d : Nat} (hfence : s.fab.fence = some (v, m, d))
    (hclear : (s.fab.txns.any fun t => !t.held && s.fab.fenced t.plane) = false) :
    execMapFenceDone s = .next (State.mapGoOn s.fab.mapWait
      (({ s with fab := { s.fab with fence := none, mapVersion := v, map := m, dead := d, mapWait := [] } } : State).emit (srcOf 11 0) 0x06A 0 0#64
        (BitVec.ofNat 64 (v + m * 2 ^ 32)))) := by
  simp only [execMapFenceDone, hfence]
  exact if_neg (by simp [hclear])

/-- R445: a plane that is dead already changes nothing further in host-assisted mode. -/
theorem execPlaneDead_known {s : State} {p : Nat} (hplane : p < 8) (hdead : (s.linkEvent (2 * p) 0x069 p).fab.deadPlane p = true)
    (hmode : (s.linkEvent (2 * p) 0x069 p).dpr.getLsbD 5 = false) : execPlaneDead p s = .next (s.linkEvent (2 * p) 0x069 p) := by
  unfold execPlaneDead
  simp only [Nat.mod_eq_of_lt hplane, hdead, if_true]
  rw [if_neg (Bool.eq_false_iff.1 hmode)]

end Sys2Proof.Machine

/-- Settles O47: flits, links, requests, replies, timers and the plane map, each by the conditions that its rules name. -/
theorem fabricEvents : Obligations.FabricEvents := by
  refine ⟨?next, ?ahead, ?crc, ?unauthentic, ?sixteenth, ?nak, ?lanes, ?hold, ?low, ?timeout, ?full, ?cmdLow, ?cmdHigh, ?agree, ?rekey, ?new, ?running,
    ?done, ?busy, ?reply, fun _ _ => rfl, ?dead, ?again, ?resend, ?map, ?mapWaits, ?fence, ?plane⟩
  case next =>
    rintro n b c f g hlink s ⟨hlow, hhigh, hkeyed, hflit, hopened, hkind, hseq⟩
    exact (execFlitReceive_good hlink hlow hhigh hflit).trans (congrArg _ (flitIn_next hkeyed hopened hkind hseq))
  case ahead =>
    rintro n b c f g hlink s ⟨hlow, hhigh, hkeyed, hflit, hopened, hkind, hseq, hahead⟩
    exact (execFlitReceive_good hlink hlow hhigh hflit).trans (congrArg _ (flitIn_ahead hkeyed hopened hkind hseq hahead))
  case crc =>
    rintro n b c fec hlink s ⟨hlow, hhigh, hbad⟩
    exact execFlitReceive_bad hlink hlow hhigh hbad
  case unauthentic =>
    rintro n b c f hlink s ⟨hlow, hhigh, hkeyed, hflit, hopened, hfew⟩
    exact (execFlitReceive_good hlink hlow hhigh hflit).trans (congrArg _ (flitIn_unauthentic hkeyed hopened hfew))
  case sixteenth =>
    rintro n b c f hlink s ⟨hlow, hhigh, hkeyed, hflit, hopened, hmany⟩
    exact (execFlitReceive_good hlink hlow hhigh hflit).trans (congrArg _ (flitIn_sixteenth hkeyed hopened hmany))
  case nak =>
    rintro n a hlink s ⟨hlow, hhigh⟩
    exact execNakReceive_up hlink hlow hhigh a
  case lanes =>
    rintro n x hlink s ⟨hfull, hhalf⟩
    exact execLaneFail_half hlink hfull hhalf
  case hold =>
    rintro n hlink s ⟨htrain, hmode⟩
    exact execLinkTrainDone_hold hlink htrain hmode
  case low =>
    rintro n hlink s ⟨htrain, hmode, hhalf⟩
    exact execLinkTrainDone_low hlink htrain hmode hhalf
  case timeout =>
    rintro n hlink s ⟨htrain, hdue⟩
    exact execLinkTrainTimeout_due hlink htrain hdue
  case full =>
    rintro n x hlink s ⟨hstate, hnone⟩
    exact execLinkCmd16_full hlink hstate hnone
  case cmdLow =>
    intro n x hlink s _
    exact congrArg (fun i => Host.Outcome.next (s.linkCmdHalf i false (x.toNat % 65536))) (Nat.mod_eq_of_lt hlink)
  case cmdHigh =>
    intro n x hlink s _
    exact congrArg (fun i => Host.Outcome.next (s.linkCmdHalf i true (x.toNat % 65536))) (Nat.mod_eq_of_lt hlink)
  case agree =>
    rintro n hlink s ⟨hlow, hhigh, hopen⟩
    exact execLinkKeyAgree_up hlink hlow hhigh hopen
  case rekey =>
    intro n hlink s hkeyed
    exact execLinkRekey_keyed hlink hkeyed
  case new =>
    rintro n p t s ⟨hnext, hfresh, hintime, hnew, hroom, hrun⟩
    exact execFabricRequestArrival_new hnext hfresh hintime hnew hroom hrun
  case running =>
    rintro n p x s ⟨hnext, hfresh, hintime, hknown, hruns⟩
    exact execFabricRequestArrival_running hnext hfresh hintime hknown hruns
  case done =>
    rintro n p x s ⟨hnext, hfresh, hintime, hknown, hdone⟩
    exact execFabricRequestArrival_done hnext hfresh hintime hknown hdone
  case busy =>
    rintro n p x s ⟨hfirst, hbusy, htxn⟩
    exact execFabricReplyArrival_busy hfirst htxn hbusy
  case reply =>
    rintro n p x s ⟨hfirst, hreply, htxn, hsettled⟩
    exact execFabricReplyArrival_reply hfirst htxn hreply hsettled
  case dead =>
    rintro k t s ⟨htxn, hdue, hdead⟩
    exact execE2eTimerExpiry_dead htxn hdue hdead
  case again =>
    rintro k t s ⟨htxn, hdue, hlive, hordered⟩
    exact execE2eTimerExpiry_again htxn hdue hlive hordered
  case resend =>
    rintro k t b s ⟨htxn, hbusy, hdue, hlive⟩
    exact execBusyResend_due htxn hbusy hdue hlive
  case map =>
    intro v s hnofence
    exact congrArg Host.Outcome.next (if_neg (by simp [hnofence]))
  case mapWaits =>
    intro v s hfence
    exact congrArg Host.Outcome.next (if_pos hfence)
  case fence =>
    rintro v m d s ⟨hfence, hclear⟩
    exact execMapFenceDone_clear hfence hclear
  case plane =>
    rintro p hplane s ⟨hdead, hmode⟩
    exact execPlaneDead_known hplane hdead hmode
end

section
/-!
Snapshots and the group rebuild (O45): each step by the state of the epoch, of its entry and of its copy, and by what the rebuild has sent and received.
-/
open Sys2Proof Sys2Proof.Machine

namespace Sys2Proof.Machine

/-! ## Snapshots -/

section
variable {s : State} {v : DWord} (hidle : s.snap.state ≠ 1)
include hidle

/-- R438: in hardware mode a list that is in order starts an epoch … -/
theorem execSnapshotStart_starts {n : Nat} (hmode : s.dpr.getLsbD 6 = true)
    (hcheck : ({ s with snap := { Snap.reset with mode := v.getLsbD 57, list := v.toNat / 64 % 2 ^ 46 * 64 } } : State).snapCheck
      (v.toNat / 64 % 2 ^ 46 * 64) = some n) :
    execSnapshotStart v s = .next ((List.range n).foldl (fun s i => s.snapMark i 0 0)
      ({ s with snap := { Snap.reset with mode := v.getLsbD 57, list := v.toNat / 64 % 2 ^ 46 * 64, state := 1 } } : State)) := by
  unfold execSnapshotStart
  simp only [hidle, hmode, hcheck]
  rfl

/-- … and any other is refused. -/
theorem execSnapshotStart_refused (hmode : s.dpr.getLsbD 6 = true)
    (hcheck : ({ s with snap := { Snap.reset with mode := v.getLsbD 57, list := v.toNat / 64 % 2 ^ 46 * 64 } } : State).snapCheck
      (v.toNat / 64 % 2 ^ 46 * 64) = none) :
    execSnapshotStart v s = .next (({ s with snap := { Snap.reset with mode := v.getLsbD 57, list := v.toNat / 64 % 2 ^ 46 * 64, state := 3 } } :
      State).sysWrite (v.toNat / 64 % 2 ^ 46 * 64 + 16) 1 3) := by
  unfold execSnapshotStart
  simp only [hidle, hmode, hcheck]
  rfl

/-- R446: in host-assisted mode a start only keeps its fields. -/
theorem execSnapshotStart_assisted (hmode : s.dpr.getLsbD 6 = false) :
    execSnapshotStart v s = .next { s with snap := { s.snap with mode := v.getLsbD 57, list := v.toNat / 64 % 2 ^ 46 * 64 } } := by
  unfold execSnapshotStart
  rw [if_neg hidle]
  exact if_pos (by rw [hmode]; rfl)

end

section
variable {s t : State} {i : Nat} {e : SnapEnt} (hstages : s.stages i e t)
include hstages

/-- R439, R440: the page of an entry that is to be staged is copied to its stage; what then becomes of it is said by how the copy ends. -/
theorem execSnapshotStageDone_copies : execSnapshotStageDone i s = .next (match t.snapCopy i (t.snapDie e.tenant e.src) e.tenant e.src e.stage with
    | (.ok, u) => ((u.dropHeld (.line snapCmd i)).snapClear e.tenant e.src).snapMark i 1 0
    | (.stop c, u) => (u.dropHeld (.line snapCmd i)).snapFail i e c
    | (.sent, u) => u.snapFail i e cPermission
    | (.wait, u) => u) := by
  obtain ⟨hruns, hsingle, hlater, hent, hpending, hwanted, hturn⟩ := hstages
  unfold execSnapshotStageDone
  rw [if_neg (by simp [hruns, hsingle, hlater])]
  simp only [hent]
  rw [if_neg (by simp [hpending, hwanted, hturn])]
  generalize t.snapCopy i (t.snapDie e.tenant e.src) e.tenant e.src e.stage = copy
  obtain ⟨got, u⟩ := copy
  cases got <;> rfl

end

section
variable {s t : State} {e : SnapEnt} (hdrains : s.drains e t)
include hdrains

/-- R439, R440: an entry whose turn it is to drain, and which has not been sent to another module, is copied to its destination. -/
theorem execSnapshotDrainDone_copies (hunsent : t.snap.sent = false) : execSnapshotDrainDone s = .next (
    match t.snapCopy t.snap.cur (t.snapDie e.tenant e.from_) e.tenant e.from_ e.dest with
    | (.ok, u) => u.snapDrained e
    | (.sent, u) => { u with snap := { u.snap with sent := true } }
    | (.stop c, u) => ((u.dropHeld (.line snapCmd t.snap.cur)).snapFail t.snap.cur e c).snapNext
    | (.wait, u) => u) := by
  obtain ⟨hruns, hent, hopen, hturn⟩ := hdrains
  unfold execSnapshotDrainDone
  rw [if_neg (not_not.2 hruns), hent]
  refine (if_neg (Nat.not_le.2 hopen)).trans <| (if_neg (by simp [hturn])).trans <| (if_neg (by simp [hunsent])).trans ?_
  extract_lets from_
  rw [show from_ = e.from_ from rfl]
  generalize t.snapCopy t.snap.cur _ e.tenant _ e.dest = copy
  obtain ⟨got, u⟩ := copy
  cases got <;> rfl

/-- R440: one that has been sent, every packet answered, has drained, or has failed with the code of a packet. -/
theorem execSnapshotDrainDone_answered (hsent : t.snap.sent = true) (hanswered : (t.fab.txns.any fun x => x.what == .line snapCmd t.snap.cur) = false) :
    execSnapshotDrainDone s = .next (if t.snap.code ≠ 0 then (t.snapFail t.snap.cur e t.snap.code).snapNext else t.snapDrained e) := by
  obtain ⟨hruns, hent, hopen, hturn⟩ := hdrains
  unfold execSnapshotDrainDone
  rw [if_neg (not_not.2 hruns)]
  simp only [hent]
  rw [if_neg (Nat.not_le.2 hopen), if_neg (by simp [hturn]), if_pos hsent, if_neg (by simp [hanswered])]
  split <;> rfl

end

/-- R439: an entry that has drained, or failed, is skipped. -/
theorem execSnapshotDrainDone_skips {s t : State} {e : SnapEnt} (hruns : s.snap.state = 1) (hent : s.snapEnt s.snap.cur = some (e, t)) (hover : 2 ≤ e.st) :
    execSnapshotDrainDone s = .next t.snapNext := by
  unfold execSnapshotDrainDone
  rw [if_neg (not_not.2 hruns)]
  simp only [hent]
  exact if_pos hover

/-! ## The group rebuild -/

section
variable {s t : State} {v : DWord} (hmode : s.dpr.getLsbD 8 = true) (hidle : s.rebuild = none)
include hmode hidle

/-- R444: a list whose head cannot be read is not rebuilt … -/
theorem execGroupRebuild_unread {c : Nat} (hhead : s.sysRead (v.toNat / 64 % 2 ^ 46 * 64) 64 = (.error c, t)) : execGroupRebuild v s = .next t := by
  unfold execGroupRebuild
  rw [if_neg (by simp only [hmode, hidle]; decide)]
  simp only [hhead]

/-- … and one with a legal head, which can be read, is sent to its devices. -/
theorem execGroupRebuild_sends {u : State} {h n x : Nat} (hhead : s.sysRead (v.toNat / 64 % 2 ^ 46 * 64) 64 = (.ok h, t))
    (hsomeDev : 1 ≤ fld (natToBytes 64 h) 0 2) (hmanyDevs : fld (natToBytes 64 h) 0 2 ≤ 256) (hsomeGroup : 1 ≤ fld (natToBytes 64 h) 2 2)
    (hmanyGroups : fld (natToBytes 64 h) 2 2 ≤ 4096)
    (hlength : State.rebuildLen (fld (natToBytes 64 h) 2 2) t (v.toNat / 64 % 2 ^ 46 * 64) (rebuildBlocks (fld (natToBytes 64 h) 0 2)) = some n)
    (hlist : t.sysRead (v.toNat / 64 % 2 ^ 46 * 64) n = (.ok x, u)) :
    execGroupRebuild v s = .next (
      let devs := (List.range (fld (natToBytes 64 h) 0 2)).map fun i => fld (natToBytes n x) (64 + 2 * i) 2 % 4096
      devs.foldl (fun s d => s.rebuildSend u.newId.1 (natToBytes n x) d)
        ({ u.newId.2 with rebuild := some ⟨u.newId.1, v.toNat / 64 % 2 ^ 46 * 64, devs.map fun d => (d, u.gtc), false, false⟩ } : State)) := by
  unfold execGroupRebuild
  rw [if_neg (by simp only [hmode, hidle]; decide), hhead]
  refine (if_neg (by simp only [Bool.or_eq_true, decide_eq_true_eq]; omega)).trans ?_
  simp only [hlength, hlist]

end

/-- R444, R446: a write in host-assisted mode, or while a rebuild runs, does nothing. -/
theorem execGroupRebuild_ignored {s : State} {v : DWord} (hignored : s.dpr.getLsbD 8 = false ∨ s.rebuild.isSome = true) :
    execGroupRebuild v s = .next s := by
  unfold execGroupRebuild
  exact if_pos (by rcases hignored with h | h <;> simp only [h, Bool.not_false, Bool.true_or, Bool.or_true])

section
variable {s : State} {dev : Nat} {r : RebuildIn} {rs : List RebuildIn}
  (hmine : (s.rebuildIn.filter fun r => r.pkt.srcDev == dev).mergeSort (fun a b => decide (a.off ≤ b.off)) = r :: rs)
include hmine

/-- R444: a list that has not come whole waits … -/
theorem execRebuildListArrival_partial (hpart : ((r :: rs).flatMap fun r => r.pkt.data).length < r.total) : execRebuildListArrival dev s = .next s := by
  unfold execRebuildListArrival
  simp only [hmine]
  exact if_pos (by simp only [hpart, decide_true, Bool.true_or])

/-- … and a whole one is applied in its turn of the cycle, and acknowledged. -/
theorem execRebuildListArrival_whole (hwhole : r.total ≤ ((r :: rs).flatMap fun r => r.pkt.data).length)
    (hturn : ((rebuildNums (fld ((r :: rs).flatMap fun r => r.pkt.data) 2 2) (((r :: rs).flatMap fun r => r.pkt.data).drop
      (rebuildBlocks (fld ((r :: rs).flatMap fun r => r.pkt.data) 0 2)))).any fun g => (List.range 16).any fun cle => s.collLate cle g 0) = false) :
    execRebuildListArrival dev s = .next (
      let b := (r :: rs).flatMap fun r => r.pkt.data
      let x := State.rebuildApply (fld b 2 2) s (b.drop (rebuildBlocks (fld b 0 2))) 0
      (r :: rs).foldl (fun (s : State) r => s.rebuildAck r.pkt x.1)
        ({ x.2 with rebuildIn := x.2.rebuildIn.filter fun r => r.pkt.srcDev != dev } : State)) := by
  unfold execRebuildListArrival
  simp only [hmine]
  exact if_neg (by simp only [hturn, Nat.not_lt.2 hwhole, decide_false, Bool.or_self, Bool.false_eq_true, not_false_eq_true])

end

/-- R444: a device that has not acknowledged within 1 ms is given up … -/
theorem execRebuildAckTimeout_due {s : State} {dev : Nat} {r : Rebuild} (hruns : s.rebuild = some r)
    (hdue : (r.waits.any fun w => w.1 == dev && decide ((s.gtc - w.2).toNat ≥ 1250000)) = true) :
    execRebuildAckTimeout dev s = .next (({ s with
      rebuild := some { r with waits := r.waits.filter fun w => !(w.1 == dev && decide ((s.gtc - w.2).toNat ≥ 1250000)), missed := true } } :
      State).rebuildSettle) := by
  simp only [execRebuildAckTimeout, hruns]
  exact if_pos hdue

/-- … and one whose time is not over is not. -/
theorem execRebuildAckTimeout_early {s : State} {dev : Nat} (hearly : ∀ r, s.rebuild = some r →
    (r.waits.any fun w => w.1 == dev && decide ((s.gtc - w.2).toNat ≥ 1250000)) = false) : execRebuildAckTimeout dev s = .next s := by
  unfold execRebuildAckTimeout
  cases hruns : s.rebuild with
  | none => rfl
  | some r => exact if_neg (Bool.eq_false_iff.1 (hearly r hruns))

/-! ## The abort of a snapshot -/

/-- A snapshot ends alike after steps that do the same to each entry. -/
theorem foldl_snapEnd_congr {f g : State → Nat → State} (hstep : ∀ u i, f u i = g u i) (entries : List Nat) (s : State) :
    (.next (entries.foldl f s).snapEnd : Out) = .next (entries.foldl g s).snapEnd := by
  rw [funext₂ hstep]

end Sys2Proof.Machine

/-- Settles O45: snapshots by the state of the epoch and of the entry's copy, rebuilds by their list and by what has been acknowledged. -/
theorem recoveryEvents : Obligations.RecoveryEvents := by
  refine ⟨?starts, ?refused, ?active, ?assisted, ?noAbort, ?aborts, ?staged, ?stageFails, ?stageSent, ?stageWaits, ?notStaged, ?drained, ?sent, ?drainFails,
    ?answered, ?packetFails, ?skips, ?noDrain, ?rebuild, ?ignored, ?unread, ?nothing, ?part, ?whole, ?late, ?early⟩
  case starts =>
    rintro v n s ⟨hidle, hmode, hcheck⟩
    show execSnapshotStart v s = _
    exact execSnapshotStart_starts hidle hmode hcheck
  case refused =>
    rintro v s ⟨hidle, hmode, hcheck⟩
    show execSnapshotStart v s = _
    exact execSnapshotStart_refused hidle hmode hcheck
  case active =>
    intro v s hactive
    exact if_pos hactive
  case assisted =>
    rintro v s ⟨hidle, hmode⟩
    show execSnapshotStart v s = _
    exact execSnapshotStart_assisted hidle hmode
  case noAbort =>
    intro s hidle
    show execSnapshotAbort s = _
    exact if_pos hidle
  case aborts =>
    intro s hactive
    show execSnapshotAbort s = _
    unfold execSnapshotAbort
    refine (if_neg (not_not.2 hactive)).trans ?_
    refine foldl_snapEnd_congr (fun u i => ?_) _ _
    cases u.snapEnt i <;> rfl
  case staged =>
    rintro i e t u s ⟨hstages, hcopy⟩
    refine (execSnapshotStageDone_copies hstages).trans ?_
    rw [hcopy]
  case stageFails =>
    rintro i e t u c s ⟨hstages, hcopy⟩
    refine (execSnapshotStageDone_copies hstages).trans ?_
    rw [hcopy]
  case stageSent =>
    rintro i e t u s ⟨hstages, hcopy⟩
    refine (execSnapshotStageDone_copies hstages).trans ?_
    rw [hcopy]
  case stageWaits =>
    rintro i e t u s ⟨hstages, hcopy⟩
    refine (execSnapshotStageDone_copies hstages).trans ?_
    rw [hcopy]
  case notStaged =>
    intro i s hno
    show execSnapshotStageDone i s = .next s
    exact if_pos (by simpa [or_assoc] using hno)
  case drained =>
    rintro e t u s ⟨hdrains, hunsent, hcopy⟩
    refine (execSnapshotDrainDone_copies hdrains hunsent).trans ?_
    rw [hcopy]
  case sent =>
    rintro e t u s ⟨hdrains, hunsent, hcopy⟩
    refine (execSnapshotDrainDone_copies hdrains hunsent).trans ?_
    rw [hcopy]
  case drainFails =>
    rintro e t u c s ⟨hdrains, hunsent, hcopy⟩
    refine (execSnapshotDrainDone_copies hdrains hunsent).trans ?_
    rw [hcopy]
  case answered =>
    rintro e t s ⟨hdrains, hsent, hanswered, hcode⟩
    exact (execSnapshotDrainDone_answered hdrains hsent hanswered).trans (congrArg _ (if_neg (not_not.2 hcode)))
  case packetFails =>
    rintro e t s ⟨hdrains, hsent, hanswered, hcode⟩
    exact (execSnapshotDrainDone_answered hdrains hsent hanswered).trans (congrArg _ (if_pos hcode))
  case skips =>
    rintro e t s ⟨hruns, hent, hover⟩
    show execSnapshotDrainDone s = _
    exact execSnapshotDrainDone_skips hruns hent hover
  case noDrain =>
    intro s hidle
    show execSnapshotDrainDone s = .next s
    exact if_pos hidle
  case rebuild =>
    rintro v h t n x u s ⟨hmode, hidle, hhead, hsomeDev, hmanyDevs, hsomeGroup, hmanyGroups, hlength, hlist⟩
    show execGroupRebuild v s = _
    exact execGroupRebuild_sends hmode hidle hhead hsomeDev hmanyDevs hsomeGroup hmanyGroups hlength hlist
  case ignored =>
    intro v s hignored
    show execGroupRebuild v s = _
    exact execGroupRebuild_ignored hignored
  case unread =>
    rintro v c t s ⟨hmode, hidle, hhead⟩
    show execGroupRebuild v s = _
    exact execGroupRebuild_unread hmode hidle hhead
  case nothing =>
    intro dev s hnone
    show execRebuildListArrival dev s = .next s
    unfold execRebuildListArrival
    simp only [hnone]
  case part =>
    rintro dev r rs s ⟨hmine, hpart⟩
    show execRebuildListArrival dev s = _
    exact execRebuildListArrival_partial hmine hpart
  case whole =>
    rintro dev r rs s ⟨hmine, hwhole, hturn⟩
    show execRebuildListArrival dev s = _
    exact execRebuildListArrival_whole hmine hwhole hturn
  case late =>
    rintro dev r s ⟨hruns, hdue⟩
    show execRebuildAckTimeout dev s = _
    exact execRebuildAckTimeout_due hruns hdue
  case early =>
    intro dev s hearly
    show execRebuildAckTimeout dev s = _
    exact execRebuildAckTimeout_early hearly
end

section
/-!
The security unit (O44): its commands with their effects and result codes, quotas, attestation, and IDE keys.
-/
open Sys2Proof Sys2Proof.Machine

namespace Sys2Proof.Machine

/-! ## Commands -/

/-- R352: a step takes the oldest command, as read, if it is for that command's operation. -/
theorem secHead_of_op {s t : State} {c : SecCmd} {ops : Nat → Bool} (hhead : s.secHead (fun _ => true) = some (c, t)) (hop : ops c.op = true) :
    s.secHead ops = some (c, t) := by
  unfold State.secHead at hhead ⊢
  cases hcmds : s.sec.cmds with
  | nil => simp [hcmds] at hhead
  | cons pa rest =>
    rw [hcmds] at hhead
    have hread := Option.some.inj ((if_pos rfl).symm.trans hhead)
    dsimp only
    rw [hread]
    exact if_pos hop

section
variable {s t : State} {c : SecCmd}

section
variable (hcmd : s.keyCommand 1 c t)
include hcmd

/-- R352: a legal KEY_INSTALL installs no key for tenant 0 or for a tenant that has one … -/
theorem execKeyInstall_keyed (hkeyed : c.tenant = 0 ∨ t.isKeyed c.tenant = true) : execKeyInstall s = .next (t.secDone c 3) := by
  obtain ⟨hhead, hop, hok⟩ := hcmd
  unfold execKeyInstall
  rw [secHead_of_op hhead (by rw [hop]; rfl)]
  exact (if_neg (by simp [hop, hok])).trans (if_pos (by simpa using hkeyed))

/-- … and for another looks at its blob, which must be aligned … -/
theorem execKeyInstall_misaligned (htenant : c.tenant ≠ 0) (hnew : t.isKeyed c.tenant = false) (hblob : c.blob % 64 ≠ 0) :
    execKeyInstall s = .next (t.secDone c 2) := by
  obtain ⟨hhead, hop, hok⟩ := hcmd
  unfold execKeyInstall
  rw [secHead_of_op hhead (by rw [hop]; rfl)]
  exact (if_neg (by simp [hop, hok])).trans <| (if_neg (by simp [htenant, hnew])).trans (if_pos hblob)

/-- … and, where it can be read, has its zeros and opens, holds the key set (R353). -/
theorem execKeyInstall_read {u : State} {b : List Byte} (htenant : c.tenant ≠ 0) (hnew : t.isKeyed c.tenant = false) (hread : t.blobRead c b u) :
    execKeyInstall s = if !blobZeros b then .next (u.secDone c 1)
      else match u.openBlob c.tenant b with
        | none => .next (u.secDone c 2)
        | some key => .next (({ u with keyed := u.keyed ++ [c.tenant], sec := { u.sec with keys := tabPut u.sec.keys c.tenant key } } : State).secDone c 0) := by
  obtain ⟨hhead, hop, hok⟩ := hcmd
  obtain ⟨haligned, r, hcheck, hsound, rfl, rfl⟩ := hread
  unfold execKeyInstall
  rw [secHead_of_op hhead (by rw [hop]; rfl)]
  refine (if_neg (by simp [hop, hok])).trans <| (if_neg (by simp [htenant, hnew])).trans <| (if_neg (not_not.2 haligned)).trans ?_
  rw [hcheck]
  exact if_neg (by simp [hsound])

end

/-- R354: a legal KEY_RETIRE erases the keys of a tenant that is not live … -/
theorem execKeyRetire_retires (hcmd : s.keyCommand 2 c t) (htenant : c.tenant ≠ 0) (hdead : t.tenantLive c.tenant = false) :
    execKeyRetire s = .next ((t.retire c.tenant).secDone c 0) := by
  obtain ⟨hhead, hop, hok⟩ := hcmd
  unfold execKeyRetire
  rw [secHead_of_op hhead (by rw [hop]; rfl)]
  simp [hok, htenant, hdead]

/-- … and no other's. -/
theorem execKeyRetire_refused (hcmd : s.keyCommand 2 c t) (hlive : c.tenant = 0 ∨ t.tenantLive c.tenant = true) :
    execKeyRetire s = .next (t.secDone c 3) := by
  obtain ⟨hhead, hop, hok⟩ := hcmd
  unfold execKeyRetire
  rw [secHead_of_op hhead (by rw [hop]; rfl)]
  exact congrArg Host.Outcome.next ((if_neg (by simp [hok])).trans (if_pos (by simpa using hlive)))

/-- R361: a legal FRAME_BIND binds an unbound frame that verifies under the binding of the tenant's source. -/
theorem execFrameBind_binds {e : PvtEntry} (hcmd : s.keyCommand 3 c t) (hentry : e = tabGetD t.pvt c.src PvtEntry.free)
    (hsource : t.boundTo c.src c.tenant = true) (hfree : t.isBound c.dst = false) (hexists : t.frameExists c.dst false = true)
    (hverifies : t.frameVerifies c.dst e.tenant e.vpn e.version = true) :
    execFrameBind s = .next (
      let u := (t.frameRead c.dst).rebind c.dst e.tenant e.vpn
      let u := { u with pvt := tabPut u.pvt c.src { e with unbindAt := some u.nextInval } }
      (u.sysWrite (c.pa + 32) 8 u.version).secDone c 0) := by
  obtain ⟨hhead, hop, hok⟩ := hcmd
  subst hentry
  unfold execFrameBind
  rw [secHead_of_op hhead (by rw [hop]; rfl)]
  exact (if_neg (by simp [hok])).trans <| (if_neg (by simp [hsource])).trans <| (if_neg (by simp [hfree])).trans <|
    if_neg (by simp [hexists, hverifies])

/-- R361: a legal FRAME_UNBIND unbinds a frame of its tenant … -/
theorem execFrameUnbind_unbinds (hcmd : s.keyCommand 4 c t) (hsource : t.boundTo c.src c.tenant = true) :
    execFrameUnbind s = .next (({ t with pvt := tabErase t.pvt c.src } : State).secDone c 0) := by
  obtain ⟨hhead, hop, hok⟩ := hcmd
  unfold execFrameUnbind
  rw [secHead_of_op hhead (by rw [hop]; rfl)]
  simp [hok, hsource]

/-- … and no other. -/
theorem execFrameUnbind_refused (hcmd : s.keyCommand 4 c t) (hsource : t.boundTo c.src c.tenant = false) :
    execFrameUnbind s = .next (t.secDone c 4) := by
  obtain ⟨hhead, hop, hok⟩ := hcmd
  unfold execFrameUnbind
  rw [secHead_of_op hhead (by rw [hop]; rfl)]
  simp [hok, hsource]

/-- R352: a legal RAWCOPY copies a frame of its tenant to an unbound one. -/
theorem execRawcopy_copies (hcmd : s.keyCommand 5 c t) (hsource : t.boundTo c.src c.tenant = true) (hfree : t.isBound c.dst = false)
    (hexists : t.frameExists c.dst false = true) : execRawcopy s = .next ((t.rawCopy c.src c.dst).secDone c 0) := by
  obtain ⟨hhead, hop, hok⟩ := hcmd
  unfold execRawcopy
  rw [secHead_of_op hhead (by rw [hop]; rfl)]
  simp [hok, hsource, hfree, hexists]

end

/-! ## Quotas, attestation and IDE keys -/

/-- R367: a write of SEC_AVQUOTA whose eight packets find tags goes out. -/
theorem execAvquotaWrite_sent {s t : State} {v : DWord} (hsent : (List.range 8).foldl (fun (o : Option State) p => o.bind fun x =>
    x.newTxn false p (parityOf 10 (v.toNat / 2 ^ 32 % 1024)) (quotaPacket s.gtc v) (.access [])) (some s) = some t) :
    execAvquotaWrite v s = .next t := by
  unfold execAvquotaWrite
  rw [hsent]
  rfl

/-- R366: with keys left to sign with and a session free, a request of the right lengths is answered with a signed report, and its session opens. -/
theorem execAttestationRequest_reports {s : State} {nonce ekey : List Byte} {port tenant : Nat} (hnonce : nonce.length = 32) (hekey : ekey.length = 1568)
    (hleaf : s.sec.leaf < 2 ^ 40) (hfree : s.sec.sessions.length < 64) :
    execAttestationRequest nonce ekey port tenant s = .next { s with
      sec := { s.sec with sessions := s.sec.sessions ++ [⟨s.sec.nextSession, port, tenant, Config.kemSecret s.sec.nextSession ekey⟩],
                          nextSession := (s.sec.nextSession + 1) % 2 ^ 64,
                          leaf := s.sec.leaf + 1,
                          reports := s.sec.reports ++ [(s.report366 nonce ekey, Config.signature s.sec.leaf (s.report366 nonce ekey))] } } := by
  have hlegal : (nonce.length ≠ 32 || ekey.length ≠ 1568 || s.sec.leaf ≥ 2 ^ 40 : Bool) = false := by
    simp only [hnonce, hekey, ge_iff_le, Nat.not_le.2 hleaf, ne_eq, not_true, decide_false, Bool.or_self]
  unfold execAttestationRequest
  rw [if_neg (Bool.eq_false_iff.1 hlegal)]
  dsimp only
  rw [if_neg (Nat.not_le.2 hfree)]

/-- R363: a message in a live session sets the key of a stream. -/
theorem execIdeKmMessage_live {s : State} {port : Nat} {m : IdeKey} {x : Session} (hlive : s.sec.sessions.find? (fun x => x.num == m.session) = some x) :
    execIdeKmMessage port m s = .next { s with sec := { s.sec with
      ide := (s.sec.ide.filter fun z => !(z.port == port % 2 && z.kind == m.kind % 3 && z.num == m.num % 256)) ++
        [⟨port % 2, m.kind % 3, m.num % 256, x.tenant, m.key⟩] } } := by
  unfold execIdeKmMessage
  rw [hlive]

end Sys2Proof.Machine

/-- Settles O44: a legal command by what it names and by what it finds there, and each other step by its condition. -/
theorem securityEvents : Obligations.SecurityEvents := by
  refine ⟨?keyed, ?misaligned, ?zeros, ?closed, ?installs, ?retires, ?live, ?binds, ?unbinds, ?notBound, ?copies, ?quota, ?attests, fun _ _ _ _ => rfl,
    ?ide⟩
  case keyed =>
    rintro c t s ⟨hcmd, hkeyed⟩
    exact execKeyInstall_keyed hcmd hkeyed
  case misaligned =>
    rintro c t s ⟨hcmd, htenant, hnew, hblob⟩
    exact execKeyInstall_misaligned hcmd htenant hnew hblob
  case zeros =>
    rintro c t b u s ⟨hcmd, htenant, hnew, hread, hzeros⟩
    exact (execKeyInstall_read hcmd htenant hnew hread).trans (if_pos (by rw [hzeros]; rfl))
  case closed =>
    rintro c t b u s ⟨hcmd, htenant, hnew, hread, hzeros, hopen⟩
    exact (execKeyInstall_read hcmd htenant hnew hread).trans <| (if_neg (by simp [hzeros])).trans (by rw [hopen])
  case installs =>
    rintro c t b u key s ⟨hcmd, htenant, hnew, hread, hzeros, hopen⟩
    exact (execKeyInstall_read hcmd htenant hnew hread).trans <| (if_neg (by simp [hzeros])).trans (by rw [hopen])
  case retires =>
    rintro c t s ⟨hcmd, htenant, hdead⟩
    exact execKeyRetire_retires hcmd htenant hdead
  case live =>
    rintro c t s ⟨hcmd, hlive⟩
    exact execKeyRetire_refused hcmd hlive
  case binds =>
    rintro c t e s ⟨hcmd, hentry, hsource, hfree, hexists, hverifies⟩
    exact execFrameBind_binds hcmd hentry hsource hfree hexists hverifies
  case unbinds =>
    rintro c t s ⟨hcmd, hsource⟩
    exact execFrameUnbind_unbinds hcmd hsource
  case notBound =>
    rintro c t s ⟨hcmd, hsource⟩
    exact execFrameUnbind_refused hcmd hsource
  case copies =>
    rintro c t s ⟨hcmd, hsource, hfree, hexists⟩
    exact execRawcopy_copies hcmd hsource hfree hexists
  case quota =>
    intro v t s hsent
    exact execAvquotaWrite_sent hsent
  case attests =>
    rintro nonce ekey port tenant s ⟨hnonce, hekey, hleaf, hfree⟩
    exact execAttestationRequest_reports hnonce hekey hleaf hfree
  case ide =>
    intro port m x s hlive
    exact execIdeKmMessage_live hlive
end

section
/-!
Taking a trap (O57). A trap that a C-stream takes holds the A-stream for the rest of its cycle, so that of two traps in one cycle the A-stream's stands (R414):
the wave's `pause` changes, which `trapped` does not say. `takeTrap_wave` says what the wave becomes.
-/
open Sys2Proof Sys2Proof.Machine

namespace Sys2Proof.Machine

/-- R414: the stream that issues no more in the cycle of a trap: the A-stream after the C-stream's, else as before. -/
def pauseAfterTrap (w : Wave) (cs : Bool) (cycle : Nat) : Option (Bool × Nat) := if cs then some (false, cycle) else w.pause

/-- R415: a wave whose handler starts untraced: its context is saved and its A-stream runs the vector. -/
theorem enterNow_wave {s : State} {k : Nat} {w : Wave} {x : Bool × Nat × Nat} (hw : s.wave? k = some w) (htrapping : w.trapping = some x)
    (ha : w.a.trace = none) (hc : w.c.trace = none) :
    (s.enterNow k).wave? k = some { w with
      ctx := some { aTab := w.a.tab, cTab := w.c.tab, z := w.a.z, n := w.a.n, c := w.a.c, v := w.a.v, aClause := w.a.clause, cClause := w.c.clause,
                    aWait := w.a.wait, aExited := w.a.exited }
      trapping := none
      a := { w.a with tab := SplitTab.empty.setSlot 0 (some ⟨w.trapVector, 0#64, w.live, w.live, [], []⟩), clause := none, wait := none,
                      exited := false } } := by
  obtain ⟨cs, slot, kind⟩ := x
  unfold State.enterNow
  simp only [hw, htrapping]
  rw [tracePkt_off (wave?_setWave _ _ _) (by exact ha), tracePkt_off (wave?_setWave _ _ _) (by exact hc)]
  exact wave?_setWave _ _ _

/-- R414: the handler of a trap starts once the other stream has stopped. -/
theorem enterHandler_starts {s : State} {k : Nat} {w : Wave} {cs : Bool} {y : Nat × Nat} (hw : s.wave? k = some w) (htrapping : w.trapping = some (cs, y))
    (hstopped : (w.stream (!cs)).stopped = true) (habort : tabGet? s.aborts w.task = none) : s.enterHandler k = s.enterNow k := by
  unfold State.enterHandler
  simp only [hw, htrapping, hstopped, habort, Bool.not_true, Option.isSome_none, Bool.or_self, Bool.false_eq_true, if_false]

/-- R414 to R416: a trap taken with the other stream stopped, untraced: the wave as trapped, with the other stream's pause. -/
theorem takeTrap_wave {s : State} {k : Nat} {w : Wave} (cs : Bool) (slot : Nat) (pc : DWord) (code : Nat) (addr : DWord) (lanes : Word) (kind : Nat)
    (hw : s.wave? k = some w) (hbatch : w.batch = none) (habort : tabGet? s.aborts w.task = none) (htrapping : w.trapping = none)
    (hctx : w.ctx = none) (hvector : w.trapVector ≠ 0#64) (hstopped : (w.stream (!cs)).stopped = true)
    (ha : w.a.trace = none) (hc : w.c.trace = none) :
    (s.takeTrap k cs slot pc code addr lanes kind).wave? k =
      some { trapped w cs slot pc code addr lanes kind with pause := pauseAfterTrap w cs s.cycle } := by
  have hquiet : Quiet s ((s.dropReads (2 * k + (if cs then 1 else 0))).emit (srcCore (coreOf k)) 0x011 w.tenant w.causal
      (BitVec.ofNat 64 (code + pc.toNat % 2 ^ 56 * 256))) := (dropReads_quiet _ _).trans (emit_quiet _ _ _ _ _ _)
  have hw' : (s.dropReads (2 * k + (if cs then 1 else 0))).wave? k = some w := hw
  have habort' : tabGet? (s.dropReads (2 * k + (if cs then 1 else 0))).aborts w.task = none := habort
  unfold State.takeTrap
  simp only [hw', hbatch, habort', htrapping, hctx, hvector, Option.isSome_none, Bool.false_eq_true, if_false, Bool.or_self, decide_false]
  rw [enterHandler_starts (wave?_setWave _ _ _) rfl (by cases cs <;> exact hstopped) (by exact (congrArg (tabGet? · _) hquiet.aborts).trans habort),
    enterNow_wave (wave?_setWave _ _ _) rfl (by exact ha) (by exact hc)]
  simp only [trapped, pauseAfterTrap, hbatch, htrapping]
  rfl

/-- A wave with a trap vector and both streams stopped. -/
def vectorWave : Wave := { Wave.empty with trapVector := 1#64 }

/-- The reset state with that wave in slot 0. -/
def vectorState : State := { State.reset with waves := [(0, vectorWave)] }

/-- In it the C-stream's trap holds the A-stream for cycle 0; `trapped` leaves `pause` as it was. -/
theorem takeTrap_pauses : (vectorState.takeTrap 0 true 0 0#64 cIllegal 0#64 0#32 0).wave? 0 =
    some { trapped vectorWave true 0 0#64 cIllegal 0#64 0#32 0 with pause := some (false, 0) } :=
  takeTrap_wave true 0 0#64 cIllegal 0#64 0#32 0 (w := vectorWave) rfl rfl rfl rfl rfl (by decide) rfl rfl rfl

end Sys2Proof.Machine

/-- Refutes O57: a C-stream's trap with the other stream stopped also sets the wave's `pause`, which holds the A-stream in that cycle (R414); the wave
is not the one of `trapped`. -/
theorem not_trapEntry : ¬ Obligations.TrapEntry := by
  unfold Obligations.TrapEntry
  intro h
  obtain ⟨-, hentry, -⟩ := h vectorState 0 true 0 0#64 cIllegal 0#64 0#32 0 vectorWave rfl rfl
  have hwave := hentry rfl rfl rfl (by decide) rfl rfl rfl
  rw [takeTrap_pauses] at hwave
  exact absurd (congrArg Wave.pause (Option.some.inj hwave)) (by decide)
end

section
/-!
TRAP, the return from a handler, and EXIT (O21).
-/
open Sys2Proof Sys2Proof.Machine

namespace Sys2Proof.Machine

/-- R415, R420: TRAP is a software trap whose code is 0x80 and its operand. -/
theorem trap_gives (n : BitVec 7) :
    Gives (.trap n) (fun e => e.s.takeTrap e.key e.cs e.cl.slot e.pc (0x80 + n.toNat) 0#64 e.exec 1) :=
  gives_of (execTrap n) (fun _ => rfl) (fun _ => rfl) (fun _ => rfl)

/-- R417: outside a handler there is nothing to return to. -/
theorem tret_illegal : TrapsIf .tret (fun e => e.w.ctx = none) cIllegal (fun _ => 0#64) := by
  refine trapsIf_of execTret (fun _ => rfl) (fun _ => rfl) fun e hctx => ?_
  simp only [hctx]

/-- R418: the return from a deferred trap's handler aborts the task. -/
theorem tret_aborts : GivesIf .tret (fun e => e.w.ctx.isSome ∧ e.w.trapCode.toNat / 1024 % 4 = 2)
    (fun e => (e.s.setWave e.key e.w).abortTask e.w.task (e.w.trapCode.toNat % 256)) := by
  refine givesIf_of execTret (fun _ => rfl) (fun _ => rfl) fun e ⟨hsome, hkind⟩ => ?_
  obtain ⟨c, hctx⟩ := Option.isSome_iff_exists.1 hsome
  simp only [hctx]
  exact if_pos hkind

/-- R417: the wave with its streams as `c` saved them, after the return from a handler; a software trap's word (`soft`) is done. -/
def afterHandler (e : Env) (c : TrapCtx) (soft : Bool) : Wave :=
  let rA := if soft && !e.w.trapCode.getLsbD 12 then advance c.aTab c.aClause else (c.aTab, c.aClause)
  let rC := if soft && e.w.trapCode.getLsbD 12 then advance c.cTab c.cClause else (c.cTab, c.cClause)
  { e.w with a := { e.w.a with tab := rA.1, clause := rA.2, wait := c.aWait, exited := c.aExited, z := c.z, n := c.n, c := c.c, v := c.v },
             c := { e.w.c with tab := rC.1, clause := rC.2 }, ctx := none }

theorem execTret_returns {s : State} {e : Env} {c : TrapCtx} (hissues : Issues .tret s e) (hctx : e.w.ctx = some c)
    (hkind : e.w.trapCode.toNat / 1024 % 4 ≠ 2) :
    exec .tret s = .next (
      let soft := decide (e.w.trapCode.toNat / 1024 % 4 = 1)
      let pkt := [pktHead 7 e.cl.slot (if soft then 2 else 1)]
      (((e.s.setWave e.key (afterHandler e c soft)).tracePkt e.key false pkt).tracePkt e.key true pkt).takeDeferred e.key true) := by
  refine exec_of_issues execTret hissues (fun _ => rfl) (fun _ => rfl) ?_
  simp only [hctx]
  refine (if_neg hkind).trans ?_
  simp only [afterHandler, decide_eq_true_eq]

/-- R418: EXIT in a handler ends the wave. -/
theorem exit_inHandler :
    GivesIf .exit (fun e => e.w.ctx.isSome) (fun e => (e.s.setWave e.key e.w).exitHandler e.key e.cl.slot) :=
  givesIf_of execExit (fun _ => rfl) (fun _ => rfl) fun _ hctx => if_pos hctx

/-- R256, R321: outside a handler EXIT takes the split's lanes out of its stream. -/
theorem exit_leavesStream : GivesIf .exit (fun e => e.w.ctx = none) (fun e =>
    let w := e.w.updStream e.cs fun st => { st with launched := st.launched &&& ~~~e.sp.base }
    let t := SplitTab.clearLanes e.sp.base ((w.stream e.cs).tab.setSlot e.cl.slot none)
    let w := w.updStream e.cs fun st => { st with tab := t.1, clause := none }
    ((((e.s.setWave e.key w).traceStarts e.key e.cs t.1 t.2).exitCheck e.key e.cs e.cl.slot).enterHandler e.key)) :=
  givesIf_of execExit (fun _ => rfl) (fun _ => rfl) fun _ hctx => if_neg (by simp [hctx])

end Sys2Proof.Machine

/-- Settles O21. -/
theorem trapsAndExit : Obligations.TrapsAndExit := by
  unfold Obligations.TrapsAndExit
  intro n
  refine ⟨trap_gives n, tret_illegal, tret_aborts, ?returns, exit_inHandler, exit_leavesStream⟩
  case returns =>
    intro s e c hissues hctx hkind
    exact execTret_returns hissues hctx hkind
end

section
/-!
SPAWN (O30).
-/
open Sys2Proof Sys2Proof.Machine

namespace Sys2Proof.Machine

/-- R319, R320: a record that its tenant may spawn, with room in its ring and its release set performed, goes into the launcher's ring. -/
theorem execSpawn_spawns {a : BitVec 7} {s s' : State} {e e' e'' : Env} {b : List Byte} (hissues : Issues (.spawn a) s e)
    (hgated : e.gated .load true = some e') (halign : (e'.s64 a).toNat % 32 = 0) (hva : vaBad (e'.s64 a).toNat = false)
    (havenue : isAvenueVa (e'.s64 a).toNat = false) (hread : e'.recordAt .store (e'.s64 a).toNat 32 true = some (e'', b))
    (hok : e''.s.spawnOk b e''.w.tenant e''.w.task = (true, s')) (hring : s'.lch.ringFull (contRecOf b).level = false)
    (hrelease : s'.releaseSet e''.key 3 = []) (hbarred : s'.barred e''.key s'.nextId = false) :
    exec (.spawn a) s = .next { e'' with s := (s'.dropReads e''.askerId).spawn b e''.w.task }.done := by
  refine exec_of_issues (execSpawn a) hissues (fun _ => rfl) (fun _ => rfl) ?_
  rw [memGate_gated hgated, if_neg (by simp [halign]), if_neg (by simp [hva, havenue]), readRecord_recordAt hread, hok]
  exact (if_neg (by simp)).trans <| (if_neg (Bool.eq_false_iff.1 hring)).trans <| (if_neg (by simp [hrelease, hbarred])).trans rfl

end Sys2Proof.Machine

/-- Settles O30. -/
theorem spawns : Obligations.Spawns := by
  unfold Obligations.Spawns
  intro a s e e' e'' b s' hissues hgated halign hva havenue hread hok hring hrelease hbarred
  exact execSpawn_spawns hissues hgated halign hva havenue hread hok hring hrelease hbarred
end

section
/-!
The events of translation (O43): finished walks, the fault ring, the two duties of the fault handler, invalidations and replays.
-/
open Sys2Proof Sys2Proof.Machine

namespace Sys2Proof.Machine

/-! ## Page walks -/

/-- Does a wait end with walk `i`? -/
def waitsForWalk (i : Nat) (x : WaitFor) : Bool := match x with | .walk j => j == i | _ => false

section
variable {s : State} {i : Nat} {w : Walk} (hwalk : s.walks.find? (fun w => w.id == i) = some w)
include hwalk

/-- The party for which a walk fills the TLB. -/
theorem walkEnd_fills {s' : State} {e : DWord} {level : Nat}
    (hleaf : ({ s with walks := s.walks.filter fun x => x.id != i } : State).walkFill
      { tte := w.tte, unit := w.core, tenant := w.tenant, tag := w.tag, id := 0, redirect := none } w.vpn = (.leaf e level, s')) :
    s.walkEnd w = (w.more.foldl (fun (s : State) (x : Bool × Nat × Nat) =>
      s.tlbFill x.1 x.2.1 ⟨e, level, w.tenant, if pteVers e then x.2.2 else 0, w.vpn, 0⟩) s').wakeWhere (waitsForWalk i) := by
  have hid : w.id = i := by simpa using List.find?_some hwalk
  unfold State.walkEnd
  simp only [hid, hleaf]
  rfl

/-- R335: a walk that is served and leads to a leaf fills the TLBs of those who wait for it. -/
theorem execPageWalkDone_fills {s' : State} {e : DWord} {level : Nat} (hruns : s.walkRuns w = true) (hheld : w.held = none)
    (hleaf : ({ s with walks := s.walks.filter fun x => x.id != i } : State).walkFill
      { tte := w.tte, unit := w.core, tenant := w.tenant, tag := w.tag, id := 0, redirect := none } w.vpn = (.leaf e level, s')) :
    execPageWalkDone i s = .next ((w.more.foldl (fun (s : State) (x : Bool × Nat × Nat) =>
      s.tlbFill x.1 x.2.1 ⟨e, level, w.tenant, if pteVers e then x.2.2 else 0, w.vpn, 0⟩) s').wakeWhere (waitsForWalk i)) := by
  unfold execPageWalkDone
  rw [hwalk]
  refine (if_neg (by simp [hruns])).trans ?_
  rw [hheld]
  exact congrArg Host.Outcome.next (walkEnd_fills hwalk hleaf)

/-- R327: the walk of a write held at its walker takes it up again. -/
theorem execPageWalkDone_replays {order : Nat} (hruns : s.walkRuns w = true) (hheld : w.held = some order) :
    execPageWalkDone i s = .next (({ s with walks := s.walks.filter fun x => x.id != i } : State).replayAll (s.held.filter fun h => h.order == order)
      (fun a => a.addr.toNat / 65536 == w.vpn) none) := by
  unfold execPageWalkDone
  rw [hwalk]
  refine (if_neg (by simp [hruns])).trans ?_
  rw [hheld]

/-- R335: a walk that its die does not serve yet goes on waiting. -/
theorem execPageWalkDone_waits (hruns : s.walkRuns w = false) : execPageWalkDone i s = .next s := by
  unfold execPageWalkDone
  rw [hwalk]
  exact if_pos (by simp [hruns])

end

/-! ## The fault ring -/

/-- R340: a record goes to a ring that has room; one that holds a record already sends no MSI-X. -/
theorem execFaultRecordWrite_writes {s : State} {f : FaultRec} {rest : List FaultRec} {w base n : Nat} (hqueue : s.faultQ = f :: rest)
    (hring : s.faultRing = some (w, base, n)) (hused : 0 < (s.faultTail + 2 ^ 32 - s.faultHead) % 2 ^ 32)
    (hroom : (s.faultTail + 2 ^ 32 - s.faultHead) % 2 ^ 32 < 2 ^ n) :
    execFaultRecordWrite s = .next (
      let t := s.regionPut w (base + 32 * (s.faultTail % 2 ^ n)) (f.bytes n)
      { t with faultQ := rest, faultTail := (t.faultTail + 1) % 2 ^ 32 }) := by
  unfold execFaultRecordWrite
  rw [hqueue]
  dsimp only
  rw [hring]
  dsimp only
  rw [if_neg (Nat.not_le.2 hroom), if_neg (Nat.pos_iff_ne_zero.1 hused)]

/-! ## The two duties -/

/-- R338: the swap of an entry that still has the value read. -/
theorem swapEntry_swaps {s : State} {die pa : Nat} {old : DWord} (new : DWord) (hserved : s.writeLateIn pa (dutySource die) = false)
    (hold : BitVec.ofNat 64 (s.rd pa 8) = old) :
    s.swapEntry die pa old new = some (true, (s.plainWrite pa (bytes8 new)).writeServed pa (dutySource die)) := by
  unfold State.swapEntry
  exact (if_neg (by simp [hserved])).trans (if_pos hold)

/-- R345: a page that the duty zero-fills at once and whose entry has not changed: its entry is swapped and its accesses replay. -/
theorem servePage_serves {s u : State} {f f' : FaultRec} {pa frame base n : Nat} (new : DWord)
    (hzero : ({ s with silent := s.silent.erase f } : State).zeroPage f f.entry frame base n = (true, f', u))
    (hserved : u.writeLateIn pa (dutySource f.die) = false) (hentry : BitVec.ofNat 64 (u.rd pa 8) = f.entry) :
    s.servePage f pa frame base n new =
      ((((u.plainWrite pa (bytes8 new)).writeServed pa (dutySource f.die)).dropXlat (BitVec.ofNat 64 (f.tenant * 2 ^ 52 + base))).replayPage
        f.tenant (f.va.toNat / 65536)) := by
  unfold State.servePage
  simp only [hzero, Bool.not_true, Bool.false_eq_true, if_false, swapEntry_swaps new hserved hentry]

section
variable {s : State} {token : Nat} {f : FaultRec} (hsilent : s.silent.find? (fun f => f.token == token && f.flags / 8 % 2 == 0) = some f)
include hsilent

/-- R345: a lazy page of local HBM is served. -/
theorem execFaultServiceDuty_serves {s' u : State} {f' : FaultRec} {pa : Nat} {e : DWord}
    (hentryOf : s.entryOf f.tenant (f.va.toNat / 65536) = some (pa, 3, e)) (hsame : e = f.entry) (hcode : f.code = cTranslation)
    (hlazy : pteLazy e = true) (hloc : pteLoc e = 0) (hbind : s.bindCheck (pteFrame e) f.tenant (f.va.toNat / 65536) = some s')
    (hzero : ({ s' with silent := s'.silent.erase f } : State).zeroPage f e (pteFrame e) (f.va.toNat / 65536) 1 = (true, f', u))
    (hserved : u.writeLateIn pa (dutySource f.die) = false) (hentry : BitVec.ofNat 64 (u.rd pa 8) = e) :
    execFaultServiceDuty token s = .next (
      ((((u.plainWrite pa (bytes8 (BitVec.ofNat 64 (e.toNat + 1)))).writeServed pa (dutySource f.die)).dropXlat
        (BitVec.ofNat 64 (f.tenant * 2 ^ 52 + f.va.toNat / 65536))).replayPage f.tenant (f.va.toNat / 65536))) := by
  subst hsame
  unfold execFaultServiceDuty
  rw [hsilent]
  dsimp only
  rw [hentryOf]
  refine (if_neg (not_not_intro rfl)).trans <| (if_pos hcode).trans <| (if_pos (by simp [hlazy])).trans ?_
  rw [if_pos hloc, hbind]
  exact congrArg Host.Outcome.next (servePage_serves _ hzero hserved hentry)

/-- R338: an entry that is no longer the one read: the access is reported to the host. -/
theorem execFaultServiceDuty_reports {x : Nat × Nat × DWord} (hentryOf : s.entryOf f.tenant (f.va.toNat / 65536) = some x)
    (hchanged : x.2.2 ≠ f.entry) :
    execFaultServiceDuty token s = .next (({ s with silent := s.silent.erase f } : State).reportSilent f) := by
  obtain ⟨pa, level, e⟩ := x
  unfold execFaultServiceDuty
  rw [hsilent]
  dsimp only
  rw [hentryOf]
  exact if_pos hchanged

end

section
variable {s : State} {tenant vpn : Nat} (frame : Nat) {pa level : Nat} {e : DWord} (hentryOf : s.entryOf tenant vpn = some (pa, level, e))
  (hmode : s.dpr.getLsbD 1 = true)
include hentryOf hmode

/-- R346: the migration starts: MOVING is set in the entry, and the page's translations are dropped. -/
theorem execMigrationDuty_starts (hlevel : level = 3) (hidle : s.moveOf tenant vpn = none) (hvalid : pteV e = true) (hmoving : pteMoving e = false)
    (hloc : pteLoc e = 0) (hvers : pteVers e = false) (hbound : (tabGetD s.pvt (pteFrame e) PvtEntry.free).bound = true)
    (htenant : (tabGetD s.pvt (pteFrame e) PvtEntry.free).tenant = tenant) (hvpn : (tabGetD s.pvt (pteFrame e) PvtEntry.free).vpn = vpn)
    (hserved : s.writeLateIn pa (dutySource s.migDie) = false) (hentry : BitVec.ofNat 64 (s.rd pa 8) = e) :
    execMigrationDuty tenant vpn frame s = .next (
      let e' := BitVec.ofNat 64 (e.toNat + 2 ^ 11)
      let t := (s.plainWrite pa (bytes8 e')).writeServed pa (dutySource s.migDie)
      ({ t with lch := { t.lch with moves := t.lch.moves ++ [(tenant, vpn, e')] } } : State).dropXlat
        (BitVec.ofNat 64 (tenant % 1024 * 2 ^ 52 + vpn % 2 ^ 40))) := by
  conv in @execMigrationDuty => delta execMigrationDuty
  rw [hentryOf]
  refine (if_neg (by rw [hmode]; decide)).trans ?_
  rw [hidle]
  refine (if_neg (by simp [hlevel, hvalid, hmoving, hloc, hvers, hbound, htenant, hvpn])).trans ?_
  extract_lets e'
  rw [swapEntry_swaps _ hserved hentry]

/-- R338: an entry that has changed since ends the migration. -/
theorem execMigrationDuty_ends {e' : DWord} (hmove : s.moveOf tenant vpn = some e') (hchanged : e ≠ e') :
    execMigrationDuty tenant vpn frame s = .next (s.dropMove tenant vpn) := by
  conv in @execMigrationDuty => delta execMigrationDuty
  rw [hentryOf]
  refine (if_neg (by rw [hmode]; decide)).trans ?_
  rw [hmove]
  exact if_pos hchanged

/-- R346: with no access left to the old frame, the page moves to the new one. -/
theorem execMigrationDuty_moves (hmove : s.moveOf tenant vpn = some e) (hfree : (tabGetD s.pvt frame PvtEntry.free).bound = false)
    (hexists : s.frameExists frame false = true)
    (huses : ((s.usesOf (BitVec.ofNat 64 (tenant % 1024 * 2 ^ 52 + vpn % 2 ^ 40))).any s.stillUses) = false)
    (hverifies : s.frameVerifies (pteFrame e) tenant vpn (tabGetD s.pvt (pteFrame e) PvtEntry.free).version = true)
    (hserved : s.writeLateIn pa (dutySource s.migDie) = false) (hentry : BitVec.ofNat 64 (s.rd pa 8) = e) :
    execMigrationDuty tenant vpn frame s = .next (
      (((s.plainWrite pa (bytes8 (BitVec.ofNat 64 (e.toNat % 2 ^ 28 - 2 ^ 11 + frame * 2 ^ 28)))).writeServed pa (dutySource s.migDie)).frameRead
        (pteFrame e)).migrated tenant vpn frame e) := by
  conv in @execMigrationDuty => delta execMigrationDuty
  rw [hentryOf]
  refine (if_neg (by rw [hmode]; decide)).trans ?_
  rw [hmove]
  refine (if_neg (not_not_intro rfl)).trans <| (if_neg (by rw [hfree, hexists, huses, hverifies]; decide)).trans ?_
  rw [swapEntry_swaps _ hserved hentry]

end

/-! ## Invalidations and replays -/

/-- R337: an invalidation that has started, with no access left that uses an old translation, is done. -/
theorem execInvalidationDone_done {s : State} {x : Inval} {rest : List Inval} (hinvals : s.invals = x :: rest) (hstarted : x.started = true)
    (hwaits : (x.waits.any s.stillUses) = false) :
    execInvalidationDone s = .next (({ s with invals := rest, invDone := (s.invDone + 1) % 2 ^ 31 } : State).unbindAfter s.invDone) := by
  unfold execInvalidationDone
  simp only [hinvals, hstarted, if_true, hwaits, Bool.false_eq_true, if_false]

/-- R342: a CODE that no replay may end with acts as 0x11. -/
theorem execReplayFail_eq (token c : Nat) (s : State) :
    execReplayFail token c s = .next (s.replayToken token (some (if 0x11 ≤ c ∧ c ≤ 0x1B then c else 0x11))) := by
  unfold execReplayFail
  simp only [Bool.and_eq_true, decide_eq_true_eq]

end Sys2Proof.Machine

/-- Settles O43. -/
theorem translationEvents : Obligations.TranslationEvents := by
  unfold Obligations.TranslationEvents
  refine ⟨?walkFills, ?walkReplays, ?walkWaits, ?recordWritten, ?ringHead, ?pageServed, ?pageReported, ?moveStarts, ?moveEnds, ?pageMoves,
    ?invalAll, ?invalTenant, ?invalRange, ?invalDone, ?token, ?page, ?tenant, ?fail⟩
  case walkFills =>
    rintro i w e level s' s ⟨hwalk, hruns, hheld, hleaf⟩
    exact execPageWalkDone_fills hwalk hruns hheld hleaf
  case walkReplays =>
    rintro i w order s ⟨hwalk, hruns, hheld⟩
    exact execPageWalkDone_replays hwalk hruns hheld
  case walkWaits =>
    rintro i w s ⟨hwalk, hruns⟩
    exact execPageWalkDone_waits hwalk hruns
  case recordWritten =>
    rintro f rest w base n s ⟨hqueue, hring, hused, hroom⟩
    exact execFaultRecordWrite_writes hqueue hring hused hroom
  case ringHead =>
    intro v s _
    rfl
  case pageServed =>
    rintro k f pa e s' f' u s ⟨hsilent, hentryOf, hsame, hcode, hlazy, hloc, hbind, hzero, hserved, hentry⟩
    show execFaultServiceDuty k s = _
    exact execFaultServiceDuty_serves hsilent hentryOf hsame hcode hlazy hloc hbind hzero hserved hentry
  case pageReported =>
    rintro k f x s ⟨hsilent, hentryOf, hchanged⟩
    show execFaultServiceDuty k s = _
    exact execFaultServiceDuty_reports hsilent hentryOf hchanged
  case moveStarts =>
    rintro tenant vpn frame pa e s ⟨hentryOf, hmode, hidle, hvalid, hmoving, hloc, hvers, hbound, htenant, hvpn, hserved, hentry⟩
    show execMigrationDuty tenant vpn frame s = _
    exact execMigrationDuty_starts frame hentryOf hmode rfl hidle hvalid hmoving hloc hvers hbound htenant hvpn hserved hentry
  case moveEnds =>
    rintro tenant vpn frame pa level e e' s ⟨hentryOf, hmode, hmove, hchanged⟩
    show execMigrationDuty tenant vpn frame s = _
    exact execMigrationDuty_ends frame hentryOf hmode hmove hchanged
  case pageMoves =>
    rintro tenant vpn frame pa level e s ⟨hentryOf, hmode, hmove, hfree, hexists, huses, hverifies, hserved, hentry⟩
    show execMigrationDuty tenant vpn frame s = _
    exact execMigrationDuty_moves frame hentryOf hmode hmove hfree hexists huses hverifies hserved hentry
  case invalAll =>
    intro s _
    rfl
  case invalTenant =>
    intro tenant s _
    rfl
  case invalRange =>
    intro tenant n vpn s _
    rfl
  case invalDone =>
    rintro x rest s ⟨hinvals, hstarted, hwaits⟩
    exact execInvalidationDone_done hinvals hstarted hwaits
  case token =>
    intro token s _
    rfl
  case page =>
    intro tenant vpn s _
    rfl
  case tenant =>
    intro tenant s _
    rfl
  case fail =>
    intro token c s _
    exact execReplayFail_eq token c s
end

section
/-!
The launcher's events (O42): records, dispatch, pre-emption, and the ends of blocks, epochs and tasks.
-/
open Sys2Proof Sys2Proof.Machine

namespace Sys2Proof.Machine

/-! ## Doorbells, records, dispatch -/

/-- R311: a ready module takes a doorbell. -/
theorem execDoorbell_ready {s : State} (v : DWord) (hready : s.power.ready = true) :
    execDoorbell v s = .next (s.doorbell (v.toNat % 2 ^ 17) (v.toNat / 2 ^ 32)) := by
  unfold execDoorbell
  rw [if_pos hready]

/-- R320: a waiting record whose ring has room is copied into it. -/
theorem execSpawnRingCopy_copies {s : State} {r : Ready} (hwaiting : s.lch.waiting.find? (fun r => !s.lch.ringFull r.entry.level) = some r) :
    execSpawnRingCopy s = .next (({ s with lch := { s.lch with waiting := s.lch.waiting.filter fun x => x.id != r.id } } : State).ringPut r) := by
  unfold execSpawnRingCopy
  rw [hwaiting]

/-- R314: a record that has waited long enough rises one level. -/
theorem execRecordLift_lifts {s s' : State} {i : Nat} {r : Ready} {q : QEnt} (hready : s.lch.ready.find? (fun r => r.id == i) = some r)
    (hqueue : s.queueEnt r.entry.queue = some (q, s')) (hlift : q.lift ≠ 0) (hlevel : r.level < 19)
    (hwaited : (r.lifted + 1) * q.lift * 1024 ≤ (s'.gtc - r.since).toNat) :
    execRecordLift i s = .next { s' with lch := { s'.lch with ready := s'.lch.ready.map fun x =>
      if x.id = i then { x with lifted := x.lifted + 1 } else x } } := by
  unfold execRecordLift
  rw [hready]
  dsimp only
  rw [hqueue]
  exact if_neg (by simp [hlift, hlevel, Nat.not_lt.2 hwaited, -BitVec.toNat_sub])

/-- R314: a record of a task that is not deterministic, for one core, reserves the lowest core that no other record has. -/
theorem execReservationWait_reserves {s : State} {i : Nat} {r : Ready} {t0 : DWord} {t : Task}
    (hready : s.lch.ready.find? (fun r => r.id == i) = some r) (hpassed : r.passed = some t0) (htask : s.task? r.entry.task = some t)
    (hreserved : r.reserved = []) (hwaited : s.waitTicks ≤ (s.gtc - t0).toNat) (hsaved : r.saved = [])
    (hone : r.entry.launcher = false ∨ t.gang = 1) (hdet : t.det = false) :
    execReservationWait i s = .next (
      let cs := (((List.range 320).find? fun c => !s.reservedFor c r).map fun c => [c]).getD []
      { s with lch := { s.lch with ready := s.lch.ready.map fun x => if x.id = i then { x with reserved := cs } else x } }) := by
  have hcores : (if r.entry.launcher then t.gang else 1) = 1 := by rcases hone with h | h <;> simp [h]
  unfold execReservationWait
  simp only [hready, hpassed, htask, hreserved, hsaved, hdet, hcores, List.isEmpty_nil, List.filterMap_nil, List.head?_nil, if_true,
    Bool.not_true, Bool.false_or, decide_eq_true_eq, Nat.not_lt.2 hwaited, if_false, Bool.and_true, Bool.not_false, Bool.true_or,
    gt_iff_lt, lt_self_iff_false]

/-! ## Pre-emption -/

section
variable {s : State} {i k : Nat} {r : Ready} {g gs : List Nat} {b : Block} {t : Task}
  (hready : s.lch.ready.find? (fun r => r.id == i) = some r) (hmay : s.mayPreempt r = true)
  (hvictim : (s.victimOrder r).find? (fun g => s.fitsWithout r g) = some g) (hgang : g = k :: gs)
  (hblock : tabGet? s.lch.blocks k = some b) (htask : s.task? b.task = some t)
include hready hmay hvictim hgang hblock htask

/-- R328: the victim of a record is to be saved, or its task aborts (R323). -/
theorem execPreemptTrigger_eq : execPreemptTrigger i s = .next (if t.commit then s.abortTask b.task 0
    else { s with lch := { s.lch with victims := s.lch.victims ++ g.map fun k => ({ block := k, for_ := i } : Victim) } }) := by
  unfold execPreemptTrigger
  rw [hready]
  refine (if_neg (by simp [hmay])).trans ?_
  rw [hvictim]
  simp only [hgang, List.head?_cons, Option.bind_some, hblock, htask]
  cases t.commit <;> rfl

end

section
variable {s : State} {k : Nat} {b : Block} (hblock : tabGet? s.lch.blocks k = some b) (hgang : b.gang = [k])
include hblock hgang

/-- The blocks that are saved with a block that has no gang. -/
theorem gangBlocks_single : (b.gang.filterMap fun k => (tabGet? s.lch.blocks k).map fun x => (k, x)) = [(k, b)] := by
  simp [hgang, hblock]

/-- R329: a victim at rest that must not pass a flush point first is saved, and its record goes to the head of its level. -/
theorem execPreemptSave_saves (hrest : s.saveReady [(k, b)] = true) (hpass : s.mustPass k b = false) (hroom : s.savePages k b ≤ s.saveFree) :
    execPreemptSave k s = .next (
      let y := s.saveBlock k b
      let t := y.2.newId.2
      let x : Ready := { id := y.2.newId.1, entry := b.entry, since := y.2.gtc, lifted := 0, passed := none, reserved := [], saved := [k], front := true,
                         addr := 0 }
      { t with lch := { t.lch with saved := tabPut t.lch.saved k y.1, ready := x :: t.lch.ready } }) := by
  unfold execPreemptSave
  rw [hblock]
  dsimp only
  rw [gangBlocks_single hblock hgang]
  rw [if_neg (by simp [hpass]), if_neg (by simpa [hrest] using hroom)]
  simp only [List.foldl_cons, List.foldl_nil, List.nil_append, List.map_cons, List.map_nil, List.head?_cons, Option.map_some, Option.getD_some]
  generalize s.saveBlock k b = y
  rfl

/-- R329: the victim of a deterministic task first passes its flush point. -/
theorem execPreemptSave_passes (hrest : s.saveReady [(k, b)] false = true) (hpass : s.mustPass k b = true) :
    execPreemptSave k s = .next (s.passVictim k b) := by
  unfold execPreemptSave
  rw [hblock]
  dsimp only
  rw [gangBlocks_single hblock hgang]
  refine (if_pos (by simp [hrest, hpass])).trans ?_
  simp only [List.filter_cons, hpass, if_true, List.filter_nil, List.foldl_cons, List.foldl_nil]

end

/-- R329: the first record that fits the core is a saved block, which is restored there. -/
theorem execPreemptRestore_restores {s : State} {core : Nat} {r : Ready} {x : Nat × Saved} (hcore : core < 320)
    (hfirst : s.dispatchOrder.find? (fun r => (s.fit r core).1 != .no) = some r) (hfit : (s.fit r core).1 = .restore)
    (hsaved : s.savedCores r core = [x]) :
    execPreemptRestore core s = .next (
      let u := s.notePassed r
      let t := { u with nextId := u.nextId + 1, lch := { u.lch with ready := u.lch.ready.filter fun x => x.id != r.id,
                                                                    saved := u.lch.saved.filter fun y => !r.saved.contains y.1 } }
      t.restoreBlock x.1 u.nextId [u.nextId] x.2) := by
  unfold execPreemptRestore
  rw [if_neg (Nat.not_le.2 hcore), hfirst]
  refine (if_neg (by simp [hfit])).trans ?_
  rw [hsaved]
  rfl

/-! ## The end of a block -/

section
variable {s : State} {k : Nat} {b : Block} (hblock : tabGet? s.lch.blocks k = some b)

/-- R320, R321: a spawned block that has left counts one fewer in its task, and its join falls. -/
theorem blockLeft_spawned {t : Task} (causal : DWord) (hspawned : b.entry.launcher = false) (htask : s.task? b.task = some t) :
    s.blockLeft b causal = s.blockGone b t causal := by
  unfold State.blockLeft State.blockGone
  simp only [htask, hspawned, Bool.false_eq_true, if_false]

include hblock

/-- R309, R321: the last wave of a block has ended: the block gives back its slots, and with no engine entry left all else that it holds. -/
theorem execBlockLeave_leaves (hwaves : b.waves ≠ []) (hended : ∀ w ∈ s.blockWaves b, w.ended = true ∧ w.blocks = [])
    (hbusy : (b.waves.any s.waveBusy) = false) :
    execBlockLeave k s = .next ((if ((s.slotsFree k b).blockEntries b k).isEmpty then (s.slotsFree k b).releaseBlock k { b with waves := [] }
      else s.slotsFree k b).blockLeft b (((s.blockWaves b).getLast?.map fun w => w.causal).getD 0#64)) := by
  have hrest : ((s.blockWaves b).any fun w => !w.ended || !w.blocks.isEmpty) = false :=
    List.any_eq_false.2 fun w hw => by simp [hended w hw]
  unfold execBlockLeave
  rw [hblock]
  exact (if_neg (by simp [hwaves])).trans (if_neg (by simp [hrest, hbusy]))

/-- R115, R309: what a block without waves still holds goes back with its last engine entry. -/
theorem execBlockLeave_releases (hwaves : b.waves = []) (hentries : (s.dropUnpairable b k).blockEntries b k = []) :
    execBlockLeave k s = .next ((s.dropUnpairable b k).releaseBlock k { b with waves := [] }) := by
  unfold execBlockLeave
  rw [hblock]
  exact (if_pos (by simp [hwaves])).trans (congrArg Host.Outcome.next (if_pos (by simp [hentries])))

end

/-! ## The end of an epoch and of a task -/

/-- R326: an epoch that every block of a deterministic task has passed is applied. -/
theorem execDetEpochApply_applies {s : State} {k : Nat} {t : Task} (htask : s.task? k = some t) (hdet : t.det = true)
    (hpassed : t.passed t.applied = true) (hheld : s.detHeldIn k t.applied = false) :
    execDetEpochApply k s = .next ((s.applyEpoch k t.applied).setTask k { t with applied := t.applied + 1 }) := by
  unfold execDetEpochApply
  rw [htask]
  exact if_neg (by simp [hdet, hpassed, hheld])

/-- R322: a task whose work is over publishes, waits for what uses its shadows, and finishes. -/
theorem execTaskRetire_of_over {s : State} {k : Nat} {t : Task} (hover : s.taskOver k t) :
    execTaskRetire k s = (match t.pubWaits with
      | some ws => if ws.any s.usedBy then .next s else .next (s.finishTask k 0 0)
      | none => if (s.publishUses k).isEmpty then .next ((s.publish k).finishTask k 0 0)
          else .next ((s.publish k).setTask k { t with pubWaits := some (s.publishUses k) })) := by
  obtain ⟨htask, hretired, hdead, habort, hdone, hspawned, hblocks, hcmds, hflush, hflight⟩ := hover
  unfold execTaskRetire
  cases hwaits : t.pubWaits <;> simp only [htask, hwaits, hretired, hdead, habort, Nat.not_lt.2 hdone, hspawned, hblocks, hcmds, hflush, hflight,
    List.map_nil, List.dedup_nil, List.mergeSort_nil, List.any_nil, List.foldl_nil, Option.isSome_none, Bool.false_eq_true, if_false, ne_eq, not_true_eq_false, decide_false,
    Bool.or_self]

/-- R422: an aborting task with no block on a core and no command left drops all it holds and ends with its code. -/
theorem execTaskAbort_ends {s : State} {k c : Nat} {t : Task} (habort : tabGet? s.aborts k = some c) (htask : s.task? k = some t)
    (hcommit : t.commit = false) (hdead : t.dead = false) (hblocks : (s.lch.blocks.filter fun b => b.2.task == k) = [])
    (hcmds : ((s.abortHeld k c).cmds.any fun c => c.2.task == k) = false) :
    execTaskAbort k s = .next (
      ((((s.abortHeld k c).poolFree (((s.abortHeld k c).lch.shadows.filter fun x => x.task == k).map fun x => x.frame)).abortJoins t.tenant []).taskDropped k
        |>.setTask k { t with spawned := 0 }).finishTask k 0 c) := by
  have herror : (if t.dead then 2 else if t.commit then 5 else 0) = 0 := by simp [hdead, hcommit]
  unfold execTaskAbort
  rw [habort, htask, hblocks]
  refine (if_neg (by simp [hcmds])).trans <| (if_neg (by simp [hcommit])).trans ?_
  exact congrArg Host.Outcome.next (congrArg (State.finishTask _ k · c) herror)

end Sys2Proof.Machine

/-- Settles O42. -/
theorem launcherEvents : Obligations.LauncherEvents := by
  unfold Obligations.LauncherEvents
  refine ⟨?doorbell, ?ringCopy, ?dispatch, ?lift, ?reserve, ?victim, ?victimAborts, ?saves, ?passes, ?restores, ?leaves, ?leavesEntries, ?releases,
    ?epoch, ?retires, ?publishes, ?published, ?aborts⟩
  case doorbell =>
    intro v s hready
    exact execDoorbell_ready v hready
  case ringCopy =>
    intro r s hwaiting
    exact execSpawnRingCopy_copies hwaiting
  case dispatch =>
    intro core s hcore
    exact if_pos hcore
  case lift =>
    rintro i r q s' s ⟨hready, hqueue, hlift, hlevel, hwaited⟩
    show execRecordLift i s = _
    exact execRecordLift_lifts hready hqueue hlift hlevel hwaited
  case reserve =>
    rintro i r t0 t s ⟨hready, hpassed, htask, hreserved, hwaited, hsaved, hone, hdet⟩
    exact execReservationWait_reserves hready hpassed htask hreserved hwaited hsaved hone hdet
  case victim =>
    rintro i r g k gs b t s ⟨hready, hmay, hvictim, hgang, hblock, htask, hcommit⟩
    exact (execPreemptTrigger_eq hready hmay hvictim hgang hblock htask).trans (congrArg Host.Outcome.next (if_neg (by simp [hcommit])))
  case victimAborts =>
    rintro i r g k gs b t s ⟨hready, hmay, hvictim, hgang, hblock, htask, hcommit⟩
    exact (execPreemptTrigger_eq hready hmay hvictim hgang hblock htask).trans (congrArg Host.Outcome.next (if_pos hcommit))
  case saves =>
    rintro k b s ⟨hblock, hgang, hrest, hpass, hroom⟩
    exact execPreemptSave_saves hblock hgang hrest hpass hroom
  case passes =>
    rintro k b s ⟨hblock, hgang, hrest, hpass⟩
    exact execPreemptSave_passes hblock hgang hrest hpass
  case restores =>
    rintro core r x s ⟨hcore, hfirst, hfit, hsaved⟩
    exact execPreemptRestore_restores hcore hfirst hfit hsaved
  case leaves =>
    rintro k b t s ⟨hblock, hwaves, hended, hbusy, hspawned, hentries, htask, -⟩
    refine (execBlockLeave_leaves hblock hwaves hended hbusy).trans (congrArg Host.Outcome.next ?_)
    rw [if_pos (by simp [hentries]), blockLeft_spawned _ hspawned htask]
  case leavesEntries =>
    rintro k b t s ⟨hblock, hwaves, hended, hbusy, hspawned, hentries, htask, -⟩
    refine (execBlockLeave_leaves hblock hwaves hended hbusy).trans (congrArg Host.Outcome.next ?_)
    rw [if_neg (by simp [hentries]), blockLeft_spawned _ hspawned htask]
  case releases =>
    rintro k b s ⟨hblock, hwaves, hentries⟩
    exact execBlockLeave_releases hblock hwaves hentries
  case epoch =>
    rintro k t s ⟨htask, hdet, hpassed, hheld⟩
    exact execDetEpochApply_applies htask hdet hpassed hheld
  case retires =>
    rintro k t s ⟨hover, hwaits, huses⟩
    refine (execTaskRetire_of_over hover).trans ?_
    rw [hwaits]
    exact if_pos (by simp [huses])
  case publishes =>
    rintro k t s ⟨hover, hwaits, huses⟩
    refine (execTaskRetire_of_over hover).trans ?_
    rw [hwaits]
    exact if_neg (by simp [huses])
  case published =>
    rintro k t ws s ⟨hover, hwaits, huses⟩
    refine (execTaskRetire_of_over hover).trans ?_
    rw [hwaits]
    exact if_neg (by simpa using huses)
  case aborts =>
    rintro k c t s ⟨habort, htask, hcommit, hdead, hblocks, hcmds⟩
    exact execTaskAbort_ends habort htask hcommit hdead hblocks hcmds
end

section
/-!
Words and their instructions (spec/02_instruction_words.md, R21, R36, R38): the fields that share a region are read back from it and laid over it again, and so
decoding and encoding undo each other (O49 to O51).
-/
open Sys2Proof BitVec

namespace Sys2Proof

/-! ## The regions of a word (R21) -/

theorem Raw.ofWord_toWord (r : Raw) : Raw.ofWord r.toWord = r := by
  obtain ⟨maj, d, a, b, mi⟩ := r
  simp only [Raw.ofWord, Raw.toWord, Raw.mk.injEq]
  refine ⟨?_, ?_, ?_, ?_, extractLsb'_append_eq_right⟩
  · rw [extractLsb'_append_eq_of_le (by decide), extractLsb'_append_eq_of_le (by decide), extractLsb'_append_eq_of_le (by decide)]
    exact extractLsb'_append_eq_left
  · rw [extractLsb'_append_eq_of_le (by decide), extractLsb'_append_eq_of_le (by decide), extractLsb'_append_eq_of_le (by decide)]
    exact extractLsb'_append_eq_right
  · rw [extractLsb'_append_eq_of_le (by decide), extractLsb'_append_eq_of_le (by decide)]
    exact extractLsb'_append_eq_right
  · rw [extractLsb'_append_eq_of_le (by decide)]
    exact extractLsb'_append_eq_right

theorem Raw.toWord_ofWord (w : Word) : (Raw.ofWord w).toWord = w := by
  simp only [Raw.ofWord, Raw.toWord]
  rw [extractLsb'_append_extractLsb'_eq_extractLsb' (start₂ := 25) (start₁ := 18) (len₁ := 7) rfl,
    extractLsb'_append_extractLsb'_eq_extractLsb' (start₂ := 18) (start₁ := 11) (len₁ := 7) rfl,
    extractLsb'_append_extractLsb'_eq_extractLsb' (start₂ := 11) (start₁ := 4) (len₁ := 7) rfl,
    extractLsb'_append_extractLsb'_eq_extractLsb' (start₂ := 4) (start₁ := 0) (len₁ := 4) rfl]
  exact extractLsb'_eq_self

theorem eq_ofNat_of_toNat {n k : Nat} {x : BitVec n} (h : x.toNat = k) : x = BitVec.ofNat n k :=
  eq_of_toNat_eq (by rw [h, toNat_ofNat, Nat.mod_eq_of_lt (h ▸ x.isLt)])

/-! ## Fields cut over regions, put together again -/

theorem join2_2 (x : BitVec 4) : x.extractLsb' 2 2 ++ x.extractLsb' 0 2 = x := by revert x; decide
theorem join1_4 (x : BitVec 5) : x.extractLsb' 4 1 ++ x.extractLsb' 0 4 = x := by revert x; decide
theorem join2_4 (x : BitVec 6) : x.extractLsb' 4 2 ++ x.extractLsb' 0 4 = x := by revert x; decide
theorem join3_4 (x : BitVec 7) : x.extractLsb' 4 3 ++ x.extractLsb' 0 4 = x := by revert x; decide
theorem join4_3 (x : BitVec 7) : x.extractLsb' 3 4 ++ x.extractLsb' 0 3 = x := by revert x; decide
theorem join5_2 (x : BitVec 7) : x.extractLsb' 2 5 ++ x.extractLsb' 0 2 = x := by revert x; decide
theorem join2_4_1 (x : BitVec 7) : x.extractLsb' 5 2 ++ x.extractLsb' 1 4 ++ x.extractLsb' 0 1 = x := by revert x; decide
theorem join1_1_1_1 (x : BitVec 4) : x.extractLsb' 3 1 ++ x.extractLsb' 2 1 ++ x.extractLsb' 1 1 ++ x.extractLsb' 0 1 = x := by revert x; decide
theorem join7_4 (x : BitVec 11) : x.extractLsb' 4 7 ++ x.extractLsb' 0 4 = x :=
  (extractLsb'_append_extractLsb'_eq_extractLsb' rfl).trans extractLsb'_eq_self
theorem join7_5 (x : BitVec 12) : x.extractLsb' 5 7 ++ x.extractLsb' 0 5 = x :=
  (extractLsb'_append_extractLsb'_eq_extractLsb' rfl).trans extractLsb'_eq_self
theorem join1_7_4 (x : BitVec 12) : x.extractLsb' 11 1 ++ x.extractLsb' 4 7 ++ x.extractLsb' 0 4 = x := by
  rw [extractLsb'_append_extractLsb'_eq_extractLsb' (start₂ := 11) rfl]
  exact (extractLsb'_append_extractLsb'_eq_extractLsb' rfl).trans extractLsb'_eq_self
theorem join7_7_4 (x : BitVec 18) : x.extractLsb' 11 7 ++ x.extractLsb' 4 7 ++ x.extractLsb' 0 4 = x := by
  rw [extractLsb'_append_extractLsb'_eq_extractLsb' (start₂ := 11) rfl]
  exact (extractLsb'_append_extractLsb'_eq_extractLsb' rfl).trans extractLsb'_eq_self
theorem join2_7_7_4 (x : BitVec 20) : x.extractLsb' 18 2 ++ x.extractLsb' 11 7 ++ x.extractLsb' 4 7 ++ x.extractLsb' 0 4 = x := by
  rw [extractLsb'_append_extractLsb'_eq_extractLsb' (start₂ := 18) rfl, extractLsb'_append_extractLsb'_eq_extractLsb' (start₂ := 11) rfl]
  exact (extractLsb'_append_extractLsb'_eq_extractLsb' rfl).trans extractLsb'_eq_self

/-! ## Reading a field back from the regions that it was laid over -/

theorem bit3_of_bits (z s q g : BitVec 1) : (z ++ s ++ q ++ g).extractLsb' 3 1 = z := by revert z s q g; decide
theorem bit2_of_bits (z s q g : BitVec 1) : (z ++ s ++ q ++ g).extractLsb' 2 1 = s := by revert z s q g; decide
theorem bit1_of_bits (z s q g : BitVec 1) : (z ++ s ++ q ++ g).extractLsb' 1 1 = q := by revert z s q g; decide
theorem bit3_of_fields (p z : BitVec 1) (s : BitVec 2) : (p ++ z ++ s).extractLsb' 3 1 = p := by revert p z s; decide
theorem middle2_of_fields (z h : BitVec 2) (o : BitVec 3) : (z ++ h ++ o).extractLsb' 3 2 = h := by revert z h o; decide
theorem top2_of_fields (x : BitVec 2) (y : BitVec 4) (l : BitVec 1) : (x ++ y ++ l).extractLsb' 5 2 = x := by revert x y l; decide
theorem middle4_of_fields (x : BitVec 2) (y : BitVec 4) (l : BitVec 1) : (x ++ y ++ l).extractLsb' 1 4 = y := by revert x y l; decide

section
variable {n : Nat} (p : BitVec n) (a b : BitVec 7) (mi : BitVec 4)
theorem regionB_of_append : (p ++ b ++ mi).extractLsb' 4 7 = b := by
  rw [extractLsb'_append_eq_of_le (by decide)]
  exact extractLsb'_append_eq_right
theorem aboveB_of_append : (p ++ b ++ mi).extractLsb' 11 n = p := by
  rw [extractLsb'_append_eq_of_le (by decide)]
  exact extractLsb'_append_eq_left
theorem regionA_of_append : (p ++ a ++ b ++ mi).extractLsb' 11 7 = a := by
  rw [extractLsb'_append_eq_of_le (by decide), extractLsb'_append_eq_of_le (by decide)]
  exact extractLsb'_append_eq_right
theorem aboveA_of_append : (p ++ a ++ b ++ mi).extractLsb' 18 n = p := by
  rw [extractLsb'_append_eq_of_le (by decide), extractLsb'_append_eq_of_le (by decide)]
  exact extractLsb'_append_eq_left
end

/-! ## Minors that share a region with a field -/

theorem highMinor_toNat (k s : BitVec 2) : ((k ++ s) &&& 12#4).toNat = 4 * k.toNat := by revert k s; decide
theorem lowMinor2_toNat (k s : BitVec 2) : ((s ++ k) &&& 3#4).toNat = k.toNat := by revert k s; decide
theorem lowMinor3_toNat (k : BitVec 3) (s : BitVec 1) : ((s ++ k) &&& 7#4).toNat = k.toNat := by revert k s; decide
theorem shiftMinor_toNat (k : BitVec 6) (s : BitVec 1) : ((k ++ s) &&& 96#7).toNat = k.toNat / 16 * 32 := by revert k s; decide

theorem highMinor_append {x : BitVec 4} {k : BitVec 2} (h : (x &&& 12#4).toNat = 4 * k.toNat) : k ++ x.extractLsb' 0 2 = x := by revert x k; decide
theorem lowMinor2_append {x : BitVec 4} {k : BitVec 2} (h : (x &&& 3#4).toNat = k.toNat) : x.extractLsb' 2 2 ++ k = x := by revert x k; decide
theorem lowMinor3_append {x : BitVec 4} {k : BitVec 3} (h : (x &&& 7#4).toNat = k.toNat) : x.extractLsb' 3 1 ++ k = x := by revert x k; decide
theorem shiftMinor_append {x : BitVec 7} {k : BitVec 6} (h : (x &&& 96#7).toNat = 2 * k.toNat) (hzero : x &&& 30#7 = 0#7) : k ++ x.extractLsb' 0 1 = x := by
  obtain rfl : k = BitVec.ofNat 6 ((x &&& 96#7).toNat / 2) := by rw [h, Nat.mul_div_cancel_left _ two_pos, ofNat_toNat, setWidth_eq]
  clear h
  revert x
  decide
theorem compareMinor_eq {d : BitVec 7} {k : Nat} (h : (d &&& 1#7).toNat = k) (hzero : d &&& 126#7 = 0#7) : d = BitVec.ofNat 7 k := by
  subst h; revert d; decide
theorem fenceMinor_eq {b : BitVec 7} {mi : BitVec 4} {k : Nat} (h : (b.extractLsb' 0 3 ++ mi.extractLsb' 3 1).toNat = k) (hzero : b &&& 120#7 = 0#7) :
    b = BitVec.ofNat 7 (k / 2) ∧ BitVec.ofNat 1 k ++ mi.extractLsb' 0 3 = mi := by
  subst h; revert b mi; decide

/-! ## Bits that must be zero (R38): clear above a field, and given back by padding it -/

theorem clear_above3 (t : BitVec 3) : (0#1 ++ t) &&& 8#4 = 0#4 := by revert t; decide
theorem clear_above2 (t : BitVec 2) : (0#2 ++ t) &&& 12#4 = 0#4 := by revert t; decide
theorem clear_above4_of7 (t : BitVec 4) : (0#3 ++ t) &&& 112#7 = 0#7 := by revert t; decide
theorem clear_above3_of7 (t : BitVec 3) : (0#4 ++ t) &&& 120#7 = 0#7 := by revert t; decide
theorem clear_above2_of7 (t : BitVec 2) : (0#5 ++ t) &&& 124#7 = 0#7 := by revert t; decide
theorem clear_above1_of7 (t : BitVec 1) : (0#6 ++ t) &&& 126#7 = 0#7 := by revert t; decide
theorem clear_above5_of7 (h : BitVec 2) (t : BitVec 3) : (0#2 ++ h ++ t) &&& 96#7 = 0#7 := by revert h t; decide
theorem clear_bit2_of_bits (z q g : BitVec 1) : (z ++ 0#1 ++ q ++ g) &&& 4#4 = 0#4 := by revert z q g; decide
theorem clear_bit2_of_fields (z : BitVec 1) (g : BitVec 2) : (z ++ 0#1 ++ g) &&& 4#4 = 0#4 := by revert z g; decide

theorem pad_above3 {x : BitVec 4} (h : x &&& 8#4 = 0#4) : 0#1 ++ x.extractLsb' 0 3 = x := by revert x; decide
theorem pad_above4_of7 {x : BitVec 7} (h : x &&& 112#7 = 0#7) : 0#3 ++ x.extractLsb' 0 4 = x := by revert x; decide
theorem pad_above3_of7 {x : BitVec 7} (h : x &&& 120#7 = 0#7) : 0#4 ++ x.extractLsb' 0 3 = x := by revert x; decide
theorem pad_above2_of7 {x : BitVec 7} (h : x &&& 124#7 = 0#7) : 0#5 ++ x.extractLsb' 0 2 = x := by revert x; decide
theorem pad_above1_of7 {x : BitVec 7} (h : x &&& 126#7 = 0#7) : 0#6 ++ x.extractLsb' 0 1 = x := by revert x; decide
theorem pad_above5_of7 {x : BitVec 7} (h : x &&& 96#7 = 0#7) : 0#2 ++ x.extractLsb' 3 2 ++ x.extractLsb' 0 3 = x := by revert x; decide
theorem pad_bit2_of_fields {x : BitVec 4} (h : x &&& 4#4 = 0#4) : x.extractLsb' 3 1 ++ 0#1 ++ x.extractLsb' 0 2 = x := by revert x; decide
theorem pad_bit2_of_bits {x : BitVec 4} (h : x &&& 4#4 = 0#4) : x.extractLsb' 3 1 ++ 0#1 ++ x.extractLsb' 1 1 ++ x.extractLsb' 0 1 = x := by revert x; decide

/-! ## Decoding what was encoded -/

theorem needZero_eq_ok {ok : Bool} {i j : Instr} (hok : ok = true) (hij : i = j) : needZero ok i = .ok j := by
  subst hok hij
  rfl

theorem scope_cases (s : BitVec 2) : s = 0#2 ∨ s = 1#2 ∨ s = 2#2 ∨ s = 3#2 := by revert s; decide

/-- The opcode map gives back every instruction from its own regions. Most have whole regions for fields, and the map evaluates; the others are taken by the
major that they share, or by the layout of their fields. -/
theorem decodeMajor_encodeRaw {i : Instr} {r : Raw} (h : encodeRaw i = some r) : decodeMajor r = .ok i := by
  cases i
  all_goals cases h
  -- the minor shares its region with a field
  case vleaN | vleaI =>
    refine (show decodeMajor _ = decode2E _ from rfl).trans ?_
    simp only [decode2E, highMinor_toNat, extractLsb'_append_eq_right, BitVec.reduceToNat, Nat.reduceMul]
  case ffma | ffmaNeg | ffmaSub | ffmaNegsub =>
    refine (show decodeMajor _ = decode36 _ from rfl).trans ?_
    simp only [decode36, lowMinor2_toNat, extractLsb'_append_eq_left, BitVec.reduceToNat]
  case ffmas | ffmasNeg | ffmasSub | ffmasNegsub =>
    refine (show decodeMajor _ = decode37 _ from rfl).trans ?_
    simp only [decode37, lowMinor2_toNat, extractLsb'_append_eq_left, BitVec.reduceToNat]
  case fcvtscE4m3F32 | fcvtscE5m2F32 | fcvtscF32E4m3 | fcvtscF32E5m2 =>
    refine (show decodeMajor _ = decode3B _ from rfl).trans ?_
    simp only [decode3B, highMinor_toNat, extractLsb'_append_eq_right, BitVec.reduceToNat, Nat.reduceMul]
  case hadd2 | hsub2 | hmul2 | hmin2 | hmax2 =>
    refine (show decodeMajor _ = decode3C _ from rfl).trans ?_
    simp only [decode3C, lowMinor3_toNat, extractLsb'_append_eq_left, BitVec.reduceToNat]
  case hfma2 | hfma2Neg | hfma2Sub | hfma2Negsub =>
    refine (show decodeMajor _ = decode3D _ from rfl).trans ?_
    simp only [decode3D, lowMinor3_toNat, extractLsb'_append_eq_left, BitVec.reduceToNat]
  case scanAddI32 | scanAddF32 | scanMinI | scanMaxI | scanOr =>
    refine (show decodeMajor _ = decode4C _ from rfl).trans ?_
    simp only [decode4C, lowMinor3_toNat, extractLsb'_append_eq_left, BitVec.reduceToNat]
    rfl
  case sshlImm | sshrImm | ssarImm | srot =>
    refine (show decodeMajor _ = decode15 _ from rfl).trans ?_
    simp only [decode15, shiftMinor_toNat, BitVec.reduceToNat, Nat.reduceMul, Nat.reduceDiv]
    exact needZero_eq_ok (by decide +revert) (by simp only [extractLsb'_append_eq_right, join1_4])
  case vshlImm | vshrImm | vsarImm | vrot =>
    refine (show decodeMajor _ = decode26 _ from rfl).trans ?_
    simp only [decode26, shiftMinor_toNat, BitVec.reduceToNat, Nat.reduceMul, Nat.reduceDiv]
    exact needZero_eq_ok (by decide +revert) (by simp only [extractLsb'_append_eq_right, join1_4])
  case shfliIdx | shfliUp | shfliDn | shfliXor =>
    refine (show decodeMajor _ = decode49 _ from rfl).trans ?_
    simp only [decode49, shiftMinor_toNat, BitVec.reduceToNat, Nat.reduceMul, Nat.reduceDiv]
    exact needZero_eq_ok (by decide +revert) (by simp only [extractLsb'_append_eq_right, join1_4])
  case scmpi | scmpiN =>
    refine (show decodeMajor _ = decode19 _ from rfl).trans ?_
    simp only [decode19, join7_4]
    rfl
  case fenceAcq | fenceRel | fenceAcqrel | fenceSc | fenceOpnd | fenceFlush | fenceEng =>
    refine (show decodeMajor _ = decode66 _ from rfl).trans ?_
    simp only [decode66, extractLsb'_append_eq_right, extractLsb'_append_eq_left]
    rfl
  -- the scope is part of the major
  case atomAddI32 | atomAddF32 | atomMinI | atomMaxI | atomMinN | atomMaxN | atomAnd | atomOr | atomXor | atomXchg | atomCas | atomAddI64 | atomIncw | atomAddBf16x2 =>
    rename_i s _ _ _
    obtain rfl | rfl | rfl | rfl := scope_cases s
    all_goals rfl
  -- whole regions
  any_goals rfl
  -- fields cut over regions, and zeros above them
  any_goals refine congrArg Except.ok ?_
  any_goals refine needZero_eq_ok ?_ ?_
  all_goals simp only [extractLsb'_append_eq_right, extractLsb'_append_eq_left, bit3_of_bits, bit2_of_bits, bit1_of_bits, bit3_of_fields, middle2_of_fields,
    top2_of_fields, middle4_of_fields, join2_2, join1_4, join2_4, join3_4, join7_4, join7_5, join1_7_4, join7_7_4, join2_7_7_4, clear_above3, clear_above2,
    clear_above4_of7, clear_above3_of7, clear_above2_of7, clear_above1_of7, clear_above5_of7, clear_bit2_of_bits, clear_bit2_of_fields, beq_self_eq_true,
    Bool.and_self]

/-! ## Encoding what was decoded -/

/-- Whatever instruction the verdict gives, its regions are `r`. -/
def Encodes (r : Raw) (x : Except Reject Instr) : Prop := ∀ i, x = .ok i → encodeRaw i = some r

theorem encodes_error (r : Raw) (e : Reject) : Encodes r (.error e) := fun _ h => by cases h
theorem encodes_ok {r : Raw} {i : Instr} (h : encodeRaw i = some r) : Encodes r (.ok i) := fun _ hi => by cases hi; exact h
theorem encodes_needZero {r : Raw} {ok : Bool} {i : Instr} (h : ok = true → encodeRaw i = some r) : Encodes r (needZero ok i) := by
  cases ok
  · exact encodes_error r _
  · exact encodes_ok (h rfl)

/-- Whatever the opcode map gives is laid over the regions that it was read from: by the major, then by the minor, then by the bits that must be zero. -/
theorem encodes_decodeMajor (r : Raw) : Encodes r (decodeMajor r) := by
  obtain ⟨maj, d, a, b, mi⟩ := r
  unfold decodeMajor
  split
  any_goals rename_i hmaj; obtain rfl := eq_ofNat_of_toNat hmaj; clear hmaj
  any_goals simp only [decode00, decode01, decode02, decode03, decode04, decode05, decode06, decode07, decode08, decode09, decode0A, decode0B, decode0C, decode0D, decode0E,
    decode10, decode11, decode12, decode13, decode14, decode15, decode16, decode17, decode18, decode19, decode1A, decode1B, decode1C, decode1D,
    decode1E, decode1F, decode20, decode21, decode22, decode23, decode24, decode25, decode26, decode27, decode28, decode29, decode2A, decode2B,
    decode2C, decode2D, decode2E, decode2F, decode30, decode31, decode34, decode35, decode36, decode37, decode38, decode39, decode3A, decode3B,
    decode3C, decode3D, decode3E, decode3F, decode40, decode41, decode42, decode48, decode49, decode4A, decode4B, decode4C, decode4D, decode4E,
    decode50, decode51, decode52, decode53, decode54, decode55, decode56, decode57, decode58, decode59, decode5A, decode5B, decode5C, decode5D,
    decode5E, decode5F, decode60, decode61, decode62, decode63, decode64, decode65, decode66, decode67, decode68, decode69, decode6A, decode6B,
    decode6C, decode6D, decode6E, decode6F, decode70, decode71, decode72, decode73, decode74, decode75, decode76, decode77, decode78, decode79,
    decode7F]
  any_goals split
  any_goals exact encodes_error _ _
  any_goals refine encodes_needZero fun hzero => ?_
  any_goals refine encodes_ok ?_
  any_goals rename_i hmi; obtain rfl := eq_ofNat_of_toNat hmi; clear hmi
  any_goals rfl
  any_goals simp only [Bool.and_eq_true, beq_iff_eq] at hzero
  all_goals refine congrArg some ?_
  any_goals simp only [*, pad_above3, pad_above4_of7, pad_above3_of7, pad_above2_of7, pad_above1_of7, pad_above5_of7, pad_bit2_of_fields, pad_bit2_of_bits,
    highMinor_append, lowMinor2_append, lowMinor3_append, shiftMinor_append, regionB_of_append, aboveB_of_append, regionA_of_append, aboveA_of_append, join4_3,
    join5_2, join2_4_1, join1_1_1_1, extractLsb'_append_eq_right, extractLsb'_append_eq_left, BitVec.reduceToNat, Nat.reduceMul]
  -- SCMPI's minor in D, FENCE's in B and MI
  any_goals rename_i hk; obtain rfl := compareMinor_eq hk hzero; rfl
  all_goals
    rename_i hk
    obtain ⟨⟨rfl, rfl⟩, hb⟩ := hzero
    obtain ⟨rfl, hmi⟩ := fenceMinor_eq hk hb
    exact congrArg (Raw.mk _ _ _ _) hmi

theorem encodeRaw_of_decodeMajor {r : Raw} {i : Instr} (h : decodeMajor r = .ok i) : encodeRaw i = some r := encodes_decodeMajor r i h

/-! ## Whole words -/

theorem decode_eq_ok_iff {w : Word} {i : Instr} : decode w = .ok i ↔ decodeMajor (Raw.ofWord w) = .ok i ∧ i.wellFormed := by
  unfold decode
  cases decodeMajor (Raw.ofWord w) with
  | error e => simp
  | ok j =>
    cases hcheck : j.check with
    | some e =>
      refine ⟨fun h => by simp [hcheck] at h, fun ⟨hj, hwell⟩ => ?_⟩
      cases hj
      exact absurd (hcheck.symm.trans hwell) (by simp)
    | none =>
      simp only [hcheck, Except.ok.injEq]
      exact ⟨fun h => ⟨h, h ▸ hcheck⟩, fun h => h.1⟩

theorem encode_of_encodeRaw {i : Instr} {r : Raw} (h : encodeRaw i = some r) : encode i = r.toWord := by
  unfold encode
  rw [h]

end Sys2Proof

/-- Settles O51: each word is evaluated. -/
theorem decodedWords : Obligations.DecodedWords := by
  unfold Obligations.DecodedWords
  exact ⟨rfl, rfl, rfl, rfl, rfl, rfl, rfl, rfl, rfl, rfl⟩

/-- Settles O49: the regions of an instruction are those of its word, and the opcode map gives it back from them. -/
theorem decodeEncode : Obligations.DecodeEncode := by
  intro i hword hwell
  obtain ⟨r, hr⟩ := Option.isSome_iff_exists.mp hword
  rw [encode_of_encodeRaw hr, decode_eq_ok_iff, Raw.ofWord_toWord]
  exact ⟨decodeMajor_encodeRaw hr, hwell⟩

/-- Settles O50: what a word decodes to is laid over the word's own regions, and has passed the checks of its fields. -/
theorem encodeDecode : Obligations.EncodeDecode := by
  intro w i h
  obtain ⟨hmajor, hwell⟩ := decode_eq_ok_iff.mp h
  exact ⟨(encode_of_encodeRaw (encodeRaw_of_decodeMajor hmajor)).trans (Raw.toWord_ofWord w), hwell⟩
end

section
/-!
What the machine runs for a word is what the word decodes to (spec/02_instruction_words.md, R36, R38, R39): O52. The two opcode maps are compared arm by arm,
each time over the arms of one of them, whose own rejections say nothing.
-/
open Sys2Proof Sys2Proof.Machine

namespace Sys2Proof.Machine

/-- `x` is the meaning of the instruction that the verdict gives, if it gives one. -/
def RunsOk (v : Except Reject Instr) (s : State) (x : Out) : Prop := ∀ i, v = .ok i → x = exec i s

/-- `x` is the outcome of an illegal word, if the verdict rejects. -/
def RunsError (v : Except Reject Instr) (s : State) (x : Out) : Prop := ∀ e, v = .error e → x = issueIllegal s

section
variable {s : State} {x : Out} {ok : Bool} {i : Instr}

theorem runsOk_error (e : Reject) : RunsOk (.error e) s x := fun _ h => by cases h

theorem runsOk_ok (h : x = exec i s) : RunsOk (.ok i) s x := fun _ hi => by cases hi; exact h

theorem runsOk_needZero (h : x = ifZero ok s (exec i s)) : RunsOk (needZero ok i) s x := by
  cases ok
  · exact runsOk_error _
  · exact runsOk_ok h

theorem runsError_illegal (v : Except Reject Instr) : RunsError v s (issueIllegal s) := fun _ _ => rfl

theorem runsError_ok : RunsError (.ok i) s x := fun _ h => by cases h

theorem runsError_ifZero {v : Except Reject Instr} (h : ∃ i, v = needZero ok i) : RunsError v s (ifZero ok s x) := by
  obtain ⟨i, rfl⟩ := h
  cases ok
  · exact runsError_illegal _
  · exact runsError_ok

end

/-- Over the arms of the decoder: where it gives an instruction, the machine runs that instruction. -/
theorem runsOk_decodeMajor (r : Raw) (s : State) : RunsOk (decodeMajor r) s (runMajor r s) := by
  obtain ⟨maj, d, a, b, mi⟩ := r
  unfold decodeMajor
  split
  any_goals rename_i hmaj; obtain rfl := eq_ofNat_of_toNat hmaj; clear hmaj
  any_goals simp only [decode00, decode01, decode02, decode03, decode04, decode05, decode06, decode07, decode08, decode09, decode0A, decode0B, decode0C, decode0D, decode0E,
    decode10, decode11, decode12, decode13, decode14, decode15, decode16, decode17, decode18, decode19, decode1A, decode1B, decode1C, decode1D,
    decode1E, decode1F, decode20, decode21, decode22, decode23, decode24, decode25, decode26, decode27, decode28, decode29, decode2A, decode2B,
    decode2C, decode2D, decode2E, decode2F, decode30, decode31, decode34, decode35, decode36, decode37, decode38, decode39, decode3A, decode3B,
    decode3C, decode3D, decode3E, decode3F, decode40, decode41, decode42, decode48, decode49, decode4A, decode4B, decode4C, decode4D, decode4E,
    decode50, decode51, decode52, decode53, decode54, decode55, decode56, decode57, decode58, decode59, decode5A, decode5B, decode5C, decode5D,
    decode5E, decode5F, decode60, decode61, decode62, decode63, decode64, decode65, decode66, decode67, decode68, decode69, decode6A, decode6B,
    decode6C, decode6D, decode6E, decode6F, decode70, decode71, decode72, decode73, decode74, decode75, decode76, decode77, decode78, decode79,
    decode7F]
  any_goals split
  any_goals with_reducible exact runsOk_error _
  any_goals (rename_i hmi; conv => arg 3; whnf; rw [hmi])
  any_goals with_reducible refine runsOk_needZero ?_
  any_goals with_reducible refine runsOk_ok ?_
  all_goals rfl

/-- Over the arms of the machine: where it does not run an illegal word, the decoder gives an instruction or asks for bits that are zero. -/
theorem runsError_runMajor (r : Raw) (s : State) : RunsError (decodeMajor r) s (runMajor r s) := by
  obtain ⟨maj, d, a, b, mi⟩ := r
  unfold runMajor
  split
  any_goals rename_i hmaj; obtain rfl := eq_ofNat_of_toNat hmaj; clear hmaj
  any_goals simp only [run00, run01, run02, run03, run04, run05, run06, run07, run08, run09, run0A, run0B, run0C, run0D, run0E, run10, run11, run12, run13, run14, run15,
    run16, run17, run18, run19, run1A, run1B, run1C, run1D, run1E, run1F, run20, run21, run22, run23, run24, run25, run26, run27, run28, run29, run2A,
    run2B, run2C, run2D, run2E, run2F, run30, run31, run34, run35, run36, run37, run38, run39, run3A, run3B, run3C, run3D, run3E, run3F, run40, run41,
    run42, run48, run49, run4A, run4B, run4C, run4D, run4E, run50, run51, run52, run53, run54, run55, run56, run57, run58, run59, run5A, run5B, run5C,
    run5D, run5E, run5F, run60, run61, run62, run63, run64, run65, run66, run67, run68, run69, run6A, run6B, run6C, run6D, run6E, run6F, run70, run71,
    run72, run73, run74, run75, run76, run77, run78, run79, run7F]
  any_goals split
  any_goals with_reducible exact runsError_illegal _
  any_goals (rename_i hmi; conv => arg 1; whnf; rw [hmi])
  any_goals with_reducible refine runsError_ifZero ?_
  any_goals exact Exists.intro _ rfl
  all_goals exact runsError_ok

/-- A word whose form fails a check of its fields is an illegal one, whatever its own rules. -/
theorem issue_eq_issueIllegal {f : Form} (h : f.check.isSome = true) (s : State) (k : Env → Out) : issue f s k = issueIllegal s := by
  unfold issueIllegal
  rw [issue_eq, issue_eq]
  cases s.env? with
  | none => rfl
  | some e => exact (if_pos (by simp [illegalHere, h])).trans (if_pos rfl).symm

theorem wordMajor_eq (w : Word) : wordMajor w = (Raw.ofWord w).maj.toNat := by
  simp only [wordMajor, Raw.ofWord, BitVec.extractLsb'_toNat, Nat.shiftRight_eq_div_pow]
  have hlt := w.isLt
  omega

theorem inClause_of_decodeMajor {w : Word} {i : Instr} (hheader : isHeader w = false) (h : decodeMajor (Raw.ofWord w) = .ok i) : inClause i := by
  have hraw := encodeRaw_of_decodeMajor h
  refine ⟨Option.isSome_of_eq_some hraw, ?_⟩
  rintro wait x y l rfl
  have hmaj : (Raw.ofWord w).maj = 127#7 := by rw [← Option.some.inj hraw]
  simp [isHeader, wordMajor_eq, hmaj] at hheader

end Sys2Proof.Machine

/-- Settles O52: both opcode maps agree, and an instruction whose fields are not legal issues as an illegal word. -/
theorem runsDecoded : Obligations.RunsDecoded := by
  refine ⟨fun w i s h => runsOk_decodeMajor _ s i (decode_eq_ok_iff.mp h).1, fun w e s hheader h => ?_⟩
  show runMajor _ s = _
  unfold decode at h
  cases hmajor : decodeMajor (Raw.ofWord w) with
  | error e => exact runsError_runMajor _ s e hmajor
  | ok i =>
    cases hcheck : i.check with
    | none => simp [hmajor, hcheck] at h
    | some e =>
      obtain ⟨k, hk⟩ := exec_eq_issue_form i (inClause_of_decodeMajor hheader hmajor)
      rw [runsOk_decodeMajor _ s i hmajor, hk]
      exact issue_eq_issueIllegal (Option.isSome_of_eq_some hcheck) s k
end

section
/-!
The turns of the tape (spec/12_waves_streams_barriers.md, R281): O53.
-/
open Sys2Proof Sys2Proof.Machine

namespace Sys2Proof.Machine

/-- A powered module takes the first turn of its tape. -/
theorem step_turn {s : State} {t : Turn} {rest : List Turn} (hpowered : s.powered = true) (htape : s.tape = t :: rest) :
    step s = ({ s with tape := rest } : State).turn t := by
  unfold step
  rw [htape]
  exact if_pos hpowered

theorem turn_event {s : State} {i : Instr} (h : i.hasWord = false) : s.turn (.event i) = settled (fun _ => true) (exec i s) :=
  if_neg (by simp [h])

theorem turn_issue {s : State} {k : Nat} {cs : Bool} (h : (s.portStreams (coreOf k) (portOf k)).contains (k, cs) = true) :
    s.turn (.issue k cs) = s.issueStep k cs :=
  if_pos h

section
variable {s : State} {k : Nat} {cs : Bool} {w : Wave} {cl : Clause} {x : Word} {ws : List Word}
  (hwave : s.wave? k = some w) (hclause : (w.stream cs).clause = some cl) (hwords : cl.words = x :: ws)
include hwave hclause hwords

/-- In the middle of a clause a stream issues the clause's next word. -/
theorem issueAt_clause : s.issueAt k cs = runWord x { s with cur := ⟨k, cs, cl.slot⟩ } := by
  simp [State.issueAt, hwave, hclause, hwords]

theorem nextWord_clause : s.nextWord k cs = some x := by
  simp [State.nextWord, hwave, hclause, hwords]

theorem issueStep_clause :
    s.issueStep k cs = settled (fun t => !t.holds s.stamp k cs) (issued s.stamp k cs x (runWord x { s with cur := ⟨k, cs, cl.slot⟩ })) := by
  unfold State.issueStep
  rw [issueAt_clause hwave hclause hwords, nextWord_clause hwave hclause hwords]
  cases runWord x { s with cur := ⟨k, cs, cl.slot⟩ } with
  | next t => rfl
  | fault f => rfl
  | refused r => rfl

end

end Sys2Proof.Machine

/-- Settles O53: the first turn of the tape, at a word by way of what the machine runs for it (`runsDecoded`). -/
theorem stepRunsWord : Obligations.StepRunsWord := by
  refine ⟨?_, fun s i rest hpowered htape hword => ?_, fun s hpowered htape => ?_⟩
  · intro s k cs rest w cl x ws i hpowered htape hport hwave hclause hwords hdecode
    rw [step_turn hpowered htape, turn_issue hport, ← runsDecoded.1 x i _ hdecode]
    exact issueStep_clause hwave hclause hwords
  · rw [step_turn hpowered htape]
    exact turn_event hword
  · unfold step
    rw [htape]
    exact if_neg (by simp [hpowered])
end

section
/-!
NOP, YIELD, the roles, FLUSHA, and the waits on flags, counters and the GTC: what each word gives wherever it issues (O19).
-/
open Sys2Proof Sys2Proof.Machine

namespace Sys2Proof.Machine

/-- R287: WAITF's test of the flags that its mask names. -/
theorem waitfPasses_iff (f : BitVec 12) (w : Wave) :
    ((List.range 12).all fun i => !f.getLsbD i || w.flags.getD i 0 == 0) = true ↔ ∀ i < 12, f.getLsbD i = true → w.flags.getD i 0 = 0 := by
  simp only [List.all_eq_true, List.mem_range, Bool.or_eq_true, Bool.not_eq_true', beq_iff_eq]
  exact forall₂_congr fun i _ => by cases f.getLsbD i <;> simp

end Sys2Proof.Machine

/-- Settles O19: each word's own rules, in the case of them that the condition names. -/
theorem waveControl : Obligations.WaveControl := by
  intro a c t f
  refine ⟨gives_of_completes execNop (fun _ => rfl) fun _ => rfl, rfl, gives_of_completes execYield (fun _ => rfl) fun _ => rfl,
    gives_of_completes execRoleL (fun _ => rfl) fun _ => rfl, gives_of_completes execRoleS (fun _ => rfl) fun _ => rfl, ?flushaPlain, ?flushaDet, ?waita,
    ?waitf, ?waitfHolds, ?sleepPasses, ?sleepWaits⟩
  case flushaPlain => exact givesIf_of execFlusha (fun _ => rfl) (fun _ => rfl) fun e hdet => if_neg (by simp [hdet])
  case flushaDet =>
    refine givesIf_of execFlusha (fun _ => rfl) (fun _ => rfl) fun e hdet => (if_pos hdet).trans ?_
    dsimp only
    generalize Env.done _ = t
    cases t.wave? e.key
    case none => rfl
    case some => rfl
  case waita => exact givesIf_of (execWaita c t) (fun _ => rfl) (fun _ => rfl) fun e hlow => if_pos hlow
  case waitf => exact givesIf_of (execWaitf f) (fun _ => rfl) (fun _ => rfl) fun e hclear => if_pos ((waitfPasses_iff f e.w).mpr hclear)
  case waitfHolds =>
    rintro s e hissues ⟨i, hi, hnamed, hup⟩
    exact exec_of_issues (execWaitf f) hissues (fun _ => rfl) (fun _ => rfl)
      (if_neg fun hall => hup ((waitfPasses_iff f e.w).mp hall i hi hnamed))
  case sleepPasses => exact givesIf_of (execSleep a) (fun _ => rfl) (fun _ => rfl) fun e hpast => if_pos hpast
  case sleepWaits => exact givesIf_of (execSleep a) (fun _ => rfl) (fun _ => rfl) fun e hahead => if_neg (Nat.not_le.mpr hahead)
end

section
/-!
The system registers, software events, causal identifiers and the branch trace's switches: what each word gives wherever it issues (O20).
-/
open Sys2Proof Sys2Proof.Machine

namespace Sys2Proof.Machine

/-- R34: the numbers of the table of system registers. -/
def sysNumbers : List Nat :=
  [0, 1, 2, 3, 4, 5, 6, 7, 8, 0x10, 0x11, 0x20, 0x21, 0x30, 0x31, 0x32, 0x33, 0x34, 0x35, 0x36, 0x37, 0x40, 0x41, 0x50, 0x51, 0x60, 0x61]

theorem sysReg_isSome (e : Env) (k : Nat) : (e.sysReg k).isSome = sysNumbers.contains k := by
  unfold Env.sysReg
  split
  case h_28 => simp_all [sysNumbers]
  all_goals rfl

theorem sysListed_eq (k : Nat) : sysListed k = sysNumbers.contains k := by
  by_cases hk : k < 0x62
  · revert k
    decide
  · have hne (j : Nat) (hj : j < 0x62) : k ≠ j := fun h => hk (h ▸ hj)
    simp [sysListed, sysNumbers, hne, show ¬k ≤ 8 by omega, show ¬k ≤ 0x37 by omega]

theorem sysWritable_eq_false {k : Nat} (h : k ≠ 0x020 ∧ k ≠ 0x021 ∧ k ≠ 0x036 ∧ k ≠ 0x037) : sysWritable k = false := by
  simp [sysWritable, h]

/-- R35, R38: a word with a field that its form forbids is illegal wherever its stream may issue. -/
theorem exec_illegal_of_check {i : Instr} {s : State} {e : Env} {k : Env → Out} (m : State → Out) (hexec : ∀ s, exec i s = m s)
    (hrules : ∀ s, m s = issue i.form s k) (henv : s.env? = some e) (hcheck : i.check.isSome = true) : exec i s = e.trap cIllegal 0#64 := by
  rw [hexec, hrules, issue_eq, henv]
  exact if_pos (by simp [illegalHere, show i.form.check.isSome = true from hcheck])

/-- MTSR sees the wave with the C-stream's further issue stopped (R421). -/
theorem lastWrite_eq (e : Env) :
    (if e.cs then e else { e with w := { e.w with pause := some (true, e.s.cycle) } }) = { e with w := e.lastWrite } := by
  obtain ⟨s, key, cs, w, sp, cl, old⟩ := e
  cases cs
  case true => rfl
  case false => rfl

theorem lastWrite_trapVector (e : Env) : e.lastWrite.trapVector = e.w.trapVector := by
  unfold Env.lastWrite
  cases e.cs
  case true => rfl
  case false => rfl

end Sys2Proof.Machine

/-- Settles O20: each word's own rules, with MFSR's and MTSR's by the register's number. -/
theorem systemRegisters : Obligations.SystemRegisters := by
  intro d a b n
  refine ⟨?mfsr, ?mfsrGtc, ?mfsrUnlisted, ?fpFlags, ?fpMode, ?fpModeIllegal, ?vectorLow, ?vectorHigh, ?mtsrUnlisted,
    gives_of_completes (execEvt a b) (fun _ => rfl) fun _ => rfl, ?causeSet, ?causeFresh, gives_of_completes (execCauseGet d) (fun _ => rfl) fun _ => rfl,
    ?trcOn, ?trcOnMisaligned, gives_of_completes execTrcOff (fun _ => rfl) fun _ => rfl, fun e k => sysReg_isSome e k⟩
  case mfsr =>
    refine givesIf_of (execMfsr d n) (fun _ => rfl) (fun _ => rfl) ?_
    rintro e ⟨hnumber, hlisted⟩
    obtain ⟨x, hx⟩ := Option.ne_none_iff_exists'.mp hlisted
    simp only [hx, if_neg hnumber, Option.getD_some]
  case mfsrGtc =>
    refine givesIf_of (execMfsr d n) (fun _ => rfl) (fun _ => rfl) fun e hnumber => ?_
    simp only [hnumber, show e.sysReg 0x010 = some (loHalf e.s.gtc) from rfl, if_true]
  case mfsrUnlisted =>
    intro s e henv hnone
    have hlisted : sysListed n.toNat = false := by rw [sysListed_eq, ← sysReg_isSome e, hnone]; rfl
    refine exec_illegal_of_check (execMfsr d n) (fun _ => rfl) (fun _ => rfl) henv ?_
    change (Form.need _ (sysListed n.toNat) .badNumber).check.isSome = true
    rw [hlisted]
    rfl
  case mtsrUnlisted =>
    intro s e henv hnumber
    refine exec_illegal_of_check (execMtsr a n) (fun _ => rfl) (fun _ => rfl) henv ?_
    change (Form.need _ (sysWritable n.toNat) .badNumber).noComb.check.isSome = true
    rw [sysWritable_eq_false hnumber]
    rfl
  case fpFlags =>
    refine givesIf_of (execMtsr a n) (fun _ => rfl) (fun _ => rfl) fun e hnumber => ?_
    simp only [hnumber, lastWrite_eq]
  case fpMode =>
    refine givesIf_of (execMtsr a n) (fun _ => rfl) (fun _ => rfl) ?_
    rintro e ⟨hnumber, hcode⟩
    simp only [hnumber, lastWrite_eq, ge_iff_le, if_neg (Nat.not_le.mpr hcode)]
  case fpModeIllegal =>
    refine trapsIf_of (execMtsr a n) (fun _ => rfl) (fun _ => rfl) ?_
    rintro e ⟨hnumber, hcode⟩
    simp only [hnumber, lastWrite_eq, ge_iff_le, if_pos hcode]
    rfl
  case vectorLow =>
    refine givesIf_of (execMtsr a n) (fun _ => rfl) (fun _ => rfl) fun e hnumber => ?_
    simp only [hnumber, lastWrite_eq, lastWrite_trapVector, joinHalves]
  case vectorHigh =>
    refine givesIf_of (execMtsr a n) (fun _ => rfl) (fun _ => rfl) fun e hnumber => ?_
    simp only [hnumber, lastWrite_eq, lastWrite_trapVector, joinHalves]
  case causeSet => exact givesIf_of (execCauseSet a) (fun _ => rfl) (fun _ => rfl) fun e hgiven => by simp only [if_neg hgiven]
  case causeFresh => exact givesIf_of (execCauseSet a) (fun _ => rfl) (fun _ => rfl) fun e hzero => by simp only [if_pos hzero]
  case trcOn => exact givesIf_of (execTrcOn a) (fun _ => rfl) (fun _ => rfl) fun e haligned => if_neg (not_not.mpr haligned)
  case trcOnMisaligned => exact trapsIf_of (execTrcOn a) (fun _ => rfl) (fun _ => rfl) fun e hoff => if_pos hoff
end

section
/-!
Clause headers (spec/02_instruction_words.md, R24, R27): what becomes of a header whose clause has been fetched (O32).
-/
open Sys2Proof Sys2Proof.Machine

namespace Sys2Proof.Machine

/-- R27: the values of SETX and SETY that name a flag, or none. -/
theorem flagLegal_iff (f : BitVec 4) : (f.toNat < 12 ∨ f.toNat = 15) ↔ (decide (12 ≤ f.toNat) && decide (f.toNat ≤ 14)) = false := by
  have hlt := f.isLt
  simp only [Bool.and_eq_false_iff, decide_eq_false_iff_not]
  omega

/-- A header at a clause boundary whose clause lies in the code object and has been fetched: a bad word traps, then a flag that is none; then the clause waits for
its flags, or issues. -/
theorem execClauseHeader_fetched {w : BitVec 12} {x y : BitVec 4} {l : BitVec 5} {s s' : State} {v : Wave} {p : Split} {b : List Byte}
    (hwave : s.wave? s.cur.wave = some v) (hsplit : (v.stream s.cur.cs).tab.slot s.cur.slot = some p) (hboundary : s.atBoundary v s.cur.cs = true)
    (hroom : p.pc.toNat + 8 + 4 * l.toNat ≤ v.codeHi.toNat)
    (hfetch : s.fetchCode s.cur.wave s.cur.cs v s.cur.slot p.pc p.exec (p.pc.toNat + 4) (4 * (l.toNat + 1)) = .inl (b, s')) :
    exec (.clauseHeader w x y l) s =
      match badWord 0 (wordsOf (l.toNat + 1) b) with
      | some i => .next (s'.takeTrap s.cur.wave s.cur.cs s.cur.slot p.pc cClauseForm (p.pc + BitVec.ofNat 64 (4 + 4 * i)) p.exec 0)
      | none =>
        if (decide (12 ≤ x.toNat) && decide (x.toNat ≤ 14)) || (decide (12 ≤ y.toNat) && decide (y.toNat ≤ 14)) then
          .next (s'.takeTrap s.cur.wave s.cur.cs s.cur.slot p.pc cIllegal 0#64 p.exec 0)
        else if !s'.flagsMet v s.cur.cs w then
          .next (s'.updWave s.cur.wave fun u => u.setWait s.cur.cs false
            (some ((WaitFor.poll 9 w.toNat s'.stamp).from_ (v.stream s.cur.cs).wait s'.gtc)))
        else .next (s'.issueClause s.cur.wave s.cur.cs s.cur.slot p.pc x.toNat y.toNat (wordsOf (l.toNat + 1) b)) := by
  have hinside : ¬p.pc.toNat + 4 + 4 * (l.toNat + 1) > v.codeHi.toNat := by omega
  show execClauseHeader w x y l s = _
  simp only [execClauseHeader, hwave, hsplit, hboundary, if_neg hinside, hfetch, Bool.not_true, Bool.false_eq_true, if_false, State.fetchTrap] <;> rfl

end Sys2Proof.Machine

/-- Settles O32: the checks of a fetched clause, in their order. -/
theorem clauseHeaders : Obligations.ClauseHeaders := by
  intro w x y l s v p b s' hwave hsplit hboundary hroom hfetch
  rw [execClauseHeader_fetched hwave hsplit hboundary hroom hfetch, flagLegal_iff x, flagLegal_iff y]
  refine ⟨fun hgood hx hy hflags => ?_, fun i hbad => ?_, fun hgood hillegal => ?_⟩
  · simp [hgood, hx, hy, hflags]
  · simp [hbad]
  · simp only [hgood]
    exact if_pos (Bool.eq_true_of_not_eq_false fun hnone => hillegal (Bool.or_eq_false_iff.mp hnone))
end

section
/-!
The frame of the words that compute (R30, R75, R79, R411): what a result and the end of a word leave unchanged (O58).
-/
open Sys2Proof Sys2Proof.Machine

namespace Sys2Proof.Machine

/-! ## One register -/

theorem vector_getD_setIfInBounds {n : Nat} (v : Vector Word n) (r i : Nat) (x d : Word) (hi : i < n) :
    (v.setIfInBounds r x).getD i d = if i = r then x else v.getD i d := by
  obtain ⟨a, ha⟩ := v
  simp [Vector.getD, Array.getD, ha, hi, Array.getElem_setIfInBounds, eq_comm]

theorem lane_write (v : Lanes) (m : Word) (f : Nat → Word) (l : Nat) (hl : l < 32) :
    (v.write m f).lane l = if laneIn m l = true then f l else v.lane l := by
  simp [Lanes.lane, Lanes.write, Vector.getD, hl]

/-! ## Scalars (R30) -/

theorem putScalar_discarded (w : Wave) (cs : Bool) (r : Nat) (x : Word) (hr : 64 ≤ r) : w.putScalar cs r x = w :=
  if_neg (Nat.not_lt.mpr hr)

theorem putScalar_stored (w : Wave) (cs : Bool) (r : Nat) (x : Word) (hr : r < 64) :
    w.putScalar cs r x = (w.updStream cs fun st => { st with regs := st.regs.setIfInBounds r x }).clobber (.scalar cs r) 1#32 :=
  if_pos hr

theorem putScalar_keeps (w : Wave) (cs : Bool) (r : Nat) (x : Word) :
    (w.putScalar cs r x).vregs = w.vregs ∧ (w.putScalar cs r x).preds = w.preds ∧ (w.putScalar cs r x).trapPc = w.trapPc := by
  rcases Nat.lt_or_ge r 64 with hr | hr
  · rw [putScalar_stored w cs r x hr]
    exact ⟨updStream_vregs w cs _, updStream_preds w cs _, updStream_trapPc w cs _⟩
  · rw [putScalar_discarded w cs r x hr]
    exact ⟨rfl, rfl, rfl⟩

theorem putScalar_regs (w : Wave) (cs : Bool) (r : Nat) (x : Word) (i : Nat) (hi : i < 64) :
    ((w.putScalar cs r x).stream cs).regs.getD i 0#32 = if i = r then x else (w.stream cs).regs.getD i 0#32 := by
  rcases Nat.lt_or_ge r 64 with hr | hr
  · rw [putScalar_stored w cs r x hr]
    cases cs <;> exact vector_getD_setIfInBounds _ r i x _ hi
  · rw [putScalar_discarded w cs r x hr, if_neg (by omega)]

/-! ## Vector registers (R75, R411) -/

theorem putVec_keeps (w : Wave) (p : Nat) (m : Word) (f : Nat → Word) :
    (w.putVec p m f).preds = w.preds ∧ ∀ cs, (w.putVec p m f).stream cs = w.stream cs := by
  unfold Wave.putVec
  split
  · exact ⟨rfl, fun _ => rfl⟩
  · exact ⟨rfl, fun cs => by cases cs <;> rfl⟩

theorem putVec_lane (w : Wave) (p : Nat) (m : Word) (f : Nat → Word) (q l : Nat) (hl : l < 32) :
    (tabGetD (w.putVec p m f).vregs q Lanes.zero).lane l =
      if q = p ∧ laneIn m l = true then f l else (tabGetD w.vregs q Lanes.zero).lane l := by
  unfold Wave.putVec
  split
  · next hm => simp [hm, laneIn]
  · by_cases hq : q = p
    · subst hq
      simp [lane_write _ _ _ _ hl]
    · simp [hq, tabGetD_put_ne]

theorem putV_nowhere {e : Env} {r : BitVec 7} (h : e.place? r.toNat = none) (m : Word) (f : Nat → Word) : e.putV r m f = e := by
  simp only [Env.putV, h]

theorem putV_place {e : Env} {r : BitVec 7} {p : Nat} (h : e.place? r.toNat = some p) (m : Word) (f : Nat → Word) :
    e.putV r m f = e.putPlace p m f := by
  simp only [Env.putV, h]

theorem putPlace_keeps (e : Env) (p : Nat) (m : Word) (f : Nat → Word) :
    (e.putPlace p m f).s.mem = e.s.mem ∧ (e.putPlace p m f).w.preds = e.w.preds ∧ (e.putPlace p m f).st.regs = e.st.regs := by
  obtain ⟨hpreds, hstream⟩ := putVec_keeps e.w p (e.winning false p m) f
  exact ⟨(wroteVec_quiet _ _ _ _ _).mem, hpreds, congrArg Stream.regs (hstream e.cs)⟩

theorem putV_keeps (e : Env) (r : BitVec 7) (m : Word) (f : Nat → Word) :
    (e.putV r m f).s.mem = e.s.mem ∧ (e.putV r m f).w.preds = e.w.preds ∧ (e.putV r m f).st.regs = e.st.regs := by
  cases h : e.place? r.toNat with
  | none => rw [putV_nowhere h]; exact ⟨rfl, rfl, rfl⟩
  | some p => rw [putV_place h]; exact putPlace_keeps e p m f

theorem putV_lane {e : Env} {r : BitVec 7} {p : Nat} (h : e.place? r.toNat = some p) (m : Word) (f : Nat → Word) (q l : Nat) (hl : l < 32) :
    (tabGetD (e.putV r m f).w.vregs q Lanes.zero).lane l =
      if q = p ∧ laneIn (e.winning false p m) l = true then f l else (tabGetD e.w.vregs q Lanes.zero).lane l := by
  rw [putV_place h]
  exact putVec_lane e.w p (e.winning false p m) f q l hl

/-! ## The lanes won (R79) -/

theorem winning_aStream {e : Env} (h : e.cs = false) (isPred : Bool) (reg : Nat) (m : Word) : e.winning isPred reg m = m := by
  simp [Env.winning, h]

/-- No write of this cycle to the register is noted: every lane is won. -/
theorem winning_unnoted {e : Env} {reg : Nat} (h : ∀ x ∈ e.w.recent, x.cycle ≠ e.s.cycle ∨ x.reg ≠ reg) (isPred : Bool) (m : Word) :
    e.winning isPred reg m = m := by
  have hnone : (e.w.recent.filter fun x => x.isPred == isPred && x.reg == reg && !x.cs && x.load.isNone && x.cycle == e.s.cycle) = [] := by
    refine List.filter_eq_nil_iff.mpr fun x hx => ?_
    rcases h x hx with hcycle | hreg
    · simp [hcycle]
    · simp [hreg]
  unfold Env.winning
  rw [hnone]
  split
  · exact BitVec.and_allOnes
  · rfl

/-! ## Predicates -/

theorem putP_regs (e : Env) (r : BitVec 7) (m x : Word) : (e.putP r m x).st.regs = e.st.regs := by
  cases hcs : e.cs <;> simp only [Env.st, Env.putP, Wave.stream, hcs]

theorem putP_preds (e : Env) (r : BitVec 7) (m x : Word) (i : Nat) (hi : i < 48) :
    (e.putP r m x).w.preds.getD i 0#32 =
      if i = r.toNat then (e.w.preds.getD i 0#32 &&& ~~~(e.winning true i m)) ||| (x &&& e.winning true i m) else e.w.preds.getD i 0#32 := by
  refine (vector_getD_setIfInBounds _ _ _ _ _ hi).trans ?_
  split
  · next h => rw [h]
  · rfl

/-! ## The end of a word -/

/-- `v` holds what `w` holds in the registers of its streams, its vector and predicate registers and the system registers of traps and
floating point. -/
structure SameRegs (w v : Wave) : Prop where
  aRegs : v.a.regs = w.a.regs
  cRegs : v.c.regs = w.c.regs
  vregs : v.vregs = w.vregs
  preds : v.preds = w.preds
  trapCode : v.trapCode = w.trapCode
  trapPc : v.trapPc = w.trapPc
  fpMode : v.fpMode = w.fpMode
  fpFlags : v.fpFlags = w.fpFlags

theorem SameRegs.refl (w : Wave) : SameRegs w w := ⟨rfl, rfl, rfl, rfl, rfl, rfl, rfl, rfl⟩

theorem SameRegs.trans {u v w : Wave} (h : SameRegs u v) (h' : SameRegs v w) : SameRegs u w :=
  ⟨h'.aRegs.trans h.aRegs, h'.cRegs.trans h.cRegs, h'.vregs.trans h.vregs, h'.preds.trans h.preds, h'.trapCode.trans h.trapCode,
    h'.trapPc.trans h.trapPc, h'.fpMode.trans h.fpMode, h'.fpFlags.trans h.fpFlags⟩

theorem Retraced.sameRegs {w v : Wave} (h : Retraced w v) : SameRegs w v := by
  obtain ⟨x, y, rfl⟩ := h
  exact ⟨rfl, rfl, rfl, rfl, rfl, rfl, rfl, rfl⟩

theorem sameRegs_updStream (w : Wave) (cs : Bool) (g : Stream → Stream) (hregs : ∀ st, (g st).regs = st.regs) : SameRegs w (w.updStream cs g) := by
  cases cs
  · exact ⟨hregs w.a, rfl, rfl, rfl, rfl, rfl, rfl, rfl⟩
  · exact ⟨rfl, hregs w.c, rfl, rfl, rfl, rfl, rfl, rfl⟩

theorem sameRegs_countIssued (w : Wave) : SameRegs w w.countIssued := ⟨rfl, rfl, rfl, rfl, rfl, rfl, rfl, rfl⟩

/-- R415: a handler that starts changes the A front end and saves its context; no register. -/
theorem enterNow_sameRegs {s : State} {k : Nat} {w : Wave} (h : s.wave? k = some w) : ∃ v, (s.enterNow k).wave? k = some v ∧ SameRegs w v := by
  unfold State.enterNow
  simp only [h]
  split
  · exact ⟨w, h, SameRegs.refl w⟩
  · obtain ⟨u, hu, hwu⟩ := tracePkt_wave _ k false _ _ (wave?_setWave s k _)
    obtain ⟨v, hv, huv⟩ := tracePkt_wave _ k true _ u hu
    refine ⟨v, hv, SameRegs.trans ?_ (hwu.sameRegs.trans huv.sameRegs)⟩
    exact ⟨rfl, rfl, rfl, rfl, rfl, rfl, rfl, rfl⟩

theorem enterHandler_sameRegs {s : State} {k : Nat} {w : Wave} (h : s.wave? k = some w) :
    ∃ v, (s.enterHandler k).wave? k = some v ∧ SameRegs w v := by
  unfold State.enterHandler
  simp only [h]
  split
  · exact ⟨w, h, SameRegs.refl w⟩
  · split
    · exact ⟨w, h, SameRegs.refl w⟩
    · exact enterNow_sameRegs h

theorem done_sameRegs (e : Env) : ∃ v, e.done.wave? e.key = some v ∧ SameRegs e.w v := by
  obtain ⟨v, hv, hsame⟩ := enterHandler_sameRegs (wave?_setWave e.s e.key (Wave.countIssued _))
  refine ⟨v, hv, SameRegs.trans (SameRegs.trans ?_ (sameRegs_countIssued _)) hsame⟩
  exact sameRegs_updStream e.w e.cs _ fun _ => rfl

/-! ## What a word sees -/

theorem issues_sees {i : Instr} {s : State} {e : Env} (h : Issues i s e) : e.s.mem = s.mem ∧ e.key = s.cur.wave ∧ e.cs = s.cur.cs := by
  unfold Issues State.admitted at h
  split at h
  · cases h
  · next e₀ henv =>
    obtain ⟨hs, hkey, hcs, -⟩ := envAt_of_env? henv
    obtain ⟨hcalm, hkey', hcs', -⟩ := env_findVec e₀ ((i.form.ops.filter fun o => o.reads).flatMap e₀.places) e₀.exec
    simp only [Option.ite_none_left_eq_some, Option.some.injEq] at h
    obtain ⟨-, -, rfl⟩ := h
    exact ⟨hcalm.mem.trans (congrArg State.mem hs), hkey'.trans hkey, hcs'.trans hcs⟩

end Sys2Proof.Machine

/-- Settles O58: each kind of result in its own register, then the end of the word and what it saw. -/
theorem resultFrame : Obligations.ResultFrame := by
  refine ⟨fun e r x => ?scalar, fun e r m f => ?vector, fun e b p m h => ?won, fun e r m x => ?predicate, fun e => ?done, fun i s e h => issues_sees h⟩
  case scalar =>
    obtain ⟨hvregs, hpreds, hpc⟩ := putScalar_keeps e.w e.cs r.toNat x
    exact ⟨rfl, hvregs, hpreds, hpc, fun hr => congrArg (fun w => { e with w := w }) (putScalar_discarded e.w e.cs r.toNat x hr),
      putScalar_regs e.w e.cs r.toNat x⟩
  case vector =>
    obtain ⟨hmem, hpreds, hregs⟩ := putV_keeps e r m f
    exact ⟨hmem, hpreds, hregs, fun h => putV_nowhere h m f, fun p q l h hl => putV_lane h m f q l hl⟩
  case won => exact h.elim (fun ha => winning_aStream ha b p m) fun hn => winning_unnoted hn b m
  case predicate => exact ⟨rfl, rfl, putP_regs e r m x, putP_preds e r m x⟩
  case done =>
    obtain ⟨v, hv, hsame⟩ := done_sameRegs e
    obtain ⟨hmem, hflight, -, hwaves⟩ := done_calm e
    exact ⟨hmem, hflight, hwaves, v, hv, hsame.aRegs, hsame.cRegs, hsame.vregs, hsame.preds, hsame.trapCode, hsame.trapPc, hsame.fpMode,
      hsame.fpFlags⟩
end

section
/-!
The words that compute in registers keep memory (R73, R171): O56. What such a word does beyond its checks is to write registers and to move on; writing
registers touches no memory, and neither does a wait or reading another lane's element.
-/
open Sys2Proof Sys2Proof.Machine

namespace Sys2Proof.Machine

/-! ## Writing registers -/

/-- `e'` is `e` with registers written: the same wave, in a state with the same memory. -/
structure WroteRegs (e e' : Env) : Prop where
  key : e'.key = e.key
  quiet : Quiet e.s e'.s

section
variable {e e' e'' : Env}

theorem WroteRegs.refl (e : Env) : WroteRegs e e := ⟨rfl, Quiet.refl e.s⟩

theorem WroteRegs.trans (h : WroteRegs e e') (h' : WroteRegs e' e'') : WroteRegs e e'' :=
  ⟨h'.key.trans h.key, h.quiet.trans h'.quiet⟩

/-- A word that writes registers and moves on keeps memory. -/
theorem WroteRegs.done_keepsMem (h : WroteRegs e e') : KeepsMem e.s e.key (.next e'.done) :=
  keepsMem_calm ((h.quiet.calm e'.key).trans (done_calm e'))

end

section
variable (e : Env) (d a : BitVec 7)

theorem wroteRegs_setSt (g : Stream → Stream) : WroteRegs e (e.setSt g) := ⟨rfl, Quiet.refl e.s⟩

theorem wroteRegs_orFlags (f : Flags) : WroteRegs e (e.orFlags f) := ⟨rfl, Quiet.refl e.s⟩

theorem wroteRegs_put32 (x : Word) : WroteRegs e (e.put32 d x) := ⟨rfl, Quiet.refl e.s⟩

theorem wroteRegs_put64 (x : DWord) : WroteRegs e (e.put64 d x) := by
  unfold Env.put64
  split
  · exact WroteRegs.refl e
  · exact (wroteRegs_put32 e _ _).trans (wroteRegs_put32 _ _ _)

theorem wroteRegs_putCodes (x : CondCodes) : WroteRegs e (e.putCodes x) := wroteRegs_setSt e _

theorem wroteRegs_putP (m x : Word) : WroteRegs e (e.putP d m x) := ⟨rfl, Quiet.refl e.s⟩

/-- R413: the fresh check bits of the elements written are not in memory. -/
theorem wroteRegs_putPlace (p : Nat) (m : Word) (f : Nat → Word) : WroteRegs e (e.putPlace p m f) := ⟨rfl, wroteVec_quiet _ _ _ _ _⟩

theorem wroteRegs_putVi (i : Nat) (m : Word) (f : Nat → Word) : WroteRegs e (e.putVi d i m f) := by
  unfold Env.putVi
  split
  · exact wroteRegs_putPlace e _ m f
  · exact WroteRegs.refl e

theorem wroteRegs_putV (m : Word) (f : Nat → Word) : WroteRegs e (e.putV d m f) := by
  unfold Env.putV
  split
  · exact wroteRegs_putPlace e _ m f
  · exact WroteRegs.refl e

theorem wroteRegs_putLate (l : LateDest) (m : Word) (vals : Nat → Word) (f : Flags) : WroteRegs e (e.putLate l m vals f) := by
  unfold Env.putLate
  split
  · exact ⟨rfl, Quiet.refl e.s⟩
  · exact ⟨rfl, rfl, rfl, rfl, rfl⟩

theorem wroteRegs_putLateS (x : Word) : WroteRegs e (e.putLateS d x) := wroteRegs_putLate e _ _ _ _

theorem wroteRegs_putLateV (vals : Nat → Word) (f : Flags) : WroteRegs e (e.putLateV d vals f) := by
  unfold Env.putLateV
  split
  · exact wroteRegs_putLate e _ _ _ _
  · exact WroteRegs.refl e

theorem wroteRegs_putV_orFlags (m : Word) (v : Nat → Word) (f : Flags) : WroteRegs e ((e.putV d m v).orFlags f) :=
  (wroteRegs_putV e d m v).trans (wroteRegs_orFlags _ f)

theorem wroteRegs_putRounded (r : Nat → Rounded) : WroteRegs e (e.putRounded d r) := wroteRegs_putV_orFlags e d _ _ _

end

/-! ## Waiting and reading other lanes -/

theorem findVec_keepsMem {e : Env} {k : Env → Out} (h : ∀ e', KeepsMem e'.s e'.key (k e')) (ps : List Nat) (m : Word) :
    KeepsMem e.s e.key (k (e.findVec ps m)) := by
  obtain ⟨hcalm, hkey, -, -, -, -, hbatch⟩ := env_findVec e ps m
  exact keepsMem_of_calm hcalm hbatch (hkey ▸ h (e.findVec ps m))

theorem consume_keepsMem {e : Env} {k : Unit → Out} (h : KeepsMem e.s e.key (k ())) (ps : List Nat) (m : Word) :
    KeepsMem e.s e.key (e.consume ps m k) := by
  unfold Env.consume
  split
  · exact trapWith_keepsMem e _ _ _ _ rfl
  · exact h

/-- R272: reading other lanes waits, traps or goes on. -/
theorem crossRead_keepsMem {e : Env} {k : Env → Out} (h : ∀ e', KeepsMem e'.s e'.key (k e')) (r : BitVec 7) (m : Word) :
    KeepsMem e.s e.key (e.crossRead r m k) := by
  unfold Env.crossRead
  split
  · exact hold_keepsMem e _ _ _
  · split
    · next p _ =>
      dsimp only
      exact findVec_keepsMem (k := fun e' => e'.consume [p] (m &&& e.w.live) fun _ => k e') (fun e' => consume_keepsMem (h e') _ _) [p] (m &&& e.w.live)
    · exact h e

theorem shfl_keepsMem (e : Env) (d a : BitVec 7) (mode : ShflMode) (n : Nat → Nat) : KeepsMem e.s e.key (e.shfl d a mode n) := by
  unfold Env.shfl
  exact crossRead_keepsMem (fun e' => (wroteRegs_putV e' _ _ _).done_keepsMem) _ _

/-- With no active lane a word that reads another lane moves on. -/
theorem ifActive_keepsMem {e : Env} {o : Out} (h : KeepsMem e.s e.key o) :
    KeepsMem e.s e.key (if e.exec = 0#32 then .next e.done else o) := by
  split
  · exact (WroteRegs.refl e).done_keepsMem
  · exact h

/-- R196: a word waits for the element that it writes. -/
theorem ifLanded_keepsMem {e : Env} {o : Out} (h : KeepsMem e.s e.key o) (r : BitVec 7) (m : Word) :
    KeepsMem e.s e.key (if !e.landed r m then e.hold 0 0 else o) := by
  split
  · exact hold_keepsMem e _ _ _
  · exact h

/-! ## The instructions -/

/-- The majors of the words that compute in registers. -/
def isComputeMajor (n : Nat) : Bool := (decide (0x10 ≤ n) && decide (n ≤ 0x1D)) || (decide (0x20 ≤ n) && decide (n ≤ 0x4E))

/-- The instruction has a word, of a major that computes in registers. -/
def isCompute (i : Instr) : Bool := (encodeRaw i).any fun r => isComputeMajor r.maj.toNat

/-- R201: the last two bits of the major of an atomic are its scope, so it is 0x60 to 0x63. -/
theorem isComputeMajor_atomic (scope : BitVec 2) : isComputeMajor (24#5 ++ scope).toNat = false := by
  revert scope
  decide

/-- By the kind of register that the result goes to; the instructions that are left have another major, or no word. -/
theorem exec_keepsMem {i : Instr} (s : State) (h : isCompute i = true) : KeepsMem s s.cur.wave (exec i s) := by
  cases i
  -- a scalar register
  case sadd | ssub | sand | sor | sxor | sshl | sshr | ssar | smin | smax | sminn | smaxn | smul | smulh | smulhn | sandn | saddi | sandi | sori |
      sxori | sshlImm | sshrImm | ssarImm | srot | smovi | smovhi | ssel | smov | snot | sneg | sclz | spopc | sbrev | ssext8 | ssext16 =>
    unfold exec
    exact issue_keepsMem _ s _ fun e _ => (wroteRegs_put32 e _ _).done_keepsMem
  case saddp =>
    unfold exec
    exact issue_keepsMem _ s _ fun e _ => (wroteRegs_put64 e _ _).done_keepsMem
  case sdivi | sdivn | sremi | sremn =>
    unfold exec
    exact issue_keepsMem _ s _ fun e _ => (wroteRegs_putLateS e _ _).done_keepsMem
  -- the condition codes
  case scmp | scmpN | scmpi | scmpiN =>
    unfold exec
    exact issue_keepsMem _ s _ fun e _ => (wroteRegs_putCodes e _).done_keepsMem
  -- a vector register
  case vadd | vsub | vand | vor | vxor | vshl | vshr | vsar | vmin | vmax | vminn | vmaxn | vmul | vmulh | vmulhn | vandn | vaddS | vsubS | vandS |
      vorS | vxorS | vshlS | vshrS | vsarS | vminS | vmaxS | vminnS | vmaxnS | vmulS | vmulhS | vmulhnS | vandnS | vaddi | vandi | vori | vxori |
      vshlImm | vshrImm | vsarImm | vrot | vmovi | madloI32 | madhiI32 | madloN32 | madhiN32 | vsel | vmov | vnot | vneg | vabs | vclz | vpopc | vbrev
      | vsext8 | vsext16 | vzext8 | vzext16 | vlane | vbfeN | vbfeI | vbfi | vrand | ptov | fmin | fmax | fcopysign | fminS | fmaxS | fcopysignS |
      hmin2 | hmax2 | dot4I8 | dot4N8 | fclass | fmovi | voteBallot | matchLanes =>
    unfold exec
    exact issue_keepsMem _ s _ fun e _ => (wroteRegs_putV e _ _ _).done_keepsMem
  case vleaN | vleaI =>
    unfold exec
    exact issue_keepsMem _ s _ fun e _ => ((wroteRegs_putVi e _ _ _ _).trans (wroteRegs_putVi _ _ _ _ _)).done_keepsMem
  -- a predicate
  case vcmpEq | vcmpNe | vcmpLt | vcmpLe | vcmpGt | vcmpGe | vcmpLtn | vcmpLen | vcmpGtn | vcmpGen | vcmpsEq | vcmpsNe | vcmpsLt | vcmpsLe | vcmpsGt |
      vcmpsGe | vcmpsLtn | vcmpsLen | vcmpsGtn | vcmpsGen | pand | por | pxor | pandn | porn | pnot | pmov | pset | pclr | vtop | fcmpEq | fcmpNe |
      fcmpLt | fcmpLe | fcmpGt | fcmpGe | fcmpUnord | fcmpOrd | voteAny | voteAll | voteUni | voteElect =>
    unfold exec
    exact issue_keepsMem _ s _ fun e _ => (wroteRegs_putP e _ _ _).done_keepsMem
  -- a vector register, with the floating-point flags
  case fadd | fsub | fmul | faddS | fsubS | fmulS | fscaleb | ffma | ffmaNeg | ffmaSub | ffmaNegsub | ffmas | ffmasNeg | ffmasSub | ffmasNegsub |
      fcvtF32I32 | fcvtF32N32 | fgetexp | fgetmant | fcvtBf16F32 | fcvtF16F32 | fcvtE4m3F32 | fcvtE5m2F32 | fcvtF32Bf16 | fcvtF32F16 | fcvtF32E4m3 |
      fcvtF32E5m2 | fcvtI32F32 | fcvtN32F32 | dot2Bf16 | dot2F16 | dot4E4m3 | dot4E5m2 | dot8Cb4 | frnd =>
    unfold exec
    exact issue_keepsMem _ s _ fun e _ => (wroteRegs_putRounded e _ _).done_keepsMem
  case hadd2 | hsub2 | hmul2 | hfma2 | hfma2Neg | hfma2Sub | hfma2Negsub =>
    unfold exec
    exact issue_keepsMem _ s _ fun e _ => (wroteRegs_putV_orFlags e _ _ _ _).done_keepsMem
  -- a late vector result
  case frcp | frsq | fsqrt | fexp2 | flog2 | fsin | fcos | ftanh | fdiv | reduceAddI32 | reduceAddF32 | reduceMinI | reduceMaxI | reduceMinN |
      reduceMaxN | reduceAnd | reduceOr | reduceXor | reduceMinF32 | reduceMaxF32 | scanAddI32 | scanMinI | scanMaxI | scanOr | scanAddF32 =>
    unfold exec
    exact issue_keepsMem _ s _ fun e _ => (wroteRegs_putLateV e _ _ _).done_keepsMem
  -- a result that reads other lanes
  case shflIdx | shflUp | shflDn | shflXor | shfliIdx | shfliUp | shfliDn | shfliXor =>
    unfold exec
    exact issue_keepsMem _ s _ fun e _ => shfl_keepsMem e _ _ _ _
  case fcvtscE4m3F32 | fcvtscE5m2F32 =>
    unfold exec
    exact issue_keepsMem _ s _ fun e _ => crossRead_keepsMem (fun e' => (wroteRegs_putV_orFlags e' _ _ _ _).done_keepsMem) _ _
  case fcvtscF32E4m3 | fcvtscF32E5m2 =>
    unfold exec
    exact issue_keepsMem _ s _ fun e _ => crossRead_keepsMem (fun e' => (wroteRegs_putRounded e' _ _).done_keepsMem) _ _
  case rdlane =>
    unfold exec
    exact issue_keepsMem _ s _ fun e _ => ifActive_keepsMem (crossRead_keepsMem (fun e' => (wroteRegs_put32 e' _ _).done_keepsMem) _ _)
  case bcast =>
    unfold exec
    exact issue_keepsMem _ s _ fun e _ => ifActive_keepsMem (crossRead_keepsMem (fun e' => (wroteRegs_putV e' _ _ _).done_keepsMem) _ _)
  case wrlane =>
    unfold exec
    exact issue_keepsMem _ s _ fun e _ => ifLanded_keepsMem (wroteRegs_putV e _ _ _).done_keepsMem _ _
  case atomAddI32 | atomAddF32 | atomMinI | atomMaxI | atomMinN | atomMaxN | atomAnd | atomOr | atomXor | atomXchg | atomCas | atomAddI64 | atomIncw |
      atomAddBf16x2 =>
    exact absurd ((isComputeMajor_atomic _).symm.trans h) Bool.false_ne_true
  all_goals exact absurd h Bool.false_ne_true

theorem isCompute_of_computes {w : Word} {i : Instr} (hw : computes w) (hi : decodeMajor (Raw.ofWord w) = .ok i) : isCompute i = true := by
  simpa [isCompute, encodeRaw_of_decodeMajor hi, isComputeMajor, computes] using hw

theorem issueIllegal_keepsMem (s : State) : KeepsMem s s.cur.wave (issueIllegal s) :=
  issue_keepsMem _ s _ fun e _ => keepsMem_calm (Calm.refl e.key e.s)

end Sys2Proof.Machine

/-- Settles O56: a word of these majors runs the instruction that it decodes to, or is an illegal one. -/
theorem computeKeepsMemory : Obligations.ComputeKeepsMemory := by
  intro w s t hw ht
  refine (?_ : KeepsMem s s.cur.wave (runWord w s)) t ht
  cases hi : decodeMajor (Raw.ofWord w) with
  | error reject =>
    rw [show runWord w s = issueIllegal s from runsError_runMajor _ s reject hi]
    exact issueIllegal_keepsMem s
  | ok i =>
    rw [show runWord w s = exec i s from runsOk_decodeMajor _ s i hi]
    exact exec_keepsMem s (isCompute_of_computes hw hi)
end
